-- ==== Sys2Proof/Word.lean ====
section
/-! DEFINITION. The plain types the model is written in: bytes, register words, sparse tables, pairs of halves. -/

namespace Sys2Proof

/-- One byte. -/
abbrev Byte := BitVec 8

/-- One 32-bit register (R16). -/
abbrev Word := BitVec 32

/-- Sparse data by key: strictly rising keys, one value each. -/
abbrev Table (α : Type) := List (Nat × α)

/-- Number of 1 bits among the low n bits of a number. -/
def popCount (n v : Nat) : Nat :=
  match n with
  | 0 => 0
  | k + 1 => v % 2 + popCount k (v / 2)

/-- The two halves of the module, H0 and H1 (R25). -/
inductive Half where
  | h0
  | h1
  deriving DecidableEq, Repr, Inhabited

/-- One value for each half. -/
structure PerHalf (α : Type) where
  h0 : α
  h1 : α
  deriving DecidableEq, Repr, Inhabited

namespace Half

/-- The half as R390 and R398 number it. -/
def num : Half → Nat
  | .h0 => 0
  | .h1 => 1

/-- The other half. -/
def other : Half → Half
  | .h0 => .h1
  | .h1 => .h0

end Half

namespace PerHalf

/-- The value of one half. -/
def get {α : Type} (p : PerHalf α) : Half → α
  | .h0 => p.h0
  | .h1 => p.h1

/-- The pair with one half's value replaced. -/
def set {α : Type} (p : PerHalf α) (h : Half) (v : α) : PerHalf α :=
  match h with
  | .h0 => { p with h0 := v }
  | .h1 => { p with h1 := v }

end PerHalf

end Sys2Proof
end

