-- ==== Sys2Proof/Syntax.lean ====
section
/-! DEFINITION. The commands of the block: one constructor for each of the 158 rows of spec/opcode_table.json. The table gives the rows no fields; the operands are what the row's rule says comes from outside the block (a value written, an outcome of training, the data of a read) or which unit's pending step completes (log entry 2). -/

namespace Sys2Proof

/-- A physical core by its linear index (R21). -/
abbrev CoreId := Fin 26624

/-- A rail of R458 by its number, or the rails of one memory site. -/
inductive Rail where
  | module (n : Fin 8)
  | site (m : Fin 12)
  deriving DecidableEq, Repr

/-- How a device read of host memory fails (R386). -/
inductive HostFail where
  | error
  | timeout
  | poisoned
  deriving DecidableEq, Repr

/-- What a device read of host memory returns (R385, R395). -/
inductive HostData where
  | data (bytes : List Byte)
  | failed (why : HostFail)
  deriving DecidableEq, Repr

/-- What a configuration request does beside being answered (R375, R376, R400, R404): nothing the rules name; resize BAR4 to 2^(30 + n) bytes; change the power state; set VF Enable; enable ECRC; clear AER status bits; retrain the link, to the width and speed as HIF_LINK_STATUS encodes them less one. -/
inductive ConfigAccess where
  | plain
  | bar4Size (n : Fin 12)
  | power (d3hot : Bool)
  | vfEnableSet
  | ecrc (generate check : Bool)
  | aerClear (mask : BitVec 32)
  | retrain (width : Fin 5) (speed : Fin 7)
  deriving DecidableEq, Repr

/-- A configuration request: the function it names, and what it does. -/
structure ConfigRequest where
  fn : Fin 9
  access : ConfigAccess
  deriving DecidableEq, Repr

/-- Where a register access comes from: PF0 BAR0, a function's BAR2 (0 is PF0, n is VFn), or the sideband index space (R468), there with whether the transaction's PEC was right (SMBus mode, R469). -/
inductive RegPort where
  | bar0
  | bar2 (fn : Fin 9)
  | sideband (pecOk : Bool)
  deriving DecidableEq, Repr

/-- Who makes a conventional reset (R402). -/
inductive ResetKind where
  | perst
  | hotReset
  | linkDisable
  deriving DecidableEq, Repr

/-- A king-post claim (R412): the half the joiner expects to hold the token. -/
inductive Claim where
  | h0
  | h1
  | none
  deriving DecidableEq, Repr

/-- Who makes line requests: a bay's auger for an armed stream, by its bay and slot, or for a scribe fetch, by its number (R160); a Plane pass (R282); a network interface for a peg (R336). -/
inductive XferId where
  | stream (bay : Fin 64) (slot : Fin 64)
  | fetch (id : Nat)
  | plane (ctx : Fin 8) (id : Fin 4)
  | peg (ctx : Fin 8) (index : Fin 1024)
  deriving DecidableEq, Repr

/-- What the lane code says of one line read (R221). -/
inductive LineOutcome where
  | clean
  | corrected (lane : Fin 12)
  | uncorrectable
  deriving DecidableEq, Repr

/-- The kinds of loft word a double-bit error can lie in (R200). -/
inductive LoftTarget where
  | buffer (x : XferId) (buf : Nat)
  | page (ctx : Fin 8) (va : Nat)
  | staged (check : Nat)
  | descriptor (bay : Fin 64) (ctx : Fin 8) (index : Fin 65536)
  deriving DecidableEq, Repr

/-- What a SPDM request asks for (R447). -/
inductive SpdmRequest where
  | certificate
  | challenge
  | measurements (signed : Bool)
  | keyExchange
  | endSession
  | ideKm (stream : Fin 10)
  | unsupported
  deriving DecidableEq, Repr

/-- The agents that meet a stream at a semaphore pair (R170). -/
inductive PairAgent where
  | joiner
  | plane
  | port
  deriving DecidableEq, Repr

/-- What a collective data packet carries (R337): a partial sum for the next rank, or final bits. -/
inductive PegPacket where
  | partialSum
  | final
  deriving DecidableEq, Repr

/-- A peg of a context and the sequence a message to it names (R316). -/
structure PegInstance where
  index : Fin 1024
  inst : BitVec 16
  deriving DecidableEq, Repr

/-- Where a collective data packet arrives, and what it carries (R337). -/
structure PegArrival where
  port : Fin 8
  kind : PegPacket
  deriving DecidableEq, Repr

/-- The lanes that passed a training at this end, and at the partner's (R303). -/
structure LaneMasks where
  passed : BitVec 14
  partner : BitVec 14
  deriving DecidableEq, Repr

/-- The codewords of one lane in one frame, as FEC found them (R309). -/
structure LaneFec where
  lane : Fin 14
  corrected : Nat
  uncorrectable : Nat
  deriving DecidableEq, Repr

/-- One poll of the power stages (R422): millivolts and tenths of an ampere of the eight rails, which stages reported a fault and which failed to answer; the same of the site stages. -/
structure StageReadings where
  mv : List Nat
  current : List Nat
  faulted : List (Fin 8)
  silent : List (Fin 8)
  siteFaulted : List (Fin 12)
  siteSilent : List (Fin 12)
  deriving DecidableEq, Repr

/-- The commands. -/
inductive Instr where
  -- power, reset and boot
  | aonPwrgdAssert (sbMode : Bool) (sbAddr : BitVec 3)
  | aonPwrgdDeassert
  | railPowerGood (rail : Rail)
  | railStartTimeout (rail : Rail) (answers : Bool)
  | sillBootVerifyDone (failing : Fin 7)
  | halfSelftestDone (half : Half) (passed : Bool)
  | kingPostGrant (claimH0 claimH1 : Claim) (seenH0 seenH1 : BitVec 2)
  | floorplanBuildDone
  | yardInitDone (site : Fin 12) (listed : Bool)
  | yardTrainingRoundDone (site : Fin 12) (failed : List (Fin 32 × BitVec 13))
  | bayWaveStart
  | microcodeBroadcastDone (half : Half) (missing : List (CoreId × BitVec 16))
  | microcodeRepairDone (half : Half) (missing : List (CoreId × BitVec 16))
  | coreSelftestDone (core : CoreId) (crc : BitVec 64)
  | coreSelftestTimeout (core : CoreId)
  | perstAssert (kind : ResetKind)
  | perstDeassert
  | configRequest (request : ConfigRequest)
  | vfEnableClear
  | functionLevelResetVf (vf : Fin 8)
  | functionLevelResetPf0
  -- host interface
  | hifDbCmdWrite (fn : Fin 9) (value : Word)
  | commandFetch (fn : Fin 9) (entry : HostData)
  | hifDbCplWrite (fn : Fin 9) (value : Word)
  | msixDelayExpiry (fn : Fin 9)
  | hifDbEvqWrite (fn : Fin 9) (value : Word)
  | hifFnCtlWrite (fn : Fin 9) (value : Word)
  | hifErrStatusWrite (fn : Fin 9) (value : Word)
  | registerWrite (port : RegPort) (offset : Nat) (bytes : List Byte)
  | bar4Read (offset len : Nat)
  | bar4Write (offset : Nat) (bytes : List Byte) (poisoned : Bool)
  | spdmRequest (fn : Fin 9) (request : SpdmRequest)
  -- Sprinyd commands: the function and the ring slot of the outstanding entry
  | floorplanGet (fn : Fin 9) (slot : Fin 4096)
  | topoGet (fn : Fin 9) (slot : Fin 4096)
  | attest (fn : Fin 9) (slot : Fin 4096)
  | powerLimit (fn : Fin 9) (slot : Fin 4096)
  | fwUpdate (fn : Fin 9) (slot : Fin 4096)
  | fwUpdateImageChecked (image : HostData)
  | fwUpdateImageWritten (readback : Bool)
  | ctxAdmit (fn : Fin 9) (slot : Fin 4096)
  | ctxRelease (fn : Fin 9) (slot : Fin 4096)
  | contextStateClear (ctx : Fin 8)
  | map (fn : Fin 9) (slot : Fin 4096)
  | unmap (fn : Fin 9) (slot : Fin 4096)
  | xfer (fn : Fin 9) (slot : Fin 4096)
  | loadTasks (fn : Fin 9) (slot : Fin 4096)
  | launchStart (fn : Fin 9) (slot : Fin 4096)
  | launchHalt (fn : Fin 9) (slot : Fin 4096)
  | streamArm (fn : Fin 9) (slot : Fin 4096)
  | streamArmRearm (fn : Fin 9) (slot : Fin 4096)
  | streamArmCancel (fn : Fin 9) (slot : Fin 4096)
  | streamArmRestart (fn : Fin 9) (slot : Fin 4096)
  | streamArmRelease (fn : Fin 9) (slot : Fin 4096)
  | stashArm (fn : Fin 9) (slot : Fin 4096)
  | stashArmReset (fn : Fin 9) (slot : Fin 4096)
  | stashArmRelease (fn : Fin 9) (slot : Fin 4096)
  | planeArm (fn : Fin 9) (slot : Fin 4096)
  | planeArmRelease (fn : Fin 9) (slot : Fin 4096)
  | groupDefine (fn : Fin 9) (slot : Fin 4096)
  | pegLoad (fn : Fin 9) (slot : Fin 4096)
  | pegLoadRearm (fn : Fin 9) (slot : Fin 4096)
  | pegLoadUnload (fn : Fin 9) (slot : Fin 4096)
  | seqTableEditControl (fn : Fin 9) (slot : Fin 4096)
  | seqTableEditWrite (fn : Fin 9) (slot : Fin 4096)
  | seqTableEditRead (fn : Fin 9) (slot : Fin 4096)
  | ledgerSwap (fn : Fin 9) (slot : Fin 4096)
  -- scribe
  | descriptorFetch (bay : Fin 64) (ctx : Fin 8)
  | taskTake (bay : Fin 64) (ctx : Fin 8)
  | taskWaitTake (bay : Fin 64) (ctx : Fin 8)
  | taskWaitTimeout (bay : Fin 64) (ctx : Fin 8)
  | taskStartRead (bay : Fin 64) (ctx : Fin 8)
  | lcClaimTimeout (bay : Fin 64)
  | ledgerAppendLock (bay : Fin 64) (ctx : Fin 8)
  | tileIssue (bay : Fin 64)
  | handleWaitTimeout (bay : Fin 64) (ctx : Fin 8) (index : Fin 65536)
  | tileDone (core : CoreId) (wrong : List (Nat × BitVec 64))
  | ledgerRecheckDone (core : CoreId)
  | benchParityFail (core : CoreId)
  | spotCheckCompare (check : Nat)
  | spotCheckThirdCompare (check : Nat)
  | serviceWriteSigned
  | serviceWriteFlashed
  | rowStatsMergeDone (bay : Fin 64) (ctx : Fin 8) (index : Fin 65536)
  | taskComplete (bay : Fin 64) (ctx : Fin 8) (index : Fin 65536)
  -- auger and memory
  | streamPassStart (bay : Fin 64) (slot : Fin 64)
  | blockTranslate (x : XferId)
  | slotGrant (site : Fin 12)
  | lineRequestComplete (request : Nat) (outcome : LineOutcome)
  | semPairAugerTake (bay : Fin 64) (slot : Fin 64)
  | semPairAgentTake (agent : PairAgent) (bay : Fin 64) (slot : Fin 64) (fill : List Byte)
  | joinerFaultResolve (fault : Nat)
  | faultResolveTimeout (fault : Nat)
  | stashClaim (ctx : Fin 8)
  | stashClaimMapped (ctx : Fin 8)
  | stashDropDone (ctx : Fin 8)
  | yardReadRetryDone (request : Nat) (outcome : LineOutcome)
  | laneSpareSwitched (site : Fin 12) (sub : Fin 32)
  | laneSparingWindowEnd (site : Fin 12)
  | yardPatrolRead (half : Half) (site : Fin 6) (outcome retry : LineOutcome)
  | loftPatrolRead (bay : Fin 64) (singleBit : Bool)
  | loftUncorrectable (target : LoftTarget)
  | migrationEpochEnd (half : Half)
  | migrationCopyDone (page : Nat)
  | migrationRecopyDone (page : Nat)
  | migrationCutoverDone (page : Nat)
  | planePassStart (ctx : Fin 8) (id : Fin 4)
  | planePassEnd (ctx : Fin 8) (id : Fin 4)
  | seqBuildStart (ctx : Fin 8)
  | seqBuildDone (ctx : Fin 8)
  -- links and pegs; port 8 is the chip's own local delivery (R320)
  | remoteWriteCommit (port : Fin 9) (vc : Fin 4)
  | remoteSignalCommit (port : Fin 9) (vc : Fin 4)
  | pegOpenReceived (ctx : Fin 8) (peg : Fin 1024) (inst : BitVec 16) (rank : Nat) (signature : BitVec 64)
  | pegGoReceived (ctx : Fin 8) (peg : Fin 1024) (inst : BitVec 16)
  | pegAbortReceived (ctx : Fin 8) (peg : Fin 1024) (inst : BitVec 16) (code badRank : Nat)
  | pegGrantReceived (ctx : Fin 8) (peg : PegInstance)
  | pegDataReceived (ctx : Fin 8) (peg : PegInstance) (arrival : PegArrival) (first : Nat) (bytes : List Byte)
  | pegComplete (ctx : Fin 8) (peg : Fin 1024)
  | pegTimeoutExpiry (ctx : Fin 8) (peg : Fin 1024)
  | packetStart (port : Fin 8)
  | framePeriod (port : Fin 8)
  | frameReceive (port : Fin 8) (bytes : List Byte) (fec : List LaneFec)
  | replayTimeoutExpiry (port : Fin 8)
  | linkLaneErrorWindowEnd (port : Fin 8)
  | linkMarkerLockLost (port : Fin 8) (lane : Fin 14)
  | linkSignalDetected (port : Fin 8)
  | linkPmdTrainingDone (port : Fin 8) (passed : BitVec 14)
  | linkMaskExchangeDone (port : Fin 8) (partner : BitVec 14)
  | linkLockDone (port : Fin 8) (credits : List Nat)
  | linkIdentityReceived (port : Fin 8) (coord : BitVec 48) (partnerPort : BitVec 8) (serial : BitVec 64)
  | linkRetrainDone (port : Fin 8) (lanes : LaneMasks) (credits : List Nat)
  | lnkCoordWrite (port : RegPort) (reg : Fin 4) (value : Word)
  | lnkRouteCtlRecompute (value : Word)
  | routeBuildDone (breaks : List (Fin 4 × Nat))
  | bridgeFlitReceive (dir : Half) (bytes : List Byte)
  | bridgeRetrainDone
  | bridgeRetrainTimeout
  -- management
  | joinerHeartbeat (half : Half) (claim : Claim) (seen : BitVec 2)
  | joinerHeartbeatTimeout (half : Half)
  | joinerRestartDone (half : Half)
  | sillHealthTestFail
  | budgetEvaluation (moduleW uncoreW : Nat) (temps : List Int)
  | opVcoreSettled
  | stagePoll (readings : StageReadings)
  | vrAlertAssert
  | vcoreCurrentLimit (half : Half)
  | bayIdleGate (bay : Fin 64)
  | bayUngate (bay : Fin 64)
  | thermalTrip (sensor : Fin 67) (temp : Int)
  | thermtripShutdown
  | siteOverTemperature (site : Fin 12) (temp : Int)
  | pwrBoardMaxWrite (value : Word)
  | sbStatusWrite (value : Word)
  | registerRead (port : RegPort) (offset len : Nat)
  | interferenceMeterWindowEnd (half : Half)
  | linkLaneResetDone (port : Fin 8) (signal : Bool)
  | sillOperationDone (last : Bool)
  | hostReadCompletion (fn : Fin 9) (slot : Fin 4096) (data : HostData)
  | railBelowTenPercent (rail : Rail)
  deriving DecidableEq, Repr

end Sys2Proof
end

