-- ==== Sys2Proof/Config.lean ====
section
/-! DEFINITION. What a part or an implementation fixes, and the values the spec leaves open. An opaque constant has no body: nothing can be proved of its value, so a statement that meets one holds for every value. Log entries 1 and 7 to 15 name each. -/

namespace Sys2Proof.Config

/-- SHAKE256 with 512 bits of output (R435; FIPS 202 is not part of the spec). Log entry 7. -/
opaque shake256 : List Byte → BitVec 512

/-- SHA3-512 (R435). Log entry 7. -/
opaque sha3 : List Byte → BitVec 512

/-- Whether an Ed448 signature verifies: public key or certificate, message, signature (R435, R441). Log entry 7. -/
opaque ed448Ok : List Byte → List Byte → List Byte → Bool

/-- Whether a firmware certificate verifies against the root key digest in ROM (R438, R441). Log entry 7. -/
opaque certOk : List Byte → Bool

/-- Sill's own signature over bytes with the device record key (R45, R438). Log entry 7. -/
opaque sillSign : List Byte → List Byte

/-- The factory's signature over a factory floor plan (R35, R438). Log entry 7. -/
opaque factorySign : List Byte → List Byte

/-- The public key of the device identity key (R438, R453). Log entry 7. -/
opaque dikPublic : List Byte

/-- The public key of the device record key, 57 bytes (R448). Log entry 7. -/
opaque recordPublic : List Byte

/-- The bytes of the SPDM part of a report: nonce, measurement blocks and their signature (R449, SPDM 1.3 is outside the spec). Log entry 7. -/
opaque attestBody : List Byte → List Byte → List Byte

/-- The lengths of the four parts of a report (R449). Log entry 7. -/
opaque attestLens : List Byte → List Nat

/-- The digest of the ROMs for measurement blocks 1 and 2 (R448). Log entry 7. -/
opaque romDigest : Nat → List Byte

/-- Lathe coefficients of exp2, segment and power of h, 48-bit two's complement with 44 fraction bits (R97, R99, R103), as drawn before R100 and R102 are asked of them. c0 of segment 0 is fixed by R97 and is not taken from here. Log entry 8. -/
opaque exp2Coef : Nat → Nat → BitVec 48

/-- Lathe coefficients of log2 (R98, R99, R103). Log entry 8. -/
opaque log2Coef : Nat → Nat → BitVec 48

/-- The first 64 bits of the digest of the coefficient file's table bytes (R104). Log entry 8. -/
opaque tableId : BitVec 64

/-- How many ticks after AON reset a half's tick counter starts to count: power-on number and half (R362). Log entry 9. -/
opaque tickLag : Nat → Nat → Nat

/-- The draw of a bay's spot-check generator (R153): whether a value below one in 2^n came up; draw number, bay, n. Log entry 10. -/
opaque spotDraw : Nat → Nat → Nat → Bool

/-- Stored lines of a granule that is neither ZERO nor REPEAT, from its 4 KiB of contents (R226): the function's value is cut to 1 to 16. Log entry 11. -/
opaque kerfLines : List Byte → Nat

/-- Whether Kerf's decompression of a compressed granule gave its input back (R227). Log entry 11. -/
opaque kerfVerify : Nat → Bool

/-- The number F of a frame (R206), by page. Log entry 12. -/
opaque frameF : Nat → Nat

/-- The row segment of a granule within its bank (R206): page, granule. Log entry 12. -/
opaque rowSegment : Nat → Nat → Nat

/-- A byte the spec calls undefined (R115, R212, R341): a fresh number and an offset. Log entry 13. -/
opaque freeByte : Nat → Nat → Byte

/-- u of a signed momentum update whose c is NaN, a function of the step record, the entry and the element's data (R291, R292). Log entry 13. -/
opaque planeSign : List Byte → BitVec 32

/-- The TARGET and the payload of a collective control packet, which R315 leaves to the agent: kind (0 OPEN, 1 GO, 2 ABORT, 3 GRANT) and what it tells. Log entry 21. -/
opaque controlTarget : Nat → List Nat → BitVec 64
opaque controlPayload : Nat → List Nat → List Byte

/-- Whether the host takes the device's n-th write of a ring entry, or of a record or report, without an error (R385, R388). Log entry 14. -/
opaque hostWriteOk : Nat → Bool

/-- The width and the speed to which the PCIe link trains, numbered from 0, by fresh number: the host's end has a part in them (R375). Log entry 49. -/
opaque linkTrains : Nat → Fin 5 × Fin 7

/-- The factory facts of this part (R31): the serial number Tamloth drew, the part number (true: CTL1-E), the site each half of a CTL1-E has disabled (R4), and the passing cores by bay. Log entry 1. -/
opaque serial : BitVec 64
opaque part : Bool
opaque disabledH0 : Fin 6
opaque disabledH1 : Fin 6
opaque factoryMap : Nat → BitVec 416

/-- SERIAL is neither zero nor all ones (R31). -/
def partSerial : BitVec 64 := if serial = 0 ∨ serial = BitVec.allOnes 64 then 1 else serial

/-- MIN_CORES and MIN_PER_BAY of the part number (R2, R3, R31). -/
def minCores : Nat := if part then 23040 else 25600
def minPerBay : Nat := if part then 340 else 380

/-- SITE_ENABLE: all twelve sites on a CTL1-A; on a CTL1-E five in each half (R32). -/
def siteEnable : BitVec 12 :=
  if part then ~~~(BitVec.ofNat 12 (2 ^ disabledH0.val) ||| BitVec.ofNat 12 (2 ^ (6 + disabledH1.val))) else BitVec.allOnes 12

/-- Whether the drawn maps meet the minima of the part number (R33). -/
def mapsPass : Bool :=
  let counts := (List.range 64).map fun b => popCount 416 (factoryMap b).toNat
  counts.all (fun n => decide (minPerBay ≤ n)) && decide (minCores ≤ counts.sum)

/-- FACTORY_MAP of a bay: a part that does not meet the minima is not shipped (R33), so maps that fail them stand for a part all of whose cores passed. -/
def passMap (b : Nat) : BitVec 416 := if mapsPass then factoryMap b else BitVec.allOnes 416

/-- Whether the variant record's signature verifies (R34). Log entry 1. -/
opaque variantOk : Bool

/-- The image bytes the flash holds when the model starts: slot 0 or 1 (R440). Log entry 1. -/
opaque flashImage : Nat → List Byte

/-- The power-on count and the lowest permitted security version when the model starts (R36, R453). Log entry 1. -/
opaque bootSerial : BitVec 32
opaque minSvn : BitVec 8

/-- The CCLK from a tile's first issue to the release of its outputs (R372), by run: the model counts no CCLK. Log entry 15. -/
opaque measuredCclk : Nat → Nat

end Sys2Proof.Config
end

