-- ==== Sys2Proof/Machine/State.lean ====
section
/-! DEFINITION. The state of the module as plain data: every register, record, queue, memory and pin the spec gives it, and the queue of waiting commands. Each field's docstring says its width, the rule that names it and its reset value; "(model)" marks a field that is the model's own bookkeeping. -/

namespace Sys2Proof.Machine

/-- Memory: listed bytes by address; an unlisted byte reads 0. -/
abbrev Memory := List Host.Cell

-- Flash records and the floor plan -------------------------------------------------------------

/-- The variant record (R31). -/
structure Variant where
  /-- 1 bit; R34 01_floor_plan; reset: DESIGN CHOICE Config.variantOk (log 1). Whether its signature verifies. -/
  sigOk : Bool := Config.variantOk
  /-- 64 bits; R31 01_floor_plan; reset: DESIGN CHOICE Config.partSerial (log 1) -/
  serial : BitVec 64 := Config.partSerial
  /-- 8 bits, 0: CTL1-A; 1: CTL1-E; R31 01_floor_plan; reset: DESIGN CHOICE Config.part (log 1) -/
  part : Nat := if Config.part then 1 else 0
  /-- 8 bits; R31 01_floor_plan; reset: 0x21, stepping B1 (R1) -/
  stepping : BitVec 8 := 0x21
  /-- 12 bits; R31, R32 01_floor_plan; reset: DESIGN CHOICE Config.siteEnable (log 1) -/
  siteEnable : BitVec 12 := Config.siteEnable
  /-- 8 bits; R31 01_floor_plan; reset: 0xFF (spec) -/
  portEnable : BitVec 8 := 0xFF
  /-- 32 bits; R31 01_floor_plan; reset: 25,600 or 23,040 by part (spec) -/
  minCores : Nat := Config.minCores
  /-- 16 bits; R31 01_floor_plan; reset: 380 or 340 by part (spec) -/
  minPerBay : Nat := Config.minPerBay
  /-- 64 maps of 416 bits; R31 01_floor_plan; reset: DESIGN CHOICE Config.passMap (log 1) -/
  factoryMap : Table (BitVec 416) := (List.range 64).map fun b => (b, Config.passMap b)
  deriving DecidableEq, Repr

/-- A site entry of the floor plan (R38). -/
structure SiteEntry where
  /-- 8 bits; R38 01_floor_plan; reset: 0. 0: in service; 1: disabled; 2: failed training. -/
  state : Nat := 0
  /-- 32 bits; R38 01_floor_plan; reset: 0 -/
  spareUsed : BitVec 32 := 0
  /-- 128 bits, 32 nibbles; R38 01_floor_plan; reset: 0 -/
  spareFor : BitVec 128 := 0
  deriving DecidableEq, Repr

/-- A port entry of the floor plan (R39). -/
structure PortEntry where
  /-- 8 bits; R39 01_floor_plan; reset: 3, down, no partner (R41) -/
  state : Nat := 3
  /-- 8 bits; R39 01_floor_plan; reset: 0 (R41) -/
  sparesUsed : Nat := 0
  /-- 14 bits; R39 01_floor_plan; reset: 0 (R41) -/
  laneGood : BitVec 14 := 0
  /-- 14 bits; R39 01_floor_plan; reset: 0 (R41) -/
  laneActive : BitVec 14 := 0
  /-- 48 bits; R39 01_floor_plan; reset: 0 (R41) -/
  partner : BitVec 48 := 0
  /-- 8 bits; R39 01_floor_plan; reset: 0 (R41) -/
  partnerPort : BitVec 8 := 0
  deriving DecidableEq, Repr

/-- A retire log entry (R40). -/
structure Retire where
  /-- 16 bits; R40 01_floor_plan; reset: none listed -/
  core : Nat
  /-- 8 bits; R40 01_floor_plan; reset: none listed. 1: microcode; 2: spot check; 3: self-test. -/
  cause : Nat
  /-- 32 bits; R40 01_floor_plan; reset: none listed -/
  boot : Nat
  deriving DecidableEq, Repr

/-- The floor plan record (R35 to R40). GOOD_COUNT, GOOD_CORES and RETIRE_COUNT are counted from the maps and the log. -/
structure FloorPlan where
  /-- 32 bits; R36 01_floor_plan; reset: 0 (R41) -/
  generation : Nat := 0
  /-- 8 bits; R36 01_floor_plan; reset: copied from the variant record -/
  part : Nat := if Config.part then 1 else 0
  /-- 8 bits; R36 01_floor_plan; reset: copied from the variant record -/
  stepping : BitVec 8 := 0x21
  /-- 8 bits; R36, R49 01_floor_plan; reset: 0, normal (R41) -/
  state : Nat := 0
  /-- 2 bits; R36 01_floor_plan; reset: 0x03 (R41) -/
  halves : BitVec 2 := 3
  /-- 32 bits; R36 01_floor_plan; reset: copied from the variant record -/
  minCores : Nat := Config.minCores
  /-- 16 bits; R36 01_floor_plan; reset: copied from the variant record -/
  minPerBay : Nat := Config.minPerBay
  /-- 12 bits; R36 01_floor_plan; reset: DESIGN CHOICE Config.siteEnable (log 1; R41: training at factory test) -/
  siteMask : BitVec 12 := Config.siteEnable
  /-- 8 bits; R36, R322 01_floor_plan; reset: 0 (R41) -/
  portUp : BitVec 8 := 0
  /-- 8 bits; R36 01_floor_plan; reset: 0 (R41) -/
  portHalf : BitVec 8 := 0
  /-- 32 bits; R36 01_floor_plan; reset: DESIGN CHOICE Config.bootSerial (log 1) -/
  bootSerial : Nat := Config.bootSerial.toNat
  /-- 64 bits; R36 01_floor_plan; reset: copied from the variant record -/
  serial : BitVec 64 := Config.partSerial
  /-- 16 bits; R36, R49 01_floor_plan; reset: none, 0xFFFF (R41) -/
  pendingCore : Option Nat := none
  /-- 64 maps of 416 bits, GOOD_MAP; R37 01_floor_plan; reset: the factory map (R41) -/
  goodMap : Table (BitVec 416) := (List.range 64).map fun b => (b, Config.passMap b)
  /-- 12 entries of 32 bytes; R38 01_floor_plan; reset: disabled sites read SITE_STATE 1, spares not used (R41) -/
  sites : Table SiteEntry := (List.range 12).filterMap fun m => if Config.siteEnable.getLsbD m then none else some (m, { state := 1 })
  /-- 8 entries of 16 bytes; R39 01_floor_plan; reset: PORT_STATE 3, all else 0 (R41) -/
  ports : Table PortEntry := []
  /-- up to 4,096 entries of 8 bytes; R40 01_floor_plan; reset: empty (R41) -/
  retireLog : List Retire := []
  deriving DecidableEq, Repr

/-- A service slot of the flash (R46). -/
structure FlashPlan where
  /-- R46 01_floor_plan; reset: see Flash.slot0 -/
  plan : FloorPlan
  /-- R46 01_floor_plan; reset: see Flash.slot0. Whether the signature verifies; false while a write is cut short. -/
  sigOk : Bool
  deriving DecidableEq, Repr

/-- What survives loss of power: the on-package flash and Sill's counter store (R31, R35, R46, R440 to R443). -/
structure Flash where
  /-- 3,488 bytes; R31 01_floor_plan; reset: see Variant -/
  variant : Variant := {}
  /-- 37,568 bytes; R35, R41 01_floor_plan; reset: the factory copy -/
  factory : FloorPlan := {}
  /-- R46 01_floor_plan; reset: DESIGN CHOICE a signed copy of the factory plan (log 1) -/
  slot0 : Option FlashPlan := some ⟨{}, true⟩
  /-- R46 01_floor_plan; reset: DESIGN CHOICE none written (log 1) -/
  slot1 : Option FlashPlan := none
  /-- 32 MiB image slots 0 and 1; R440 14_sill_and_integrity; reset: DESIGN CHOICE Config.flashImage (log 1) -/
  images : Table (List Byte) := [(0, Config.flashImage 0), (1, Config.flashImage 1)]
  /-- 2 bits, ACTIVE_SLOT 0, 1 or 2 (none); R442, R453 14_sill_and_integrity; reset: DESIGN CHOICE slot 0 (log 1) -/
  active : Nat := 0
  /-- the slot PENDING speaks of; R442, R445 14_sill_and_integrity; reset: DESIGN CHOICE 1 (log 1) -/
  pendingSlot : Nat := 1
  /-- 1 bit PENDING; R445, R453 14_sill_and_integrity; reset: 0 (spec) -/
  pending : Bool := false
  /-- 1 bit TRIED; R442, R453 14_sill_and_integrity; reset: 0 (spec) -/
  tried : Bool := false
  /-- 1 bit FALLBACK; R442, R453 14_sill_and_integrity; reset: 0 (spec) -/
  fallback : Bool := false
  /-- 8 bits MIN_SVN; R443, R453 14_sill_and_integrity; reset: DESIGN CHOICE Config.minSvn (log 1; "Fixed") -/
  minSvn : Nat := Config.minSvn.toNat
  /-- 32 bits, the power-on count; R36 01_floor_plan; reset: DESIGN CHOICE Config.bootSerial (log 1) -/
  bootSerial : Nat := Config.bootSerial.toNat
  deriving DecidableEq, Repr

/-- Where a floor plan service write stands (R45 steps 3 to 5). -/
inductive SvcStage where
  | signing
  | flashing
  deriving DecidableEq, Repr

/-- A service write in progress (R45). -/
structure Svc where
  /-- R45 01_floor_plan; reset: none -/
  stage : SvcStage
  /-- the image being signed and written; R45 01_floor_plan; reset: none -/
  draft : FloorPlan
  /-- whether this is the combined write of step 12 of R416; R416 13_joiners_power_bringup; reset: none -/
  boot : Bool
  deriving DecidableEq, Repr

-- Always-on island, boot, power and thermal ------------------------------------------------------

/-- Progress of one module rail or one site's rails (R460, R461). -/
inductive RailState where
  | off
  | enabling
  | good
  | absent
  | fallingOff
  deriving DecidableEq, Repr

/-- The king-post arbiter (R410 to R413, AON_KING). -/
structure King where
  /-- AON_KING HOLDER 2 bits; R410, R431 13_joiners_power_bringup; reset: none (0x2, spec) -/
  holder : Option Half := none
  /-- AON_KING CONFLICT 1 bit; R412, R431; reset: 0 (spec) -/
  conflict : Bool := false
  /-- AON_KING CLAIM_H0, CLAIM_H1 2 bits each; R412, R431; reset: no claim made (0x3, spec) -/
  claims : PerHalf (Option Claim) := ⟨none, none⟩
  /-- AON_KING HALF_OK_H0, HALF_OK_H1; R410, R431; reset: 0 (spec) -/
  halfOk : PerHalf Bool := ⟨false, false⟩
  /-- results received (model; R416 step 5); reset: none -/
  resultIn : PerHalf Bool := ⟨false, false⟩
  /-- halves that issue no further management action; R412; reset: none -/
  barred : PerHalf Bool := ⟨false, false⟩
  deriving DecidableEq, Repr

/-- A joiner complex (R405 to R409, JNR_STATUS_h). -/
structure Joiner where
  /-- JNR_STATUS RUNNING 1 bit; R433 13_joiners_power_bringup; reset: 0 (spec) -/
  running : Bool := false
  /-- JNR_STATUS RESTARTS 16 bits; R433; reset: 0 (spec) -/
  restarts : Nat := 0
  /-- a restart in progress; R409; reset: no -/
  restarting : Bool := false
  /-- left stopped; R409, R444; reset: no -/
  stopped : Bool := false
  /-- tick of the last heartbeat; R409; reset: 0 -/
  lastBeat : Nat := 0
  deriving DecidableEq, Repr

/-- A change of operating point in progress (R425). -/
structure OpChange where
  /-- 3 bits; R425 13_joiners_power_bringup; reset: none -/
  target : Nat
  /-- whether the point is raised; R425; reset: none -/
  raising : Bool
  /-- whether the fast-protection division ends with it; R428; reset: none -/
  endsDivision : Bool
  deriving DecidableEq, Repr

/-- The power manager (R421 to R430, R432). -/
structure Power where
  /-- PWR_LIMIT REQUESTED 16 bits; R427, R432 13_joiners_power_bringup; reset: 1,800 (spec) -/
  requested : Nat := 1800
  /-- PWR_BOARD_MAX 16 bits; R427, R432; reset: 2,400 (spec) -/
  boardMax : Nat := 2400
  /-- PWR_OP OP 3 bits; R423, R432; reset: 7 (spec) -/
  op : Nat := 7
  /-- PWR_OP CAP 3 bits; R432; reset: 0 (spec) -/
  cap : Nat := 0
  /-- PWR_OP CCLK_MHZ is 0 before step 9 of R416; R432; reset: clocks stopped (spec) -/
  clocksOn : Bool := false
  /-- CCLK divided by 2 by VR alert or VCORE current; R428; reset: no -/
  division : Bool := false
  /-- CCLK divided by 2 by a thermal trip; R474; reset: no -/
  tripDivision : Bool := false
  /-- the two-step lowering owed at the next evaluation; R428; reset: no -/
  owedLowering : Bool := false
  /-- R425; reset: none -/
  change : Option OpChange := none
  /-- tick of the last evaluation of the budget, every 2^10 ticks; R424; reset: none -/
  evaluated : Option Nat := none
  /-- tick of the last poll of the stages, once in 2^10 ticks; R422; reset: none -/
  polled : Option Nat := none
  /-- module and UNCORE power measured at the evaluations of the last 2^14 ticks: tick, W, W; R424, R432; reset: none -/
  samples : List (Nat × Nat × Nat) := []
  /-- tick of the last raise; R424; reset: none -/
  lastRaise : Option Nat := none
  /-- PWR_POWER MODULE_W 16 bits; R432; reset: 0 (spec) -/
  moduleW : Nat := 0
  /-- PWR_POWER UNCORE_W 16 bits; R432; reset: 0 (spec) -/
  uncoreW : Nat := 0
  /-- PWR_THROTTLE ALERTS 16 bits; R432; reset: 0 (spec) -/
  alerts : Nat := 0
  /-- PWR_THROTTLE LOWERED 16 bits; R432; reset: 0 (spec) -/
  lowered : Nat := 0
  /-- PWR_RAIL_n MV 16 bits each; R432; reset: 0 (spec) -/
  railMv : Table Nat := []
  /-- PWR_RAIL_n CURRENT 16 bits each; R432; reset: 0 (spec) -/
  railCurrent : Table Nat := []
  /-- polls missed in a row by each stage; R429; reset: 0 -/
  missed : Table Nat := []
  /-- ticks of the last bays ungated, by half; R426; reset: none -/
  ungates : PerHalf (List Nat) := ⟨[], []⟩
  /-- POWER_LIMIT commands waiting for their operating point: function, ring slot; R427; reset: none -/
  limitCmds : List (Nat × Nat) := []
  deriving DecidableEq, Repr

/-- Thermal sensing, throttle and trip (R472 to R476). -/
structure Thermal where
  /-- AON_THERM_CFG THROTTLE_C 8 bits; R476 15_package_and_signals; reset: 0x64 (spec) -/
  throttleC : Nat := 100
  /-- AON_THERM_STATUS THROTTLES 16 bits; R476; reset: 0 (spec) -/
  throttles : Nat := 0
  /-- AON_THERM_STATUS HOT_SENSOR 8 bits; R476; reset: 0xFF (spec) -/
  hotSensor : Nat := 0xFF
  /-- AON_THERM_STATUS THROTTLING 1 bit; R476; reset: 0 (spec) -/
  throttling : Bool := false
  /-- AON_TEMP_n 16 bits signed each, 67 sensors; R472, R476; reset: 0 (spec) -/
  temps : Table Int := []
  /-- AON_TEMP_MAX TEMP 16 bits; R476; reset: 0 (spec) -/
  tempMax : Int := 0
  /-- AON_LAST_TRIP SENSOR 8 bits; R476; reset: 0xFF (spec) -/
  tripSensor : Nat := 0xFF
  /-- AON_LAST_TRIP RAIL 8 bits; R476; reset: 0xFF (spec) -/
  tripRail : Nat := 0xFF
  /-- AON_LAST_TRIP CAUSE 8 bits; R476; reset: 0 (spec) -/
  tripCause : Nat := 0
  /-- a trip whose THERMAL event is not posted yet: sensor, reading; R474; reset: none -/
  tripEvent : Option (Nat × Int) := none
  /-- tick of the trip, while its shutdown is due; R474; reset: none -/
  tripTick : Option Nat := none
  deriving DecidableEq, Repr

/-- The sideband target (R466 to R471). -/
structure Sideband where
  /-- SB_MODE 1 bit; R467 15_package_and_signals; reset: DESIGN CHOICE 0 (log 3), sampled at step 1 of R464 -/
  mode : Bool := false
  /-- SB_ADDR 3 bits; R467; reset: DESIGN CHOICE 0 (log 3), sampled at step 1 of R464 -/
  addr : BitVec 3 := 0
  /-- SB_STATUS 4 bits; R469; reset: DESIGN CHOICE 0 (log 3) -/
  status : BitVec 4 := 0
  /-- _LO/_HI latch of the sideband; R470; reset: nothing latched -/
  shadow : Table Word := []
  /-- _HI writes held; R19, R470; reset: none -/
  held : Table Word := []
  /-- data bytes of the in-band interrupts raised (output); R471; reset: none -/
  ibi : List Nat := []
  deriving DecidableEq, Repr

/-- Progress of the power-on sequence (R416, AON_BOOT_STATUS). -/
structure Boot where
  /-- AON_BOOT_STATUS STAGE 8 bits; R431 13_joiners_power_bringup; reset: 0 (spec) -/
  stage : Nat := 0
  /-- AON_BOOT_STATUS READY 1 bit; R431; reset: 0 (spec) -/
  ready : Bool := false
  /-- AON_BOOT_STATUS FAIL 8 bits; R431; reset: 0 (spec) -/
  fail : Nat := 0
  /-- tick of H0 at which the step after STAGE began; R416, R420; reset: 0 -/
  stageTick : Nat := 0
  /-- next wave of R417, 0 to 8; reset: 0 -/
  wave : Nat := 0
  /-- tick of the last wave; R417; reset: none -/
  waveTick : Option Nat := none
  /-- halves whose microcode broadcast is done; R419; reset: none -/
  broadcast : PerHalf Bool := ⟨false, false⟩
  /-- chunks each core still lacks, 16 bits by core; R419; reset: none -/
  missing : Table (BitVec 16) := []
  /-- repair rounds made in each half; R419 step 3; reset: 0 -/
  repairs : PerHalf Nat := ⟨0, 0⟩
  /-- cores that have finished the boot self-test, 416 bits by bay; R420; reset: none -/
  tested : Table (BitVec 416) := []
  deriving DecidableEq, Repr

/-- The always-on island and the pins (R414, R463). -/
structure Aon where
  /-- AON_PWRGD, and so whether the island runs; R463, R465 15_package_and_signals; reset: deasserted (log 3) -/
  powered : Bool := false
  /-- CTX_TICK_H0, CTX_TICK_H1 64 bits each; R362, R374 11_contexts_and_waiting; reset: 0 (spec) -/
  ticks : PerHalf Nat := ⟨0, 0⟩
  /-- ticks left before a half's counter starts to count (free value at power-on); R362; reset: 0, DESIGN CHOICE (log 9) -/
  lag : PerHalf Nat := ⟨0, 0⟩
  /-- rails by number, module n or 8 + site; R458, R460; reset: all off (log 3) -/
  rails : Table RailState := []
  /-- whether the rails are being turned off by R461; reset: no -/
  turningOff : Bool := false
  /-- PWR_OK pin; R463; reset: low (R460) -/
  pwrOk : Bool := false
  /-- FAULT# asserted; R463; reset: not asserted -/
  faultPin : Bool := false
  /-- THERMTRIP# asserted; R463; reset: not asserted -/
  tripPin : Bool := false
  /-- ALERT# asserted (SMBus mode); R463, R471; reset: not asserted -/
  alertPin : Bool := false
  /-- YRD_RATE_CFG TARGET 2 bits; R230 06_bench_loft_yard; reset: 2 (spec) -/
  rateTarget : Nat := 2
  /-- LNK_COORD COORD 48 bits; R326 09_links; reset: 0 (spec) -/
  coord : BitVec 48 := 0
  /-- LNK_COORD VALID 1 bit; R326; reset: 0 (spec) -/
  coordValid : Bool := false
  /-- LNK_AXIS_LEN LEN 48 bits; R326; reset: 0 (spec) -/
  axisLen : BitVec 48 := 0
  /-- LNK_RETRAIN_CFG REPLAY_LIMIT 8 bits; R326; reset: 8 (spec) -/
  replayLimit : Nat := 8
  /-- LNK_RETRAIN_CFG REPLAY_TIMEOUT 8 bits; R326; reset: 25 (spec) -/
  replayTimeout : Nat := 25
  /-- LNK_CREDIT_VC0, VC1: SUB0, SUB1 11 bits each, index 2 × VC + SUB; R326; reset: 734 each (spec) -/
  credits : Table Nat := [(0, 734), (1, 734), (2, 734), (3, 734)]
  king : King := {}
  power : Power := {}
  thermal : Thermal := {}
  sb : Sideband := {}
  boot : Boot := {}
  joiners : PerHalf Joiner := ⟨{}, {}⟩
  deriving DecidableEq, Repr

-- Sill ---------------------------------------------------------------------------------------

/-- Requests that wait for Sill (R437). -/
inductive SillJob where
  | signPlan
  | verifyJoiner (h : Half)
  | spdm (fn : Nat) (r : SpdmRequest)
  | attest (fn slot : Nat)
  | fwUpdate (fn slot : Nat)
  deriving DecidableEq, Repr

/-- A FW_UPDATE in progress (R445). -/
structure FwUpdate where
  /-- function and ring slot of the command; R445 14_sill_and_integrity; reset: none -/
  fn : Nat
  slot : Nat
  /-- whether step 4 has started; R445; reset: none -/
  writing : Bool
  /-- the staged image; R445; reset: none -/
  image : List Byte
  deriving DecidableEq, Repr

/-- Sill (R434 to R449, R453). -/
structure Sill where
  /-- SILL_STATUS STATE 2 bits; R453 14_sill_and_integrity; reset: 0, self-test (spec) -/
  state : Nat := 0
  /-- SILL_STATUS SELFTEST 8 bits; R453; reset: 0 (spec) -/
  selftest : Nat := 0
  /-- SILL_STATUS RECOVERY 1 bit; R453; reset: 0 (spec) -/
  recovery : Bool := false
  /-- the slot that runs, ACTIVE_SLOT reads 2 before one is booted; R442, R453; reset: none (spec) -/
  running : Option Nat := none
  /-- SILL_SPDM SESSIONS 16 bits; R453; reset: 0 (spec) -/
  sessions : Nat := 0
  /-- SILL_SPDM SIGNATURES 16 bits; R453; reset: 0 (spec) -/
  signatures : Nat := 0
  /-- SILL_BRIDGE_ERR RETRAINS 16 bits; R453; reset: 0 (spec) -/
  bridgeRetrains : Nat := 0
  /-- SILL_BRIDGE_ERR REPLAYS 16 bits; R453; reset: 0 (spec) -/
  bridgeReplays : Nat := 0
  /-- functions with an open SPDM session, nine bits; R447; reset: none -/
  open_ : BitVec 9 := 0
  /-- IDE streams programmed, ten bits (link stream is bit 9); R447; reset: none -/
  ide : BitVec 10 := 0
  /-- SPDM responses given by function (output); R447; reset: none -/
  responses : Table Nat := []
  /-- requests served first; R437; reset: empty -/
  high : List SillJob := []
  /-- requests served second; R437; reset: empty -/
  low : List SillJob := []
  /-- the request whose operation runs; R437; reset: none -/
  cur : Option SillJob := none
  /-- R445; reset: none -/
  update : Option FwUpdate := none
  deriving DecidableEq, Repr

-- Host interface -------------------------------------------------------------------------------

/-- How far an outstanding command has come. -/
inductive CmdPhase where
  | fetched
  /-- started, and taken up again when what it waits for is there (R389, R481) -/
  | started
  | waitingFault (fault : Nat)
  | running
  deriving DecidableEq, Repr

/-- An outstanding command (R380). -/
structure Cmd where
  /-- command ring index; R383 12_host_and_mailboxes; reset: none outstanding -/
  slot : Nat
  /-- the 64-byte entry; R382; reset: none -/
  bytes : List Byte
  /-- (model); reset: none -/
  phase : CmdPhase
  /-- bytes an XFER has moved; R395; reset: none -/
  moved : Nat
  deriving DecidableEq, Repr

/-- A completion entry that waits for a free place (R383). -/
structure Cpl where
  tag : BitVec 16
  slot : Nat
  status : Nat
  detail : Nat
  result0 : BitVec 64
  result1 : BitVec 64
  opcode : Byte
  irq : Bool
  deriving DecidableEq, Repr

/-- One PCIe function's registers and rings (R379 to R385, R403). -/
structure Fn where
  /-- HIF_FN_CTL ENABLE; R403 12_host_and_mailboxes; reset: 0 (spec) -/
  enable : Bool := false
  /-- HIF_FN_CTL EVQ_EN; R403; reset: 0 (spec) -/
  evqEn : Bool := false
  /-- HIF_ERR_STATUS 5 bits; R403; reset: 0 (spec) -/
  err : BitVec 5 := 0
  /-- HIF_CMD_BASE 64 bits; R403; reset: 0 (spec) -/
  cmdBase : BitVec 64 := 0
  /-- HIF_CPL_BASE 64 bits; R403; reset: 0 (spec) -/
  cplBase : BitVec 64 := 0
  /-- HIF_EVQ_BASE 64 bits; R403; reset: 0 (spec) -/
  evqBase : BitVec 64 := 0
  /-- _HI writes held until their _LO write, by register offset; R19 00_scope; reset: none -/
  held : Table Word := []
  /-- _HI values latched by a _LO read, by register; R19; reset: none -/
  shadow : Table Word := []
  /-- HIF_CMD_HEAD 12 bits; R379, R403; reset: 0 (spec) -/
  cmdHead : Nat := 0
  /-- HIF_DB_CMD tail 12 bits; R379, R403; reset: 0 (spec) -/
  cmdTail : Nat := 0
  /-- HIF_DB_CPL head 12 bits; R383, R403; reset: 0 (spec) -/
  cplHead : Nat := 0
  /-- completion tail 12 bits; R383; reset: 0 (R403) -/
  cplTail : Nat := 0
  /-- PHASE of the completion ring; R383, R403; reset: 1 (R403) -/
  cplPhase : Bool := true
  /-- HIF_DB_EVQ head 10 bits; R399, R403; reset: 0 (spec) -/
  evqHead : Nat := 0
  /-- event tail 10 bits; R398; reset: 0 (R403) -/
  evqTail : Nat := 0
  /-- PHASE of the event ring; R398, R403; reset: 1 (R403) -/
  evqPhase : Bool := true
  /-- outstanding commands in fetch order, HIF_OUTSTANDING counts them; R380, R403; reset: none -/
  outstanding : List Cmd := []
  /-- completed commands whose entry is not yet written; R380, R383; reset: none -/
  cplWait : List Cpl := []
  /-- event entries to be written again after CPL_WRITE_ERR; R385; reset: none -/
  evWait : List (List Byte) := []
  /-- HIF_IRQ_CFG DELAY 16 bits; R403; reset: 0 (spec) -/
  irqDelay : Nat := 0
  /-- HIF_IRQ_CFG COUNT 8 bits; R403; reset: 1 (spec) -/
  irqCount : Nat := 1
  /-- completions with IRQ written since the last signal; R384; reset: 0 -/
  irqPending : Nat := 0
  /-- tick of the first of them; R384; reset: none -/
  irqFirst : Option Nat := none
  /-- HIF_EVQ_LOST 32 bits; R399, R403; reset: 0 (spec) -/
  evqLost : Nat := 0
  /-- events lost since the previous EVENTS_LOST entry; R399; reset: 0 -/
  lostSince : Nat := 0
  /-- MSI-X signals made by vector (output); R384; reset: none -/
  signals : Table Nat := []
  /-- MSI-X table words at BAR2 0x2000; R403; reset: PRESUMED vector control words 1, masked, else 0 (PCI Express, log 16) -/
  msixTable : Table Word := [(3, 1), (7, 1), (11, 1)]
  /-- pending bits of the three vectors at BAR2 0x3000; R403; reset: 0, PRESUMED (log 16) -/
  pba : BitVec 3 := 0
  /-- power state D3hot, else D0; R375; reset: D0, PRESUMED (PCI Express, log 167) -/
  d3hot : Bool := false
  /-- ECRC generation and check enabled by the host; R375, R450; reset: not enabled, PRESUMED (PCI Express, log 167) -/
  ecrcGen : Bool := false
  ecrcCheck : Bool := false
  /-- AER uncorrectable error status, 32 bits; R375, R399; reset: 0, PRESUMED (PCI Express, log 167) -/
  aer : BitVec 32 := 0
  deriving DecidableEq, Repr

/-- What the last read answered on its port (output). -/
structure Outputs where
  /-- data of the last register read, 4 bytes; R16, R17; reset: none -/
  regRead : Option Word := none
  /-- last BAR4 read: bytes, or Unsupported Request; and whether poisoned; R378; reset: none -/
  bar4 : Option (Option (List Byte) × Bool) := none
  /-- last configuration request: true is a normal completion, false Request Retry Status; R464; reset: none -/
  config : Option Bool := none
  deriving DecidableEq, Repr

/-- A BAR4 request that waits for a fault or a write hold (R378, R184): HIF_BAR4_CTX and HIF_BAR4_BASE as they stood when it was received (R403), offset, length or bytes, poisoned. -/
structure Bar4Req where
  valid : Bool
  ctx : Nat
  base : Nat
  offset : Nat
  len : Nat
  bytes : Option (List Byte)
  poisoned : Bool
  deriving DecidableEq, Repr

/-- The host attachment (R375 to R404). -/
structure Hif where
  /-- the nine functions; R375; reset: see Fn -/
  fns : Table Fn := []
  /-- PERST# asserted; R463, R465; reset: asserted, DESIGN CHOICE (log 3) -/
  perst : Bool := true
  /-- SR-IOV VF Enable; R400, R401; reset: DESIGN CHOICE set (log 17) -/
  vfEnable : Bool := true
  /-- HIF_LINK_STATUS WIDTH and SPEED; R404; reset: 0, down (spec) -/
  linkUp : Bool := false
  /-- WIDTH 1 to 5 and SPEED 1 to 7 to which the link trains; R375, R404; reset: x16 at 128 GT/s, DESIGN CHOICE (log 49) -/
  linkWidth : Nat := 5
  linkSpeed : Nat := 7
  /-- HIF_LINK_STATUS RETRAINS 16 bits; R404; reset: 0 (spec) -/
  retrains : Nat := 0
  /-- HIF_BAR4_CTX VALID; R403; reset: 0 (spec) -/
  bar4Valid : Bool := false
  /-- HIF_BAR4_CTX CTX 3 bits; R403; reset: 0 (spec) -/
  bar4Ctx : Nat := 0
  /-- HIF_BAR4_BASE 57 bits; R403; reset: 0 (spec) -/
  bar4Base : BitVec 64 := 0
  /-- log2 of the BAR4 size; R376; reset: 38, 256 GiB (spec) -/
  bar4Log2 : Nat := 38
  /-- device writes of ring entries made so far (model, free value counter of Config.hostWriteOk); R385; reset: 0, DESIGN CHOICE (log 14) -/
  writes : Nat := 0
  /-- host memory as the device has written it; R383, R388; reset: nothing listed, bytes 0, DESIGN CHOICE (log 5) -/
  host : Memory := []
  out : Outputs := {}
  /-- BAR4 requests in arrival order; R378; reset: none -/
  bar4Q : List Bar4Req := []
  deriving DecidableEq, Repr

-- Memory tiers -----------------------------------------------------------------------------------

/-- Where a migrating page stands (R209). -/
inductive MigStep where
  | copying
  | recopying
  | cutover
  | draining
  deriving DecidableEq, Repr

/-- A migration in progress (R209). -/
structure Mig where
  /-- R209 06_bench_loft_yard; reset: none -/
  step : MigStep
  /-- half, site, frame and part of the destination, and from the cutover on of the old place; R208, R209; reset: none -/
  half : Half
  site : Nat
  frame : Nat
  part : Nat
  /-- granules written since their copy; R209 steps 2 and 3; reset: none -/
  dirty : List Nat
  /-- recopy rounds made; R209 step 3; reset: none -/
  rounds : Nat
  deriving DecidableEq, Repr

/-- Which reservation a page is charged to (R215, R273). -/
inductive Charge where
  | yard
  | pack
  | loft
  | bench
  | stash (slot : Nat)
  | scratch (set slot : Nat)
  deriving DecidableEq, Repr

/-- A page of a context's device virtual range, with what its controller keeps for it (R201, R202, R182, R222, R226). -/
structure Page where
  /-- page number, never reused: its bytes lie at 2^21 × id in `mem` (model); reset: no page mapped -/
  id : Nat
  /-- R201 06_bench_loft_yard; reset: no page mapped -/
  ctx : Nat
  /-- R201; reset: none -/
  va : Nat
  /-- SIZE; R202; reset: none -/
  big : Bool
  /-- page attribute word 32 bits; R202; reset: none -/
  attr : BitVec 32
  /-- R215; reset: none -/
  charge : Charge
  /-- home half and site of the frame; R206, R207; reset: none -/
  half : Half
  site : Nat
  /-- frame number within the site and 64 KiB part of it; R207; reset: none -/
  frame : Nat
  part : Nat
  /-- 32-bit generation count; R182 05_auger_streams; reset: 0, DESIGN CHOICE (log 18) -/
  gen : BitVec 32
  /-- poisoned lines by number, of a loft page 64-bit words; R222, R200; reset: none (R204) -/
  poison : List Nat
  /-- stored lines of each granule: 0 ZERO or REPEAT, 1 to 15 PACKED, 16 RAW; R226, R229; reset: none (R204) -/
  stored : Table Nat
  /-- line accesses from H0 and H1 this epoch; R208; reset: 0 -/
  counts : PerHalf Nat
  /-- R209; reset: none -/
  mig : Option Mig
  /-- transfers whose fifth refetch holds writes to it; R184; reset: none -/
  holders : List XferId
  /-- still translated; false while requests of an unmapped page are in flight; R205; reset: none -/
  mapped : Bool
  deriving DecidableEq, Repr

/-- Granules of a bay's loft given to a stream or a loft page (R197). -/
structure LoftRun where
  bay : Nat
  ctx : Nat
  start : Nat
  len : Nat
  deriving DecidableEq, Repr

/-- One memory site's controller (R189 to R191, R216 to R225, R230). -/
structure Site where
  /-- trained rate 0 to 2, YRD_SITE_STATUS RATE; R224, R230 06_bench_loft_yard; reset: 0 (spec) -/
  rate : Nat := 0
  /-- trial rate of the training in progress; R224; reset: none -/
  trial : Option Nat := none
  /-- initialisation and identity read complete; R224 steps 1 and 2; reset: no -/
  initDone : Bool := false
  /-- training ended this power-on; R224 step 7; reset: no -/
  trained : Bool := false
  /-- failed lanes of each sub-channel at training, 13 bits; R224; reset: none -/
  failed : Table (BitVec 13) := []
  /-- lanes erased by R225, sub-channel × 16 + lane; YRD_SITE_STATUS ERASED counts them; R225, R230; reset: none -/
  erased : List Nat := []
  /-- corrections of each lane this window, sub-channel × 16 + lane; R225; reset: 0 -/
  laneCe : Table Nat := []
  /-- tick at which the last lane sparing window ended (model); R366; reset: 0 -/
  spareEnded : Nat := 0
  /-- sub-channels that defer requests to switch in a spare, with the lane replaced; R225; reset: none -/
  sparing : Table Nat := []
  /-- YRD_CE_n 32 bits; R230; reset: 0 (spec) -/
  ce : Nat := 0
  /-- YRD_UE_n 32 bits; R230; reset: 0 (spec) -/
  ue : Nat := 0
  /-- bay served last by the round-robin of slots, 64 for the Plane units and network interfaces; R189; reset: 64, DESIGN CHOICE (log 19) -/
  lastBay : Nat := 64
  /-- transfer of each bay served last, by its number in turn; R189; reset: none, DESIGN CHOICE (log 19) -/
  lastXfer : Table Nat := []
  /-- lines the patrol has read this window, and the window's number; R223, R366; reset: 0 -/
  patrolNext : Nat := 0
  patrolWin : Nat := 0
  deriving DecidableEq, Repr

/-- Yard-wide registers (R191, R230, R231). -/
structure YardRegs where
  /-- YRD_SCRUB_CFG ENABLE; R230 06_bench_loft_yard; reset: 1 (spec) -/
  scrubEnable : Bool := true
  /-- YRD_SCRUB_CFG PERIOD_LOG2 5 bits; R230; reset: 27 (spec) -/
  scrubPeriod : Nat := 27
  /-- YRD_SPARE_CFG WINDOW_LOG2 8 bits; R230; reset: 20 (spec) -/
  spareWindow : Nat := 20
  /-- YRD_SPARE_CFG THRESH 8 bits; R230; reset: 16 (spec) -/
  spareThresh : Nat := 16
  /-- YRD_MIG_CFG BUDGET 8 bits; R230; reset: 64 (spec) -/
  migBudget : Nat := 64
  /-- YRD_MIG_CFG RATIO 4 bits; R230; reset: 3 (spec) -/
  migRatio : Nat := 3
  /-- YRD_MIG_CFG MIN_LOG2 4 bits; R230; reset: 12 (spec) -/
  migMin : Nat := 12
  /-- YRD_MIG_CFG ENABLE; R230; reset: 1 (spec) -/
  migEnable : Bool := true
  /-- YRD_MIG_COUNT 64 bits; R230; reset: 0 (spec) -/
  migCount : Nat := 0
  /-- YRD_ERR_LOC 32 bits; R230; reset: 0 (spec) -/
  errLoc : Word := 0
  /-- KRF_CTL PACK_LOW_LOG2 4 bits; R231; reset: 4 (spec) -/
  packLowLog2 : Nat := 4
  /-- KRF_CTL COMPRESS; R231; reset: 1 (spec) -/
  compress : Bool := true
  /-- KRF_VERIFY_FAIL 32 bits; R231; reset: 0 (spec) -/
  verifyFail : Nat := 0
  /-- KRF_IN 64 bits; R231; reset: 0 (spec) -/
  kerfIn : Nat := 0
  /-- KRF_OUT 64 bits; R231; reset: 0 (spec) -/
  kerfOut : Nat := 0
  /-- granules compressed so far (model, counter of Config.kerfVerify); reset: 0, DESIGN CHOICE (log 11) -/
  kerfSeq : Nat := 0
  /-- loft single-bit errors corrected; R200; reset: 0 -/
  loftCe : Nat := 0
  /-- PACK_LOW posted and not yet risen above the threshold, by 2 × ctx + half; R229; reset: none -/
  packLow : List Nat := []
  deriving DecidableEq, Repr

-- Auger --------------------------------------------------------------------------------------------

/-- AUG_ registers that are written or count (R191). -/
structure AugRegs where
  /-- AUG_SLOT_CFG BAY_CAP 11 bits; R191 05_auger_streams; reset: 0x100 (spec) -/
  bayCap : Nat := 256
  /-- AUG_SLOT_CFG BANK_CAP 6 bits; R191; reset: 0x20 (spec) -/
  bankCap : Nat := 32
  /-- AUG_SLOT_CFG LC_RESERVE 10 bits; R191; reset: 0x080 (spec) -/
  lcReserve : Nat := 128
  /-- AUG_REFETCH 64 bits; R191; reset: 0 (spec) -/
  refetch : Nat := 0
  /-- AUG_CANCEL BUFFERS 32 bits; R191; reset: 0 (spec) -/
  cancel : Nat := 0
  /-- AUG_BANK_CAP_HITS 64 bits; R191; reset: 0 (spec) -/
  bankHits : Nat := 0
  /-- AUG_FAULTS UNRESOLVED 16 bits; R191; reset: 0 (spec) -/
  unresolved : Nat := 0
  /-- AUG_FAULTS RESOLVED 16 bits; R191; reset: 0 (spec) -/
  resolved : Nat := 0
  deriving DecidableEq, Repr

/-- One contiguous run of yard bytes inside one line that a request moves, and where it goes in the block (R172). -/
structure Piece where
  /-- offset in the page -/
  src : Nat
  /-- offset in the block's gathered bytes -/
  dst : Nat
  len : Nat
  deriving DecidableEq, Repr

/-- Where a line request stands (R189, R190, R222). -/
inductive ReqState where
  | waiting
  | bankBlocked
  | granted
  | retrying
  /-- a write accepted, its slot free; it commits with its block (R187) -/
  | accepted
  deriving DecidableEq, Repr

/-- A line request of an auger, a Plane unit or a network interface (R172, R189, R282, R336). -/
structure Req where
  id : Nat
  owner : XferId
  ctx : Nat
  /-- its bay; 64 for a Plane unit or a network interface, which stand in no bay -/
  bay : Nat
  /-- the half it comes from; R208, R286 -/
  half : Half
  site : Nat
  /-- sub-channel × 16 + bank; R218 -/
  bank : Nat
  /-- page number and line number within it -/
  page : Nat
  line : Nat
  write : Bool
  /-- buffer and block of the transfer it belongs to -/
  buf : Nat
  block : Nat
  /-- requests its block was issued as -/
  total : Nat
  /-- whether it fetches a block again (R183, R200) -/
  again : Bool
  /-- the burst it belongs to: the number of its first request (R172) -/
  burst : Nat
  pieces : List Piece
  state : ReqState
  /-- its transfer was cancelled or ended: the data is discarded (R180) -/
  dropped : Bool
  deriving DecidableEq, Repr

/-- A page as CHECK_GEN recorded it: its number, address, bytes, count and place (R183). -/
structure Gen where
  page : Nat
  va : Nat
  bytes : Nat
  gen : BitVec 32
  site : Nat
  frame : Nat
  part : Nat
  deriving DecidableEq, Repr

/-- A buffer of a stream or scribe fetch (R165, R169). -/
structure Buf where
  /-- assembled contents by byte offset; R162, R168 05_auger_streams; reset: no buffer -/
  data : Memory := []
  /-- gathered yard bytes by block × 2^40 + offset within the block's rows; R162, R172; reset: no buffer -/
  raw : Memory := []
  /-- blocks translated into it: number, base in force and 32-byte entry; R164; reset: no buffer -/
  blocks : List (Nat × Nat × List Byte) := []
  /-- its line requests not yet complete; R186; reset: no buffer -/
  outstanding : Nat := 0
  /-- its BUF_END block is translated; R167; reset: no buffer -/
  closed : Bool := false
  /-- pages recorded for CHECK_GEN; R183; reset: no buffer -/
  gens : List Gen := []
  /-- blocks to fetch again; R183, R200; reset: no buffer -/
  refetch : List Nat := []
  /-- refetches made that ended in a mismatch; R184; reset: no buffer -/
  refetches : Nat := 0
  /-- whether the blocks to fetch again are CHECK_GEN's, which AUG_REFETCH counts; R184, R191; reset: no buffer -/
  counted : Bool := false
  /-- refetched after a loft double-bit error; R200; reset: no buffer -/
  loftRetry : Bool := false
  /-- 1 filling, 2 full, 3 taken by a consumer, 4 full and refetching, 5 taken and refetching; R169, R183, R200; reset: no buffer -/
  use : Nat := 1
  deriving DecidableEq, Repr

/-- Why a transfer stopped before a block (R187, R164, R222). -/
structure Stop where
  block : Nat
  addr : Nat
  /-- cause of R396 -/
  cause : Nat
  /-- code of R192 it ends with -/
  code : Nat
  /-- whether the joiner may resolve it -/
  open_ : Bool
  deriving DecidableEq, Repr

/-- An armed stream (R161 to R192). -/
structure Stream where
  bay : Nat
  /-- stream slot 0 to 63 of the bay; R163 05_auger_streams; reset: none armed -/
  slot : Nat
  ctx : Nat
  /-- 64-byte header; R161; reset: none armed -/
  hdr : List Byte
  /-- descriptor address; R161; reset: none armed -/
  desc : Nat
  /-- BASE0 to BASE3 in force; R161, R177; reset: none armed -/
  bases : List Nat
  /-- held re-arm; R177; reset: none armed -/
  heldBases : Option (List Nat) := none
  /-- state code 0 to 4; R175, R192; reset: none armed -/
  state : Nat := 0
  /-- R192; reset: none armed -/
  code : Nat := 0
  /-- cause of R396 of the fault that ended it, for its consumer's LAUNCH; R188, R391; reset: none armed -/
  cause : Nat := 0
  /-- PASSES 32 bits; R192; reset: none armed -/
  passes : Nat := 0
  /-- WATERMARK 32 bits; R192; reset: none armed -/
  watermark : Nat := 0
  /-- RING_BASE 32 bits; R170, R192; reset: none armed -/
  ringBase : Nat := 0
  /-- first granule and bay of the buffers; R165, R197; reset: none armed -/
  granule : Nat
  loftBay : Nat
  /-- a pass is due; R176; reset: none armed -/
  due : Bool := true
  /-- next block of the pass to translate; R186; reset: none armed -/
  next : Nat := 0
  /-- buffer that is being filled or stored; R165; reset: none armed -/
  cur : Option Nat := none
  /-- buffers of the pass not yet delivered or stored, in pass order; R167; reset: none armed -/
  order : List Nat := []
  /-- next ring buffer of the auger and of the agent; R170; reset: none armed -/
  ringPos : Nat := 0
  agentPos : Nat := 0
  /-- buffers by index; an unlisted one is free; R165; reset: none armed -/
  bufs : Table Buf := []
  /-- R187; reset: none armed -/
  stop : Option Stop := none
  /-- number of the fault posted to the joiner; R187, R480; reset: none armed -/
  fault : Option Nat := none
  /-- a stop of a block that is fetched again, and its fault; R183; reset: none armed -/
  reStop : Option Stop := none
  reFault : Option Nat := none
  /-- STREAM_ARM CANCEL or RELEASE that waits: function, ring slot; R392; reset: none armed -/
  waiters : List (Nat × Nat) := []
  /-- its pass has ended and its last handles are out; R175, non-persistent streams; reset: none armed -/
  ended : Bool := false
  /-- cancelled, waiting for issued requests; and released at the end; R180; reset: none armed -/
  cancelling : Bool := false
  releasing : Bool := false
  /-- order in which its wait on WAIT_SEM began (model); R360; reset: none armed -/
  waitSeq : Nat := 0
  deriving DecidableEq, Repr

/-- A scribe fetch: one operand of one tile (R160). -/
structure Fetch where
  id : Nat
  bay : Nat
  ctx : Nat
  /-- task index and tile position number it serves; R160 05_auger_streams; reset: none -/
  task : Nat
  pos : Nat
  /-- slot of the tile -/
  slot : Nat
  /-- 2 × slot of the descriptor + (0: A; 1: B); 4 more for the further walk blocks of an attention operand; R160, R236 -/
  operand : Nat
  /-- the stored rows still to fetch and their number: address, bytes; R160, R135; reset: none -/
  rows : List (Nat × Nat)
  /-- next row to translate; R186; reset: none -/
  next : Nat := 0
  buf : Buf := {}
  /-- R187; reset: none -/
  stop : Option Stop := none
  fault : Option Nat := none
  /-- the STATUS of an unresolved fault, its cause and address; R152; reset: none -/
  failed : Option (Nat × Nat × Nat) := none
  /-- tick at which it was complete; R351, R364; reset: none -/
  doneAt : Option Nat := none
  deriving DecidableEq, Repr

/-- A handle on a bay handle queue: stream slot and buffer, in delivery order (R166, R167). -/
structure Handle where
  bay : Nat
  ctx : Nat
  queue : Nat
  slot : Nat
  buf : Nat
  /-- tick of its delivery; R364, R365; reset: none -/
  tick : Nat
  deriving DecidableEq, Repr

/-- Semaphore pair counts (R170). -/
structure Pair where
  full : Nat := 0
  free : Nat := 0
  deriving DecidableEq, Repr

/-- Who waits for a page fault (R187, R480, R481). The kinds of status record: 0 task, 1 stream, 2 Plane, 3 peg, 4 stash. A task's other reads and writes wait as `descriptor` of its index. -/
inductive Waiter where
  | xfer (x : XferId) (block : Nat)
  | command (fn slot : Nat)
  | status (kind : Nat) (bay idx : Nat)
  | descriptor (bay idx : Nat)
  | tile (core : Nat)
  /-- the release of a checked tile's outputs -/
  | check (id : Nat)
  | plane (id : Nat)
  | peg (peg : Nat)
  /-- a received WRITE of a port's sub-class 2 × VC + SUB; port 8 is local delivery -/
  | remote (port cls : Nat)
  | bar4
  deriving DecidableEq, Repr

/-- A page fault posted to a joiner and not yet resolved (R187). -/
structure PFault where
  id : Nat
  ctx : Nat
  /-- R187 05_auger_streams; reset: none -/
  addr : Nat
  /-- access: true for a write -/
  write : Bool
  /-- cause of R396 -/
  cause : Nat
  who : Waiter
  half : Half
  /-- tick of R187 step 3, or of the claim's start -/
  since : Nat
  /-- PACK lines of the page's half in use when it was posted; R229 -/
  packed : Nat
  deriving DecidableEq, Repr

-- Scribe -----------------------------------------------------------------------------------------

/-- A snapshot of a ledger anchor (R258) and the entries a tile read (R259). -/
structure Walk where
  anchor : Nat
  root : Nat
  length : Nat
  rootSeq : Nat
  /-- TPP of the anchor -/
  tpp : Nat
  /-- entry index, its address and its 16 bytes as first read; one that is not read yet is not listed -/
  entries : List (Nat × Nat × List Byte)
  deriving DecidableEq, Repr

/-- A tile position: slot of a two-slot task, flattened iteration, column and row (R140 to R142, R265). -/
structure Tile where
  slot : Nat
  iter : Nat
  x : Nat
  y : Nat
  /-- its position number in issue order, skipped ones counted (R168) -/
  pos : Nat
  /-- the handles it holds: operand 2 × slot + (0: A; 1: B), stream slot, buffer (R168, R354) -/
  handles : List (Nat × Nat × Nat) := []
  /-- the snapshot that an abandoned run took (R354) -/
  walk : Option Walk := none
  /-- issued before, and so counted in TILES_RUN; R127, R354; reset: no -/
  issued : Bool := false
  deriving DecidableEq, Repr

/-- Phases of a task after step 2 of R148. -/
inductive TaskPhase where
  | waiting
  | reading
  | locking
  | issuing
  | merging
  | finishing
  deriving DecidableEq, Repr

/-- A task taken by a scribe and not yet complete (R148 to R152). -/
structure Task where
  ctx : Nat
  bay : Nat
  idx : Nat
  /-- its one or two 128-byte slots; R129 04_scribe_and_tiling; reset: none -/
  a : List Byte
  b : List Byte
  phase : TaskPhase
  /-- tick at which the wait of step 3 began, and its order; R364; reset: none -/
  since : Nat
  waitSeq : Nat
  /-- WAIT_LOG2 and HANDLE_LOG2 in force when the wait began; R374; reset: none -/
  waitLog2 : Nat
  /-- 96-byte auxiliary records of the slots; R133; reset: none -/
  auxA : List Byte
  auxB : List Byte
  /-- declared extents M, N, K by iteration of the slots; R145; reset: none -/
  shapesA : List (Nat × Nat × Nat)
  shapesB : List (Nat × Nat × Nat)
  /-- tiles not yet issued, in order; R141, R265; reset: none -/
  todo : List Tile
  /-- tiles issued and not yet done; reset: none -/
  running : Nat
  /-- NUM_FLAGS; R81; reset: none -/
  flags : BitVec 8
  /-- TILES_RUN, TILES_CHECKED, SDC_RESOLVED; R127; reset: none -/
  tilesRun : Nat
  checked : Nat
  resolved : Nat
  /-- tick of the first tile issue; R127; reset: none -/
  firstIssue : Option Nat
  /-- the STATUS it ends with and the detail; R127; reset: none -/
  status : Option (Nat × Nat)
  /-- partial row statistics: iteration, row, N block, record; R115; reset: none -/
  partials : List (Nat × Nat × Nat × List Byte)
  /-- tick from which the next tile waits for its buffer, with HANDLE_LOG2; R364; reset: none -/
  handleSince : Option (Nat × Nat)
  /-- anchors this append holds BUSY: iteration, address, LENGTH, M; R256; reset: none -/
  appends : List (Nat × Nat × Nat × Nat)
  /-- handles each slot's queues have given up: tile positions passed; R168; reset: none -/
  nextPosA : Nat
  nextPosB : Nat
  deriving DecidableEq, Repr

/-- A descriptor read ahead (R126): index and its bytes, or the fault it met. -/
structure Ahead where
  idx : Nat
  bytes : List Byte
  fault : Option Nat
  failed : Option Nat
  deriving DecidableEq, Repr

/-- A task list bound to a bay for a context (R125, R391). -/
structure TList where
  bay : Nat
  ctx : Nat
  /-- list base and status area; R125 04_scribe_and_tiling; reset: none loaded -/
  list : Nat
  status : Nat
  /-- the LAUNCH that runs it: function, ring slot; R391; reset: none loaded -/
  launch : Option (Nat × Nat)
  /-- next descriptor to take; R148; reset: none loaded -/
  next : Nat
  /-- next descriptor to read; R126; reset: none loaded -/
  fetchNext : Nat
  ahead : List Ahead
  tasks : List Task
  /-- STATUS, DETAIL and index that halted it; ABORTED for a HALT; R128, R391; reset: none loaded -/
  halt : Option (Nat × Nat × Nat)
  /-- tasks that wrote their status entry; R391; reset: none loaded -/
  completed : Nat
  deriving DecidableEq, Repr

/-- What a run of a tile wrote or would write (R138, R154). -/
structure TileOut where
  /-- destination bytes that hold outputs inside the declared extent: virtual address, which bits, their values -/
  bytes : List (Nat × Byte × Byte)
  flags : BitVec 8
  /-- partial row statistics: iteration, row, N block, record -/
  partials : List (Nat × Nat × Nat × List Byte)
  /-- CRC-64 of each product's tile; R154 -/
  prints : List (BitVec 64)
  deriving DecidableEq, Repr

/-- What an accumulator bank does (R58). -/
inductive BankState where
  | idle
  | preloading
  | accumulating
  | draining
  deriving DecidableEq, Repr

/-- A run of a tile on a core (R143, R155). -/
structure Run where
  /-- linear core index; R21; reset: none runs -/
  core : Nat
  /-- owner: bay, context, task index, tile -/
  bay : Nat
  ctx : Nat
  task : Nat
  tile : Tile
  /-- the check it belongs to, and 0 primary, 1 duplicate, 2 third -/
  check : Option Nat
  role : Nat
  /-- start order and start tick, for R352; reset: none runs -/
  seq : Nat
  start : Nat
  /-- R353; reset: none runs -/
  isProtected : Bool
  /-- R258, R354; reset: none runs -/
  walk : Option Walk
  /-- formed result of a walking tile that waits for its second read; R259; reset: none runs -/
  out : Option TileOut
  /-- the core's four accumulator banks; R58 02_cell_array; reset: none runs; a core that runs no tile has them idle -/
  banks : List BankState
  deriving DecidableEq, Repr

/-- A tile under spot check (R155). -/
structure Check where
  id : Nat
  bay : Nat
  ctx : Nat
  task : Nat
  tile : Tile
  /-- completed runs: role, core, result -/
  results : List (Nat × Nat × TileOut)
  /-- the bay chosen for the run of each role: 0 primary, 1 duplicate, 2 third -/
  bays : List (Nat × Nat)
  /-- the fingerprints have been compared and have decided; R155; reset: none under check -/
  decided : Bool := false
  deriving DecidableEq, Repr

/-- An LC claim (R352). -/
structure LcClaim where
  ctx : Nat
  since : Nat
  /-- abandonment has begun (500 ticks passed) -/
  forced : Bool
  deriving DecidableEq, Repr

/-- One bay (R28, R124, R153, R351, R361). -/
structure Bay where
  /-- PLL started, clocked; R417 13_joiners_power_bringup; reset: no -/
  on : Bool := false
  /-- clock-gated; R423; reset: no -/
  gated : Bool := false
  /-- tick since which it is not busy; R423; reset: none -/
  idleSince : Option Nat := none
  /-- the bay chosen last for a duplicate; R155; reset: itself, DESIGN CHOICE 0 (log 20) -/
  lastDup : Nat := 0
  /-- context served last, LC and BE; R351; reset: 7, DESIGN CHOICE (log 20) -/
  lastLc : Nat := 7
  lastBe : Nat := 7
  /-- R352; reset: none -/
  claim : Option LcClaim := none
  /-- words the loft patrol has read this window, and the window's number; R200, R366; reset: 0 -/
  loftNext : Nat := 0
  loftWin : Nat := 0
  deriving DecidableEq, Repr

/-- Scribe-wide registers and core states (R29, R158). -/
structure Scribe where
  /-- SCR_SPOT_CTL_n RATE_LOG2 4 bits by context; R158 04_scribe_and_tiling; reset: 0xA (spec) -/
  rate : Table Nat := []
  /-- SCR_SPOT_TILES 64 bits; R158; reset: 0 (spec) -/
  tiles : Nat := 0
  /-- SCR_SDC_EVENTS UNRESOLVED 16 bits; R158; reset: 0 (spec) -/
  sdcUnresolved : Nat := 0
  /-- SCR_SDC_EVENTS RESOLVED 16 bits; R158; reset: 0 (spec) -/
  sdcResolved : Nat := 0
  /-- quarantined cores whose retirement is not yet in a plan; R29, R47; reset: none -/
  quarantined : List Nat := []
  /-- cores excluded for the session; R29, R49; reset: none -/
  excluded : List Nat := []
  /-- cores set aside; R29, R195; reset: none -/
  setAside : List Nat := []
  /-- tiles each core completed since its last agreeing check; R156; reset: 0 -/
  unchecked : Table Nat := []
  runs : List Run := []
  checks : List Check := []
  deriving DecidableEq, Repr

-- Contexts -----------------------------------------------------------------------------------------

/-- The reservation of R213. -/
structure Reservation where
  yardH0 : Nat := 0
  yardH1 : Nat := 0
  stashH0 : Nat := 0
  stashH1 : Nat := 0
  packH0 : Nat := 0
  packH1 : Nat := 0
  bayMask : BitVec 64 := 0
  loftGran : Nat := 0
  oppool : Nat := 0
  seq : Nat := 0
  deriving DecidableEq, Repr

/-- A stash claim in progress or waiting (R277). -/
structure StashJob where
  /-- faults that the claim resolves; R277 08_backward_and_plane; reset: none -/
  faults : List Nat
  layer : Nat
  /-- F of R275, 0 before step 1 -/
  frames : Nat
  /-- 0 waiting, 1 mapping kept, 2 dropping -/
  step : Nat
  deriving DecidableEq, Repr

/-- An armed stash (R273 to R281). -/
structure Stash where
  /-- 64-byte header and its address; R274 08_backward_and_plane; reset: none armed -/
  hdr : List Byte
  desc : Nat
  /-- scratch set of the next drop; R278, R281; reset: 0 at arm -/
  nextSet : Nat
  /-- layer that holds each scratch set; R278; reset: none -/
  setOwner : Table Nat
  /-- layers whose gate words were copied since the last arm or reset; R278; reset: none -/
  copied : List Nat
  /-- CODE of the status record; R281; reset: 0 -/
  code : Nat
  /-- claims in arrival order; R277; reset: none -/
  jobs : List StashJob
  /-- released, its status record still to be written; R392, R480; reset: no -/
  releasing : Bool := false
  deriving DecidableEq, Repr

/-- An armed Plane descriptor (R283 to R294). -/
structure Plane where
  /-- 64-byte header and its address; R283 08_backward_and_plane; reset: none armed -/
  hdr : List Byte
  desc : Nat
  /-- STATE and CODE of R294; reset: none armed -/
  state : Nat
  code : Nat
  /-- PASSES 32 bits; R294; reset: none armed -/
  passes : Nat
  /-- OUTCOME and UNCHANGED of R294; reset: none armed -/
  outcome : Nat
  unchanged : Nat
  /-- the step record as read at step 1 of R289; reset: none armed -/
  step : List Byte
  /-- order in which its wait began (model); R360; reset: none armed -/
  waitSeq : Nat
  /-- PLANE_ARM RELEASE that waits for the pass: function, ring slot; R392; reset: none armed -/
  release : Option (Nat × Nat)
  /-- gradients taken from the ring of each semaphore pair this pass; R284; reset: none armed -/
  gIn : Table (List Byte)
  /-- the pass's pages are translated and its line requests made; its entries, and the numbers of those pages; R282, R287; reset: none armed -/
  ready : Bool := false
  entries : List (List Byte) := []
  pages : List Nat := []
  /-- its pass has ended and POST_SEM is posted once the status record is written; R289, R480; reset: none armed -/
  posting : Bool := false
  deriving DecidableEq, Repr

/-- An entry of the rollout sequence table (R368). -/
structure SeqEntry where
  /-- R368 11_contexts_and_waiting; reset: 0, FREE (R356) -/
  state : Nat := 0
  cause : Nat := 0
  tag : Word := 0
  stepsDone : Nat := 0
  stepLimit : Nat := 0
  stopRef : Nat := 0
  deriving DecidableEq, Repr

/-- The rollout sequence table (R367 to R370). -/
structure SeqTable where
  /-- 64-byte control record; R367 11_contexts_and_waiting; reset: none written -/
  control : Option (List Byte) := none
  /-- R368; reset: every entry cleared (R356) -/
  entries : Table SeqEntry := []
  /-- builds since the control record was written; R369; reset: 0 -/
  build : Nat := 0
  /-- a build is in progress; R369; reset: no -/
  building : Bool := false
  /-- order in which its wait began (model); reset: none -/
  waitSeq : Nat := 0
  deriving DecidableEq, Repr

/-- A sign-in held at rank 0 (R340): rank, signature. -/
structure OpenRec where
  rank : Nat
  inst : BitVec 16
  signature : BitVec 64
  deriving DecidableEq, Repr

/-- A collective packet that has landed at its receiver (R337, R343): final bits or a partial sum, its first element. -/
structure Arrival where
  final : Bool
  first : Nat
  bytes : List Byte
  deriving DecidableEq, Repr

/-- A loaded peg (R331 to R343). -/
structure Peg where
  /-- 64-byte entry; R331 10_collectives_and_pegs; reset: none loaded -/
  entry : List Byte
  /-- state code 0 to 3; R334; reset: none loaded -/
  state : Nat
  /-- CODE of R335; reset: none loaded -/
  code : Nat
  /-- 32-bit counter; R333; reset: 0 at load -/
  counter : Nat
  /-- FIRINGS 32 bits; R335; reset: 0 at load -/
  firings : Nat
  /-- BAD_RANK; R335; reset: none at load -/
  badRank : Option Nat
  /-- sign-ins made since load, 16 bits; R340; reset: 0 at load -/
  inst : BitVec 16
  /-- OPENs held at rank 0; R340; reset: none -/
  opens : List OpenRec
  /-- GO received: data phase; R340; reset: no -/
  go : Bool
  /-- tick of the last arrival or of the trigger; R341; reset: none -/
  since : Nat
  /-- segments marked ready; R342; reset: none -/
  ready : List Nat
  /-- elements or blocks already sent: first and count; R337, R342, R343; reset: none -/
  sent : List (Nat × Nat)
  /-- elements written in DST, or received of a circulation: first and count; R337, R343; reset: none -/
  received : List (Nat × Nat)
  /-- packets that have landed and wait for the peg's GO or for the own element; R337, R340, R343; reset: none -/
  arrivals : List Arrival
  /-- CIRCULATE: triggers counted and grants held; R343; reset: none -/
  triggers : Nat
  grants : Nat
  /-- GRANTs sent this sequence; R343; reset: 0 -/
  granted : Nat
  /-- the sign-in of this trigger has been made; R340; reset: no -/
  signed : Bool
  /-- ticks of the wait that runs, as set when it began; R341, R347; reset: 0 -/
  limit : Nat
  /-- completed, its status record still to be written; R334, R480; reset: no -/
  finishing : Bool
  /-- formed bytes that do not fill a 32-byte block yet: destination, address, bytes; R315; reset: none -/
  tails : List (BitVec 48 × Nat × List Byte) := []
  /-- SEND segments whose RSIG waits for such bytes: address and length; R331; reset: none -/
  owed : List (Nat × Nat) := []
  deriving DecidableEq, Repr

/-- One context (R348, R355, R374). -/
structure Ctx where
  /-- CTX_STATE ADMITTED; R374 11_contexts_and_waiting; reset: 0 (spec) -/
  admitted : Bool := false
  /-- CTX_STATE CLEARING; R374; reset: 0 (spec) -/
  clearing : Bool := false
  /-- CTX_STATE CLASS, true for BE; R374; reset: 0 (spec) -/
  be : Bool := false
  /-- CTX_STATE MODE, true for EXPLICIT; R374; reset: 0 (spec) -/
  explicit : Bool := false
  /-- CTX_STATE TENANCY 16 bits; R374; reset: 0 (spec) -/
  tenancy : Nat := 0
  /-- R213; reset: nothing reserved -/
  res : Reservation := {}
  /-- loft granules granted at admission, runs by bay; R196, R197 06_bench_loft_yard; reset: none -/
  loft : Table (List (Nat × Nat)) := []
  /-- CTX_TIMEOUT WAIT_LOG2, HANDLE_LOG2 5 bits each; R374; reset: 0x18 each (spec) -/
  waitLog2 : Nat := 24
  handleLog2 : Nat := 24
  /-- CTX_NEARMISS 32 bits; R374; reset: 0 (spec) -/
  nearmiss : Nat := 0
  /-- CTX_PREEMPT ABANDONED, YIELDED 16 bits each; R374; reset: 0 (spec) -/
  abandoned : Nat := 0
  yielded : Nat := 0
  /-- CTX_SIGERR SATURATED, STRAY 16 bits each; R374; reset: 0 (spec) -/
  saturated : Nat := 0
  stray : Nat := 0
  /-- task semaphores, 64 of 16 bits in each bay, by 64 × bay + number; R355; reset: 0 (R356) -/
  sems : Table Nat := []
  /-- the adds whose counts a task semaphore still holds, newest first: tick and count; R365; reset: none -/
  semAdds : Table (List (Nat × Nat)) := []
  /-- semaphore pairs, 32 in each bay, by 32 × bay + number; R170, R355; reset: 0 (R356) -/
  pairs : Table Pair := []
  /-- group table, 64 records of 16 bytes; R327; reset: cleared (R356) -/
  groups : Table (List Byte) := []
  /-- peg table, 1,024; R331; reset: none loaded (R356) -/
  pegs : Table Peg := []
  /-- peg status area; R393; reset: none -/
  pegArea : Option Nat := none
  /-- R367; reset: cleared (R356) -/
  seq : SeqTable := {}
  /-- R273; reset: none armed -/
  stash : Option Stash := none
  /-- armed Plane descriptors 0 to 3; R283; reset: none armed -/
  planes : Table Plane := []
  /-- port × 4 + channel whose packets for this context are discarded; R318; reset: none -/
  dead : List Nat := []
  /-- meter of each half this window: nominal and measured CCLK, tiles; R372; reset: 0 -/
  meter : PerHalf (Nat × Nat × Nat) := ⟨(0, 0, 0), (0, 0, 0)⟩
  /-- CTX_IMETER_n_h RATIO, TILES 16 bits each; R374; reset: 0 (spec) -/
  imeter : PerHalf (Nat × Nat) := ⟨(0, 0), (0, 0)⟩
  /-- the CTX_RELEASE that waits: function, ring slot; R397; reset: none -/
  release : Option (Nat × Nat) := none
  /-- a reset of the VF released it: no completion (R400); reset: no -/
  byReset : Bool := false
  deriving DecidableEq, Repr

-- Links -----------------------------------------------------------------------------------------

/-- A packet on a port (R315). -/
structure Packet where
  vc : Nat
  sub : Nat
  dir : Nat
  /-- 0: WRITE; 1: SIGNAL; 2: CONTROL -/
  kind : Nat
  dctx : Nat
  poison : Bool
  dest : BitVec 48
  src : BitVec 48
  target : BitVec 64
  ptag : BitVec 32
  payload : List Byte
  /-- the input port and sub-class whose credits it holds (model); none for a packet of this chip's own -/
  buf : Option (Nat × Nat) := none
  /-- its place among the packets received (model); R318; 0 for a packet of this chip's own -/
  order : Nat := 0
  deriving DecidableEq, Repr

/-- A frame's header fields as sent and kept for replay (R306). -/
structure Frame where
  fseq : Nat
  headers : List (List Byte)
  payload : List Byte
  deriving DecidableEq, Repr

/-- One link port (R300 to R314, R326). -/
structure Port where
  /-- LNK_PORT_STATUS STATE; R326 09_links; reset: 3 (spec) -/
  state : Nat := 3
  /-- LNK_PORT_STATUS MISCABLED; R326; reset: 0 (spec) -/
  miscabled : Bool := false
  /-- LNK_PORT_STATUS RETRAINING; R326; reset: 0 (spec) -/
  retraining : Bool := false
  /-- LNK_PORT_STATUS LANE_GOOD 14 bits; R326; reset: 0 (spec) -/
  laneGood : BitVec 14 := 0
  /-- LNK_PORT_STATUS LANE_ACTIVE 14 bits; R326; reset: 0 (spec) -/
  laneActive : BitVec 14 := 0
  /-- training step of R303 last done, 0 to 7; reset: 0 -/
  step : Nat := 0
  /-- pass mask of the own end; R303 step 2; reset: 0 -/
  passed : BitVec 14 := 0
  /-- fell to half width this power-on; R304; reset: no -/
  halfLocked : Bool := false
  /-- partner coordinate, port and serial; R319; reset: none -/
  partner : Option (BitVec 48 × BitVec 8 × BitVec 64) := none
  /-- LNK_PORT_ERR RETRAINS, REPLAYS 16 bits each; R326; reset: 0 (spec) -/
  retrains : Nat := 0
  replays : Nat := 0
  /-- LNK_FEC_CE_n, LNK_FEC_UE_n 32 bits each; R326; reset: 0 (spec) -/
  fecCe : Nat := 0
  fecUe : Nat := 0
  /-- uncorrectable codewords of each lane this window; R304; reset: 0 -/
  laneUe : Table Nat := []
  /-- tick at which the last lane-error window ended (model); R304, R366; reset: 0 -/
  laneUeEnded : Nat := 0
  /-- FSEQ of the next sequenced frame sent, 24 bits; R303 step 5, R306; reset: 0 -/
  txSeq : Nat := 0
  /-- sequenced frames sent and not acknowledged, oldest first; R310; reset: none -/
  replayBuf : List Frame := []
  /-- frames of replayBuf that stand before the next one to resend; none: not replaying; R310; reset: none -/
  resend : Option Nat := none
  /-- replays in a row without ACK passing the oldest frame; R311; reset: 0 -/
  replayRun : Nat := 0
  /-- tick of the last ACK progress; R310; reset: 0 -/
  ackTick : Nat := 0
  /-- FSEQ expected next, 24 bits; R309; reset: 0 -/
  rxSeq : Nat := 0
  /-- NAK to be sent in the next frame; discarding until the replay; R309; reset: no -/
  nak : Bool := false
  discarding : Bool := false
  /-- credits held for the partner's input buffer, by 2 × VC + SUB; R314; reset: 0 until credit initialisation -/
  txCredits : Table Nat := []
  /-- the partner's division of its input buffer, and this port's, as the last training set them; R314, R326; reset: none until credit initialisation -/
  txGrant : Table Nat := []
  rxGrant : Table Nat := []
  /-- credits to return in the next frames; R306; reset: 0 -/
  rxReturn : Table Nat := []
  /-- packets queued for this port by VC; R350; reset: none -/
  queues : Table (List Packet) := []
  /-- packets started: their bytes that still have to enter frames, with headers at their start; R308; reset: none -/
  stream : List (List Byte × List Byte) := []
  /-- packets started from VC0 in a row; R350; reset: 0 -/
  vc0Run : Nat := 0
  /-- packets partly received: header and payload so far; R309; reset: none -/
  rxHeaders : List (List Byte) := []
  rxBytes : List Byte := []
  /-- packets received for this chip that wait to commit, by VC; R317; reset: none -/
  commit : Table (List Packet) := []
  /-- packets discarded by a port failure; R305; reset: 0 -/
  lost : Nat := 0
  /-- frames sent (output): the 7,710 bytes of the last one; R312; reset: none -/
  lastFrame : List Byte := []
  deriving DecidableEq, Repr

/-- Link registers and the route table (R322, R326). -/
structure Links where
  ports : Table Port := []
  /-- LNK_ROUTE_CTL ROUTE_GEN 16 bits; R326 09_links; reset: 0 (spec) -/
  routeGen : Nat := 0
  /-- LNK_ROUTE_CTL BUSY; R326; reset: 0 (spec) -/
  busy : Bool := false
  /-- breaks of the four rings: axis and the coordinate below the broken link; R322, R323; reset: no table built -/
  breaks : List (Nat × Nat) := []
  /-- VALID has been 1 since power-on; R322; reset: no -/
  wasValid : Bool := false
  /-- packets of this chip that another one reports as unreachable, context and PTAG (model: taken up in the same step); R323; reset: none -/
  unreachable : List (Nat × BitVec 32) := []
  /-- ports in the route table, PORT_UP; R322; reset: none -/
  inTable : BitVec 8 := 0
  /-- LNK_DISCARD 32 bits; R326; reset: 0 (spec) -/
  discard : Nat := 0
  /-- PEG_TIMEOUT TICKS 24 bits; R346 10_collectives_and_pegs; reset: 125,000 (spec) -/
  pegTimeout : Nat := 125000
  /-- PEG_SIGNINS 64 bits; R346; reset: 0 (spec) -/
  signins : Nat := 0
  /-- PEG_ABORTS MISMATCH, TIMEOUT 16 bits each; R346; reset: 0 (spec) -/
  mismatches : Nat := 0
  timeouts : Nat := 0
  /-- PEG_STRAY 32 bits; R346; reset: 0 (spec) -/
  pegStray : Nat := 0
  /-- bridge: replays in a row without progress, by the receiving half, and retraining since tick; R451 14_sill_and_integrity; reset: 0, no -/
  bridgeRun : PerHalf Nat := ⟨0, 0⟩
  bridgeRetrain : Option Nat := none
  /-- bridge flits delivered, by the receiving half (output); R451; reset: 0 -/
  bridgeFlits : PerHalf Nat := ⟨0, 0⟩
  deriving DecidableEq, Repr

/-- Device-wide context registers (R374) and Plane counters (R295). -/
structure CtxRegs where
  /-- CTX_IMETER_CFG ALERT 16 bits; R374 11_contexts_and_waiting; reset: 0x0200 (spec) -/
  alert : Nat := 0x200
  /-- CTX_NEARMISS_DEV 32 bits; R374; reset: 0 (spec) -/
  nearmissDev : Nat := 0
  /-- CTX_IMETER_WIN_h 32 bits; R374; reset: 0 (spec) -/
  window : PerHalf Nat := ⟨0, 0⟩
  /-- tick at which the last meter window of each half ended (model); R366; reset: 0 -/
  meterEnded : PerHalf Nat := ⟨0, 0⟩
  /-- PLN_ELEMS 64 bits; R295 08_backward_and_plane; reset: 0 (spec) -/
  elems : Nat := 0
  /-- PLN_STEPS SKIPPED, APPLIED 16 bits each; R295; reset: 0 (spec) -/
  skipped : Nat := 0
  applied : Nat := 0
  /-- PLN_STASH FULL, DROPS 16 bits each; R295; reset: 0 (spec) -/
  stashFull : Nat := 0
  stashDrops : Nat := 0
  deriving DecidableEq, Repr

-- The whole --------------------------------------------------------------------------------------

/-- Why a command stops the machine. No command of this model stops it: the module reports its errors in its own state. -/
inductive Fault where
  /-- Reserved for a command that meets a condition the spec forbids and gives no outcome for; raised by nobody; safe. -/
  | forbidden
  deriving DecidableEq, Repr

/-- Why a command has no meaning. -/
inductive Refusal where
  /-- Raised by exec's arm of a command that has no meaning yet; safe. -/
  | notModelled (mnemonic : String)
  deriving DecidableEq, Repr

/-- The module. -/
structure State where
  /-- commands that wait, first in first out; reset: empty -/
  pending : List Instr := []
  /-- flash and Sill's counters -/
  flash : Flash := {}
  /-- always-on island, boot, power, thermal, sideband -/
  aon : Aon := {}
  sill : Sill := {}
  hif : Hif := {}
  /-- the live floor plan; R35 01_floor_plan; reset: the factory copy's values until step 6 of R416 builds it (log 3) -/
  plan : FloorPlan := {}
  /-- whether the live floor plan has been built this power-on; R416 step 6; reset: no -/
  planBuilt : Bool := false
  /-- R45; reset: none in progress -/
  svc : Option Svc := none
  /-- retirements that wait for the next service write, in arrival order, and whether a write is owed; R47; reset: none -/
  svcWait : List Retire := []
  svcOwed : Bool := false
  /-- pages of every context; R201 06_bench_loft_yard; reset: none mapped -/
  pages : List Page := []
  /-- page bytes by 2^21 × page number + offset; R204: a new page reads 0, so an unlisted byte reads 0 -/
  mem : Memory := []
  /-- R197; reset: none -/
  loft : List LoftRun := []
  sites : Table Site := []
  yard : YardRegs := {}
  /-- R208: migrations started this epoch, by half; reset: 0 -/
  migSpent : PerHalf Nat := ⟨0, 0⟩
  /-- tick at which the last migration epoch of each half ended (model); R366; reset: 0 -/
  epochEnded : PerHalf Nat := ⟨0, 0⟩
  aug : AugRegs := {}
  streams : List Stream := []
  fetches : List Fetch := []
  handles : List Handle := []
  reqs : List Req := []
  faults : List PFault := []
  lists : List TList := []
  bays : Table Bay := []
  scribe : Scribe := {}
  ctxs : Table Ctx := []
  ctxRegs : CtxRegs := {}
  links : Links := {}
  /-- fresh number for pages, requests, fetches, faults, checks, runs and waits, and counter of the free values (model); reset: 1, DESIGN CHOICE (log 13) -/
  fresh : Nat := 1
  deriving DecidableEq, Repr

/-- The module before AON_PWRGD is first asserted: no supply good, nothing queued. -/
def State.reset : State := {}

end Sys2Proof.Machine
end

