-- ==== Sys2Proof/Machine/Ops.lean ====
section
/-! DEFINITION. The named operations every meaning is built from: tables, bytes and memory, the parts of State by number, ticks, completions, events and signals. -/

namespace Sys2Proof.Machine

-- Tables ---------------------------------------------------------------------------------------

/-- The value under a key, or the value every unlisted key has. -/
def tget {α : Type} (t : Table α) (k : Nat) (d : α) : α :=
  match t with
  | [] => d
  | (j, v) :: r => if j = k then v else tget r k d

/-- The value under a key, if one is listed. -/
def tfind {α : Type} (t : Table α) (k : Nat) : Option α :=
  match t with
  | [] => none
  | (j, v) :: r => if j = k then some v else tfind r k

/-- The table with one value replaced or added; keys keep rising. -/
def tset {α : Type} (t : Table α) (k : Nat) (v : α) : Table α :=
  match t with
  | [] => [(k, v)]
  | (j, w) :: r => if j < k then (j, w) :: tset r k v else if j = k then (k, v) :: r else (k, v) :: (j, w) :: r

/-- The table without one key. -/
def tdel {α : Type} (t : Table α) (k : Nat) : Table α := t.filter fun e => e.1 != k

/-- Add one to a count of a table of numbers, up to a limit. -/
def tbump (t : Table Nat) (k limit : Nat) : Table Nat := tset t k (min limit (tget t k 0 + 1))

/-- Keys rise strictly. -/
def tsorted {α : Type} : Table α → Bool
  | [] => true
  | [_] => true
  | a :: b :: r => a.1 < b.1 && tsorted (b :: r)

-- Bytes and numbers (R13) --------------------------------------------------------------------------

/-- The number little-endian bytes spell. -/
def leNat : List Byte → Nat
  | [] => 0
  | b :: r => b.toNat + 256 * leNat r

/-- The n low bytes of a number, least first. -/
def toLE : Nat → Nat → List Byte
  | 0, _ => []
  | n + 1, v => BitVec.ofNat 8 v :: toLE n (v / 256)

/-- The field of n bytes at an offset of a structure; bytes past its end read 0. -/
def fld (bs : List Byte) (off n : Nat) : Nat := leNat ((bs.drop off).take n)

/-- The n bytes at an offset of a structure, padded with zero bytes. -/
def cut (bs : List Byte) (off n : Nat) : List Byte :=
  let p := (bs.drop off).take n
  p ++ List.replicate (n - p.length) 0

/-- Whether bytes [off, off + n) are all zero. -/
def zeroAt (bs : List Byte) (off n : Nat) : Bool := ((bs.drop off).take n).all (· == 0)

/-- Bits [hi:lo] of a number (R13). -/
def bits (v hi lo : Nat) : Nat := v / 2 ^ lo % 2 ^ (hi + 1 - lo)

/-- One bit of a number. -/
def bit (v n : Nat) : Bool := v / 2 ^ n % 2 == 1

/-- A two's complement number of n bits. -/
def sgn (n v : Nat) : Int := if v % 2 ^ n < 2 ^ (n - 1) then (v % 2 ^ n : Nat) else (v % 2 ^ n : Nat) - (2 ^ n : Nat)

/-- The n-bit two's complement encoding of an integer. -/
def unsgn (n : Nat) (v : Int) : Nat := (v % (2 ^ n : Nat)).toNat

/-- A bit as a number. -/
def b2n (b : Bool) : Nat := if b then 1 else 0

/-- How many units of k hold n. -/
def ups (n k : Nat) : Nat := n / k + (if n % k = 0 then 0 else 1)

/-- A count that stops at a limit. -/
def satAdd (limit a b : Nat) : Nat := min limit (a + b)

/-- The greatest count of 16 and of 32 bits. -/
def max16 : Nat := 65535
def max32 : Nat := 4294967295

-- Memory -----------------------------------------------------------------------------------------

/-- One byte; an unlisted one reads 0 (R204). -/
def memRead (m : Memory) (a : Nat) : Byte := tget m a 0

/-- Store one byte; a zero byte is not listed, so equal memories are equal data. -/
def memWrite (m : Memory) (a : Nat) (b : Byte) : Memory :=
  match m with
  | [] => if b = 0 then [] else [(a, b)]
  | (j, w) :: r =>
    if j < a then (j, w) :: memWrite r a b
    else if j = a then (if b = 0 then r else (a, b) :: r)
    else if b = 0 then (j, w) :: r else (a, b) :: (j, w) :: r

/-- The n bytes from an address. -/
def memReadN (m : Memory) (a : Nat) : Nat → List Byte
  | 0 => []
  | n + 1 => memRead m a :: memReadN m (a + 1) n

/-- Store bytes from an address on. -/
def memWriteN (m : Memory) (a : Nat) : List Byte → Memory
  | [] => m
  | b :: r => memWriteN (memWrite m a b) (a + 1) r

/-- Zero the n bytes from an address. -/
def memZero (m : Memory) (a n : Nat) : Memory := m.filter fun c => c.1 < a || a + n ≤ c.1

/-- The canonical form: addresses strictly rising and no listed byte 0. -/
def memWf (m : Memory) : Bool := tsorted m && m.all fun c => c.2 != 0

-- The parts of State by number -------------------------------------------------------------------

/-- The half of a bay (R25). -/
def bayHalf (b : Nat) : Half := if b < 32 then .h0 else .h1

/-- The half of a memory site. -/
def siteHalf (m : Nat) : Half := if m < 6 then .h0 else .h1

/-- A half by its number. -/
def halfOf (n : Nat) : Half := if n = 0 then .h0 else .h1

/-- The bay of a core by its linear index (R21). -/
def coreBay (c : Nat) : Nat := c / 416

/-- The function's registers and rings. -/
def State.fn (s : State) (n : Nat) : Fn := tget s.hif.fns n {}

/-- Replace one function. -/
def State.setFn (s : State) (n : Nat) (f : Fn) : State := { s with hif := { s.hif with fns := tset s.hif.fns n f } }

/-- A context. -/
def State.ctx (s : State) (n : Nat) : Ctx := tget s.ctxs n {}

/-- Replace one context. -/
def State.setCtx (s : State) (n : Nat) (c : Ctx) : State := { s with ctxs := tset s.ctxs n c }

/-- A bay. -/
def State.bay (s : State) (n : Nat) : Bay := tget s.bays n {}

/-- Replace one bay. -/
def State.setBay (s : State) (n : Nat) (b : Bay) : State := { s with bays := tset s.bays n b }

/-- A memory site. -/
def State.site (s : State) (n : Nat) : Site := tget s.sites n {}

/-- Replace one site. -/
def State.setSite (s : State) (n : Nat) (x : Site) : State := { s with sites := tset s.sites n x }

/-- A link port. -/
def State.port (s : State) (n : Nat) : Port := tget s.links.ports n {}

/-- Replace one port. -/
def State.setPort (s : State) (n : Nat) (p : Port) : State := { s with links := { s.links with ports := tset s.links.ports n p } }

/-- The tick count of a half (R362). -/
def State.now (s : State) (h : Half) : Nat := s.aon.ticks.get h

/-- A fresh number, and the state that has used it. -/
def State.newId (s : State) : Nat × State := (s.fresh, { s with fresh := s.fresh + 1 })

/-- Apply a change to an optional part for each element of a list, in order. -/
def forAll {α : Type} (l : List α) (f : α → State → State) (s : State) : State := l.foldl (fun t a => f a t) s

/-- The device writes a record or a report to host memory; where the host answers with an error nothing of it is kept (R383, R388; log entry 14). The answer says whether it was taken. -/
def State.hostPut (s : State) (a : Nat) (bs : List Byte) : State × Bool :=
  let t := { s with hif := { s.hif with writes := s.hif.writes + 1 } }
  if Config.hostWriteOk s.hif.writes then ({ t with hif := { t.hif with host := memWriteN t.hif.host a bs } }, true) else (t, false)

-- MSI-X, completions and events (R383 to R385, R398, R399) -----------------------------------------

/-- Signal one MSI-X vector: a masked vector sets its pending bit (R384, R403; log entry 16). -/
def fnSignal (f : Fn) (v : Nat) : Fn :=
  if (tget f.msixTable (4 * v + 3) 0).getLsbD 0 then { f with pba := f.pba ||| BitVec.ofNat 3 (2 ^ v) }
  else { f with signals := tset f.signals v (tget f.signals v 0 + 1) }

/-- Set bits of HIF_ERR_STATUS: vector 2 is signalled when a bit other than HIF_ACCESS_ERR becomes 1 (R384). -/
def fnErr (f : Fn) (n : Nat) : Fn :=
  let was := f.err.getLsbD n
  let g := { f with err := f.err ||| BitVec.ofNat 5 (2 ^ n) }
  if was || n == 0 then g else fnSignal g 2

/-- The bits of HIF_ERR_STATUS (R403). -/
def errAccess : Nat := 0
def errCmdRead : Nat := 1
def errCplWrite : Nat := 2
def errBar4 : Nat := 3
def errEvqLost : Nat := 4

/-- Set HIF_ACCESS_ERR of a function (R16). -/
def State.accessErr (s : State) (fn : Nat) : State := s.setFn fn (fnErr (s.fn fn) errAccess)

/-- The bytes of a completion entry (R383). -/
def cplBytes (f : Fn) (c : Cpl) : List Byte :=
  toLE 2 c.tag.toNat ++ toLE 2 c.slot ++ toLE 1 c.status ++ toLE 1 c.detail ++ toLE 2 f.cmdHead
    ++ toLE 8 c.result0.toNat ++ toLE 8 c.result1.toNat ++ List.replicate 6 0 ++ [c.opcode] ++ toLE 1 (b2n f.cplPhase)

/-- Count a written completion with IRQ and signal vector 0 when COUNT is reached (R384). -/
def fnIrq (f : Fn) (irq : Bool) (tick : Nat) : Fn :=
  if !irq then f
  else
    let g := { f with irqPending := f.irqPending + 1, irqFirst := some (f.irqFirst.getD tick) }
    if f.irqCount ≤ g.irqPending then fnSignal { g with irqPending := 0, irqFirst := none } 0 else g

/-- Whether the completion ring has a free place and entries may be written. -/
def cplFree (f : Fn) : Bool := f.enable && !f.d3hot && !f.err.getLsbD 2 && (f.cplTail + 1) % 4096 != f.cplHead

/-- Write the oldest waiting completion entry, if its place is free; a write error sets CPL_WRITE_ERR and keeps the entry (R383, R385). -/
def State.writeCpl (s : State) (n : Nat) : State :=
  let f := s.fn n
  match f.cplWait with
  | [] => s
  | c :: r =>
    if !cplFree f then s
    else
      let t := { s with hif := { s.hif with writes := s.hif.writes + 1 } }
      if Config.hostWriteOk s.hif.writes then
        let u := { t with hif := { t.hif with host := memWriteN t.hif.host (f.cplBase.toNat + 32 * f.cplTail) (cplBytes f c) } }
        let g := { f with cplWait := r, cplTail := (f.cplTail + 1) % 4096,
                          cplPhase := if f.cplTail == 4095 then !f.cplPhase else f.cplPhase }
        u.setFn n (fnIrq g c.irq (s.now .h0))
      else t.setFn n (fnErr f errCplWrite)

/-- Write waiting completion entries while places are free; k bounds how many. -/
def State.writeCpls (s : State) (n : Nat) : Nat → State
  | 0 => s
  | k + 1 => (s.writeCpl n).writeCpls n k

/-- Write every completion entry that can be written. -/
def State.flushCpl (s : State) (n : Nat) : State := s.writeCpls n (s.fn n).cplWait.length

/-- Free places of the event ring, entries that wait to be written again taken off. -/
def evFree (f : Fn) : Bool :=
  f.evqEn && (f.evqTail + 1024 - f.evqHead) % 1024 + f.evWait.length < 1023

/-- Bytes 0 to 0x3E of an event entry (R398). -/
def eventBytes (code ctx half tick : Nat) (payload : List Byte) : List Byte :=
  cut (toLE 2 code ++ toLE 1 ctx ++ toLE 1 half ++ toLE 4 tick ++ payload) 0 63

/-- Write the oldest event entry that waits, the function being in D0: vector 1 is signalled for it (R384, R385). -/
def State.writeEvent (s : State) (n : Nat) : State :=
  let f := s.fn n
  match f.evWait with
  | [] => s
  | e :: r =>
    if f.err.getLsbD 2 || f.d3hot then s
    else
      let t := { s with hif := { s.hif with writes := s.hif.writes + 1 } }
      if Config.hostWriteOk s.hif.writes then
        let u := { t with hif := { t.hif with host := memWriteN t.hif.host (f.evqBase.toNat + 64 * f.evqTail) (e ++ toLE 1 (b2n f.evqPhase)) } }
        let g := { f with evWait := r, evqTail := (f.evqTail + 1) % 1024,
                          evqPhase := if f.evqTail == 1023 then !f.evqPhase else f.evqPhase }
        u.setFn n (fnSignal g 1)
      else t.setFn n (fnErr f errCplWrite)

/-- Write waiting event entries; k bounds how many. -/
def State.writeEvents (s : State) (n : Nat) : Nat → State
  | 0 => s
  | k + 1 => (s.writeEvent n).writeEvents n k

/-- Write every event entry that waits. -/
def State.flushEvents (s : State) (n : Nat) : State := s.writeEvents n (s.fn n).evWait.length

/-- The EVENTS_LOST entry owed, before any later event (R399). -/
def State.eventsLost (s : State) (n : Nat) : State :=
  let f := s.fn n
  if f.lostSince == 0 || !evFree f then s
  else
    (s.setFn n { f with lostSince := 0,
                        evWait := f.evWait ++ [eventBytes 19 0xFF 0 (s.now .h0) (toLE 4 f.lostSince)] }).flushEvents n

/-- Post an event to a function: written, or discarded and counted when no place is free or EVQ_EN is 0 (R398, R399). -/
def State.post (s : State) (n code ctx : Nat) (h : Half) (payload : List Byte) : State :=
  let t := s.eventsLost n
  let f := t.fn n
  if evFree f then
    (t.setFn n { f with evWait := f.evWait ++ [eventBytes code ctx h.num (t.now h) payload] }).flushEvents n
  else
    t.setFn n (fnErr { f with evqLost := satAdd max32 f.evqLost 1, lostSince := satAdd max32 f.lostSince 1 } errEvqLost)

/-- Post an event to a context's own function (R23, R398). -/
def State.postCtx (s : State) (ctx code : Nat) (h : Half) (payload : List Byte) : State := s.post (ctx + 1) code ctx h payload

/-- Post an event to PF0 (R398). -/
def State.postPf0 (s : State) (code ctx : Nat) (h : Half) (payload : List Byte) : State := s.post 0 code ctx h payload

-- Outstanding commands -----------------------------------------------------------------------------

/-- The OPCODE, CTX and FLAGS of a command entry (R382). -/
def Cmd.opcode (c : Cmd) : Nat := fld c.bytes 0 1
def Cmd.ctx (c : Cmd) : Nat := fld c.bytes 4 1
def Cmd.irq (c : Cmd) : Bool := bit (fld c.bytes 1 1) 0
def Cmd.order (c : Cmd) : Bool := bit (fld c.bytes 1 1) 1

/-- The outstanding command of a ring slot that has not completed. -/
def State.cmd? (s : State) (fn slot : Nat) : Option Cmd := (s.fn fn).outstanding.find? fun c => c.slot == slot

/-- Replace an outstanding command. -/
def State.setCmd (s : State) (fn slot : Nat) (c : Cmd) : State :=
  let f := s.fn fn
  s.setFn fn { f with outstanding := f.outstanding.map fun d => if d.slot == slot then c else d }

/-- Complete an outstanding command: its completion entry waits for a free place and is written once it has one (R380, R383). -/
def State.complete (s : State) (fn slot status detail : Nat) (r0 r1 : Nat) : State :=
  match s.cmd? fn slot with
  | none => s
  | some c =>
    let f := s.fn fn
    let e : Cpl := ⟨BitVec.ofNat 16 (fld c.bytes 2 2), slot, status, detail, BitVec.ofNat 64 r0, BitVec.ofNat 64 r1,
      BitVec.ofNat 8 c.opcode, c.irq⟩
    (s.setFn fn { f with outstanding := f.outstanding.filter (fun d => d.slot != slot), cplWait := f.cplWait ++ [e] }).flushCpl fn

/-- Complete with a status and no result. -/
def State.done (s : State) (fn slot status detail : Nat) : State := s.complete fn slot status detail 0 0

/-- Status codes (R386). -/
def stOk : Nat := 0
def stEmpty : Nat := 1
def stDescInvalid : Nat := 2
def stShapeOver : Nat := 3
def stPageFault : Nat := 4
def stSdc : Nat := 5
def stRace : Nat := 6
def stStashFull : Nat := 7
def stStepInvalid : Nat := 8
def stCollMismatch : Nat := 9
def stCollTimeout : Nat := 10
def stCollUnreachable : Nat := 11
def stWaitTimeout : Nat := 12
def stCmdInvalid : Nat := 16
def stCtxRefused : Nat := 17
def stNotAdmitted : Nat := 18
def stMapInvalid : Nat := 19
def stReservation : Nat := 20
def stStreamNoResource : Nat := 21
def stStreamBusy : Nat := 22
def stStashInvalid : Nat := 23
def stStashNoResource : Nat := 24
def stGroupInvalid : Nat := 25
def stGroupUnreachable : Nat := 26
def stGroupBusy : Nat := 27
def stPegBusy : Nat := 28
def stLedgerBusy : Nat := 29
def stListBusy : Nat := 30
def stNotPermitted : Nat := 31
def stAborted : Nat := 32
def stFwRejected : Nat := 33
def stPowerRange : Nat := 34
def stHostError : Nat := 35

/-- Causes of a page fault (R396). -/
def pfUnmapped : Nat := 0
def pfRight : Nat := 1
def pfLoft : Nat := 2
def pfYard : Nat := 3
def pfPackFull : Nat := 4
def pfHole : Nat := 5
def pfStash : Nat := 6
def pfRemote : Nat := 7

/-- Whether an aligned window of 2^k ticks ends at a tick, the last one having ended at an earlier tick (R366): window n holds the ticks from n × 2^k up to, but not, (n + 1) × 2^k. -/
def windowEnd (tick k ended : Nat) : Bool := tick % 2 ^ k == 0 && decide (ended < tick)

-- AON ticks ------------------------------------------------------------------------------------------

/-- One AON tick: both halves' counters count once their lag has passed (R362; log entries 6 and 9). -/
def State.tick (s : State) : State :=
  if !s.aon.powered then s
  else
    let one (h : Half) : Nat × Nat :=
      if s.aon.lag.get h = 0 then (s.aon.ticks.get h + 1, 0) else (s.aon.ticks.get h, s.aon.lag.get h - 1)
    { s with aon := { s.aon with
        ticks := ⟨(one .h0).1 % 2 ^ 64, (one .h1).1 % 2 ^ 64⟩,
        lag := ⟨(one .h0).2, (one .h1).2⟩ } }

end Sys2Proof.Machine
end

