-- ==== Sys2Proof/Machine/Operands.lean ====
section
/-! DEFINITION. The fields of the structures commands and units read: stream headers and block entries, task descriptors and auxiliary records, operand references. -/

namespace Sys2Proof.Machine

/-- The device virtual address in bits [56:0] of a reference. -/
def refAddr (v : Nat) : Nat := v % 2 ^ 57

/-- The bits above [56:0]. -/
def refHigh (v : Nat) : Nat := v / 2 ^ 57

-- Stream headers (R161) -------------------------------------------------------------------------------

def hdrKind (h : List Byte) : Nat := fld h 0 1
def hdrPersist (h : List Byte) : Bool := bit (fld h 1 1) 0
def hdrCheckGen (h : List Byte) : Bool := bit (fld h 1 1) 1
def hdrQueue (h : List Byte) : Nat := fld h 2 1
def hdrDepth (h : List Byte) : Nat := fld h 3 1
def hdrBufGran (h : List Byte) : Nat := fld h 4 2
def hdrWaitSem (h : List Byte) : Nat := fld h 6 1
def hdrWaitN (h : List Byte) : Nat := fld h 7 1
def hdrEntries (h : List Byte) : Nat := fld h 8 4
def hdrTag (h : List Byte) : Nat := fld h 0xC 2
def hdrBase (h : List Byte) (i : Nat) : Nat := fld h (0x10 + 8 * i) 8
def hdrStatus (h : List Byte) : Nat := fld h 0x30 8

/-- Whether STREAM_ARM refuses a header with DESC_INVALID (R163, R20). -/
def hdrBad (h : List Byte) : Bool :=
  bits (fld h 1 1) 7 2 != 0 || !zeroAt h 0xE 2 || !zeroAt h 0x38 8
    || (List.range 4).any (fun i => refHigh (hdrBase h i) != 0) || refHigh (hdrStatus h) != 0
    || decide (2 < hdrKind h) || hdrDepth h == 0 || decide (64 < hdrDepth h) || decide (4095 < hdrBufGran h)
    || decide (1048575 < hdrEntries h)
    || (if hdrKind h = 0 then hdrQueue h == 0 || decide (127 < hdrQueue h) else decide (31 < hdrQueue h))
    || (hdrWaitN h == 0 && hdrWaitSem h != 0xFF) || (decide (63 < hdrWaitSem h) && hdrWaitSem h != 0xFF)
    || hdrStatus h == 0 || hdrStatus h % 16 != 0

/-- Bytes of one buffer. -/
def hdrBufBytes (h : List Byte) : Nat := (hdrBufGran h + 1) * 4096

-- Block entries (R162, R164, R173) ------------------------------------------------------------------------

def entAddr (e : List Byte) : Nat := refAddr (fld e 0 8)
def entSel (e : List Byte) : Nat := bits (fld e 0 8) 58 57
def entRowBytes (e : List Byte) : Nat := fld e 8 4
def entPitch (e : List Byte) : Nat := fld e 0xC 4
def entRows (e : List Byte) : Nat := fld e 0x10 2 + 1
def entPlanes (e : List Byte) : Nat := fld e 0x12 2 + 1
def entStride (e : List Byte) : Int := sgn 32 (fld e 0x14 4) * 64
def entDst (e : List Byte) : Nat := fld e 0x18 4
def entDstPitch (e : List Byte) : Nat := fld e 0x1C 2 * 32
def entEnd (e : List Byte) : Bool := bit (fld e 0x1E 2) 0
def entTrans (e : List Byte) : Bool := bit (fld e 0x1E 2) 1
def entTwidth (e : List Byte) : Nat :=
  match bits (fld e 0x1E 2) 4 2 with
  | 0 => 4
  | 1 => 6
  | 2 => 8
  | 3 => 16
  | _ => 32

/-- Elements of a yard row of a transposing block. -/
def entElems (e : List Byte) : Nat := entRowBytes e * 8 / entTwidth e

/-- Bytes of a row as placed in the buffer (R162, R173). -/
def entPlaced (e : List Byte) : Nat := if entTrans e then entRows e * entTwidth e / 8 else entRowBytes e

/-- Bytes between rows in the buffer. -/
def entP (e : List Byte) : Nat := if entDstPitch e = 0 then entPlaced e else entDstPitch e

/-- Rows placed in the buffer over all planes. -/
def entPlacedRows (e : List Byte) : Nat := entPlanes e * (if entTrans e then entElems e else entRows e)

/-- Whether a block entry is bad for a buffer of the given bytes (R164). -/
def entBad (e : List Byte) (bufBytes : Nat) : Bool :=
  let f := fld e 0x1E 2
  bits (fld e 0 8) 63 59 != 0 || bits f 15 5 != 0 || decide (4 < bits f 4 2)
    || entAddr e % 32 != 0 || entRowBytes e % 32 != 0 || entPitch e % 32 != 0 || entDst e % 32 != 0
    || decide (entRowBytes e < 32) || decide (16777216 < entRowBytes e)
    || (entDstPitch e != 0 && decide (entDstPitch e < entPlaced e))
    || (entTrans e && (entRows e % 32 != 0 || entRowBytes e * 8 % (32 * entTwidth e) != 0))
    || decide (bufBytes < entDst e + (entPlacedRows e - 1) * entP e + entPlaced e)

/-- The yard address of row r of plane p (R162): addresses wrap modulo 2^57. -/
def entRowAddr (e : List Byte) (base p r : Nat) : Nat :=
  (((base + entAddr e + r * entPitch e : Nat) : Int) + entStride e * (p : Int)).emod (2 ^ 57 : Nat) |>.toNat

/-- Addresses of the yard rows in the order they are taken (R162). -/
def entRowAddrs (e : List Byte) (base : Nat) : List Nat :=
  ((List.range (entPlanes e)).map fun p => (List.range (entRows e)).map fun r => entRowAddr e base p r).flatten

-- Task descriptors (R129 to R133) ---------------------------------------------------------------------------

def tkOpcode (d : List Byte) : Nat := fld d 0 1
def tkFlags (d : List Byte) : Nat := fld d 1 1
def tkDepPrev (d : List Byte) : Bool := bit (tkFlags d) 0
def tkIrq (d : List Byte) : Bool := bit (tkFlags d) 1
def tkShapeMode (d : List Byte) : Nat := bits (tkFlags d) 3 2
def tkAT (d : List Byte) : Bool := bit (tkFlags d) 4
def tkBT (d : List Byte) : Bool := bit (tkFlags d) 5
def tkPreEn (d : List Byte) : Bool := bit (tkFlags d) 6
def tkTag (d : List Byte) : Nat := fld d 2 2
def tkSerNcw (d : List Byte) : Nat := fld d 4 2
def tkStaNcw (d : List Byte) : Nat := fld d 6 2
def tkPreNcw (d : List Byte) : Nat := fld d 8 2
def tkDcw (d : List Byte) : Nat := fld d 0xA 2
def tkEpi (d : List Byte) : Nat := fld d 0xC 4
def tkM (d : List Byte) : Nat := fld d 0x10 2 + 1
def tkN (d : List Byte) : Nat := fld d 0x12 2 + 1
def tkK (d : List Byte) : Nat := fld d 0x14 2 + 1
def tkTM (d : List Byte) : Nat := fld d 0x16 2 + 1
def tkTN (d : List Byte) : Nat := fld d 0x18 2 + 1
def tkWaitSem (d : List Byte) : Nat := fld d 0x1A 1
def tkWaitN (d : List Byte) : Nat := fld d 0x1B 1
def tkPostSem (d : List Byte) : Nat := fld d 0x1C 1
def tkPostN (d : List Byte) : Nat := fld d 0x1D 1
def tkSpot (d : List Byte) : Nat := fld d 0x1E 1
def tkPegTile (d : List Byte) : Nat := fld d 0x20 2
def tkPegDone (d : List Byte) : Nat := fld d 0x22 2
def tkL0 (d : List Byte) : Nat := fld d 0x24 2 + 1
def tkL1 (d : List Byte) : Nat := fld d 0x26 2 + 1
def tkL2 (d : List Byte) : Nat := fld d 0x28 2 + 1
def tkARef (d : List Byte) : Nat := fld d 0x30 8
def tkBRef (d : List Byte) : Nat := fld d 0x38 8
def tkDRef (d : List Byte) : Nat := fld d 0x40 8
def tkAux (d : List Byte) : Nat := fld d 0x48 8
def tkAPitch (d : List Byte) : Nat := fld d 0x50 4
def tkBPitch (d : List Byte) : Nat := fld d 0x54 4
def tkDPitch (d : List Byte) : Nat := fld d 0x58 4
def tkAS (d : List Byte) (l : Nat) : Int := sgn 32 (fld d (0x5C + 4 * l) 4)
def tkBS (d : List Byte) (l : Nat) : Int := sgn 32 (fld d (0x68 + 4 * l) 4)
def tkDS (d : List Byte) (l : Nat) : Int := sgn 32 (fld d (0x74 + 4 * l) 4)

/-- The number of flattened outer iterations (R142). -/
def tkIters (d : List Byte) : Nat := tkL0 d * tkL1 d * tkL2 d

/-- Opcodes of R130. -/
def opEnd : Nat := 0
def opNop : Nat := 1
def opMatmul : Nat := 2
def opDiag : Nat := 3
def opDualA : Nat := 4
def opDualB : Nat := 5
def opAttnA : Nat := 6
def opAttnB : Nat := 7

/-- Whether a task occupies two descriptors (R131). -/
def tkPair (d : List Byte) : Bool := tkOpcode d == opDualA || tkOpcode d == opAttnA

def auxShape (x : List Byte) : Nat := fld x 0 8
def auxC (x : List Byte) : Nat := fld x 8 8
def auxZ (x : List Byte) : Nat := fld x 0x10 8
def auxScale (x : List Byte) : Nat := fld x 0x18 8
def auxBias (x : List Byte) : Nat := fld x 0x20 8
def auxOscale (x : List Byte) : Nat := fld x 0x28 8
def auxStatIn (x : List Byte) : Nat := fld x 0x30 8
def auxStatOut (x : List Byte) : Nat := fld x 0x38 8
def auxCPitch (x : List Byte) : Nat := fld x 0x40 4
def auxZPitch (x : List Byte) : Nat := fld x 0x44 4
def auxCS (x : List Byte) (l : Nat) : Int := sgn 32 (fld x (0x48 + 4 * l) 4)
def auxZS (x : List Byte) (l : Nat) : Int := sgn 32 (fld x (0x54 + 4 * l) 4)

/-- The queue of an operand reference (R132). -/
def refQueue (r : Nat) : Nat := bits r 63 57

-- Plane descriptors (R283, R284) -----------------------------------------------------------------------

def plKind (h : List Byte) : Nat := fld h 0 1
def plOpt (h : List Byte) : Nat := fld h 1 1
def plTag (h : List Byte) : Nat := fld h 2 2
def plEntries (h : List Byte) : Nat := fld h 4 4 + 1
def plStep (h : List Byte) : Nat := fld h 8 8
def plScan (h : List Byte) : Nat := fld h 0x10 8
def plScanCount (h : List Byte) : Nat := fld h 0x18 2
def plBay (h : List Byte) : Nat := fld h 0x1A 1
def plWaitSem (h : List Byte) : Nat := fld h 0x1B 1
def plWaitN (h : List Byte) : Nat := fld h 0x1C 1
def plPostSem (h : List Byte) : Nat := fld h 0x1D 1
def plPostN (h : List Byte) : Nat := fld h 0x1E 1
def plStatus (h : List Byte) : Nat := fld h 0x20 8

def peCount (e : List Byte) : Nat := fld e 0 4 + 1
def peGFmt (e : List Byte) : Nat := fld e 4 1
def pePFmt (e : List Byte) : Nat := fld e 5 1
def peMvFmt (e : List Byte) : Nat := fld e 6 1
def peWFmt (e : List Byte) : Nat := fld e 7 1
def peWd (e : List Byte) : Nat := fld e 8 4
def peRing (e : List Byte) : Bool := fld e 0xC 1 == 1
def peG (e : List Byte) : Nat := fld e 0x10 8
def peP (e : List Byte) : Nat := fld e 0x18 8
def peM (e : List Byte) : Nat := fld e 0x20 8
def peV (e : List Byte) : Nat := fld e 0x28 8
def peW (e : List Byte) : Nat := fld e 0x30 8

end Sys2Proof.Machine
end

