-- ==== Sys2Proof/Machine/Flags.lean ====
section
/-! DEFINITION. Numbers and their flags: exact dyadic values, the element formats, the one rounding rne48, drain rounding with its overflow rules, MX scales, and the sticky numeric flags (R60 to R65, R72, R76 to R84, R478). -/

namespace Sys2Proof.Machine

/-- A value before any rounding: NaN, an infinity, or exactly m × 2^e. The sign of zero is not kept (R79). -/
inductive Num where
  | nan
  | inf (neg : Bool)
  | fin (m e : Int)
  deriving DecidableEq, Repr

/-- A computation that sets sticky flags (R81). -/
abbrev Fl := StateM (BitVec 8)

/-- The flags of R81. -/
def flNanIn : Nat := 0
def flNanOut : Nat := 1
def flInfIn : Nat := 2
def flOvf : Nat := 3
def flFlush : Nat := 4
def flNanLost : Nat := 5

/-- Set a sticky flag. -/
def setFlag (n : Nat) : Fl Unit := modify fun f => f ||| BitVec.ofNat 8 (2 ^ n)

/-- Set a sticky flag on a condition. -/
def flagIf (b : Bool) (n : Nat) : Fl Unit := if b then setFlag n else pure ()

-- Exact arithmetic ----------------------------------------------------------------------------------

def zero : Num := .fin 0 0
def one : Num := .fin 1 0

def Num.isZero : Num → Bool
  | .fin m _ => m == 0
  | _ => false

def Num.isNan : Num → Bool
  | .nan => true
  | _ => false

def Num.isInf : Num → Bool
  | .inf _ => true
  | _ => false

/-- Whether a value is below zero. -/
def Num.isNeg : Num → Bool
  | .nan => false
  | .inf n => n
  | .fin m _ => decide (m < 0)

def Num.negate : Num → Num
  | .nan => .nan
  | .inf n => .inf (!n)
  | .fin m e => .fin (-m) e

/-- The exact sum; infinities by R78. -/
def Num.add : Num → Num → Num
  | .nan, _ => .nan
  | _, .nan => .nan
  | .inf a, .inf b => if a = b then .inf a else .nan
  | .inf a, .fin _ _ => .inf a
  | .fin _ _, .inf b => .inf b
  | .fin m e, .fin n f => .fin (m * 2 ^ (e - min e f).toNat + n * 2 ^ (f - min e f).toNat) (min e f)

/-- The exact product; infinity by zero is NaN (R78). -/
def Num.mul : Num → Num → Num
  | .nan, _ => .nan
  | _, .nan => .nan
  | .inf a, .inf b => .inf (a != b)
  | .inf a, .fin n _ => if n = 0 then .nan else .inf (a != decide (n < 0))
  | .fin m _, .inf b => if m = 0 then .nan else .inf (b != decide (m < 0))
  | .fin m e, .fin n f => .fin (m * n) (e + f)

/-- Whether a < b for values that are not NaN. -/
def Num.lt (a b : Num) : Bool :=
  match a, b with
  | .nan, _ => false
  | _, .nan => false
  | .inf x, .inf y => x && !y
  | .inf x, .fin _ _ => x
  | .fin _ _, .inf y => !y
  | .fin m e, .fin n f => decide (m * 2 ^ (e - min e f).toNat < n * 2 ^ (f - min e f).toNat)

/-- The larger value; NaN if either is. -/
def Num.max (a b : Num) : Num := if a.isNan || b.isNan then .nan else if a.lt b then b else a

/-- floor(log2 |m × 2^e|) of a non-zero value. -/
def elog (m e : Int) : Int := (Nat.log2 m.natAbs : Int) + e

-- Rounding (R66, R478) ----------------------------------------------------------------------------------

/-- m / 2^k to the nearest integer, ties to even. -/
def rneNat (m k : Nat) : Nat :=
  let q := m / 2 ^ k
  let r := 2 * (m % 2 ^ k)
  if 2 ^ k < r || (r == 2 ^ k && q % 2 == 1) then q + 1 else q

/-- The integer nearest to m × 2^e, ties to even. -/
def rneInt (m e : Int) : Int :=
  if 0 ≤ e then m * 2 ^ e.toNat else if m < 0 then -(rneNat m.natAbs (-e).toNat : Int) else (rneNat m.natAbs (-e).toNat : Int)

/-- m × 2^e rounded to a significand of p bits, ties to even, exponent unbounded. -/
def roundSig (p : Nat) (m e : Int) : Int × Int :=
  let l := Nat.log2 m.natAbs + 1
  if m = 0 then (0, 0) else if l ≤ p then (m, e) else (rneInt m (-(l - p : Nat)), e + (l - p : Nat))

/-- A rounded value bounded to the exponent range of ACC48: 2^512 or more is an infinity, below 2^-510 is +0 (R96, R478); and whether it overflowed. -/
def bound48 (r : Int × Int) : Num × Bool :=
  if r.1 = 0 then (zero, false)
  else if 512 ≤ elog r.1 r.2 then (.inf (decide (r.1 < 0)), true)
  else if elog r.1 r.2 < -510 then (zero, false)
  else (.fin r.1 r.2, false)

/-- One rounding to p bits in the range of ACC48; OVF when a finite value overflows. -/
def roundFl (p : Nat) (v : Num) : Fl Num :=
  match v with
  | .fin m e => do
    let b := bound48 (roundSig p m e)
    flagIf b.2 flOvf
    pure b.1
  | w => pure w

/-- rne48 (R478). -/
def r48 (v : Num) : Fl Num := roundFl 48 v

/-- A quotient n / d × 2^e with its last bit standing for any remainder: enough bits for a rounding to 48. -/
def quotSticky (n : Int) (d : Nat) (e : Int) : Num :=
  let k := 52 + Nat.log2 d
  let a := n.natAbs * 2 ^ k
  let q := 2 * (a / d) + (if a % d = 0 then 0 else 1)
  .fin (if n < 0 then -(q : Int) else q) (e - k - 1)

/-- rne48 of an exact value divided by a count (R115, R116). -/
def divCount (v : Num) (c : Nat) : Fl Num :=
  match v with
  | .fin m e => r48 (quotSticky m c e)
  | w => pure w

def mul48 (a b : Num) : Fl Num := r48 (a.mul b)
def add48 (a b : Num) : Fl Num := r48 (a.add b)
def sub48 (a b : Num) : Fl Num := r48 (a.add b.negate)

-- Formats (R60) ---------------------------------------------------------------------------------------------

/-- Bits of an element. -/
def fmtBits (f : Nat) : Nat :=
  match f with
  | 0 => 32
  | 1 => 16
  | 2 => 16
  | 3 => 8
  | 4 => 8
  | 5 => 6
  | 6 => 6
  | 7 => 4
  | 8 => 8
  | 9 => 4
  | _ => 64

/-- Native significand width w. -/
def fmtWidth (f : Nat) : Nat :=
  match f with
  | 0 => 24
  | 1 => 8
  | 2 => 11
  | 3 => 4
  | 4 => 3
  | 5 => 3
  | 6 => 4
  | 7 => 2
  | 8 => 8
  | 9 => 4
  | _ => 48

/-- Exponent bits, fraction bits and bias of a floating-point format. -/
def fmtShape (f : Nat) : Nat × Nat × Int :=
  match f with
  | 0 => (8, 23, 127)
  | 1 => (8, 7, 127)
  | 2 => (5, 10, 15)
  | 3 => (4, 3, 7)
  | 4 => (5, 2, 15)
  | 5 => (3, 2, 3)
  | 6 => (2, 3, 1)
  | _ => (2, 1, 1)

/-- Whether a format has infinities. -/
def fmtHasInf (f : Nat) : Bool := f == 0 || f == 1 || f == 2 || f == 4

/-- The largest finite value of a floating-point format. -/
def fmtLargest (f : Nat) : Int × Int :=
  match f with
  | 0 => (16777215, 104)
  | 1 => (255, 120)
  | 2 => (2047, 5)
  | 3 => (14, 5)
  | 4 => (7, 13)
  | 5 => (7, 2)
  | 6 => (15, -1)
  | _ => (3, 1)

/-- The value of an A48 element (R72). Bits [5:0], which R72 gives as zero, are ignored where a stored element has them set (log entry 88). -/
def a48Decode (v : Nat) : Num :=
  let s := bit v 63
  let x := bits v 62 53
  let f := bits v 52 6
  if x = 0 then zero
  else if x = 1023 then (if f = 0 then .inf s else .nan)
  else
    let m : Int := 2 ^ 47 + (f : Int)
    .fin (if s then -m else m) ((x : Int) - 511 - 47)

/-- The value of an element of a floating-point format. -/
def fpDecode (f v : Nat) : Num :=
  let (eb, mb, bias) := fmtShape f
  let s := bit v (eb + mb)
  let x := v / 2 ^ mb % 2 ^ eb
  let t := v % 2 ^ mb
  let sign (m : Int) : Int := if s then -m else m
  if fmtHasInf f && x == 2 ^ eb - 1 then (if t = 0 then .inf s else .nan)
  else if f == 3 && x == 15 && t == 7 then .nan
  else if x = 0 then .fin (sign t) (1 - bias - mb)
  else .fin (sign (2 ^ mb + (t : Int))) ((x : Int) - bias - mb)

/-- The value of an element (R60). -/
def decodeElem (f v : Nat) : Num :=
  if f = 8 then .fin (sgn 8 v) 0 else if f = 9 then .fin (sgn 4 v) 0 else if f = 10 then a48Decode v else fpDecode f v

/-- The value of an MX scale (R64). -/
def scaleValue (x : Nat) : Num := if x = 255 then .nan else .fin 1 ((x : Int) - 127)

/-- The value of an MX element before its scale: MXINT8 counts in 2^-6 (R64). -/
def decodeMx (f v : Nat) : Num := if f = 8 then .fin (sgn 8 v) (-6) else decodeElem f v

-- Drain rounding (R82, R83) -------------------------------------------------------------------------------------

/-- The encoding of an ACC48 value (R72). -/
def a48Encode (v : Num) : Nat :=
  match v with
  | .nan => 0x7FF0000000000000
  | .inf n => 0x7FE0000000000000 + b2n n * 2 ^ 63
  | .fin m e =>
    if m = 0 then 0
    else
      let l := Nat.log2 m.natAbs
      let sig := if l ≤ 47 then m.natAbs * 2 ^ (47 - l) else m.natAbs / 2 ^ (l - 47)
      b2n (decide (m < 0)) * 2 ^ 63 + ((l : Int) + e + 511).toNat * 2 ^ 53 + (sig - 2 ^ 47) * 2 ^ 6

/-- Sign bit and magnitude bits of a floating-point format. -/
def fpSigned (f : Nat) (neg : Bool) (mag : Nat) : Nat :=
  let s := fmtShape f
  b2n neg * 2 ^ (s.1 + s.2.1) + mag

/-- The magnitude bits of a value that the format holds exactly. -/
def fpMag (f : Nat) (m e : Int) : Nat :=
  let (_, mb, bias) := fmtShape f
  if m = 0 then 0
  else
    let l := elog m e
    if l < 1 - bias then (rneInt m.natAbs (e - (1 - bias - mb))).toNat
    else ((l + bias).toNat) * 2 ^ mb + ((rneInt m.natAbs (e - (l - mb))).toNat - 2 ^ mb)

/-- The magnitude bits of the largest finite value. -/
def fpLargest (f : Nat) : Nat := fpMag f (fmtLargest f).1 (fmtLargest f).2

/-- The magnitude bits of an infinity. -/
def fpInf (f : Nat) : Nat :=
  let s := fmtShape f
  (2 ^ s.1 - 1) * 2 ^ s.2.1

/-- The canonical NaN of a format that has NaN (R83). -/
def fpNan (f : Nat) : Nat :=
  match f with
  | 0 => 0x7FC00000
  | 1 => 0x7FC0
  | 2 => 0x7E00
  | 3 => 0x7F
  | _ => 0x7E

/-- A value rounded to a floating-point format, gradual underflow, exponent unbounded above (R80, R83). -/
def fpRound (f : Nat) (m e : Int) : Int × Int :=
  let (_, mb, bias) := fmtShape f
  let q := max (elog m e - mb) (1 - bias - mb)
  if m = 0 then (0, 0) else if q ≤ e then (m, e) else (rneInt m (e - q), q)

/-- What overflow and infinity are written as (R83); OVF, and NAN_OUT where that is a NaN. -/
def fpOver (f : Nat) (sat neg isInf : Bool) : Fl Nat :=
  if fmtHasInf f then
    if sat then do
      setFlag flOvf
      pure (fpSigned f neg (fpLargest f))
    else do
      flagIf (!isInf) flOvf
      pure (fpSigned f neg (fpInf f))
  else if f == 3 && !sat then do
    setFlag flOvf
    setFlag flNanOut
    pure (fpNan 3)
  else do
    setFlag flOvf
    pure (fpSigned f neg (fpLargest f))

/-- The one rounding into a floating-point format (R82, R83). -/
def drainFp (f : Nat) (sat : Bool) (v : Num) : Fl Nat :=
  match v with
  | .nan => do
    setFlag flNanOut
    if 5 ≤ f then do
      setFlag flNanLost
      pure 0
    else pure (fpNan f)
  | .inf n => fpOver f sat n true
  | .fin m e =>
    let r := fpRound f m e
    let big := fmtLargest f
    if (Num.fin big.1 big.2).lt (.fin r.1.natAbs r.2) then fpOver f sat (decide (m < 0)) false
    else pure (if r.1 = 0 then 0 else fpSigned f (decide (m < 0)) (fpMag f r.1 r.2))

/-- The one rounding into an integer format of n bits: saturation sets OVF (R82, R83). -/
def drainInt (n : Nat) (v : Num) : Fl Nat :=
  let top : Int := 2 ^ (n - 1) - 1
  match v with
  | .nan => do
    setFlag flNanOut
    setFlag flNanLost
    pure 0
  | .inf s => do
    setFlag flOvf
    pure (unsgn n (if s then -top - 1 else top))
  | .fin m e => do
    let r := rneInt m e
    flagIf (decide (top < r) || decide (r < -top - 1)) flOvf
    pure (unsgn n (max (-top - 1) (min top r)))

/-- The drain's rounding of one output into its destination format (R82, R83). -/
def drainElem (f : Nat) (sat : Bool) (v : Num) : Fl Nat :=
  if f = 8 then drainInt 8 v else if f = 9 then drainInt 4 v
  else if f = 10 then do
    flagIf v.isNan flNanOut
    pure (a48Encode v)
  else drainFp f sat v

/-- e_elem of an MX format (R84). -/
def mxExp (f : Nat) : Int :=
  match f with
  | 3 => 8
  | 4 => 15
  | 5 => 4
  | 6 => 2
  | 7 => 2
  | _ => 0

/-- X of a group of outputs none of which is NaN or infinite (R84). -/
def mxScale (f : Nat) (vs : List Num) : Nat :=
  let es := vs.filterMap fun v => match v with
    | .fin m e => if m = 0 then none else some (elog m e)
    | _ => none
  match es with
  | [] => 127
  | x :: r => (max 0 (min 254 (r.foldl max x - mxExp f + 127))).toNat

/-- The scale and elements of one group of 32 outputs (R84). -/
def mxGroup (f : Nat) (vs : List Num) : Fl (Nat × List Nat) :=
  if vs.any fun v => v.isNan || v.isInf then do
    setFlag flNanOut
    flagIf (vs.any Num.isInf) flOvf
    pure (255, vs.map fun _ => 0)
  else do
    let x := mxScale f vs
    let k : Int := if f = 8 then 133 - x else 127 - x
    let es ← vs.mapM fun v => drainElem f true (v.mul (.fin 1 k))
    pure (x, es)

end Sys2Proof.Machine
end

