-- ==== Sys2Proof/Machine/Binary.lean ====
section
/-! DEFINITION. IEEE 754 binary32 arithmetic on encodings, each operation rounded to nearest with ties to even, subnormals and signed zeros kept, one canonical NaN (R290, R291). -/

namespace Sys2Proof.Machine

/-- The canonical NaN, plus zero and one. -/
def f32Nan : Nat := 0x7FC00000
def f32One : Nat := 0x3F800000
def f32Half : Nat := 0x3F000000
def f32Two : Nat := 0x40000000

/-- The sign bit of an encoding of a format with n bits. -/
def signOf (n v : Nat) : Bool := bit v (n - 1)

/-- The value of an encoding. -/
def f32Val (v : Nat) : Num := fpDecode 0 v

/-- A value rounded into a floating-point format with infinities; a zero takes the given sign. -/
def fpEncode (f : Nat) (negZero : Bool) (v : Num) : Nat :=
  match v with
  | .nan => fpNan f
  | .inf n => fpSigned f n (fpInf f)
  | .fin m e =>
    if m = 0 then fpSigned f negZero 0
    else
      let r := fpRound f m e
      let big := fmtLargest f
      if (Num.fin big.1 big.2).lt (.fin r.1.natAbs r.2) then fpSigned f (decide (m < 0)) (fpInf f)
      else fpSigned f (decide (m < 0)) (if r.1 = 0 then 0 else fpMag f r.1.natAbs r.2)

/-- An exact result as a binary32. -/
def f32Round (negZero : Bool) (v : Num) : Nat := fpEncode 0 negZero v

def f32Neg (a : Nat) : Nat := if bit a 31 then a - 2 ^ 31 else a + 2 ^ 31

/-- A sum: an exact zero is +0 unless both addends are −0. -/
def f32Add (a b : Nat) : Nat := f32Round (bit a 31 && bit b 31) ((f32Val a).add (f32Val b))

def f32Sub (a b : Nat) : Nat := f32Add a (f32Neg b)

def f32Mul (a b : Nat) : Nat := f32Round (bit a 31 != bit b 31) ((f32Val a).mul (f32Val b))

/-- A quotient. -/
def f32Div (a b : Nat) : Nat :=
  let neg := bit a 31 != bit b 31
  f32Round neg (match f32Val a, f32Val b with
    | .nan, _ => .nan
    | _, .nan => .nan
    | .inf _, .inf _ => .nan
    | .inf _, .fin _ _ => .inf neg
    | .fin _ _, .inf _ => zero
    | .fin m e, .fin n f =>
      if n = 0 then (if m = 0 then .nan else .inf neg)
      else quotSticky (if decide (n < 0) then -m else m) n.natAbs (e - f))

/-- floor(sqrt n) by bits, from bit k − 1 down. -/
def isqrtFrom (n : Nat) : Nat → Nat → Nat
  | 0, r => r
  | k + 1, r => if (r + 2 ^ k) * (r + 2 ^ k) ≤ n then isqrtFrom n k (r + 2 ^ k) else isqrtFrom n k r

def isqrt (n : Nat) : Nat := isqrtFrom n (Nat.log2 n / 2 + 1) 0

/-- The square root of m × 2^e with its last bit standing for any remainder. -/
def sqrtSticky (m : Nat) (e : Int) : Num :=
  let e2 := if e % 2 = 0 then e else e - 1
  let n := (if e % 2 = 0 then m else 2 * m) * 2 ^ 80
  let r := isqrt n
  .fin (2 * (r : Int) + (if r * r = n then 0 else 1)) (e2 / 2 - 41)

/-- A square root: of −0 it is −0, below zero NaN. -/
def f32Sqrt (a : Nat) : Nat :=
  f32Round (bit a 31) (match f32Val a with
    | .nan => .nan
    | .inf n => if n then .nan else .inf false
    | .fin m e => if m = 0 then zero else if m < 0 then .nan else sqrtSticky m.natAbs e)

/-- Comparisons; both false with a NaN. -/
def f32Lt (a b : Nat) : Bool := (f32Val a).lt (f32Val b)
def f32Le (a b : Nat) : Bool := !(f32Val a).isNan && !(f32Val b).isNan && !(f32Lt b a)

/-- Whether an encoding is a positive normal value. -/
def f32PosNormal (a : Nat) : Bool := decide (0x00800000 ≤ a) && decide (a < 0x7F800000)

/-- The larger and the smaller of two values, the first unless the second is beyond it. -/
def f32Max (a b : Nat) : Nat := if f32Lt a b then b else a
def f32Min (a b : Nat) : Nat := if f32Lt b a then b else a

/-- An element of a format as binary32: exact, or rounded from A48, whose zero has no sign. -/
def toF32 (f v : Nat) : Nat := f32Round (f != 10 && signOf (fmtBits f) v) (decodeElem f v)

/-- A binary32 rounded into FP32 or BF16. -/
def fromF32 (f v : Nat) : Nat := fpEncode f (bit v 31) (f32Val v)

end Sys2Proof.Machine
end

