-- ==== Sys2Proof/Machine/Coefs.lean ====
section
/-! DEFINITION. The Lathe's coefficients: the polynomial of R99, the conditions R100 and R102 set on a table, and the table the part holds (R97 to R103). -/

namespace Sys2Proof.Machine

/-- The polynomial of R99 at h × 2^-b: each product truncated toward minus infinity to 44 fraction bits. -/
def poly (c : Nat → Int) (h : Int) (b : Nat) : Int :=
  let y2 := (c 3 * h) / 2 ^ b + c 2
  let y1 := (y2 * h) / 2 ^ b + c 1
  (y1 * h) / 2 ^ b + c 0

/-- The fraction log2 m of an argument with 48-bit significand sig, before the exponent is added: a numerator and the power of 2 it is divided by (R98, R99). -/
def log2Frac (c : Nat → Nat → Int) (sig : Nat) : Int × Nat :=
  let f : Int := sig - 2 ^ 47
  let j := (f / 2 ^ 41).toNat
  if j = 0 then (f * poly (c j) f 47, 91)
  else if j = 63 then (2 ^ 92 + ((sig : Int) - 2 ^ 48) * poly (c j) (sig - 2 ^ 48) 48, 92)
  else (poly (c j) (rneInt (f % 2 ^ 41) (-7)) 40, 44)

/-- The value of exp2's segments at n × 2^-40, in units of 2^-44 (R97, R99). -/
def exp2Frac (c : Nat → Nat → Int) (n : Nat) : Int := poly (c (n / 2 ^ 34)) (n % 2 ^ 34 : Nat) 40

/-- exp2 at n × 2^-40 lies within 2^-27 relative of the exact power (R100), and the next value, or twice 1 after the last one, is no less (R102). Powers of 2^40 clear the fractions. -/
def exp2At (c : Nat → Nat → Int) (n : Nat) : Bool :=
  let y := exp2Frac c n
  let v := y.toNat * 2 ^ 27
  let d := 2 ^ 40
  decide (0 < y) && decide (v ^ d ≤ (2 ^ 27 + 1) ^ d * 2 ^ (44 * d + n)) && decide ((2 ^ 27 - 1) ^ d * 2 ^ (44 * d + n) ≤ v ^ d)
    && (if n + 1 = d then decide (y ≤ 2 ^ 45) else decide (y ≤ exp2Frac c (n + 1)))

/-- log2 of a significand lies within 2^-27 relative of the exact logarithm whatever the exponent (R100): within 2^-27 × log2 m, which binds for an exponent of 0, and within 2^-27 × (1 − log2 m), which binds for −1; and the next value, or 1 after the last one, is no less (R102). -/
def log2At (c : Nat → Nat → Int) (sig : Nat) : Bool :=
  let q := log2Frac c sig
  let b : Nat := 2 ^ q.2
  let v := 2 ^ (q.1.toNat * 2 ^ 27)
  let up := (2 ^ 27 + 1) * b
  let down := (2 ^ 27 - 1) * b
  (sig == 2 ^ 47 || decide (0 < q.1)) && decide (v * 2 ^ (47 * up) ≤ sig ^ up) && decide (sig ^ down ≤ v * 2 ^ (47 * down))
    && decide (v * 2 ^ (47 * down) ≤ sig ^ down * 2 ^ b) && decide (sig ^ up ≤ v * 2 ^ (47 * up + b))
    && (if sig + 1 = 2 ^ 48 then decide (q.1 ≤ b)
        else
          let r := log2Frac c (sig + 1)
          decide (q.1 * 2 ^ r.2 ≤ r.1 * b))

/-- Whether a test holds of the 2^k numbers from a base on. -/
def allFrom (p : Nat → Bool) : Nat → Nat → Bool
  | 0, n => p n
  | k + 1, n => allFrom p k (n + 2 ^ k) && allFrom p k n

/-- What R100 and R102 ask of a table of exp2 and of a table of log2 (of the latter the middle significand first). -/
def exp2Fits (c : Nat → Nat → Int) : Bool := allFrom (exp2At c) 40 0
def log2Fits (c : Nat → Nat → Int) : Bool := log2At c (3 * 2 ^ 46) && allFrom (log2At c) 47 (2 ^ 47)

-- Rows of exp2: c0, c1, c2, c3 of each segment, eight segments a list.

def expRow0 : List (List Int) := [
  [17592186044416, 12193974278123, 4226060151917, 981742370252],
  [17783752390529, 12326757952144, 4272078929783, 992432843751],
  [17977404757382, 12460987545575, 4318598819285, 1003239728874],
  [18173165860253, 12596678803446, 4365625277170, 1014164293260],
  [18371058661770, 12733847642238, 4413163819608, 1025207818352],
  [18571106374611, 12872510151753, 4461220022833, 1036371599549],
  [18773332464220, 13012682596999, 4509799523801, 1047656946352],
  [18977760651567, 13154381420097, 4558908020851, 1059065182525]]

def expRow1 : List (List Int) := [
  [19184414915922, 13297623242214, 4608551274374, 1070597646245],
  [19393319497676, 13442424865506, 4658735107484, 1082255690261],
  [19604498901179, 13588803275095, 4709465406709, 1094040682054],
  [19817977897614, 13736775641058, 4760748122673, 1105954003993],
  [20033781527907, 13886359320442, 4812589270801, 1117997053502],
  [20251935105662, 14037571859299, 4864994932020, 1130171243223],
  [20472464220128, 14190430994746, 4917971253475, 1142478001178],
  [20695394739204, 14344954657044, 4971524449248, 1154918770940]]

def expRow2 : List (List Int) := [
  [20920752812472, 14501160971704, 5025660801089, 1167495011803],
  [21148564874264, 14659068261606, 5080386659151, 1180208198951],
  [21378857646763, 14818695049158, 5135708442736, 1193059823630],
  [21611658143137, 14980060058462, 5191632641047, 1206051393326],
  [21846993670709, 15143182217510, 5248165813950, 1219184431941],
  [22084891834159, 15308080660409, 5305314592745, 1232460479970],
  [22325380538762, 15474774729623, 5363085680940, 1245881094684],
  [22568487993662, 15643283978239, 5421485855039, 1259447850311]]

def expRow3 : List (List Int) := [
  [22814242715179, 15813628172266, 5480521965340, 1273162338220],
  [23062673530158, 15985827292950, 5540200936733, 1287026167111],
  [23313809579345, 16159901539116, 5600529769517, 1301040963201],
  [23567680320809, 16335871329542, 5661515540219, 1315208370414],
  [23824315533397, 16513757305353, 5723165402422, 1329530050577],
  [24083745320226, 16693580332440, 5785486587611, 1344007683612],
  [24346000112215, 16875361503907, 5848486406011, 1358642967735],
  [24611110671651, 17059122142549, 5912172247456, 1373437619652]]

def expRow4 : List (List Int) := [
  [24879108095805, 17244883803350, 5976551582245, 1388393374767],
  [25150023820571, 17432668276013, 6041631962027, 1403511987377],
  [25423889624160, 17622497587515, 6107421020681, 1418795230885],
  [25700737630825, 17814394004691, 6173926475213, 1434244898002],
  [25980600314627, 18008380036845, 6241156126664, 1449862800965],
  [26263510503247, 18204478438394, 6309117861020, 1465650771740],
  [26549501381839, 18402712211532, 6377819650143, 1481610662246],
  [26838606496916, 18603104608930, 6447269552700, 1497744344564]]

def expRow5 : List (List Int) := [
  [27130859760290, 18805679136467, 6517475715111, 1514053711164],
  [27426295453048, 19010459555980, 6588446372508, 1530540675123],
  [27724948229575, 19217469888060, 6660189849695, 1547207170348],
  [28026853121615, 19426734414861, 6732714562127, 1564055151807],
  [28332045542386, 19638277682954, 6806029016898, 1581086595756],
  [28640561290726, 19852124506207, 6880141813739, 1598303499970],
  [28952436555302, 20068299968689, 6955061646025, 1615707883978],
  [29267707918847, 20286829427619, 7030797301796, 1633301789303]]

def expRow6 : List (List Int) := [
  [29586412362453, 20507738516339, 7107357664787, 1651087279695],
  [29908587269911, 20731053147317, 7184751715471, 1669066441380],
  [30234270432095, 20956799515191, 7262988532111, 1687241383300],
  [30563500051395, 21185004099840, 7342077291827, 1705614237361],
  [30896314746196, 21415693669489, 7422027271671, 1724187158685],
  [31232753555410, 21648895283852, 7502847849716, 1742962325863],
  [31572855943057, 21884636297301, 7584548506154, 1761941941207],
  [31916661802890, 22122944362080, 7667138824411, 1781128231011]]

def expRow7 : List (List Int) := [
  [32264211463078, 22363847431545, 7750628492268, 1800523445813],
  [32615545690932, 22607373763443, 7835027303001, 1820129860657],
  [32970705697692, 22853551923231, 7920345156526, 1839949775361],
  [33329733143361, 23102410787420, 8006592060563, 1859985514786],
  [33692670141586, 23353979546969, 8093778131810, 1880239429108],
  [34059559264603, 23608287710701, 8181913597126, 1900713894098],
  [34430443548230, 23865365108774, 8271008794736, 1921411311393],
  [34805366496914, 24125241896171, 8361074175438, 1942334108786]]

/-- A table of exp2 coefficients by segment. -/
def expRow : List (List Int) := expRow0 ++ expRow1 ++ expRow2 ++ expRow3 ++ expRow4 ++ expRow5 ++ expRow6 ++ expRow7

-- Rows of log2.

def logRow0 : List (List Int) := [
  [25380159562372, -12690075063318, 8458539786186, -6189209589076],
  [393498730536, 24989691976233, -12301214444501, 7908950675015],
  [780989611738, 24611058917250, -11931049967895, 7545470477149],
  [1162653337014, 24243730825291, -11577731119239, 7219686945987],
  [1538662577572, 23887205800246, -11239785915636, 6909160455171],
  [1909182436202, 23541014546406, -10916390559583, 6615064525042],
  [2274370888548, 23204714463801, -10606753847145, 6337425890629],
  [2634379187896, 22877887616127, -10310106259072, 6075109302895]]

def logRow1 : List (List Int) := [
  [2989352240819, 22560139285720, -10025731330657, 5827072204633],
  [3339428957366, 22251096383247, -9752961322222, 5592356019712],
  [3684742577431, 21950405986333, -9491173296239, 5370078365436],
  [4025420975214, 21657733995100, -9239785558040, 5159426079418],
  [4361586943519, 21372763893845, -8998254422087, 4959648966354],
  [4693358459465, 21095195609220, -8766071270225, 4770054182165],
  [5020848933057, 20824744456230, -8542759872166, 4590001183334],
  [5344167439920, 20561140164291, -8327873941826, 4418897178247]]

def logRow2 : List (List Int) := [
  [5663418939397, 20304125976331, -8120994906088, 4256193025094],
  [5978704479097, 20053457814625, -7921729865141, 4101379527606],
  [6290121386896, 19808903507663, -7729709725836, 3953984085744],
  [6597763451296, 19570242072910, -7544587491468, 3813567663534],
  [6901721090989, 19337263050799, -7366036693204, 3679722040649],
  [7202081514386, 19109765885731, -7193749949885, 3552067318225],
  [7498928869807, 18887559350265, -7027437644352, 3430249652747],
  [7792344387004, 18670461009018, -6866826705630, 3313939194815]]

def logRow3 : List (List Int) := [
  [8082406510585, 18458296719116, -6711659487416, 3202828212178],
  [8369191025903, 18250900164323, -6561692734256, 3096629378723],
  [8652771177913, 18048112420229, -6416696627669, 2995074213072],
  [8933217783460, 17849781548109, -6276453905226, 2897911652246],
  [9210599337429, 17655762215261, -6140759046273, 2804906747386],
  [9484982113165, 17465915339848, -6009417518612, 2715839469912],
  [9756430257511, 17280107758404, -5882245080957, 2630503617690],
  [10025005880824, 17098211914342, -5759067136517, 2548705811912]]

def logRow4 : List (List Int) := [
  [10290769142281, 16920105565928, -5639718133454, 2470264576284],
  [10553778330754, 16745671512321, -5524041008379, 2395009491013],
  [10814089941550, 16574797336386, -5411886669383, 2322780414834],
  [11071758749245, 16407375163090, -5303113515437, 2253426768964],
  [11326837876865, 16243301432397, -5197586989253, 2186806877511],
  [11579378861621, 16082476685659, -5095179160978, 2122787359363],
  [11829431717405, 15924805364562, -4995768340318, 2061242567096],
  [12077044994241, 15770195621795, -4899238714881, 2002054068839]]

def logRow5 : List (List Int) := [
  [12322265834864, 15618559142632, -4805480012750, 1945110169433],
  [12565140028584, 15469810976716, -4714387187434, 1890305467570],
  [12805712062608, 15323869379361, -4625860123524, 1837540445889],
  [13044025170944, 15180655661758, -4539803361518, 1786721091303],
  [13280121381033, 15040094049494, -4456125840386, 1737758543071],
  [13514041558235, 14902111548870, -4374740656596, 1690568766345],
  [13745825448280, 14766637820500, -4295564838403, 1645072249153],
  [13975511717798, 14633605059749, -4218519134301, 1601193720927]]

def logRow6 : List (List Int) := [
  [14203137993031, 14502947883577, -4143527814643, 1558861890874],
  [14428740896832, 14374603223384, -4070518485483, 1518009204632],
  [14652356084020, 14248510223507, -3999421913811, 1478571617782],
  [14874018275204, 14124610144995, -3930171863367, 1440488384916],
  [15093761289135, 14002846274381, -3862704940322, 1403701863064],
  [15311618073676, 13883163837119, -3796960448153, 1368157328404],
  [15527620735444, 13765509915426, -3732880251089, 1333802805232],
  [15741800568213, 13649833370266, -3670408645554, 1300588906300]]

def logRow7 : List (List Int) := [
  [15954188080119, 13536084767238, -3609492239074, 1268468683657],
  [16164813019744, 13424216306136, -3550079836165, 1237397489241],
  [16373704401118, 13314181753973, -3492122330741, 1207332844501],
  [16580890527709, 13205936381273, -3435572604610, 1178234318394],
  [16786399015435, 13099436901445, -3380385431689, 1150063413167],
  [16990256814756, 12994641413070, -3326517387554, 1122783457354],
  [17192490231884, 12891509325122, -3273916898050, 1095756512041],
  [25380159564525, -12690080395275, 8459661339300, -6425068546926]]

/-- A table of log2 coefficients by segment. -/
def logRow : List (List Int) := logRow0 ++ logRow1 ++ logRow2 ++ logRow3 ++ logRow4 ++ logRow5 ++ logRow6 ++ logRow7

/-- A coefficient of a table of rows. -/
def rowCoef (t : List (List Int)) (i k : Nat) : Int := (t.getD i []).getD k 0

/-- The exp2 table drawn for the part: c0 of segment 0 is exactly 1 (R97). -/
def drawnExp2 (i k : Nat) : Int := if i = 0 ∧ k = 0 then 2 ^ 44 else (Config.exp2Coef i k).toInt

/-- The log2 table drawn for the part. -/
def drawnLog2 (i k : Nat) : Int := (Config.log2Coef i k).toInt

/-- The coefficients of exp2 in units of 2^-44 (R99, R103; log entry 8): the drawn table where it meets R100 and R102, else one that does, so that every table the model admits meets them. -/
def exp2C (i k : Nat) : Int := if exp2Fits drawnExp2 then drawnExp2 i k else rowCoef expRow i k

/-- The coefficients of log2. -/
def log2C (i k : Nat) : Int := if log2Fits drawnLog2 then drawnLog2 i k else rowCoef logRow i k

end Sys2Proof.Machine
end

