-- ==== Sys2Proof/Machine/Lathe.lean ====
section
/-! DEFINITION. The Lathe: exp2 and log2 with the coefficients the part holds, the composed activations and their derivatives, and the row statistics (R93 to R118, R477). -/

namespace Sys2Proof.Machine

-- Constants (R103): 48-bit significands ----------------------------------------------------------------

def kLog2e : Num := .fin 203041276517400 (-47)
def kLn2 : Num := .fin 195103586505167 (-48)
def kRoot : Num := .fin 224584538169779 (-48)
def kGelu : Num := .fin 201378457337872 (-52)
def kGelu3 : Num := .fin 151033843003404 (-50)

-- LX and polynomials (R94 to R99) ------------------------------------------------------------------------

/-- An exact value rounded once to LX in units of 2^-40, saturating at the ends of the range (R94, R95). -/
def toLx (m e : Int) : Int := max (-(2 ^ 55)) (min (2 ^ 55 - 1) (rneInt m (e + 40)))

/-- A Lathe result: 24 bits, the range of ACC48, OVF on overflow (R96). -/
def l24 (v : Num) : Fl Num := roundFl 24 v

/-- exp2 of an LX argument (R97, R101). -/
def exp2Lx (x : Int) : Fl Num :=
  if 512 * 2 ^ 40 ≤ x then do
    setFlag flOvf
    pure (.inf false)
  else if x < -510 * 2 ^ 40 then pure zero
  else
    let f := x % 2 ^ 40
    l24 (.fin (poly (exp2C (f / 2 ^ 34).toNat) (f % 2 ^ 34) 40) (x / 2 ^ 40 - 44))

/-- exp2 of an exact argument K × (a − c) (R95, R101). -/
def exp2 (v : Num) : Fl Num :=
  match v with
  | .nan => pure .nan
  | .inf true => pure zero
  | .inf false => pure (.inf false)
  | .fin m e => exp2Lx (toLx m e)

/-- The exact value of log2 of a positive finite argument before its rounding (R98, R99). -/
def log2Value (m : Nat) (e : Int) : Num :=
  let l := Nat.log2 m
  let q := log2Frac log2C (if l ≤ 47 then m * 2 ^ (47 - l) else m / 2 ^ (l - 47))
  Num.add (.fin ((l : Int) + e) 0) (.fin q.1 (-q.2))

/-- log2 of any argument, exact (R98, R101). -/
def log2Exact (v : Num) : Num :=
  match v with
  | .nan => .nan
  | .inf n => if n then .nan else .inf false
  | .fin m e => if m = 0 then .inf true else if m < 0 then .nan else log2Value m.toNat e

/-- log2 with its constant K_out, one rounding (R96). -/
def log2K (k v : Num) : Fl Num := l24 (k.mul (log2Exact v))

/-- exp2 of a chained logarithm: rounded to LX, multiplied by −1 or −1/2, rounded to LX again (R96). An infinite logarithm is passed on as an infinity and not saturated to LX, which R96 leaves open: 1/0 is +infinity without OVF, 1/infinity is +0 (log entry 169). -/
def chain (half : Bool) (v : Num) : Fl Num :=
  match log2Exact v with
  | .fin m e =>
    let x := -(toLx m e)
    exp2Lx (if half then toLx x (-41) else max (-(2 ^ 55)) (min (2 ^ 55 - 1) x))
  | w => exp2 w.negate

/-- The reciprocal (ACT 8, R106). -/
def recip (v : Num) : Fl Num := chain false v

-- Activations (R105, R477) ---------------------------------------------------------------------------------

/-- t and σ of z (R105). -/
def sigmaT (z : Num) : Fl (Num × Num) := do
  let t ← exp2 (kLog2e.negate.mul z)
  let w ← add48 one t
  let s ← chain false w
  pure (t, s)

/-- K × z³ as R477 orders it. -/
def cube48 (k z : Num) : Fl Num := do
  let a ← mul48 k z
  let b ← mul48 a z
  mul48 b z

/-- √(2/π) × (z + 0.044715 × z³). -/
def geluArg (root z : Num) : Fl Num := do
  let c ← cube48 kGelu z
  let a ← add48 z c
  mul48 root a

/-- The activation f(v) with row offset c (R105). -/
def activate (act : Nat) (c v : Num) : Fl Num :=
  match act with
  | 0 => pure v
  | 1 => pure (v.max zero)
  | 2 => do
    let a ← geluArg (kRoot.mul (.fin 2 0)) v
    let p ← sigmaT a
    mul48 v p.2
  | 3 => do
    let p ← sigmaT v
    mul48 v p.2
  | 4 => do
    let p ← sigmaT v
    pure p.2
  | 5 =>
    if v.isNan then pure .nan
    else if (Num.fin (-17) 0).lt v then
      if v.lt (.fin 17 0) then do
        let t ← exp2 (kLog2e.mul v)
        let w ← add48 one t
        log2K kLn2 w
      else pure v
    else exp2 (kLog2e.mul v)
  | 6 => exp2 (kLog2e.mul v)
  | 7 => exp2 (v.add c.negate)
  | 8 => recip v
  | 9 => chain true v
  | 10 => log2K kLn2 v
  | _ => log2K one v

/-- The derivative f′(z) (R112). -/
def derivative (act : Nat) (z : Num) : Fl Num :=
  if z.isNan then pure .nan
  else
    match act with
    | 1 => pure (if zero.lt z then one else zero)
    | 2 => do
      let y ← geluArg kRoot z
      let q ← mul48 kGelu3 z
      let q2 ← mul48 q z
      let w ← add48 one q2
      let y' ← mul48 kRoot w
      let yy ← mul48 (.fin 2 0) y
      let p ← sigmaT yy
      let a ← mul48 (.fin 2 0) z
      let b ← mul48 a y'
      let c ← mul48 b p.1
      let d ← mul48 c p.2
      let e ← mul48 d p.2
      add48 p.2 e
    | 3 => do
      let p ← sigmaT z
      let a ← mul48 z p.1
      let b ← mul48 a p.2
      let c ← mul48 b p.2
      add48 p.2 c
    | 4 => do
      let p ← sigmaT z
      let a ← mul48 p.1 p.2
      mul48 a p.2
    | 5 => do
      let p ← sigmaT z
      pure p.2
    | _ => exp2 (kLog2e.mul z)

/-- Lathe operations per element (R105, R112). -/
def latheOps (act : Nat) (deriv : Bool) : Nat :=
  if deriv then (if act = 1 then 0 else if act = 6 then 1 else 3)
  else match act with
    | 0 => 0
    | 1 => 0
    | 2 => 3
    | 3 => 3
    | 4 => 3
    | 5 => 2
    | 6 => 1
    | 7 => 1
    | 8 => 2
    | 9 => 2
    | _ => 1

-- Row statistics (R114 to R118) -----------------------------------------------------------------------------

/-- A row statistics record (R114). -/
structure RowRec where
  count : Nat
  nan : Bool
  inf : Bool
  max : Num
  sum : Num
  mean : Num
  m2 : Num
  var : Num
  deriving DecidableEq, Repr

/-- The record of a row with no value. -/
def emptyRec : RowRec := ⟨0, false, false, .inf true, zero, zero, zero, zero⟩

/-- The 48 bytes of a record. A COUNT beyond 32 bits, which only chained records reach, is stored modulo 2^32: R114 is silent (log entry 170). -/
def recBytes (r : RowRec) (partial_ : Bool) : List Byte :=
  toLE 4 r.count ++ toLE 1 (b2n r.nan + 2 * b2n r.inf + 4 * b2n partial_) ++ toLE 3 0
    ++ toLE 8 (a48Encode r.max) ++ toLE 8 (a48Encode r.sum) ++ toLE 8 (a48Encode r.mean) ++ toLE 8 (a48Encode r.m2)
    ++ toLE 8 (if partial_ then 0 else a48Encode r.var)

/-- A record from its bytes. -/
def recOf (b : List Byte) : RowRec :=
  ⟨fld b 0 4, bit (fld b 4 1) 0, bit (fld b 4 1) 1, a48Decode (fld b 8 8), a48Decode (fld b 16 8), a48Decode (fld b 24 8),
    a48Decode (fld b 32 8), a48Decode (fld b 40 8)⟩

/-- A record in which a NaN, or an infinity and no NaN, was seen (R116, R118). -/
def specialRec (n : Nat) (nan : Bool) (mx sum mean : Num) : RowRec :=
  if nan then ⟨n, true, false, .nan, .nan, .nan, .nan, .nan⟩ else ⟨n, false, true, mx, sum, mean, .nan, .nan⟩

/-- The sum of squared deviations of R115. -/
def devs (mean : Num) : List Num → Num → Fl Num
  | [], m2 => pure m2
  | v :: r, m2 => do
    let d ← sub48 v mean
    let q ← mul48 d d
    let s ← add48 m2 q
    devs mean r s

/-- The partial record of one row of one output block (R115, R118). -/
def partialRec (vs : List Num) : Fl RowRec := do
  let c := vs.length
  let exact := vs.foldl Num.add zero
  let sum ← r48 exact
  let mean ← divCount exact c
  let mx := vs.foldl (fun a v => if a.lt v then v else a) (.inf true)
  let nan := vs.any Num.isNan
  if c = 0 then pure emptyRec
  else if nan || vs.any Num.isInf then
    pure { specialRec c nan mx sum mean with inf := vs.any Num.isInf }
  else do
    let m2 ← devs mean vs zero
    pure ⟨c, false, false, mx, sum, mean, m2, zero⟩

/-- Two records merged, the first earlier in N order (R116). -/
def mergeRec (a b : RowRec) : Fl RowRec :=
  if a.count = 0 then pure b
  else if b.count = 0 then pure a
  else do
    let n := a.count + b.count
    let nan := a.nan || b.nan
    let inf := a.inf || b.inf
    let mx := a.max.max b.max
    let sum ← add48 a.sum b.sum
    if nan || inf then do
      let mean ← add48 a.mean b.mean
      pure { specialRec n nan mx sum mean with inf := inf }
    else do
      let delta ← sub48 b.mean a.mean
      let q ← r48 (quotSticky b.count n 0)
      let dq ← mul48 delta q
      let mean ← add48 a.mean dq
      let s2 ← add48 a.m2 b.m2
      let d2 ← mul48 delta delta
      let r ← r48 (quotSticky (a.count * b.count : Nat) n 0)
      let t ← mul48 d2 r
      let m2 ← add48 s2 t
      pure ⟨n, false, false, mx, sum, mean, m2, zero⟩

/-- A value of the online state brought from one running maximum to the next: multiplied by exp2(m − m_new) when the maximum rises (R120, R121). -/
def raised (m mNew v : Num) : Fl Num :=
  if m.lt mNew then do
    let f ← exp2 (m.add mNew.negate)
    mul48 v f
  else pure v

/-- The online m and ℓ of a row of a product over its output blocks, each given as scores with their p (R119, R120; log entry 171). -/
def onlineSums : Num → Num → List (List (Num × Num)) → Fl (Num × Num)
  | m, l, [] => pure (m, l)
  | m, l, b :: rest => do
    let n := (b.map Prod.fst).foldl Num.max m
    let x ← raised m n l
    let sum ← r48 ((b.map Prod.snd).foldl Num.add zero)
    let y ← add48 x sum
    onlineSums n y rest

/-- Two records of ONLINE mode merged: the larger m, and the ℓ of both brought to it; MEAN, M2 and VAR are +0 (R119; log entry 171). -/
def mergeOnline (a b : RowRec) : Fl RowRec := do
  let m := a.max.max b.max
  let x ← raised a.max m a.sum
  let y ← raised b.max m b.sum
  let l ← add48 x y
  pure ⟨a.count + b.count, a.nan || b.nan, a.inf || b.inf, m, l, zero, zero, zero⟩

/-- Merge records of ONLINE mode in order. -/
def mergeOnlines : RowRec → List RowRec → Fl RowRec
  | a, [] => pure a
  | a, b :: r => do
    let c ← mergeOnline a b
    mergeOnlines c r

/-- The final record of a row: VAR is formed, clamped at +0 (R116, R117). -/
def finalRec (r : RowRec) : Fl RowRec :=
  if r.count = 0 then pure r
  else if r.nan || r.inf then pure { r with var := .nan }
  else do
    let v ← divCount r.m2 r.count
    pure { r with var := v.max zero }

/-- Merge records in order. -/
def mergeRecs : RowRec → List RowRec → Fl RowRec
  | a, [] => pure a
  | a, b :: r => do
    let c ← mergeRec a b
    mergeRecs c r

end Sys2Proof.Machine
end

