-- ==== Sys2Proof/Machine/CellArray.lean ====
section
/-! DEFINITION. The cell array: the aligner, exact block sums, canonical accumulation, diagonal products; the drain epilogue; the nominal time of an output block (R56 to R91, R105 to R113). -/

namespace Sys2Proof.Machine

-- Control words (R61, R62, R110) ------------------------------------------------------------------------

def ncwFmt (c : Nat) : Nat := bits c 3 0
def ncwMx (c : Nat) : Bool := bit c 10
def ncwGuard (c : Nat) : Bool := bit c 9
def ncwWidth (c : Nat) : Nat := bits c 8 4

/-- The effective width of an operand (R69). -/
def effWidth (c : Nat) : Nat := (if ncwWidth c = 0 then fmtWidth (ncwFmt c) else ncwWidth c) + 4 * b2n (ncwGuard c)

/-- Whether an operand's control word breaks R63. -/
def ncwBad (c : Nat) : Bool :=
  bits c 15 11 != 0 || decide (9 < ncwFmt c) || decide (fmtWidth (ncwFmt c) < ncwWidth c)
    || (ncwMx c && (decide (ncwFmt c < 3) || decide (8 < ncwFmt c)))

/-- Whether a preload's control word breaks R63. -/
def preBad (c : Nat) : Bool := bits c 15 4 != 0 || decide (10 < ncwFmt c)

def dcwFmt (c : Nat) : Nat := bits c 3 0
def dcwSat (c : Nat) : Bool := bit c 4
def dcwMx (c : Nat) : Bool := bit c 5

/-- Whether a destination control word breaks R63. -/
def dcwBad (c : Nat) : Bool :=
  bits c 15 6 != 0 || decide (10 < dcwFmt c) || (dcwMx c && (decide (dcwFmt c < 3) || decide (8 < dcwFmt c)))

def epOnline (c : Nat) : Bool := bit c 24
def epStatIn (c : Nat) : Bool := bit c 23
def epStatEn (c : Nat) : Bool := bit c 22
def epStatSrc (c : Nat) : Bool := bit c 21
def epDeriv (c : Nat) : Bool := bit c 20
def epRecip (c : Nat) : Bool := bit c 19
def epOscale (c : Nat) : Nat := bits c 18 17
def epBias (c : Nat) : Bool := bit c 16
def epScale (c : Nat) : Nat := bits c 15 14
def epAct (c : Nat) : Nat := bits c 13 10

/-- Whether an epilogue control word breaks R111. -/
def epBad (c : Nat) : Bool :=
  bits c 31 25 != 0 || bits c 9 0 != 0 || decide (12 ≤ epAct c)
    || (epDeriv c && (epAct c == 0 || decide (7 ≤ epAct c)))
    || (epAct c == 7 && !epStatIn c && !epOnline c)
    || (epOnline c && (epAct c != 7 || !epStatEn c || epStatSrc c))
    || (epRecip c && epOscale c == 0)

-- The aligner (R66) -----------------------------------------------------------------------------------------

/-- A block after alignment: original values, signed significands, exponent of the quantum. -/
structure Blk where
  vals : List Num
  q : List Int
  ue : Int
  deriving DecidableEq, Repr

/-- A significand at a block exponent: rne(|x| × 2^(W−1−e)) with the sign. -/
def significand (w : Nat) (eb : Int) (v : Num) : Int :=
  match v with
  | .fin m e => rneInt m (e + w - 1 - eb)
  | _ => 0

/-- Align a block to width w (R66). -/
def alignBlk (w : Nat) (vals : List Num) : Blk :=
  let es := vals.filterMap fun v => match v with
    | .fin m e => if m = 0 then none else some (elog m e)
    | _ => none
  match es with
  | [] => ⟨vals, vals.map fun _ => 0, 0⟩
  | x :: r =>
    let e0 := r.foldl max x
    let eb := if (vals.map (significand w e0)).any fun q => decide (q.natAbs = 2 ^ w) then e0 + 1 else e0
    ⟨vals, vals.map (significand w eb), eb - w + 1⟩

/-- The input flags of a block within the declared extent (R81). -/
def blkFlags (b : Blk) : Fl Unit := do
  flagIf (b.vals.any Num.isNan) flNanIn
  flagIf (b.vals.any Num.isInf) flInfIn
  flagIf ((b.vals.zip b.q).any fun p => match p.1 with
    | .fin m _ => m != 0 && p.2 == 0
    | _ => false) flFlush

/-- A block sum: NaN and infinity from the original values, else exact (R71, R76 to R78). -/
def blkDot (a b : Blk) : Num :=
  if a.vals.any Num.isNan || b.vals.any Num.isNan then .nan
  else if a.vals.any Num.isInf || b.vals.any Num.isInf then
    ((a.vals.zip b.vals).filter fun p => p.1.isInf || p.2.isInf).foldl (fun acc p => acc.add (p.1.mul p.2)) zero
  else .fin ((a.q.zip b.q).map fun p => p.1 * p.2).sum (a.ue + b.ue)

/-- Cut a list into pieces of n elements; k bounds how many. -/
def chunks {α : Type} (n : Nat) : Nat → List α → List (List α)
  | 0, _ => []
  | k + 1, l => if l.isEmpty then [] else l.take n :: chunks n k (l.drop n)

/-- The K blocks of a row: blocks of 32 from K index 0 (R56). -/
def kBlocks (l : List Num) : List (List Num) := chunks 32 (l.length / 32 + 1) l

/-- Align a row's blocks and set its input flags. -/
def alignRow (w : Nat) (l : List Num) : Fl (List Blk) :=
  (kBlocks l).mapM fun b => do
    let k := alignBlk w b
    blkFlags k
    pure k

/-- Accumulate block sums in ascending K order, one rne48 step each (R73). -/
def accumulate : Num → List Num → Fl Num
  | acc, [] => pure acc
  | acc, s :: r => do
    let a ← add48 acc s
    accumulate a r

/-- The outputs of a row: one per stationary column. -/
def rowProduct (a : List Blk) (bs : List (List Blk)) (init : List Num) : Fl (List Num) :=
  (bs.zipIdx).mapM fun c => accumulate (init.getD c.2 zero) ((a.zip c.1).map fun p => blkDot p.1 p.2)

/-- A product of serial rows and stationary columns cut to the declared extents (R56, R73, R74, R90). -/
def matProduct (p s : Nat) (rows cols : List (List Num)) (init : List (List Num)) : Fl (List (List Num)) := do
  let a ← rows.mapM (alignRow p)
  let b ← cols.mapM (alignRow s)
  (a.zipIdx).mapM fun r => rowProduct r.1 b (init.getD r.2 [])

/-- One output of diagonal mode: each element is a block of its own (R87). -/
def diagElem (p s : Nat) (a d c : Num) : Fl Num := do
  let x := alignBlk p [a]
  let y := alignBlk s [d]
  blkFlags x
  blkFlags y
  add48 c (blkDot x y)

/-- The outputs of a tile in diagonal mode; one row of d serves every row when only one is given (R87, R136). -/
def diagProduct (p s : Nat) (rows ds : List (List Num)) (init : List (List Num)) : Fl (List (List Num)) :=
  (rows.zipIdx).mapM fun r =>
    let d := if ds.length ≤ 1 then ds.getD 0 [] else ds.getD r.2 []
    (r.1.zipIdx).mapM fun e => diagElem p s e.1 (d.getD e.2 zero) ((init.getD r.2 []).getD e.2 zero)

-- The drain epilogue (R109) --------------------------------------------------------------------------------------

/-- The operands an epilogue reads, by global row and column. -/
structure EpiIn where
  scale : List Num
  bias : List Num
  oscale : List Num
  /-- saved pre-activations and row offsets by row of the tile -/
  z : List (List Num)
  offset : List Num
  deriving DecidableEq, Repr

/-- The element a source field names (R110, R133): scalar, vector along N or along M. -/
def pick (v : List Num) (src m n : Nat) : Num := v.getD (if src = 1 then 0 else if src = 2 then n else m) zero

/-- The epilogue of one output up to the bias, the first tap (R109). -/
def epiBiased (cw : Nat) (x : EpiIn) (m0 n0 i j : Nat) (acc : Num) : Fl Num := do
  let v ← if epScale cw = 0 then pure acc else mul48 acc (pick x.scale (epScale cw) (m0 + i) (n0 + j))
  if epBias cw then add48 v (pick x.bias 2 (m0 + i) (n0 + j)) else pure v

/-- A value times the output scale, or its reciprocal (R109, R106). -/
def epiScaled (cw : Nat) (c v : Num) : Fl Num :=
  if epOscale cw = 0 then pure v
  else if epRecip cw then do
    let r ← recip c
    mul48 v r
  else mul48 v c

/-- Online exp2 of a value with the running maximum as its offset: +0 where every value so far is −infinity, NaN where the maximum is +infinity or NaN (R122). -/
def onlineExp (m v : Num) : Fl Num :=
  if m = .inf true then pure zero else if m = .inf false || m.isNan then pure .nan else exp2 (v.add m.negate)

/-- The epilogue of one output at row i, column j of a tile whose first output is (m0, n0), from its biased value and its row offset: the value before the drain and the activated one (R109). -/
def epilogue (cw : Nat) (x : EpiIn) (m0 n0 i j : Nat) (offset v : Num) : Fl (Num × Num) := do
  let a ← if epDeriv cw then do
      let f ← derivative (epAct cw) ((x.z.getD i []).getD j zero)
      mul48 v f
    else if epOnline cw then onlineExp offset v
    else activate (epAct cw) offset v
  let r ← epiScaled cw (pick x.oscale (epOscale cw) (m0 + i) (n0 + j)) a
  pure (r, a)

/-- The running maximum of a row at each of its columns: it rises once per output block of 32 columns (R105, R120; log entry 171). -/
def runningMax : Num → List (List Num) → List Num
  | _, [] => []
  | m, b :: rest =>
    let n := b.foldl Num.max m
    b.map (fun _ => n) ++ runningMax n rest

/-- The row offsets of a row of a product tile: the MAX of its STAT_IN record or +0, and in ONLINE mode the running maximum (R105). -/
def rowOffsets (cw : Nat) (start : Option Num) (vs : List Num) : List Num :=
  if epOnline cw then runningMax (start.getD (.inf true)) (chunks 32 (vs.length / 32 + 1) vs) else vs.map fun _ => start.getD zero

/-- The epilogue of a row of a tile: the values before the drain and the tapped ones (R109). -/
def epilogueRow (cw : Nat) (x : EpiIn) (m0 n0 i : Nat) (accs : List Num) : Fl (List (Num × Num) × List Num) := do
  let vs ← (accs.zipIdx).mapM fun c => epiBiased cw x m0 n0 i c.2 c.1
  let outs ← (vs.zip (rowOffsets cw (x.offset[i]?) vs)).zipIdx.mapM fun c => epilogue cw x m0 n0 i c.2 c.1.2 c.1.1
  pure (outs, if epStatSrc cw then outs.map Prod.snd else vs)

/-- The drained codes of one row and its MX scales (R82, R84). -/
def drainRow (dcw : Nat) (vs : List Num) : Fl (List Nat × List Nat) :=
  if dcwMx dcw then do
    let gs ← (chunks 32 (vs.length / 32 + 1) vs).mapM (mxGroup (dcwFmt dcw))
    pure ((gs.map Prod.snd).flatten, gs.map Prod.fst)
  else do
    let es ← vs.mapM (drainElem (dcwFmt dcw) (dcwSat dcw))
    pure (es, [])

-- Times (R57, R86, R88, R113) ---------------------------------------------------------------------------------------

/-- Slices of a stationary operand (R57). -/
def slices (s : Nat) : Nat := (s + 7) / 8

/-- Array time of an output block of r rows over nb K blocks (R86). -/
def arrayTime (r nb p s : Nat) : Nat := nb * slices s * max (r * p) 32

/-- Array time of r rows in diagonal mode (R88). -/
def diagTime (r p s : Nat) : Nat := r * slices s * max p 4

/-- Lathe time of an output block of r rows (R113). -/
def latheTime (cw r : Nat) : Nat :=
  16 * latheOps (epAct cw) (epDeriv cw) * r
    + (if epRecip cw && epOscale cw == 3 then r else 0) + (if epRecip cw && epOscale cw == 2 then 32 else 0)

/-- Rows of each output block row of a tile. -/
def blockRows (tm : Nat) : List Nat := (List.range ((tm + 31) / 32)).map fun i => min 32 (tm - 32 * i)

end Sys2Proof.Machine
end

