-- ==== Sys2Proof/Machine/Plan.lean ====
section
/-! DEFINITION. The floor plan record, retirement of cores and service writes (R29 to R51). -/

namespace Sys2Proof.Machine

/-- GOOD_MAP of a bay (R37). -/
def FloorPlan.map (p : FloorPlan) (bay : Nat) : BitVec 416 := tget p.goodMap bay 0

/-- GOOD_COUNT of a bay (R37). -/
def FloorPlan.goodCount (p : FloorPlan) (bay : Nat) : Nat := popCount 416 (p.map bay).toNat

/-- GOOD_CORES: the sum of GOOD_COUNT over all bays (R36). -/
def FloorPlan.goodCores (p : FloorPlan) : Nat := ((List.range 64).map p.goodCount).sum

/-- Whether a core's good bit is set (R29, R37). -/
def FloorPlan.good (p : FloorPlan) (core : Nat) : Bool := (p.map (core / 416)).getLsbD (core % 416)

/-- FACTORY_COUNT of a bay (R37). -/
def factoryCount (v : Variant) (bay : Nat) : Nat := popCount 416 (tget v.factoryMap bay 0).toNat

/-- A site entry (R38): a site not listed is in service. -/
def FloorPlan.site (p : FloorPlan) (m : Nat) : SiteEntry := tget p.sites m {}

/-- A port entry (R39). -/
def FloorPlan.port (p : FloorPlan) (n : Nat) : PortEntry := tget p.ports n {}

/-- The bytes of the variant record (R31), its signature taken as opaque. -/
def variantBytes (v : Variant) : List Byte :=
  let head := toLE 4 0x56524C43 ++ toLE 4 1 ++ toLE 8 v.serial.toNat ++ toLE 1 v.part ++ [v.stepping]
    ++ toLE 2 v.siteEnable.toNat ++ toLE 1 v.portEnable.toNat ++ toLE 3 0 ++ toLE 4 v.minCores ++ toLE 2 v.minPerBay ++ toLE 2 0
    ++ ((List.range 64).map fun b => toLE 52 (tget v.factoryMap b 0).toNat).flatten
  head ++ cut (Config.factorySign head) 0 114 ++ List.replicate 14 0

/-- VARIANT_ID: the first 96 bits of the digest of the variant record (R36). -/
def variantId (v : Variant) : Nat := (Config.shake256 (variantBytes v)).toNat % 2 ^ 96

/-- The header of the floor plan record (R36). -/
def planHeader (p : FloorPlan) (v : Variant) : List Byte :=
  toLE 4 0x50464C43 ++ toLE 2 1 ++ toLE 2 64 ++ toLE 4 37568 ++ toLE 4 p.generation ++ toLE 1 p.part ++ [p.stepping]
    ++ toLE 1 p.state ++ toLE 1 p.halves.toNat ++ toLE 4 p.goodCores ++ toLE 4 p.minCores ++ toLE 2 p.minPerBay
    ++ toLE 2 p.siteMask.toNat ++ toLE 1 p.portUp.toNat ++ toLE 1 p.portHalf.toNat ++ toLE 2 p.retireLog.length
    ++ toLE 4 p.bootSerial ++ toLE 8 p.serial.toNat ++ toLE 2 (p.pendingCore.getD 0xFFFF) ++ toLE 2 0 ++ toLE 12 (variantId v)

/-- A bay entry (R37). -/
def bayEntry (p : FloorPlan) (v : Variant) (b : Nat) : List Byte :=
  toLE 52 (p.map b).toNat ++ toLE 2 (p.goodCount b) ++ toLE 1 (b2n (p.goodCount b < p.minPerBay)) ++ toLE 1 0
    ++ toLE 2 (factoryCount v b) ++ toLE 6 0

/-- A site entry's bytes (R38). -/
def siteEntryBytes (e : SiteEntry) : List Byte :=
  toLE 1 e.state ++ toLE 3 0 ++ toLE 4 e.spareUsed.toNat ++ toLE 16 e.spareFor.toNat ++ toLE 8 0

/-- A port entry's bytes (R39). -/
def portEntryBytes (e : PortEntry) : List Byte :=
  toLE 1 e.state ++ toLE 1 e.sparesUsed ++ toLE 2 e.laneGood.toNat ++ toLE 2 e.laneActive.toNat ++ toLE 2 0
    ++ toLE 6 e.partner.toNat ++ toLE 1 e.partnerPort.toNat ++ toLE 1 0

/-- A retire log entry's bytes (R40). -/
def retireBytes (r : Retire) : List Byte := toLE 2 r.core ++ toLE 1 r.cause ++ toLE 1 0 ++ toLE 4 r.boot

/-- Bytes 0x0000 to 0x923F of the floor plan record (R35). -/
def planBody (p : FloorPlan) (v : Variant) : List Byte :=
  planHeader p v ++ ((List.range 64).map (bayEntry p v)).flatten
    ++ ((List.range 12).map fun m => siteEntryBytes (p.site m)).flatten
    ++ ((List.range 8).map fun n => portEntryBytes (p.port n)).flatten
    ++ cut ((p.retireLog.map retireBytes).flatten) 0 32768

/-- The 37,568 bytes of the floor plan record with its signature (R35). -/
def planImage (p : FloorPlan) (v : Variant) (factory : Bool) : List Byte :=
  let b := planBody p v
  b ++ cut (if factory then Config.factorySign b else Config.sillSign b) 0 114 ++ List.replicate 14 0

-- Retirement (R29, R45, R49) --------------------------------------------------------------------------

/-- Whether clearing a core's good bit would breach a minimum (R49). -/
def FloorPlan.breaches (p : FloorPlan) (core : Nat) : Bool :=
  decide (p.goodCount (core / 416) - 1 < p.minPerBay ∨ p.goodCores - 1 < p.minCores)

/-- The plan with a retirement applied: the bit cleared and logged, or, where a minimum would be breached, the core held in PENDING_CORE while that is free and STATE set to 1 (R45 step 2, R49). -/
def FloorPlan.retire (p : FloorPlan) (r : Retire) : FloorPlan :=
  if !p.good r.core then p
  else if p.breaches r.core then
    if p.pendingCore.isNone then { p with pendingCore := some r.core, state := 1 } else p
  else
    { p with
      goodMap := tset p.goodMap (r.core / 416) (p.map (r.core / 416) &&& ~~~(BitVec.ofNat 416 (2 ^ (r.core % 416))))
      retireLog := p.retireLog ++ [r] }

/-- Whether a core's bit is still set after a list of retirements: then it is excluded for the session (R49). -/
def excludedBy (p : FloorPlan) (rs : List Retire) : List Nat := (rs.map Retire.core).filter fun c => p.good c

/-- The half that holds the king post. -/
def State.holder (s : State) : Option Half := s.aon.king.holder

/-- Whether some half manages the module (R411, R412). -/
def State.managed (s : State) : Bool :=
  match s.holder with
  | none => false
  | some h => !s.aon.king.barred.get h

/-- Whether the managing complex runs; while it restarts, management waits (R409). -/
def State.managing (s : State) : Bool :=
  match s.holder with
  | none => false
  | some h => !s.aon.king.barred.get h && (s.aon.joiners.get h).running

/-- The half that stamps FLOORPLAN_CHANGE and STASH_FULL (R398). -/
def State.kingHalf (s : State) : Half := s.holder.getD .h0

/-- Put a request in Sill's first queue (R437). -/
def State.sillHigh (s : State) (j : SillJob) : State :=
  match s.sill.cur with
  | none => { s with sill := { s.sill with cur := some j } }
  | some _ => { s with sill := { s.sill with high := s.sill.high ++ [j] } }

/-- Put a request in Sill's second queue (R437). -/
def State.sillLow (s : State) (j : SillJob) : State :=
  match s.sill.cur with
  | none => { s with sill := { s.sill with cur := some j } }
  | some _ => { s with sill := { s.sill with low := s.sill.low ++ [j] } }

/-- The next request Sill serves: the first queue before the second (R437). -/
def sillPick (x : Sill) : Sill :=
  match x.high, x.low with
  | j :: r, _ => { x with cur := some j, high := r }
  | [], j :: r => { x with cur := some j, low := r }
  | [], [] => { x with cur := none }

/-- Sill ends the request it serves and takes the next. -/
def State.sillNext (s : State) : State := { s with sill := sillPick s.sill }

/-- Change Sill. -/
def State.modSill (s : State) (f : Sill → Sill) : State := { s with sill := f s.sill }

/-- Remove the requests that meet a condition; if one of them was being served, the next is taken. -/
def State.sillDrop (s : State) (f : SillJob → Bool) : State :=
  s.modSill fun x =>
    let y := { x with high := x.high.filter fun j => !f j, low := x.low.filter fun j => !f j }
    match y.cur with
    | some j => if f j then sillPick y else y
    | none => y

/-- The operation of the request being served was not its last: the request waits at the front of its queue, and Sill consults both queues again. -/
def State.sillAgain (s : State) : State :=
  match s.sill.cur with
  | none => s
  | some j => s.modSill fun x => sillPick { x with low := j :: x.low }

/-- Start a service write for the retirements and changes that wait, if none is in progress and a half manages; with no manager the cores are excluded for the session (R45, R47, R49, R412). -/
def State.startService (s : State) (boot : Bool) : State :=
  if s.svc.isSome || (s.svcWait.isEmpty && !s.svcOwed) then s
  else if !s.managed then
    { s with svcWait := [], svcOwed := false,
             scribe := { s.scribe with excluded := s.scribe.excluded ++ s.svcWait.map Retire.core,
                                       quarantined := s.scribe.quarantined.filter fun c => !(s.svcWait.map Retire.core).contains c } }
  else if !s.managing then s
  else
    let draft := s.svcWait.foldl FloorPlan.retire s.plan
    let out := excludedBy draft s.svcWait
    let t := { s with svcWait := [],
                      scribe := { s.scribe with excluded := s.scribe.excluded ++ out,
                                                quarantined := s.scribe.quarantined.filter fun c => !out.contains c } }
    if draft == s.plan && !s.svcOwed then t
    else { t with svcOwed := false, svc := some ⟨.signing, draft, boot⟩ }.sillHigh .signPlan

/-- A change of the live floor plan that a service write follows (R49, R225, R304); before READY it joins the write of step 12 of R416. -/
def State.oweService (s : State) : State :=
  let t := { s with svcOwed := true }
  if s.aon.boot.ready then t.startService false else t

/-- A core fails: it takes no tile from now on, and its retirement waits for a service write (R29, R45 step 1, R47). -/
def State.retireCore (s : State) (core cause : Nat) : State :=
  let t := { s with svcWait := s.svcWait ++ [⟨core, cause, s.plan.bootSerial⟩],
                    scribe := { s.scribe with quarantined := s.scribe.quarantined ++ [core] } }
  if s.aon.boot.ready then t.startService false else t

/-- Whether a core may be given tiles (R29): its good bit is set, and it is not excluded, quarantined or set aside. -/
def State.coreGood (s : State) (core : Nat) : Bool :=
  s.plan.good core && s.plan.pendingCore != some core && !s.scribe.excluded.contains core
    && !s.scribe.quarantined.contains core && !s.scribe.setAside.contains core

/-- Whether a half is part of the module this power-on (R49, R416). -/
def State.halfIn (s : State) (h : Half) : Bool := s.plan.halves.getLsbD h.num

/-- A flash slot with the highest GENERATION whose signature verifies (R46). -/
def Flash.bestSlot (f : Flash) : Option Nat :=
  match f.slot0, f.slot1 with
  | some a, some b =>
    if a.sigOk && (!b.sigOk || decide (b.plan.generation ≤ a.plan.generation)) then some 0 else if b.sigOk then some 1 else none
  | some a, none => if a.sigOk then some 0 else none
  | none, some b => if b.sigOk then some 1 else none
  | none, none => none

/-- The service copy that power-on uses; the factory copy where no slot verifies (R46). -/
def Flash.servicePlan (f : Flash) : FloorPlan :=
  match f.bestSlot with
  | some 0 => (f.slot0.map FlashPlan.plan).getD f.factory
  | some _ => (f.slot1.map FlashPlan.plan).getD f.factory
  | none => f.factory

/-- Store a service slot. -/
def Flash.setSlot (f : Flash) (n : Nat) (p : FlashPlan) : Flash :=
  if n = 0 then { f with slot0 := some p } else { f with slot1 := some p }

/-- The slot that does not hold the current generation (R45 step 4). -/
def Flash.freeSlot (f : Flash) : Nat := if f.bestSlot = some 0 then 1 else 0

/-- The live floor plan's site entry changed. -/
def State.setSiteEntry (s : State) (m : Nat) (e : SiteEntry) : State := { s with plan := { s.plan with sites := tset s.plan.sites m e } }

/-- The live floor plan's port entry changed. -/
def State.setPortEntry (s : State) (n : Nat) (e : PortEntry) : State := { s with plan := { s.plan with ports := tset s.plan.ports n e } }

/-- PORT_UP and PORT_HALF bits of a port in the live floor plan (R36). -/
def State.setPortUp (s : State) (n : Nat) (up : Bool) : State :=
  let m := BitVec.ofNat 8 (2 ^ n)
  { s with plan := { s.plan with portUp := if up then s.plan.portUp ||| m else s.plan.portUp &&& ~~~m } }

def State.setPortHalf (s : State) (n : Nat) (b : Bool) : State :=
  let m := BitVec.ofNat 8 (2 ^ n)
  { s with plan := { s.plan with portHalf := if b then s.plan.portHalf ||| m else s.plan.portHalf &&& ~~~m } }

/-- The lanes that carry traffic: none while the port is down (R39, R326). -/
def Port.carrying (p : Port) : BitVec 14 := if p.state < 2 then p.laneActive else 0

end Sys2Proof.Machine
end

