-- ==== Sys2Proof/Machine/Sync.lean ====
section
/-! DEFINITION. Contexts' synchronisation state: semaphores, pairs, waiters in order, near-misses, and which bays are busy (R355 to R365). -/

namespace Sys2Proof.Machine

/-- Change one context. -/
def State.modCtx (s : State) (n : Nat) (f : Ctx → Ctx) : State := s.setCtx n (f (s.ctx n))

/-- The count of a task semaphore. -/
def State.semCount (s : State) (ctx bay sem : Nat) : Nat := tget (s.ctx ctx).sems (64 * bay + sem) 0

/-- The newest adds that make up a count of k: takes consume the oldest (R359, R365). -/
def newest : Nat → List (Nat × Nat) → List (Nat × Nat)
  | _, [] => []
  | k, (t, n) :: r => if k = 0 then [] else (t, min n k) :: newest (k - n) r

/-- Add to a task semaphore: it stops at 65,535 and the add is then counted in SATURATED; the add is stamped in the bay's half (R359, R363). -/
def State.semAdd (s : State) (ctx bay sem n : Nat) : State :=
  let c := s.ctx ctx
  let k := 64 * bay + sem
  let v := tget c.sems k 0
  s.setCtx ctx { c with
    sems := tset c.sems k (min max16 (v + n)),
    semAdds := tset c.semAdds k (newest (min max16 (v + n)) ((s.now (bayHalf bay), min max16 (v + n) - v) :: tget c.semAdds k [])),
    saturated := if max16 < v + n then satAdd max16 c.saturated 1 else c.saturated }

/-- Take from a task semaphore in full (R359). -/
def State.semTake (s : State) (ctx bay sem n : Nat) : State :=
  let k := 64 * bay + sem
  s.modCtx ctx fun c => { c with
    sems := tset c.sems k (tget c.sems k 0 - n),
    semAdds := tset c.semAdds k (newest (tget c.sems k 0 - n) (tget c.semAdds k [])) }

/-- How much of a semaphore's count was added before a tick (R365). -/
def State.heldBefore (s : State) (ctx bay sem tick : Nat) : Nat :=
  (((tget (s.ctx ctx).semAdds (64 * bay + sem) []).filter fun a => decide (a.1 < tick)).map Prod.snd).sum

/-- A semaphore pair (R170). -/
def State.pair (s : State) (ctx bay n : Nat) : Pair := tget (s.ctx ctx).pairs (32 * bay + n) {}

/-- Add to FULL or FREE of a pair, with the saturation of R359. -/
def State.pairAdd (s : State) (ctx bay n : Nat) (full : Bool) (k : Nat) : State :=
  let c := s.ctx ctx
  let p := s.pair ctx bay n
  let v := if full then p.full else p.free
  let w := min max16 (v + k)
  s.setCtx ctx { c with
    pairs := tset c.pairs (32 * bay + n) (if full then { p with full := w } else { p with free := w }),
    saturated := if max16 < v + k then satAdd max16 c.saturated 1 else c.saturated }

/-- Take 1 from FULL or FREE of a pair. -/
def State.pairTake (s : State) (ctx bay n : Nat) (full : Bool) : State :=
  let p := s.pair ctx bay n
  s.modCtx ctx fun c => { c with
    pairs := tset c.pairs (32 * bay + n) (if full then { p with full := p.full - 1 } else { p with free := p.free - 1 }) }

/-- Whether a Plane descriptor waits for a page fault. -/
def State.planeHeld (s : State) (ctx id : Nat) : Bool :=
  s.faults.any fun f => f.ctx == ctx && match f.who with
    | .plane n => n == id
    | .status kind _ n => kind == 2 && n == id
    | _ => false

/-- The orders of the waits that stand on a task semaphore: tasks, due streams, Plane descriptors and the sequence table; a unit that a page fault holds does not wait yet (R359, R360, R480). -/
def State.waiters (s : State) (ctx bay sem : Nat) : List Nat :=
  ((s.lists.filter fun l => l.ctx == ctx && l.bay == bay).map fun l =>
      (l.tasks.filter fun t => t.phase == .waiting && tkWaitSem t.a == sem).map Task.waitSeq).flatten
    ++ ((s.streams.filter fun x => x.ctx == ctx && x.bay == bay && x.state == 0 && x.due && hdrWaitSem x.hdr == sem
        && x.fault.isNone && x.stop.isNone && x.reStop.isNone && !x.cancelling).map Stream.waitSeq)
    ++ (((s.ctx ctx).planes.filter fun e => e.2.state == 0 && !s.planeHeld ctx e.1 && plBay e.2.hdr == bay && plWaitSem e.2.hdr == sem).map fun e => e.2.waitSeq)
    ++ (match (s.ctx ctx).seq.control with
        | some c => if !(s.ctx ctx).seq.building && fld c 0x18 1 == bay && fld c 0x19 1 == sem then [(s.ctx ctx).seq.waitSeq] else []
        | none => [])

/-- Whether the waiter of the given order is served next and its count is there (R360). -/
def State.mayTake (s : State) (ctx bay sem n seq : Nat) : Bool :=
  decide (n ≤ s.semCount ctx bay sem) && (s.waiters ctx bay sem).all fun q => decide (seq ≤ q)

/-- Count a near-miss of a context's wait (R365). -/
def State.nearMiss (s : State) (ctx : Nat) : State := s.modCtx ctx fun c => { c with nearmiss := satAdd max32 c.nearmiss 1 }

/-- Count a near-miss of a link or joiner timeout (R365). -/
def State.nearMissDev (s : State) : State :=
  { s with ctxRegs := { s.ctxRegs with nearmissDev := satAdd max32 s.ctxRegs.nearmissDev 1 } }

/-- Whether a context is admitted. -/
def State.admitted (s : State) (ctx : Nat) : Bool := (s.ctx ctx).admitted

/-- Whether a bay is in a context's BAY_MASK. -/
def State.inMask (s : State) (ctx bay : Nat) : Bool := (s.ctx ctx).res.bayMask.getLsbD bay

/-- Whether any context is admitted on the chip. -/
def State.anyAdmitted (s : State) : Bool := (List.range 8).any s.admitted

/-- Discard a stray SIGNAL (R358). -/
def State.strayCount (s : State) (ctx : Nat) : State := s.modCtx ctx fun c => { c with stray := satAdd max16 c.stray 1 }

/-- Bytes of an element of a format. -/
def fmtBytes (f : Nat) : Nat := fmtBits f / 8

/-- Each entry with the bytes its ring gives it: entries of one pair take its bytes one after another. -/
def ringParts (t : Table (List Byte)) : List (List Byte) → List (List Byte × List Byte)
  | [] => []
  | e :: r =>
    if peRing e then
      let n := peCount e * fmtBytes (peGFmt e)
      let have_ := tget t (peG e) []
      (e, have_.take n) :: ringParts (tset t (peG e) (have_.drop n)) r
    else (e, []) :: ringParts t r

/-- Whether the rings have given every entry its gradients. -/
def ringsFull (l : List (List Byte × List Byte)) : Bool := l.all fun x => !peRing x.1 || x.2.length == peCount x.1 * fmtBytes (peGFmt x.1)

/-- Whether a Plane pass waits for FULL of a pair: a gradient ring has not given all (R284, R361). -/
def Plane.waitsRing (p : Plane) : Bool := p.state == 1 && !ringsFull (ringParts p.gIn p.entries)

/-- Whether any wait stands on a bay's semaphores or pairs, or a list or stream is active on it (R361). -/
def State.bayBusy (s : State) (bay : Nat) : Bool :=
  s.lists.any (fun l => l.bay == bay && l.launch.isSome)
    || s.streams.any (fun x => x.bay == bay && (x.state == 1 || x.state == 2 || (x.state == 0 && x.due && hdrWaitSem x.hdr != 0xFF)))
    || (List.range 8).any fun c =>
        (s.ctx c).planes.any (fun e => (e.2.state == 0 || e.2.waitsRing) && plBay e.2.hdr == bay)
        || (match (s.ctx c).seq.control with
            | some r => fld r 0x18 1 == bay && !(s.ctx c).seq.building
            | none => false)

/-- Whether a bay runs tiles: its PLL runs and it is not gated. -/
def State.bayRuns (s : State) (bay : Nat) : Bool := (s.bay bay).on && !(s.bay bay).gated

/-- Whether a deadline has passed: the event at the deadline tick still wins (R364, R365). -/
def expired (now since length : Nat) : Bool := decide (since + length < now)

/-- The length of a wait of 2^n ticks; n = 0 is no timeout (R374). -/
def logLen (n : Nat) : Option Nat := if n = 0 then none else some (2 ^ n)

/-- The sideband alert of an event or pin assertion: EVENT is set and an in-band interrupt raised or ALERT# asserted, unless EVENT is already set (R471). -/
def State.alert (s : State) (code : Nat) : State :=
  if s.aon.sb.status.getLsbD 3 then s
  else if s.aon.sb.mode then
    { s with aon := { s.aon with alertPin := true, sb := { s.aon.sb with status := s.aon.sb.status ||| 8 } } }
  else
    { s with aon := { s.aon with sb := { s.aon.sb with status := s.aon.sb.status ||| 8, ibi := s.aon.sb.ibi ++ [code] } } }

end Sys2Proof.Machine
end

