-- ==== Sys2Proof/Machine/Yard.lean ====
section
/-! DEFINITION. Device memory: pages, translation, reads, writes with generation counts, poison, Kerf and migration marks, and page faults (R182, R187, R201 to R231, R396). -/

namespace Sys2Proof.Machine

-- Pages (R201, R202) -------------------------------------------------------------------------------------

def attrCan (a : BitVec 32) (write : Bool) : Bool := if write then a.getLsbD 31 else a.getLsbD 30
def attrTier (a : BitVec 32) : Nat := bits a.toNat 8 6
def attrPlace (a : BitVec 32) : Nat := bits a.toNat 5 4
def attrKerf (a : BitVec 32) : Nat := bits a.toNat 3 2
def attrCore (a : BitVec 32) : Nat := bits a.toNat 28 20
def attrBay (a : BitVec 32) : Nat := bits a.toNat 19 14
def attrSite (a : BitVec 32) : Nat := bits a.toNat 13 10
def attrRef (a : BitVec 32) : Nat := bits a.toNat 9 9
def attrBig (a : BitVec 32) : Bool := a.getLsbD 0

/-- Bytes of a page. -/
def pageBytes (big : Bool) : Nat := if big then 2097152 else 65536

def Page.bytes (p : Page) : Nat := pageBytes p.big

/-- Whether an address lies in a page. -/
def Page.has (p : Page) (ctx a : Nat) : Bool := p.mapped && p.ctx == ctx && decide (p.va ≤ a) && decide (a < p.va + p.bytes)

/-- The mapped page of an address. -/
def State.page? (s : State) (ctx a : Nat) : Option Page := s.pages.find? fun p => p.has ctx a

/-- A page by its number. -/
def State.pageById (s : State) (id : Nat) : Option Page := s.pages.find? fun p => p.id == id

/-- Change the page of a number. -/
def State.modPage (s : State) (id : Nat) (f : Page → Page) : State :=
  { s with pages := s.pages.map fun p => if p.id == id then f p else p }

/-- Where a page's byte lies in `mem`. -/
def cellAddr (id off : Nat) : Nat := id * 2097152 + off

/-- The byte of a device virtual address; the upper 32 KiB of a BENCH page reads zero (R204, R212). -/
def State.byteAt (s : State) (ctx a : Nat) : Byte :=
  match s.page? ctx a with
  | none => 0
  | some p => if attrTier p.attr == 1 && decide (32768 ≤ a - p.va) then 0 else memRead s.mem (cellAddr p.id (a - p.va))

/-- The n bytes from a device virtual address. -/
def State.readVa (s : State) (ctx a : Nat) : Nat → List Byte
  | 0 => []
  | n + 1 => s.byteAt ctx a :: s.readVa ctx (a + 1) n

/-- Bytes that one poison mark covers: a 64-bit word of a loft page (R200), a line of any other (R222). -/
def Page.unit (p : Page) : Nat := if attrTier p.attr == 2 then 8 else 256

/-- Whether a poison mark of a page lies in a range of its bytes. -/
def Page.bad (p : Page) (off n : Nat) : Bool :=
  decide (0 < n) && p.poison.any fun i => decide (p.unit * i < off + n) && decide (off < p.unit * i + p.unit)

/-- Whether a range of bytes of a page meets an address range of a context. -/
def Page.meets (p : Page) (ctx a n : Nat) : Bool :=
  p.mapped && p.ctx == ctx && decide (0 < n) && decide (p.va < a + n) && decide (a < p.va + p.bytes)

/-- The part of an address range that lies in a page: offset and bytes. -/
def Page.part? (p : Page) (a n : Nat) : Nat × Nat := (a - p.va, min (a + n) (p.va + p.bytes) - max a p.va)

/-- Whether any line of a range, or word of a loft page, is poisoned (R200, R222). -/
def State.poisoned (s : State) (ctx a n : Nat) : Bool :=
  s.pages.any fun p => p.meets ctx a n && p.bad (p.part? a n).1 (p.part? a n).2

/-- Whether a write covers a part only of a loft word that a double-bit error has spoilt: the word cannot be merged (R200). -/
def State.loftSplit (s : State) (ctx a n : Nat) : Bool :=
  s.pages.any fun p => p.meets ctx a n && attrTier p.attr == 2 &&
    (let r := p.part? a n
     (r.1 % 8 != 0 && p.bad (r.1 - r.1 % 8) 8) || ((r.1 + r.2) % 8 != 0 && p.bad (r.1 + r.2 - (r.1 + r.2) % 8) 8))

/-- Who accesses memory: an agent of the module's data path, or the host through BAR4, which alone reaches BENCH pages beside the joiners (R212). -/
inductive Reach where
  | module
  | bar4
  deriving DecidableEq, Repr

/-- Whether an unmapped address lies in the window of an armed stash (R273): its faults have cause STASH_SLOT. -/
def State.inStash (s : State) (ctx a : Nat) : Bool :=
  match (s.ctx ctx).stash with
  | none => false
  | some st =>
    let base := refAddr (fld st.hdr 8 8)
    decide (base ≤ a) && decide (a < base + fld st.hdr 0x10 8)

/-- The fault of one address, if any (R201, R212, R396). -/
def State.faultAt (s : State) (ctx a : Nat) (write : Bool) (r : Reach) : Option Nat :=
  match s.page? ctx a with
  | none => some (if s.inStash ctx a then pfStash else pfUnmapped)
  | some p => if !attrCan p.attr write || (attrTier p.attr == 1 && r == .module) then some pfRight else none

/-- The first fault of a range: address and cause. Pages are whole multiples of 64 KiB. -/
def State.rangeFault (s : State) (ctx a n : Nat) (write : Bool) (r : Reach) : Option (Nat × Nat) :=
  if n = 0 then none
  else
    (List.range (ups (a % 65536 + n) 65536)).findSome? fun i =>
      let b := if i = 0 then a else a - a % 65536 + 65536 * i
      if 2 ^ 57 ≤ b then some (b, pfUnmapped) else (s.faultAt ctx b write r).map fun c => (b, c)

/-- Whether a range meets a page whose translation is at the cutover of a migration (R209 step 4). -/
def State.cuttingOver (s : State) (ctx a n : Nat) : Bool :=
  s.pages.any fun p => p.meets ctx a n
    && (match p.mig with
        | some m => m.step == .cutover
        | none => false)

/-- Whether host and remote writes to a range are deferred: a write hold (R184) or a cutover. -/
def State.writesHeld (s : State) (ctx a n : Nat) : Bool :=
  s.cuttingOver ctx a n
    || s.pages.any fun p => !p.holders.isEmpty && p.meets ctx a n

-- Kerf (R226 to R231) ---------------------------------------------------------------------------------------

/-- Stored lines of a granule from its contents, before verification: 0 for ZERO and REPEAT, 16 for RAW (R226, R231). -/
def granuleLines (compress : Bool) (g : List Byte) : Nat :=
  if g.all (· == 0) then 0
  else if g == (List.replicate (g.length / 4) (g.take 4)).flatten then 0
  else if compress then max 1 (min 16 (Config.kerfLines g)) else 16

/-- Lines a context's KERF 2 pages of a half store. -/
def State.packLines (s : State) (ctx : Nat) (h : Half) : Nat :=
  ((s.pages.filter fun p => p.mapped && p.ctx == ctx && p.half == h && attrKerf p.attr == 2).map fun p => (p.stored.map Prod.snd).sum).sum

/-- The PACK reservation of a half in lines of 256 bytes. -/
def State.packCap (s : State) (ctx : Nat) (h : Half) : Nat :=
  16 * (match h with
        | .h0 => (s.ctx ctx).res.packH0
        | .h1 => (s.ctx ctx).res.packH1)

/-- Whether a page lies in the yard. -/
def Page.yard (p : Page) : Bool := attrTier p.attr == 0 || decide (3 ≤ attrTier p.attr)

/-- Recompress one granule of a page after a write (R227); of a KERF 0 page it is RAW from its first write on (R226). -/
def State.recompress (s : State) (id g : Nat) : State :=
  match s.pageById id with
  | none => s
  | some p =>
    if !p.yard then s
    else if attrKerf p.attr == 0 then s.modPage id fun q => { q with stored := tset q.stored g 16 }
    else
      let n := granuleLines s.yard.compress (memReadN s.mem (cellAddr id (4096 * g)) 4096)
      let ok := Config.kerfVerify s.yard.kerfSeq
      let k := if ok then n else 16
      let t := { s with yard := { s.yard with
        kerfSeq := s.yard.kerfSeq + 1,
        kerfIn := (s.yard.kerfIn + 4096) % 2 ^ 64,
        kerfOut := (s.yard.kerfOut + 256 * k) % 2 ^ 64,
        verifyFail := if ok then s.yard.verifyFail else satAdd max32 s.yard.verifyFail 1 } }
      t.modPage id fun q => { q with stored := tset q.stored g k }

/-- Post PACK_LOW at a crossing from at or above the threshold to below it (R229). -/
def State.packCheck (s : State) (ctx : Nat) (h : Half) : State :=
  let cap := s.packCap ctx h
  let free := cap - s.packLines ctx h
  let key := 2 * ctx + h.num
  let low := decide (free * 2 ^ s.yard.packLowLog2 < cap)
  if low && !s.yard.packLow.contains key then
    ({ s with yard := { s.yard with packLow := s.yard.packLow ++ [key] } }).postCtx ctx 7 h (toLE 1 h.num ++ toLE 4 free)
  else if !low then { s with yard := { s.yard with packLow := s.yard.packLow.filter (· != key) } }
  else s

/-- Check both halves of a context. -/
def State.packChecks (s : State) (ctx : Nat) : State := (s.packCheck ctx .h0).packCheck ctx .h1

-- Writes -------------------------------------------------------------------------------------------------------

/-- Cut a range of bytes at line boundaries: address and bytes of each piece. -/
def linePieces : Nat → Nat → List Byte → List (Nat × List Byte)
  | 0, _, _ => []
  | k + 1, a, bs =>
    if bs.isEmpty then [] else (a, bs.take (256 - a % 256)) :: linePieces k (a + (256 - a % 256)) (bs.drop (256 - a % 256))

/-- The pieces of a whole range. -/
def pieces (a : Nat) (bs : List Byte) : List (Nat × List Byte) := linePieces (bs.length / 256 + 2) a bs

/-- Line accesses from a half to a PLACE 3 page are counted (R208). -/
def State.countLines (s : State) (id n : Nat) (h : Half) : State :=
  s.modPage id fun p => if attrTier p.attr == 0 && attrPlace p.attr == 3 then { p with counts := p.counts.set h (p.counts.get h + n) } else p

/-- The pages a range touches, by number. -/
def State.pagesOf (s : State) (ctx a n : Nat) : List Nat := (s.pages.filter fun p => p.meets ctx a n).map Page.id

/-- Count the lines of a range that is read or written from a half (R208). -/
def State.countRange (s : State) (ctx a n : Nat) (h : Half) : State :=
  forAll (s.pagesOf ctx a n) (fun id t => match t.pageById id with
    | some p => t.countLines id (ups ((p.part? a n).1 % 256 + (p.part? a n).2) 256) h
    | none => t) s

/-- Count the lines of several ranges. -/
def State.countSpans (s : State) (ctx : Nat) (l : List (Nat × Nat)) (h : Half) : State := forAll l (fun a t => t.countRange ctx a.1 a.2 h) s

/-- A write to a granule of a migrating page marks it dirty (R209 step 2). -/
def Page.dirtied (p : Page) (granule : Nat) : Page :=
  match p.mig with
  | some m => if m.dirty.contains granule then p else { p with mig := some { m with dirty := m.dirty ++ [granule] } }
  | none => p

/-- The cells that hold the byte of a page at an offset: one, or those of every BENCH page of the same core (R212). -/
def State.cellsOf (s : State) (p : Page) (off : Nat) : List Nat :=
  if attrTier p.attr == 1 then
    (s.pages.filter fun q => attrTier q.attr == 1 && attrBay q.attr == attrBay p.attr && attrCore q.attr == attrCore p.attr).map fun q => cellAddr q.id off
  else [cellAddr p.id off]

/-- The poison marks of a page after a write of n bytes at an offset: those of the lines or words it covers whole are cleared; a poisoned write marks each it touches (R222, R378). -/
def Page.marksAfter (p : Page) (off n : Nat) (poison : Bool) : List Nat :=
  let kept := p.poison.filter fun i => !(decide (off ≤ p.unit * i) && decide (p.unit * i + p.unit ≤ off + n))
  if poison then (kept ++ (List.range (ups (off % p.unit + n) p.unit)).map (off / p.unit + ·)).dedup else kept

/-- Write one piece that lies in one line: a partial write to a poisoned line discards its bytes, a full-line write clears the poison, a poisoned write marks the line (R222, R378). -/
def State.writePiece (s : State) (id off : Nat) (bs : List Byte) (poison : Bool) : State :=
  match s.pageById id with
  | none => s
  | some p =>
    let lost := { p with poison := p.marksAfter off bs.length false }.bad off bs.length || (attrTier p.attr == 1 && decide (32768 ≤ off))
    let t := if lost then s else { s with mem := (s.cellsOf p off).foldl (fun m a => memWriteN m a bs) s.mem }
    t.modPage id fun q => { q.dirtied (off / 4096) with poison := q.marksAfter off bs.length poison }

/-- The page number and offset of an address. -/
def State.locate (s : State) (ctx a : Nat) : Option (Nat × Nat) := (s.page? ctx a).map fun p => (p.id, a - p.va)

/-- Write a range whose translation has been checked. -/
def State.writeBytes (s : State) (ctx a : Nat) (bs : List Byte) (poison : Bool) : State :=
  forAll (pieces a bs) (fun pc t =>
    match t.locate ctx pc.1 with
    | none => t
    | some (id, off) => t.writePiece id off pc.2 poison) s

/-- The granules a range touches: page number and granule. -/
def State.granules (s : State) (ctx a n : Nat) : List (Nat × Nat) :=
  if n = 0 then []
  else (List.range (ups (a % 4096 + n) 4096)).filterMap fun i =>
    (s.locate ctx (a - a % 4096 + 4096 * i)).map fun x => (x.1, x.2 / 4096)

/-- Whether the stored lines of a context after a write would go beyond its PACK reservation in a half (R229). -/
def State.packOver (s after : State) (ctx : Nat) : Bool :=
  let exceeds (h : Half) : Bool := decide (after.packCap ctx h < after.packLines ctx h) && decide (s.packLines ctx h < after.packLines ctx h)
  exceeds .h0 || exceeds .h1

/-- One commit of writes to several ranges: data, poison, Kerf, and, for a host or remote write, the generation count of every page touched (R182, R227, R229). Writes that would need PACK lines beyond the reservation, or part only of a spoilt loft word, commit nothing and fault. -/
def State.commitAll (s : State) (ctx : Nat) (l : List (Nat × List Byte)) (counted poison : Bool) : Except (Nat × Nat) State :=
  let t := forAll l (fun w x => x.writeBytes ctx w.1 w.2 poison) s
  let u := forAll (l.map fun w => s.granules ctx w.1 w.2.length).flatten.dedup (fun g x => x.recompress g.1 g.2) t
  match l.find? fun w => s.loftSplit ctx w.1 w.2.length with
  | some w => .error (w.1, pfLoft)
  | none =>
    if s.packOver u ctx then .error ((l.headD (0, [])).1, pfPackFull)
    else
      let v := if counted then forAll (l.map fun w => s.pagesOf ctx w.1 w.2.length).flatten.dedup (fun id x => x.modPage id fun p => { p with gen := p.gen + 1 }) u else u
      .ok (v.packChecks ctx)

/-- One commit of a write, whose line accesses from a half are counted (R208). -/
def State.commit (s : State) (ctx a : Nat) (bs : List Byte) (counted poison : Bool) (h : Half) : Except (Nat × Nat) State :=
  (s.countRange ctx a bs.length h).commitAll ctx [(a, bs)] counted poison

/-- Translate a range and commit a write to it, or answer the first fault: address and cause. -/
def State.tryWrite (s : State) (ctx a : Nat) (bs : List Byte) (counted poison : Bool) (h : Half) (r : Reach) : Except (Nat × Nat) State :=
  match s.rangeFault ctx a bs.length true r with
  | some f => .error f
  | none => s.commit ctx a bs counted poison h

/-- Translate a range and read it, or answer the first fault; a poisoned line is a fault with cause YARD_UNCORRECTABLE, or LOFT_UNCORRECTABLE on a loft page (R200, R222). -/
def State.tryRead (s : State) (ctx a n : Nat) (r : Reach) : Except (Nat × Nat) (List Byte) :=
  match s.rangeFault ctx a n false r with
  | some f => .error f
  | none =>
    if s.poisoned ctx a n then .error (a, match s.page? ctx a with
      | some p => if attrTier p.attr == 2 then pfLoft else pfYard
      | none => pfYard)
    else .ok (s.readVa ctx a n)

-- Page faults (R187, R396, R398) -------------------------------------------------------------------------------

/-- The fault of a number. -/
def State.fault? (s : State) (id : Nat) : Option PFault := s.faults.find? fun f => f.id == id

/-- Post a page fault to a joiner; it starts its time limit. -/
def State.postFault (s : State) (ctx addr : Nat) (write : Bool) (cause : Nat) (who : Waiter) (h : Half) : Nat × State :=
  let q := s.newId
  let packed := match s.page? ctx addr with
    | some p => s.packLines ctx p.half
    | none => 0
  (q.1, { q.2 with faults := q.2.faults ++ [⟨q.1, ctx, addr, write, cause, who, h, q.2.now h, packed⟩] })

/-- Remove a fault. -/
def State.dropFault (s : State) (id : Nat) : State := { s with faults := s.faults.filter fun f => f.id != id }

/-- Whether the joiner may resolve a fault of this cause (R200, R212, R222). -/
def resolvable (cause : Nat) : Bool := cause != pfLoft && cause != pfYard && cause != pfHole && cause != pfRemote

/-- The PAGE_FAULT event (R398): cause, source, tag, address, source coordinate. -/
def State.faultEvent (s : State) (fn ctx : Nat) (h : Half) (cause source tag addr : Nat) (coord : BitVec 48) : State :=
  s.post fn 5 ctx h (toLE 1 cause ++ toLE 1 source ++ toLE 2 tag ++ toLE 8 addr ++ toLE 6 coord.toNat)

/-- Whether a fault's access translates now; a fault for want of PACK lines only once lines have been freed since (R229). -/
def State.resolvesNow (s : State) (f : PFault) : Bool :=
  match s.page? f.ctx f.addr with
  | none => false
  | some p =>
    attrCan p.attr f.write && (attrTier p.attr != 1 || f.who == .bar4)
      && (f.cause != pfPackFull || (decide (s.packLines f.ctx p.half < f.packed) && decide (s.packLines f.ctx p.half < s.packCap f.ctx p.half)))

/-- A fault that the joiner resolves counts in AUG_FAULTS (R191). -/
def State.countResolved (s : State) : State := { s with aug := { s.aug with resolved := satAdd max16 s.aug.resolved 1 } }

/-- A transfer fault that ended FAULTED counts in AUG_FAULTS (R191). -/
def State.countUnresolved (s : State) : State := { s with aug := { s.aug with unresolved := satAdd max16 s.aug.unresolved 1 } }

/-- The sub-channel and bank of a granule of a site's frame (R206, R218). -/
def granuleBank (site frame g : Nat) : Nat × Nat :=
  let f := Config.frameF (frame + 65536 * site)
  ((f + g) % 32, (f / 32 + g / 32) % 16)

/-- The granule of its frame in which a page's line lies (R206, R207). -/
def Page.granule (p : Page) (line : Nat) : Nat := line / 16 + 16 * p.part

/-- The sub-channel and bank of a page's line. -/
def lineBank (p : Page) (line : Nat) : Nat × Nat := granuleBank p.site p.frame (p.granule line)

/-- YRD_ERR_LOC and YRD_UE_n for an uncorrectable line of a granule; kind 1 read, 2 scrub, 3 read-modify-write (R222, R230). -/
def State.logUe (s : State) (site frame g kind : Nat) : State :=
  let b := granuleBank site frame g
  let row := Config.rowSegment (frame + 65536 * site) g % 2 ^ 17
  let v := site * 2 ^ 28 + b.1 * 2 ^ 23 + b.2 * 2 ^ 19 + kind * 2 ^ 17 + row
  let x := s.site site
  ({ s with yard := { s.yard with errLoc := BitVec.ofNat 32 v } }).setSite site { x with ue := satAdd max32 x.ue 1 }

/-- Whether a granule of a page is PACKED (R226). -/
def Page.packed (p : Page) (g : Nat) : Bool := p.yard && decide (0 < tget p.stored g 0) && decide (tget p.stored g 0 < 16)

/-- Mark a line, or word of a loft page, poisoned; a stored line of a PACKED granule holds a part of each of its sixteen lines (R222, R227). -/
def State.poisonLine (s : State) (id line : Nat) : State :=
  s.modPage id fun p =>
    { p with poison := (p.poison ++ (if p.packed (line / 16) then (List.range 16).map (line / 16 * 16 + ·) else [line])).dedup }

-- Homes (R206, R207, R215) -----------------------------------------------------------------------------------------

/-- Whether a site is in service (R38). -/
def State.siteUp (s : State) (m : Nat) : Bool := s.plan.siteMask.getLsbD m

/-- Frames of a site for contexts (R214). -/
def siteFrames : Nat := 45597

/-- Whether a page takes a frame or a part of one: yard pages, but for those of KERF 2, whose stored lines alone take space (R215). -/
def Page.framed (p : Page) : Bool := p.yard && attrKerf p.attr != 2

/-- The places of a site that a page holds: frame, part, and whether the whole frame; a page in migration holds one at each end (R207, R209). -/
def Page.spaces (p : Page) (m : Nat) : List (Nat × Nat × Bool) :=
  if !p.framed then []
  else
    (if p.site == m then [(p.frame, p.part, p.big)] else [])
      ++ (match p.mig with
          | some g => if g.site == m then [(g.frame, g.part, p.big)] else []
          | none => [])

/-- The places of a site in use. -/
def State.spaces (s : State) (m : Nat) : List (Nat × Nat × Bool) := (s.pages.map fun p => p.spaces m).flatten

/-- Frames of a site that some page uses, whole or in part. -/
def State.framesUsed (s : State) (m : Nat) : List Nat := ((s.spaces m).map Prod.fst).dedup

/-- Whole free frames of a site. -/
def State.freeFrames (s : State) (m : Nat) : Nat := siteFrames - (s.framesUsed m).length

/-- The first frame of a site, from a number on, that nothing uses. -/
def firstFree (used : List Nat) : Nat → Nat → Nat
  | 0, n => n
  | k + 1, n => if used.contains n then firstFree used k (n + 1) else n

/-- 64 KiB parts of a frame of a site in use. -/
def State.partsUsed (s : State) (m frame : Nat) : List Nat :=
  ((s.spaces m).filter fun x => x.1 == frame && !x.2.2).map fun x => x.2.1

/-- Frames of a site that hold 64 KiB pages and have free parts. -/
def State.openFrames (s : State) (m : Nat) : List Nat :=
  ((((s.spaces m).filter fun x => !x.2.2).map Prod.fst).dedup).filter
    fun f => decide ((s.partsUsed m f).length < 32)

/-- Free 64 KiB parts of a site (R207). -/
def State.freeParts (s : State) (m : Nat) : Nat :=
  32 * s.freeFrames m + ((s.openFrames m).map fun f => 32 - (s.partsUsed m f).length).sum

/-- The sites of a half. -/
def halfSites (h : Half) : List Nat :=
  match h with
  | .h0 => [0, 1, 2, 3, 4, 5]
  | .h1 => [6, 7, 8, 9, 10, 11]

/-- The in-service site of a list with the greatest measure, the lowest number on a tie (R207). -/
def State.bestSite (s : State) (l : List Nat) (big : Bool) : Option Nat :=
  (l.filter s.siteUp).foldl (fun best m =>
    match best with
    | none => some m
    | some b => if (if big then s.freeFrames b < s.freeFrames m else s.freeParts b < s.freeParts m) then some m else best) none

/-- A frame and part of a site for a new page; none where the site lacks the space. -/
def State.place (s : State) (m : Nat) (big : Bool) : Option (Nat × Nat) :=
  if big then
    if s.freeFrames m = 0 then none else some (firstFree (s.framesUsed m) (s.framesUsed m).length 0, 0)
  else
    match s.openFrames m with
    | f :: _ => some (f, firstFree (s.partsUsed m f) 32 0)
    | [] => if s.freeFrames m = 0 then none else some (firstFree (s.framesUsed m) (s.framesUsed m).length 0, 0)

end Sys2Proof.Machine
end

