-- ==== Sys2Proof/Machine/Auger.lean ====
section
/-! DEFINITION. The auger's operations: streams, buffers, blocks, line requests, delivery, stopping, cancelling and release (R160 to R192). -/

namespace Sys2Proof.Machine

-- Streams and fetches by number -----------------------------------------------------------------------------

def State.stream? (s : State) (bay slot : Nat) : Option Stream := s.streams.find? fun x => x.bay == bay && x.slot == slot

def State.setStream (s : State) (y : Stream) : State :=
  { s with streams := s.streams.map fun x => if x.bay == y.bay && x.slot == y.slot then y else x }

def State.delStream (s : State) (bay slot : Nat) : State :=
  { s with streams := s.streams.filter fun x => !(x.bay == bay && x.slot == slot) }

def State.fetch? (s : State) (id : Nat) : Option Fetch := s.fetches.find? fun f => f.id == id

def State.setFetch (s : State) (g : Fetch) : State := { s with fetches := s.fetches.map fun f => if f.id == g.id then g else f }

/-- The name of a stream as a transfer; a stream's bay and slot are below 64. -/
def Stream.xfer (x : Stream) : XferId := .stream (Fin.ofNat 64 x.bay) (Fin.ofNat 64 x.slot)

/-- A stream's half. -/
def Stream.half (x : Stream) : Half := bayHalf x.bay

/-- Requests of a transfer. -/
def State.reqsOf (s : State) (x : XferId) : List Req := s.reqs.filter fun r => r.owner == x

/-- The status record of a stream (R192). -/
def Stream.record (x : Stream) : List Byte :=
  toLE 1 x.state ++ toLE 1 x.code ++ toLE 2 (hdrTag x.hdr) ++ toLE 4 x.passes ++ toLE 4 x.watermark ++ toLE 4 x.ringBase

/-- Whether the stream's status record waits for a page fault: its fault is not that of a stop (R480). -/
def Stream.recordHeld (x : Stream) : Bool := x.fault.isSome && x.stop.isNone

/-- Store a stream and write its status record; a write that faults is posted to the joiner and the stream waits (R175, R480). -/
def State.putStream (s : State) (x : Stream) : State :=
  let t := s.setStream x
  if x.recordHeld then t
  else
    match t.tryWrite x.ctx (refAddr (hdrStatus x.hdr)) x.record false false x.half .module with
    | .ok u => u
    | .error f =>
      let q := t.postFault x.ctx f.1 true f.2 (.status 1 x.bay x.slot) x.half
      q.2.setStream { x with fault := some q.1 }

-- Placement in buffers (R162, R173) ---------------------------------------------------------------------------

/-- Key of the gathered bytes of a block. -/
def rawKey (block off : Nat) : Nat := block * 2 ^ 40 + off

/-- The value of element e of width w bits in bytes packed as R135 packs a row. -/
def element (bs : List Byte) (w e : Nat) : Nat := leNat bs / 2 ^ (w * e) % 2 ^ w

/-- Pack elements of width w bits (R135). -/
def packElems (w : Nat) (es : List Nat) : List Byte :=
  toLE ((es.length * w + 7) / 8) (es.foldr (fun e acc => e % 2 ^ w + 2 ^ w * acc) 0)

/-- The rows a block places in its buffer: offset and bytes, from its gathered rows (R162, R173). -/
def placedRows (e : List Byte) (row : Nat → List Byte) : List (Nat × List Byte) :=
  if entTrans e then
    ((List.range (entPlanes e)).map fun p =>
      (List.range (entElems e)).map fun c =>
        (entDst e + (p * entElems e + c) * entP e,
          packElems (entTwidth e) ((List.range (entRows e)).map fun r => element (row (p * entRows e + r)) (entTwidth e) c))).flatten
  else
    (List.range (entPlanes e * entRows e)).map fun k => (entDst e + k * entP e, row k)

/-- The yard rows of a SEM_STORE block from its buffer: the inverse placement (R162). -/
def storedRow (e : List Byte) (data : Memory) (k : Nat) : List Byte :=
  if entTrans e then
    let p := k / entRows e
    let r := k % entRows e
    packElems (entTwidth e) ((List.range (entElems e)).map fun c =>
      element (memReadN data (entDst e + (p * entElems e + c) * entP e) (entPlaced e)) (entTwidth e) r)
  else memReadN data (entDst e + k * entP e) (entRowBytes e)

/-- Assemble a buffer's contents from its gathered blocks. -/
def Buf.assemble (b : Buf) : Buf :=
  { b with data := b.blocks.foldl (fun m blk =>
      (placedRows blk.2.2 fun k => memReadN b.raw (rawKey blk.1 (k * entRowBytes blk.2.2)) (entRowBytes blk.2.2)).foldl
        (fun m pr => memWriteN m pr.1 pr.2) m) b.data }

-- Line requests (R172) -------------------------------------------------------------------------------------------

/-- The pieces of one row: page, offset in the page, offset in the block's gathered bytes, length. -/
def State.rowPieces (s : State) (ctx a n dst : Nat) : List (Nat × Piece) :=
  let go := pieces a (List.replicate n 0)
  go.filterMap fun pc => (s.locate ctx pc.1).map fun l => (l.1, ⟨l.2, dst + (pc.1 - a), pc.2.length⟩)

/-- Join consecutive pieces that lie in one line of one page into one request (R172). -/
def mergeLines : List (Nat × Piece) → List (Nat × Nat × List Piece)
  | [] => []
  | (id, p) :: r =>
    match mergeLines r with
    | (id', line, ps) :: rest => if id = id' ∧ p.src / 256 = line then (id, line, p :: ps) :: rest else (id, p.src / 256, [p]) :: (id', line, ps) :: rest
    | [] => [(id, p.src / 256, [p])]

/-- Lines that the yard moves for a read of a granule of a page: its stored lines; of a page outside the yard, or a granule with a poisoned line, those addressed (R222, R227). -/
def Page.linesOf (p : Page) (g : Nat) : Nat :=
  let n := tget p.stored g 0
  if !p.yard || (n == 0 && p.bad (4096 * g) 4096) then 16 else n

/-- The requests of a block's lines to be read: a RAW granule moves the lines addressed, a PACKED one all its stored lines, the first of them carrying the pieces, a ZERO or REPEAT one none (R226, R227). -/
def State.storedLines (s : State) : List (Nat × Nat × List Piece) → List (Nat × Nat × List Piece)
  | [] => []
  | (id, line, ps) :: r =>
    match s.pageById id with
    | none => s.storedLines r
    | some p =>
      let n := p.linesOf (line / 16)
      if n = 0 then s.storedLines r
      else if 16 ≤ n then (id, line, ps) :: s.storedLines r
      else
        match s.storedLines r with
        | (id', line', ps') :: rest =>
          if id = id' ∧ line / 16 = line' / 16 then (id', line', ps ++ ps') :: rest
          else ((id, line / 16 * 16, ps) :: (List.range (n - 1)).map fun i => (id, line / 16 * 16 + 1 + i, [])) ++ (id', line', ps') :: rest
        | [] => (id, line / 16 * 16, ps) :: (List.range (n - 1)).map fun i => (id, line / 16 * 16 + 1 + i, [])

/-- The pieces of a block that no line is moved for: those in ZERO and REPEAT granules. -/
def State.unstored (s : State) (lines : List (Nat × Nat × List Piece)) : List (Nat × Piece) :=
  ((lines.filter fun l => match s.pageById l.1 with
    | some p => p.linesOf (l.2.1 / 16) == 0
    | none => false).map fun l => l.2.2.map fun p => (l.1, p)).flatten

/-- Whether a line continues the burst of a request: the same or the next line of the same granule (R172). -/
def Req.continues (r : Req) (page line : Nat) (write : Bool) : Bool :=
  r.state == .waiting && r.page == page && r.write == write && r.line / 16 == line / 16 && (r.line == line || r.line + 1 == line)

/-- Issue the line requests of a block, merged into bursts with the last one of the same transfer: a request to a page outside the yard needs no slot (R172, R189). -/
def State.issue (s : State) (owner : XferId) (ctx bay : Nat) (half : Half) (buf block : Nat) (write again : Bool) (lines : List (Nat × Nat × List Piece)) : State :=
  forAll lines (fun l t =>
    match t.pageById l.1 with
    | none => t
    | some p =>
      let u := t.newId
      let b := lineBank p l.2.1
      let burst := match (t.reqsOf owner).getLast? with
        | some q => if q.continues p.id l.2.1 write then q.burst else u.1
        | none => u.1
      { u.2 with reqs := u.2.reqs ++ [{ id := u.1, owner := owner, ctx := ctx, bay := bay, half := half, site := p.site, bank := b.1 * 16 + b.2, page := p.id
                                        line := l.2.1, write := write, buf := buf, block := block, total := lines.length, again := again
                                        burst := burst, pieces := l.2.2, state := if p.site < 12 then .waiting else .granted, dropped := false }] }) s

/-- Line requests of a Plane unit or a network interface for a range: they take slots of the context, and their data moves with the unit's own step (R189, R282, R336; log entry 181). -/
def State.issueEngine (s : State) (owner : XferId) (ctx : Nat) (half : Half) (write : Bool) (a n : Nat) : State :=
  let all := mergeLines (s.rowPieces ctx a n 0)
  s.issue owner ctx 64 half 0 0 write false (if write then all else s.storedLines all)

/-- The requests of a unit that stops: those not issued go, the others complete. -/
def State.dropOwner (s : State) (x : XferId → Bool) : State :=
  { s with reqs := (s.reqs.filter fun r => !x r.owner || r.state == .granted || r.state == .retrying).map fun r => if x r.owner then { r with dropped := true } else r }

/-- Whether a Plane unit or a network interface of a context makes a request. -/
def engineOf (x : XferId) (ctx : Nat) : Bool :=
  match x with
  | .plane c _ => c.val == ctx
  | .peg c _ => c.val == ctx
  | .stream _ _ => false
  | .fetch _ => false

/-- The requests of a context's Plane units and network interfaces are dropped (R356). -/
def State.dropEngines (s : State) (ctx : Nat) : State := s.dropOwner fun x => engineOf x ctx

/-- A page as it stands, for CHECK_GEN. -/
def Page.asGen (p : Page) : Gen := ⟨p.id, p.va, p.bytes, p.gen, p.site, p.frame, p.part⟩

/-- The pages of a range with their counts, for CHECK_GEN (R183). -/
def State.gensOf (s : State) (ctx a n : Nat) (have_ : List Gen) : List Gen :=
  (s.pagesOf ctx a n).foldl (fun acc id =>
    if acc.any (fun g => g.page == id) then acc
    else match s.pageById id with
      | some p => acc ++ [p.asGen]
      | none => acc) have_

/-- Pages that no longer match as recorded, by address and bytes: a count changed, or the page unmapped, migrated or newly mapped (R183). -/
def State.staleGens (s : State) (ctx : Nat) (b : Buf) : List (Nat × Nat) :=
  (b.gens.filter fun g =>
    match s.page? ctx g.va with
    | some p => p.asGen != g
    | none => true).map fun g => (g.va, g.bytes)

/-- Whether a block touches one of some pages, given by address and bytes. -/
def blockTouches (blk : Nat × Nat × List Byte) (vas : List (Nat × Nat)) : Bool :=
  (entRowAddrs blk.2.2 blk.2.1).any fun a =>
    vas.any fun v => decide (v.1 < a + entRowBytes blk.2.2) && decide (a < v.1 + v.2)

/-- Start a refetch of the blocks of a buffer that touch stale pages; after four mismatching refetches a write hold is taken (R183, R184). -/
def State.startRefetch (s : State) (x : Stream) (i : Nat) (b : Buf) (vas : List (Nat × Nat)) : State :=
  let blks := (b.blocks.filter fun k => blockTouches k vas).map Prod.fst
  let u := if 4 ≤ b.refetches then
      forAll vas (fun v y => match y.page? x.ctx v.1 with
        | some p => y.modPage p.id fun q => { q with holders := q.holders ++ [x.xfer] }
        | none => y) s
    else s
  let c : Buf := { b with
    use := 4
    counted := true
    refetch := blks
    refetches := b.refetches + 1
    gens := b.gens.filter fun g => !vas.any fun v => v.1 == g.va }
  u.setStream { x with bufs := tset x.bufs i c }

/-- Release the write holds of a transfer: its refetch's reads are complete, or it ends (R184). -/
def State.endHold (s : State) (x : XferId) : State :=
  { s with pages := s.pages.map fun p => { p with holders := p.holders.filter (· != x) } }

-- Pages that only requests keep (R205, R209) --------------------------------------------------------------------------

/-- Free unmapped pages and drained frames that no request and no Plane pass holds any more (R205, R287). -/
def State.sweepPages (s : State) : State :=
  let held (p : Page) : Bool := s.reqs.any (fun r => r.page == p.id) || (s.ctx p.ctx).planes.any fun e => e.2.pages.contains p.id
  let gone := s.pages.filter fun p => !p.mapped && !held p
  { s with
    mem := gone.foldl (fun m p => memZero m (cellAddr p.id 0) 2097152) s.mem
    pages := (s.pages.filter fun p => p.mapped || held p).map fun p =>
      match p.mig with
      | some g => if g.step == .draining && !(s.reqs.any fun r => r.page == p.id && r.site == g.site) then { p with mig := none } else p
      | none => p }

-- Ends of streams ----------------------------------------------------------------------------------------------------------

/-- Complete the STREAM_ARM commands that wait on a stream (R392). -/
def State.wakeWaiters (s : State) (l : List (Nat × Nat)) : State := forAll l (fun w t => t.done w.1 w.2 stOk 0) s

/-- Whether a request has been issued and is not yet complete: it holds a slot (R189). -/
def Req.inFlight (r : Req) : Bool := r.state == .granted || r.state == .retrying

/-- Whether a request has been issued at all. -/
def Req.live (r : Req) : Bool := r.inFlight || r.state == .accepted

/-- Whether a stream waits for a page fault of a number. -/
def Stream.waitsFor (x : Stream) (id : Nat) : Bool := x.fault == some id || x.reFault == some id

/-- Free a released stream's slot, buffers, queue and loft granules (R175). -/
def State.freeStream (s : State) (x : Stream) : State :=
  let t := (s.delStream x.bay x.slot).endHold x.xfer
  { t with
    loft := t.loft.filter fun r => !(r.bay == x.loftBay && r.ctx == x.ctx && r.start == x.granule)
    handles := t.handles.filter fun h => !(h.bay == x.bay && h.slot == x.slot)
    faults := t.faults.filter fun f => !x.waitsFor f.id
    reqs := (t.reqs.filter fun r => r.owner != x.xfer || r.inFlight).map fun r => if r.owner == x.xfer then { r with dropped := true } else r }

/-- A stream is RELEASED: its record is written, and its slot freed once that is done (R175, R480). -/
def State.releaseStream (s : State) (x : Stream) : State :=
  let y := { x with state := 4, cancelling := false, releasing := false, waiters := [] }
  let t := s.putStream y
  let u := match t.stream? x.bay x.slot with
    | some z => if z.fault.isSome && z.state == 4 then t else t.freeStream z
    | none => t
  u.wakeWaiters x.waiters

/-- A persistent stream is ARMED again: a held re-arm makes the next pass due with its bases (R176, R177). -/
def State.rearmed (s : State) (x : Stream) : State :=
  let q := s.newId
  q.2.putStream { x with
    state := 0, next := 0, cur := none, order := [], stop := none, reStop := none, cancelling := false, waiters := [], waitSeq := q.1,
    bases := x.heldBases.getD x.bases, due := x.heldBases.isSome, heldBases := none }

/-- The pass of a stream has ended (R175): a persistent stream is ARMED; another writes its record, and is RELEASED once its last handle is returned. -/
def State.passEnd (s : State) (x : Stream) : State :=
  let y := { x with passes := (x.passes + 1) % 2 ^ 32, watermark := hdrEntries x.hdr + 1, ended := !hdrPersist x.hdr }
  if hdrPersist x.hdr then s.rearmed y else if y.bufs.isEmpty then s.releaseStream y else s.putStream y

/-- Give counts of a ring back after buffers of it are dropped: delivered ones leave FULL, and all become FREE (R170; log entry 179). -/
def State.ringBack (s : State) (x : Stream) (delivered freed : Nat) : State :=
  if hdrKind x.hdr = 0 then s
  else
    let n := hdrQueue x.hdr
    let p := s.pair x.ctx x.bay n
    s.modCtx x.ctx fun c => { c with pairs := tset c.pairs (32 * x.bay + n) { full := p.full - delivered, free := min max16 (p.free + freed) } }

/-- The requests of buffers that a stream drops: those not issued go, those in flight complete and their data is discarded (R180, R187). -/
def State.dropReqs (s : State) (x : Stream) (gone : Req → Bool) : State :=
  { s with reqs := (s.reqs.filter fun r => r.owner != x.xfer || !gone r || r.inFlight).map fun r =>
      if r.owner == x.xfer && gone r then { r with dropped := true } else r }

/-- A stream as it is FAULTED: the buffers of the pass not yet delivered are dropped, delivered ones stay (R175, R188). -/
def Stream.faulted (x : Stream) (code cause watermark : Nat) : Stream :=
  { x with state := 3, code := code, cause := cause, watermark := watermark, stop := none, fault := none, reStop := none, reFault := none
           cur := none, order := [], ringPos := if hdrKind x.hdr = 1 then x.order.headD x.ringPos else x.ringPos
           bufs := x.bufs.filter fun e => !x.order.contains e.1 }

/-- A stream goes to FAULTED: the buffers not yet delivered are dropped, delivered ones stay, an unresolved page fault is reported (R175, R187, R188). -/
def State.faultStream (s : State) (x : Stream) (code cause addr watermark : Nat) : State :=
  let y := x.faulted code cause watermark
  let a := { s with faults := s.faults.filter fun f => !x.waitsFor f.id }
  let t := ((((a.ringBack x 0 x.order.length).dropReqs x fun r => (tfind y.bufs r.buf).isNone).endHold x.xfer).putStream y).countUnresolved
  if code = stPageFault then t.faultEvent (x.ctx + 1) x.ctx x.half cause 1 (hdrTag x.hdr) addr 0 else t

/-- Whether a buffer is in a consumer's hands. -/
def Buf.taken (b : Buf) : Bool := b.use == 3 || b.use == 5

/-- The buffers that a cancellation leaves: those in a consumer's hands, and those an agent has filled that the auger has not taken (R180). -/
def Stream.staysAt (x : Stream) (b : Buf) : Bool := b.taken || (hdrKind x.hdr == 2 && b.use == 2)

/-- Finish a cancellation once no issued request is left: buffers are reclaimed and a ring's counts follow (R170, R180 steps 3 and 4). -/
def State.finishCancel (s : State) (x : Stream) : State :=
  let lost := (x.bufs.filter fun e => !x.staysAt e.2).length
  let t := { s with aug := { s.aug with cancel := satAdd max32 s.aug.cancel lost } }
  let u := t.ringBack x (if hdrKind x.hdr = 1 then lost - x.order.length else 0) lost
  let y := { x with bufs := x.bufs.filter fun e => x.staysAt e.2
                    order := [], cur := none, ringPos := if hdrKind x.hdr = 1 then x.agentPos else x.ringPos }
  if x.releasing || !hdrPersist x.hdr then
    if y.bufs.any (fun e => e.2.taken) then u.setStream y else u.releaseStream y
  else (u.rearmed y).wakeWaiters x.waiters

/-- Whether a cancelled stream has no issued request and, when it is to be released, no handle in a consumer's hands. -/
def State.cancelReady (s : State) (x : Stream) : Bool :=
  (s.reqsOf x.xfer).isEmpty
    && (!(x.releasing || !hdrPersist x.hdr) || x.bufs.all fun e => !e.2.taken)

/-- Blocks of the pass that are not complete: those of buffers not yet delivered or stored that have requests, or are to be fetched or stored again (R186). -/
def State.unfinished (s : State) (x : Stream) : List Nat :=
  ((s.reqsOf x.xfer).filter fun r => x.order.contains r.buf).map Req.block
    ++ ((x.bufs.filter fun e => x.order.contains e.1).map fun e => e.2.refetch).flatten

/-- The first block of the pass not yet complete (R186). -/
def State.watermarkOf (s : State) (x : Stream) : Nat := (s.unfinished x).foldl min x.next

/-- Whether a request belongs to a SEM_STORE block of which some request has been issued: such a block is stored whole (R180). -/
def State.begun (s : State) (x : Stream) (r : Req) : Bool :=
  hdrKind x.hdr == 2 && s.reqs.any fun q => q.owner == r.owner && q.buf == r.buf && q.block == r.block && q.live

/-- Start cancelling the current pass of a stream: requests not issued are dropped, queued handles withdrawn, its faults abandoned; whole SEM_STORE blocks that have begun go on (R180 steps 1 and 2, R181). The watermark is the first block that stays incomplete (R186). -/
def State.cancelStream (s : State) (x : Stream) : State :=
  let stays (r : Req) : Bool := match tfind x.bufs r.buf with
    | some b => b.use == 5
    | none => false
  let t := s.dropReqs x fun r => !s.begun x r && !stays r
  let u := { t with
    handles := t.handles.filter fun h => !(h.bay == x.bay && h.slot == x.slot)
    faults := t.faults.filter fun f => !x.waitsFor f.id }
  let y := { x with cancelling := true, stop := none, fault := none, reStop := none, reFault := none, state := if x.state == 2 then 1 else x.state
                    watermark := if x.state = 0 || x.state = 3 || x.ended then x.watermark
                      else { s with reqs := s.reqs.filter fun r => !s.begun x r }.watermarkOf x }
  let v := (u.endHold x.xfer).setStream y
  if v.cancelReady y then v.finishCancel y else v

-- Delivery ------------------------------------------------------------------------------------------------------------------------

/-- Whether every block of a buffer is complete. -/
def Buf.whole (b : Buf) : Bool := b.closed && b.outstanding == 0 && b.refetch.isEmpty

/-- Whether the stream stopped at a block of a buffer or at one before it: such a buffer is not delivered (R187). -/
def Stream.stopsIn (x : Stream) (b : Buf) : Bool :=
  match x.stop with
  | some st => b.blocks.any fun k => decide (st.block ≤ k.1)
  | none => false

/-- Deliver the oldest buffer of the pass if it is complete: a handle, an add to FULL, or, for a store, an add to FREE (R167, R170). -/
def State.deliverOne (s : State) (bay slot : Nat) : State :=
  match s.stream? bay slot with
  | none => s
  | some x =>
    match x.order with
    | [] => s
    | i :: rest =>
      match tfind x.bufs i with
      | none => s
      | some b =>
        if !b.whole || b.use != 1 || x.stopsIn b then s
        else
          let y := { x with order := rest, watermark := s.watermarkOf x }
          let q := hdrQueue x.hdr
          if hdrKind x.hdr == 2 then
            (s.pairAdd x.ctx bay q false 1).setStream { y with bufs := tdel y.bufs i }
          else
            let full := { y with bufs := tset y.bufs i { b.assemble with use := 2 } }
            if hdrKind x.hdr == 1 then (s.pairAdd x.ctx bay q true 1).setStream full
            else { (s.setStream full) with handles := s.handles ++ [⟨bay, x.ctx, q, slot, i, s.now (bayHalf bay)⟩] }

/-- Deliver complete buffers in pass order; k bounds how many. -/
def State.deliver (s : State) (bay slot : Nat) : Nat → State
  | 0 => s
  | k + 1 => (s.deliverOne bay slot).deliver bay slot k

/-- Whether the last buffer of the pass has been delivered or stored. -/
def Stream.passDelivered (x : Stream) : Bool := x.state == 1 && x.order.isEmpty && x.cur.isNone && decide (hdrEntries x.hdr < x.next)

/-- End the pass when its condition holds (R175). -/
def State.checkPassEnd (s : State) (bay slot : Nat) : State :=
  match s.stream? bay slot with
  | none => s
  | some x =>
    if !x.passDelivered || x.stop.isSome || x.fault.isSome || x.reStop.isSome then s
    else if !x.ended then s.passEnd x
    else if x.bufs.isEmpty then s.releaseStream x
    else s

/-- Take up a stop once every request before it is complete: a page fault goes to the joiner, anything else to FAULTED (R187 steps 2 and 3, R164). -/
def State.checkStop (s : State) (bay slot : Nat) : State :=
  match s.stream? bay slot with
  | none => s
  | some x =>
    match x.stop with
    | none => s
    | some st =>
      if (s.reqsOf x.xfer).any (fun r => r.live || decide (r.block < st.block)) || x.fault.isSome then s
      else if st.open_ then
        let q := s.postFault x.ctx st.addr (hdrKind x.hdr == 2) st.cause (.xfer x.xfer st.block) x.half
        q.2.setStream { x with fault := some q.1, watermark := if x.state = 0 || x.ended then x.watermark else st.block }
      else s.faultStream x st.code st.cause st.addr (if x.state = 0 || x.ended then x.watermark else st.block)

/-- Refetched buffers are compared again: a match gives them back to the consumer (R183); one fetched again for a loft error in a consumer's hands goes back to it (R200). -/
def State.checkRefetch (s : State) (bay slot : Nat) : State :=
  match s.stream? bay slot with
  | none => s
  | some x =>
    match x.bufs.find? fun e => decide (4 ≤ e.2.use) && e.2.whole with
    | none => s
    | some (i, b) =>
      let bad := s.staleGens x.ctx b
      if b.use == 5 then s.setStream { x with bufs := tset x.bufs i { b.assemble with use := 3 } }
      else if bad.isEmpty then (s.endHold x.xfer).setStream { x with bufs := tset x.bufs i { b.assemble with use := 2 } }
      else (s.endHold x.xfer).startRefetch x i b bad

/-- The full ring buffer that is read next is lost: it leaves its ring, and its reader passes it over (R170, R183; log entry 179). -/
def State.loseRing (s : State) (x : Stream) : State × Stream :=
  if hdrKind x.hdr = 1 then (s.ringBack x 1 1, { x with agentPos := (x.agentPos + 1) % hdrDepth x.hdr })
  else if hdrKind x.hdr = 2 then (s.ringBack x 1 1, { x with ringPos := (x.ringPos + 1) % hdrDepth x.hdr })
  else (s, x)

/-- A block that a delivered buffer needs again cannot be had: the buffer is lost and the stream FAULTED, its watermark that of its pass (R183, R187). -/
def State.failRefetch (s : State) (x : Stream) (st : Stop) : State :=
  let lost (b : Buf) : Bool := decide (2 ≤ b.use) && b.blocks.any (fun k => k.1 == st.block) && !(b.refetch.isEmpty && b.outstanding == 0)
  let r := if x.bufs.any (fun e => lost e.2) then s.loseRing x else (s, x)
  let y := { r.2 with bufs := r.2.bufs.filter fun e => !lost e.2 }
  r.1.faultStream y st.code st.cause st.addr (if x.state = 0 || x.state = 3 || x.ended then x.watermark else s.watermarkOf x)

/-- Take up a stop of a block to be fetched again once its buffer's other requests are complete (R183, R187 steps 2 and 3). -/
def State.checkReStop (s : State) (bay slot : Nat) : State :=
  match s.stream? bay slot with
  | none => s
  | some x =>
    match x.reStop with
    | none => s
    | some st =>
      if (s.reqsOf x.xfer).any (fun r => r.again && !x.order.contains r.buf) || x.reFault.isSome then s
      else if st.open_ then
        let q := s.postFault x.ctx st.addr false st.cause (.xfer x.xfer st.block) x.half
        q.2.setStream { x with reFault := some q.1 }
      else s.failRefetch x st

/-- Everything that follows the end of a line request or a translation of a stream. -/
def State.settleStream (s : State) (bay slot : Nat) : State :=
  match s.stream? bay slot with
  | none => s
  | some x =>
    if x.cancelling then (if s.cancelReady x then s.finishCancel x else s)
    else
      ((((s.deliver bay slot 64).checkRefetch bay slot).checkReStop bay slot).checkStop bay slot).checkPassEnd bay slot

-- Fetches ------------------------------------------------------------------------------------------------------------------------

/-- Whether a scribe fetch is complete (R351). -/
def Fetch.complete (f : Fetch) : Bool := f.next == f.rows.length && f.buf.outstanding == 0 && f.buf.refetch.isEmpty && f.stop.isNone && f.failed.isNone

/-- Take up a stop of a scribe fetch (R187, R152). -/
def State.settleFetch (s : State) (id : Nat) : State :=
  match s.fetch? id with
  | none => s
  | some f =>
    match f.stop with
    | none => if f.complete && f.doneAt.isNone then s.setFetch { f with doneAt := some (s.now (bayHalf f.bay)) } else s
    | some st =>
      if (s.reqsOf (.fetch id)).any (fun r => r.live || decide (r.block < st.block)) || f.fault.isSome then s
      else if st.open_ then
        let q := s.postFault f.ctx st.addr false st.cause (.xfer (.fetch id) st.block) (bayHalf f.bay)
        q.2.setFetch { f with fault := some q.1 }
      else (s.setFetch { f with stop := none, failed := some (st.code, st.cause, st.addr) }).countUnresolved

/-- Drop a scribe fetch: requests not issued are dropped, issued ones complete and their data is discarded (R180). -/
def State.dropFetch (s : State) (id : Nat) : State :=
  { s with
    fetches := s.fetches.filter fun f => f.id != id
    faults := s.faults.filter fun f => match f.who with
      | .xfer (.fetch i) _ => i != id
      | _ => true
    reqs := (s.reqs.filter fun r => r.owner != .fetch id || r.inFlight).map fun r =>
      if r.owner == .fetch id then { r with dropped := true } else r }

/-- Cancel a scribe fetch: its buffer is reclaimed and counted (R179, R180, R191). -/
def State.cancelFetch (s : State) (id : Nat) : State :=
  let t := s.dropFetch id
  { t with aug := { t.aug with cancel := satAdd max32 t.aug.cancel 1 } }

/-- Settle the transfer a request belonged to. -/
def State.settle (s : State) (x : XferId) : State :=
  match x with
  | .stream b l => s.settleStream b.val l.val
  | .fetch id => s.settleFetch id
  | .plane _ _ => s
  | .peg _ _ => s

/-- Whether a request may not be issued: its transfer has stopped at its block or before it, and no SEM_STORE block has begun (R187 step 1). -/
def State.stopped (s : State) (r : Req) : Bool :=
  match r.owner with
  | .stream b l =>
    match s.stream? b.val l.val with
    | none => false
    | some x =>
      match x.stop with
      | none => false
      | some st => x.order.contains r.buf && decide (st.block ≤ r.block) && !s.begun x r
  | .fetch id =>
    match (s.fetch? id).bind Fetch.stop with
    | none => false
    | some st => decide (st.block ≤ r.block)
  | .plane _ _ => false
  | .peg _ _ => false

-- Handles (R167, R169) --------------------------------------------------------------------------------------------------------

/-- The oldest handle of a queue. -/
def State.headHandle (s : State) (bay ctx queue : Nat) : Option Handle := s.handles.find? fun h => h.bay == bay && h.ctx == ctx && h.queue == queue

/-- Take the oldest handle of a queue off it. -/
def State.popHandle (s : State) (h : Handle) : State := { s with handles := s.handles.erase h }

/-- A consumer returns a buffer: it is free for the stream's next fill (R169). -/
def State.returnBuf (s : State) (bay slot buf : Nat) : State :=
  match s.stream? bay slot with
  | none => s
  | some x => ((s.dropReqs x fun r => r.buf == buf).setStream { x with bufs := tdel x.bufs buf }).settleStream bay slot

-- Lane corrections (R221, R225) ----------------------------------------------------------------------------------------------

/-- Post YARD_LANE_SPARED and owe a service write (R225, R398). -/
def State.laneSpared (s : State) (site sub lane outcome : Nat) : State :=
  (s.postPf0 13 0xFF (siteHalf site) (toLE 1 site ++ toLE 1 sub ++ toLE 1 lane ++ toLE 1 outcome)).oweService

/-- Whether the spare lane of a sub-channel is idle and passed training at this power-on. -/
def State.spareIdle (s : State) (site sub : Nat) : Bool :=
  !(s.plan.site site).spareUsed.getLsbD sub && !(tget (s.site site).failed sub 0).getLsbD 12

/-- A lane that has reached THRESH in the window: the idle spare is switched in, or the lane is erased; while the sub-channel switches another in, it waits (R225). -/
def State.spareTrigger (s : State) (site sub lane : Nat) : State :=
  let x := s.site site
  let k := sub * 16 + lane
  if tget x.laneCe k 0 < s.yard.spareThresh || (tfind x.sparing sub).isSome || x.erased.contains k then s
  else if s.spareIdle site sub then s.setSite site { x with sparing := tset x.sparing sub lane }
  else (s.setSite site { x with erased := x.erased ++ [k], laneCe := tdel x.laneCe k }).laneSpared site sub lane 1

/-- The lanes of a sub-channel that wait for its spare. -/
def State.spareTriggers (s : State) (site sub : Nat) : State := forAll (List.range 12) (fun l t => t.spareTrigger site sub l) s

/-- The counts of the lane sparing window that a tick lies in: those of an earlier window are gone (R225, R366). -/
def State.rollSpare (s : State) (site : Nat) : State :=
  let x := s.site site
  let n := 2 ^ s.yard.spareWindow
  let w := s.now (siteHalf site) / n
  if w = x.spareEnded / n then s else s.setSite site { x with laneCe := [], spareEnded := n * w }

/-- A correction is counted against a lane (R225). -/
def State.laneCorrected (s : State) (site sub lane : Nat) : State :=
  let t := s.rollSpare site
  let x := t.site site
  (t.setSite site { x with laneCe := tset x.laneCe (sub * 16 + lane) (tget x.laneCe (sub * 16 + lane) 0 + 1) }).spareTrigger site sub lane

/-- What a read's lane code says where lanes are erased: an erased lane is always rebuilt, and a further lane is found wrong and not corrected (R221, R225). -/
def Site.sees (x : Site) (sub : Nat) (o : LineOutcome) : LineOutcome :=
  match o with
  | .corrected l => if x.erased.contains (sub * 16 + l.val) then .clean else if x.erased.any (fun k => k / 16 == sub) then .uncorrectable else o
  | .clean => .clean
  | .uncorrectable => .uncorrectable

/-- A line was corrected (R221, R230). -/
def State.lineCorrected (s : State) (site sub : Nat) (lane : Option Nat) : State :=
  let x := s.site site
  let t := s.setSite site { x with ce := satAdd max32 x.ce 1 }
  match lane with
  | some l => t.laneCorrected site sub l
  | none => t

end Sys2Proof.Machine
end

