-- ==== Sys2Proof/Machine/Streams.lean ====
section
/-! DEFINITION. The auger's and yard's own steps: pass starts, translation of blocks, slots, completions, semaphore pairs, retries, sparing, patrols and migration. -/

namespace Sys2Proof.Machine

/-- The answer of a step that is always taken. -/
abbrev Result := Host.Outcome State Fault Refusal

-- Passes (R176) -------------------------------------------------------------------------------------------------------

/-- Start the due pass of an ARMED stream once its semaphore holds WAIT_N (R176, R360). -/
def State.startPass (s : State) (bay slot : Nat) : State :=
  match s.stream? bay slot with
  | none => s
  | some x =>
    let sem := hdrWaitSem x.hdr
    if x.state != 0 || !x.due || x.fault.isSome || x.stop.isSome || x.reStop.isSome || x.cancelling then s
    else if sem != 0xFF && !s.mayTake x.ctx bay sem (hdrWaitN x.hdr) x.waitSeq then s
    else
      let t := if sem = 0xFF then s else s.semTake x.ctx bay sem (hdrWaitN x.hdr)
      t.putStream { x with state := 1, due := false, ended := false, next := 0, watermark := 0, cur := none, order := [], stop := none }

def execStreamPassStart (bay slot : Fin 64) (s : State) : Result := .next (s.startPass bay slot)

-- Translation of blocks (R164, R186, R187) -----------------------------------------------------------------------------------

/-- Stop a stream before a block; a fault the joiner may resolve holds a RUNNING stream (R187 step 1). A cancelled one does not stop: its faults are abandoned (R181). -/
def State.stopStream (s : State) (x : Stream) (st : Stop) : State :=
  let keep : Bool := x.cancelling || match x.stop with
    | some o => decide (o.block ≤ st.block)
    | none => false
  if keep then s.settleStream x.bay x.slot
  else
    let y := { x with stop := some st, state := if st.open_ && x.state == 1 then 2 else x.state, watermark := if x.state = 0 || x.ended then x.watermark else s.watermarkOf x }
    let t := if st.open_ && x.state == 1 then s.putStream y else s.setStream y
    t.settleStream x.bay x.slot

/-- A block that a delivered buffer needs again does not translate, or cannot be read: it holds a RUNNING stream; one that is not RUNNING keeps its state (R183, R187). -/
def State.stopRefetch (s : State) (x : Stream) (st : Stop) : State :=
  if x.cancelling || x.reStop.isSome then s.settleStream x.bay x.slot
  else
    let y := { x with reStop := some st, state := if st.open_ && x.state == 1 then 2 else x.state }
    let t := if st.open_ && x.state == 1 then s.putStream y else s.setStream y
    t.settleStream x.bay x.slot

/-- The first fault of a block's rows. -/
def State.rowsFault (s : State) (ctx : Nat) (addrs : List Nat) (n : Nat) (write : Bool) : Option (Nat × Nat) :=
  addrs.findSome? fun a => s.rangeFault ctx a n write .module

/-- Gathered bytes of a SEM_STORE block, put under its keys. -/
def storeRaw (e : List Byte) (k : Nat) (data raw : Memory) : Memory :=
  (List.range (entPlanes e * entRows e)).foldl (fun m r => memWriteN m (rawKey k (r * entRowBytes e)) (storedRow e data r)) raw

/-- Put the bytes that no line is moved for under their keys: those of ZERO and REPEAT granules (R226, R227). -/
def State.fillUnstored (s : State) (k : Nat) (lines : List (Nat × Nat × List Piece)) (raw : Memory) : Memory :=
  (s.unstored lines).foldl (fun m p => memWriteN m (rawKey k p.2.dst) (memReadN s.mem (cellAddr p.1 p.2.src) p.2.len)) raw

/-- Issue a checked block of a stream into a buffer (R162, R172, R183). -/
def State.issueBlock (s : State) (x : Stream) (i : Nat) (b : Buf) (k base : Nat) (e : List Byte) (again : Bool) : State :=
  let addrs := entRowAddrs e base
  let n := entRowBytes e
  let store := hdrKind x.hdr == 2
  let gens := if hdrCheckGen x.hdr && !store then addrs.foldl (fun g a => s.gensOf x.ctx a n g) b.gens else b.gens
  let all := mergeLines ((List.range addrs.length).map fun r => s.rowPieces x.ctx (addrs.getD r 0) n (r * n)).flatten
  let lines := if store then all else s.storedLines all
  let c : Buf := { b with
    gens := gens
    raw := if store then storeRaw e k b.data b.raw else s.fillUnstored k all b.raw
    blocks := if again then b.blocks else b.blocks ++ [(k, base, e)]
    refetch := if again then b.refetch.erase k else b.refetch
    outstanding := b.outstanding + lines.length
    closed := b.closed || entEnd e }
  let last := !again && !entEnd e && k == hdrEntries x.hdr
  let y : Stream := { x with
    bufs := tset x.bufs i c
    next := if again then x.next else k + 1
    cur := if !again && entEnd e then none else x.cur }
  let w := if again && b.counted then { s with aug := { s.aug with refetch := (s.aug.refetch + 1) % 2 ^ 64 } } else s
  let t := (w.setStream y).issue x.xfer x.ctx x.bay x.half i k store again lines
  if last then t.stopStream y ⟨k + 1, 0, 0, stDescInvalid, false⟩ else t.settleStream x.bay x.slot

/-- Read, check and translate the next block of a stream into a buffer. -/
def State.nextBlock (s : State) (x : Stream) (i : Nat) (b : Buf) : State :=
  let k := x.next
  match s.tryRead x.ctx (x.desc + 64 + 32 * k) 32 .module with
  | .error f => s.stopStream x ⟨k, f.1, f.2, stPageFault, resolvable f.2⟩
  | .ok e =>
    let s := s.countRange x.ctx (x.desc + 64 + 32 * k) 32 x.half
    if entBad e (hdrBufBytes x.hdr) then s.stopStream x ⟨k, 0, 0, stDescInvalid, false⟩
    else
      let base := refAddr (x.bases.getD (entSel e) 0)
      let addrs := entRowAddrs e base
      if addrs.any (fun a => s.cuttingOver x.ctx a (entRowBytes e)) then s
      else match s.rowsFault x.ctx addrs (entRowBytes e) (hdrKind x.hdr == 2) with
        | some (a, c) => s.stopStream x ⟨k, a, c, stPageFault, resolvable c⟩
        | none => s.issueBlock x i b k base e false

/-- The lowest buffer of a LOAD stream that is free (R169). -/
def Stream.freeBuf (x : Stream) : Option Nat := (List.range (hdrDepth x.hdr)).find? fun i => (tfind x.bufs i).isNone

/-- Translate a block of a buffer afresh, to be fetched or stored again (R183, R187, R200). -/
def State.blockAgain (s : State) (x : Stream) (i : Nat) (b : Buf) (stop : State → Stream → Stop → State) : State :=
  let k := b.refetch.headD 0
  match b.blocks.find? fun blk => blk.1 == k with
  | none => s
  | some (_, base, e) =>
    if (entRowAddrs e base).any (fun a => s.cuttingOver x.ctx a (entRowBytes e)) then s
    else match s.rowsFault x.ctx (entRowAddrs e base) (entRowBytes e) (hdrKind x.hdr == 2) with
    | some (a, c) => stop s x ⟨k, a, c, stPageFault, resolvable c⟩
    | none => s.issueBlock x i b k base e true

/-- Translate the next block of a stream: one that a delivered buffer needs again first, whatever the stream's state; then, while it is RUNNING, one of the pass to be fetched or stored again, else the next of the pass (R183, R186). -/
def State.translateStream (s : State) (bay slot : Nat) : State :=
  match s.stream? bay slot with
  | none => s
  | some x =>
    if x.cancelling || x.reStop.isSome || x.recordHeld || x.state == 4 then s
    else
      match x.bufs.find? fun e => !e.2.refetch.isEmpty && !x.order.contains e.1 with
      | some (i, b) => s.blockAgain x i b State.stopRefetch
      | none =>
        if x.state != 1 || x.stop.isSome then s
        else
        match x.bufs.find? fun e => !e.2.refetch.isEmpty with
        | some (i, b) => s.blockAgain x i b State.stopStream
        | none =>
        if decide (hdrEntries x.hdr < x.next) then s
        else
          match x.cur with
          | some i =>
            match tfind x.bufs i with
            | some b => s.nextBlock x i b
            | none => s
          | none =>
            if hdrKind x.hdr != 0 then s
            else
              match x.freeBuf with
              | none => s
              | some i =>
                let b : Buf := {}
                let y := { x with cur := some i, order := x.order ++ [i], bufs := tset x.bufs i b }
                (s.setStream y).nextBlock y i b

/-- Translate the next row of a scribe fetch: each stored row is one block (R160). -/
def State.translateFetch (s : State) (id : Nat) : State :=
  match s.fetch? id with
  | none => s
  | some f =>
    if f.stop.isSome || f.fault.isSome || f.failed.isSome then s
    else
      let k := match f.buf.refetch with
        | r :: _ => r
        | [] => f.next
      match f.rows[k]? with
      | none => s
      | some (a, n) =>
        if s.cuttingOver f.ctx a n then s
        else
          match s.rangeFault f.ctx a n false .module with
          | some (v, c) => (s.setFetch { f with stop := some ⟨k, v, c, stPageFault, resolvable c⟩ }).settleFetch id
          | none =>
            let all := mergeLines (s.rowPieces f.ctx a n 0)
            let lines := s.storedLines all
            let b : Buf := { f.buf with
              raw := s.fillUnstored k all f.buf.raw
              outstanding := f.buf.outstanding + lines.length
              refetch := f.buf.refetch.drop 1 }
            ((s.setFetch { f with next := if f.buf.refetch.isEmpty then k + 1 else f.next, buf := b }).issue
              (.fetch id) f.ctx f.bay (bayHalf f.bay) 0 k false (!f.buf.refetch.isEmpty) lines).settleFetch id

def execBlockTranslate (x : XferId) (s : State) : Result :=
  match x with
  | .stream b l => .next (s.translateStream b l)
  | .fetch id => .next (s.translateFetch id)
  | .plane _ _ => .next s
  | .peg _ _ => .next s

-- Request slots (R189, R190) ------------------------------------------------------------------------------------------------------

/-- Slots of a site in use, of a bay at it, and of a bank of it. -/
def State.slotsUsed (s : State) (site : Nat) : Nat := (s.reqs.filter fun r => r.site == site && r.inFlight).length
def State.baySlots (s : State) (site bay : Nat) : Nat := (s.reqs.filter fun r => r.site == site && r.bay == bay && r.inFlight).length
def State.bankSlots (s : State) (site bank : Nat) : Nat := (s.reqs.filter fun r => r.site == site && r.bank == bank && r.inFlight).length

/-- Whether a site may grant a request a slot: BAY_CAP, which a bay's requests have, and LC_RESERVE, no spare being switched in, and its transfer not stopped before it (R187, R189, R225). -/
def State.grantable (s : State) (r : Req) : Bool :=
  s.siteUp r.site && decide (s.slotsUsed r.site < 1024) && (r.bay == 64 || decide (s.baySlots r.site r.bay < s.aug.bayCap))
    && (decide (s.aug.lcReserve < 1024 - s.slotsUsed r.site) || !(s.ctx r.ctx).be)
    && (tfind (s.site r.site).sparing (r.bank / 16)).isNone && !s.stopped r

/-- Set the state of a request. -/
def State.setReq (s : State) (id : Nat) (st : ReqState) : State :=
  { s with reqs := s.reqs.map fun r => if r.id == id then { r with state := st } else r }

/-- Give a request a slot: it arrives at its controller after every one granted before it (R189, R228). -/
def State.grantReq (s : State) (id : Nat) : State :=
  { s with reqs := (s.reqs.filter fun r => r.id != id) ++ ((s.reqs.filter fun r => r.id == id).map fun r => { r with state := .granted }) }

/-- The number of a transfer in its bay's turns: its stream slot, or 64 and more for a scribe fetch; the Plane passes and pegs have turns of their own (log entry 181). -/
def Req.turn (r : Req) : Nat :=
  match r.owner with
  | .stream _ l => l.val
  | .fetch id => 64 + id
  | .plane c i => 4 * c.val + i.val
  | .peg c k => 32 + 1024 * c.val + k.val

/-- A list of requests in the order of their transfers' numbers, each transfer's in issue order. -/
def byTurn : List Req → List Req := List.insertionSort fun a b => a.turn ≤ b.turn

/-- The requests that wait for a slot of a site in a bay, in turn: those of the transfers after the one served last come first (R189). -/
def State.inTurn (s : State) (site bay : Nat) : List Req :=
  let l := s.reqs.filter fun q => q.site == site && q.bay == bay && q.state == .waiting
  match tfind (s.site site).lastXfer bay with
  | none => byTurn l
  | some k => byTurn (l.filter fun q => decide (k < q.turn)) ++ byTurn (l.filter fun q => decide (q.turn ≤ k))

/-- Requests of a bay that wait for banks of a site. -/
def State.bankBlocked (s : State) (site bay : Nat) : Nat := (s.reqs.filter fun q => q.site == site && q.bay == bay && q.state == .bankBlocked).length

/-- Serve the waiting requests of a bay in turn until one takes a slot: a request for a bank at its cap goes to the bank-blocked list; while that list is full the bay issues nothing to the site (R190). -/
def State.grantBay (s : State) (site bay : Nat) : List Req → State × Bool
  | [] => (s, false)
  | r :: rest =>
    if 64 ≤ s.bankBlocked site bay then (s, false)
    else if !s.grantable r then s.grantBay site bay rest
    else if s.bankSlots site r.bank < s.aug.bankCap then
      let x := s.site site
      ((s.grantReq r.id).setSite site { x with lastBay := bay, lastXfer := tset x.lastXfer bay r.turn }, true)
    else
      let t := (s.setReq r.id .bankBlocked)
      { t with aug := { t.aug with bankHits := (t.aug.bankHits + 1) % 2 ^ 64 } }.grantBay site bay rest

/-- Try the bays in turn. -/
def State.grantBays (s : State) (site : Nat) : List Nat → State
  | [] => s
  | b :: rest =>
    let r := s.grantBay site b (s.inTurn site b)
    if r.2 then r.1 else r.1.grantBays site rest

/-- Whether a bank-blocked request may take a slot of its bank now (R189, R190). -/
def State.unblocks (s : State) (q : Req) : Bool :=
  q.state == .bankBlocked && decide (s.bankSlots q.site q.bank < s.aug.bankCap) && s.grantable q

/-- A site grants a slot: to the oldest bank-blocked request that may have one, else to the bays in turn (R189, R190). -/
def State.slotGrant (s : State) (site : Nat) : State :=
  match s.reqs.find? fun q => q.site == site && s.unblocks q with
  | some q => s.grantReq q.id
  | none => s.grantBays site ((List.range 65).map fun i => ((s.site site).lastBay + 1 + i) % 65)

def execSlotGrant (site : Fin 12) (s : State) : Result := .next (s.slotGrant site)

/-- A slot frees: it goes to the oldest request that waits for the same bank (R190). -/
def State.passSlot (s : State) (r : Req) : State :=
  match s.reqs.find? fun q => q.site == r.site && q.bank == r.bank && s.unblocks q with
  | none => s
  | some q => s.grantReq q.id

/-- The request of a number. -/
def State.req? (s : State) (id : Nat) : Option Req := s.reqs.find? fun r => r.id == id

/-- A buffer has n requests fewer to wait for. -/
def Buf.less (b : Buf) (n : Nat) : Buf := { b with outstanding := b.outstanding - n }

/-- Requests of one block leave: their buffer waits for them no longer, and pages they alone kept are freed. -/
def State.leaveReqs (s : State) (r : Req) (ids : List Nat) : State :=
  let t := { s with reqs := s.reqs.filter fun q => !ids.contains q.id }
  let u := if r.dropped then t else match r.owner with
    | .stream b l =>
      match t.stream? b l with
      | some x =>
        match tfind x.bufs r.buf with
        | some f => t.setStream { x with bufs := tset x.bufs r.buf (f.less ids.length) }
        | none => t
      | none => t
    | .fetch id =>
      match t.fetch? id with
      | some f => t.setFetch { f with buf := f.buf.less ids.length }
      | none => t
    | .plane _ _ => t
    | .peg _ _ => t
  u.sweepPages

/-- A request ends: it leaves its slot. -/
def State.endReq (s : State) (r : Req) : State :=
  (({ s with reqs := s.reqs.filter fun q => q.id != r.id }).passSlot r).leaveReqs r [r.id]

/-- Put the bytes a read returned into its buffer (R172). -/
def State.fillRaw (s : State) (r : Req) : State :=
  let add (m : Memory) : Memory := r.pieces.foldl (fun m p => memWriteN m (rawKey r.block p.dst) (memReadN s.mem (cellAddr r.page p.src) p.len)) m
  match r.owner with
  | .stream b l =>
    match s.stream? b l with
    | some x =>
      match tfind x.bufs r.buf with
      | some f => s.setStream { x with bufs := tset x.bufs r.buf { f with raw := add f.raw } }
      | none => s
    | none => s
  | .fetch id =>
    match s.fetch? id with
    | some f => s.setFetch { f with buf := { f.buf with raw := add f.buf.raw } }
    | none => s
  | .plane _ _ => s
  | .peg _ _ => s

/-- The bytes a store request writes. -/
def State.storeBytes (s : State) (r : Req) (p : Piece) : List Byte :=
  match r.owner with
  | .stream b l =>
    match s.stream? b l with
    | some x =>
      match tfind x.bufs r.buf with
      | some f => memReadN f.raw (rawKey r.block p.dst) p.len
      | none => []
    | none => []
  | .fetch _ => []
  | .plane _ _ => []
  | .peg _ _ => []

/-- Stop the transfer of a request at its block; one that a delivered buffer needs again stops its refetch (R183, R187). -/
def State.stopReq (s : State) (r : Req) (addr cause : Nat) (op : Bool) : State :=
  let st : Stop := ⟨r.block, addr, cause, stPageFault, op⟩
  match r.owner with
  | .stream b l =>
    match s.stream? b l with
    | some x => if x.order.contains r.buf then s.stopStream x st else s.stopRefetch x st
    | none => s
  | .fetch id =>
    match s.fetch? id with
    | some f => (s.setFetch { f with stop := some st }).settleFetch id
    | none => s
  | .plane _ _ => s
  | .peg _ _ => s

/-- The virtual address of a request's line. -/
def State.reqAddr (s : State) (r : Req) : Nat :=
  match s.pageById r.page with
  | some p => p.va + 256 * r.line
  | none => 0

/-- Whether a write request covers its whole line. -/
def Req.fullLine (r : Req) : Bool := r.write && decide (256 ≤ (r.pieces.map Piece.len).sum)

/-- A line is written whole: its poison is cleared (R222). -/
def State.clearLine (s : State) (id line : Nat) : State :=
  s.modPage id fun p => { p with poison := p.poison.filter fun i => !(decide (256 * line ≤ p.unit * i) && decide (p.unit * i < 256 * line + 256)) }

/-- The writes of one request, with byte masks (R172). -/
def State.storeReq (s : State) (q : Req) : State :=
  forAll q.pieces (fun p t => t.writePiece q.page p.src (s.storeBytes q p) false) (if q.fullLine then s.clearLine q.page q.line else s)

/-- Whether a request writes a part only of a spoilt loft word (R200). -/
def State.splitsWord (s : State) (q : Req) : Bool :=
  match s.pageById q.page with
  | some p => q.pieces.any fun c => s.loftSplit q.ctx (p.va + c.src) c.len
  | none => false

/-- A SEM_STORE block that needs more PACK lines than are free commits nothing: the joiner may free some, and the block is stored again (R187, R229). -/
def State.refuseBlock (s : State) (r : Req) : State :=
  match r.owner with
  | .stream b l =>
    match s.stream? b l with
    | some x =>
      match tfind x.bufs r.buf with
      | some f => (s.setStream { x with bufs := tset x.bufs r.buf { f with refetch := f.refetch ++ [r.block] } }).stopReq r (s.reqAddr r) pfPackFull true
      | none => s
    | none => s
  | .fetch _ => s
  | .plane _ _ => s
  | .peg _ _ => s

/-- Every line of a SEM_STORE block has been accepted: they commit together, each granule compressed once, or none does (R187, R227, R229; log entry 180). -/
def State.commitBlock (s : State) (r : Req) (l : List Req) : State :=
  let ids := l.map Req.id
  let t := forAll l (fun q y => y.storeReq q) s
  let u := forAll ((l.map fun q => (q.page, q.line / 16)).dedup) (fun g y => y.recompress g.1 g.2) t
  if l.any s.splitsWord then (s.leaveReqs r ids).stopReq r (s.reqAddr r) pfLoft false
  else if s.packOver u r.ctx then (s.leaveReqs r ids).refuseBlock r
  else ((u.packChecks r.ctx).leaveReqs r ids).settle r.owner

/-- A write is accepted and its slot passes on; the last of its block commits them all (R187, R189). -/
def State.accept (s : State) (r : Req) : State :=
  let t := (s.setReq r.id .accepted).passSlot r
  let l := t.reqs.filter fun q => q.owner == r.owner && q.buf == r.buf && q.block == r.block
  if l.length == r.total && l.all (fun q => q.state == .accepted) then t.commitBlock r l else t

/-- A request is served: a read fills its buffer; a stream's write is accepted; one whose transfer was cancelled or has ended is discarded, and the data of a Plane unit or a network interface moves with the unit's own step (R172, R180; log entry 181). -/
def State.serve (s : State) (r : Req) : State :=
  if r.dropped || engineOf r.owner r.ctx then (s.endReq r).settle r.owner
  else if r.write then s.accept r
  else ((s.fillRaw r).endReq r).settle r.owner

/-- The other requests of a block that met a fault: those issued complete and are discarded, the others are dropped (R187). -/
def State.dropBlock (s : State) (r : Req) : State :=
  let mate (q : Req) : Bool := q.owner == r.owner && q.buf == r.buf && q.block == r.block
  { s with reqs := (s.reqs.filter fun q => !mate q || q.inFlight).map fun q => if mate q then { q with dropped := true } else q }

/-- A request ends poisoned: its block meets a fault the joiner cannot resolve (R200, R222). -/
def State.servePoisoned (s : State) (r : Req) (cause : Nat) : State :=
  if r.dropped || engineOf r.owner r.ctx then (s.endReq r).settle r.owner else ((s.endReq r).dropBlock r).stopReq r (s.reqAddr r) cause false

/-- Whether some bytes that a request reads are poisoned. -/
def Page.badFor (p : Page) (r : Req) : Bool := !r.write && r.pieces.any fun c => p.bad c.src c.len

/-- Whether a partial write meets a line already poisoned: its bytes are discarded without a read (R222). -/
def Page.badUnder (p : Page) (r : Req) : Bool := r.write && p.bad (256 * r.line) 256

/-- Whether a request waits behind one granted before it for the same granule (R228). -/
def State.behindReq (s : State) (r : Req) : Bool :=
  (s.reqs.takeWhile fun q => q.id != r.id).any fun q => q.inFlight && q.page == r.page && q.line / 16 == r.line / 16 && (q.write || r.write)

/-- Whether a request crosses the bridge while it retrains: it waits (R26, R451). -/
def State.bridgeWaits (s : State) (h : Half) (site : Nat) : Bool :=
  s.links.bridgeRetrain.isSome && decide (site < 12) && h != siteHalf site

/-- A line read has been made again, or is an uncorrectable one: it is marked, logged, and poisons its request (R222). -/
def State.lineLost (s : State) (p : Page) (r : Req) : State :=
  ((s.poisonLine r.page r.line).logUe p.site p.frame (p.granule r.line) (if r.write then 3 else 1)).servePoisoned r pfYard

/-- Complete a granted request with what the lane code says of the line (R180, R221, R222). -/
def State.completeReq (s : State) (id : Nat) (o : LineOutcome) : State :=
  match s.req? id with
  | none => s
  | some r =>
    if r.state != .granted || s.bridgeWaits r.half r.site || s.behindReq r then s
    else
      match s.pageById r.page with
      | none => (s.endReq r).settle r.owner
      | some p =>
        let t := s.countLines r.page 1 r.half
        if p.badFor r then t.servePoisoned r (if r.site < 12 then pfYard else pfLoft)
        else if 12 ≤ r.site || r.fullLine || p.badUnder r then t.serve r
        else
          match (s.site r.site).sees (r.bank / 16) o with
          | .clean => t.serve r
          | .corrected l => (t.lineCorrected r.site (r.bank / 16) (some l)).serve r
          | .uncorrectable => t.setReq id .retrying

/-- The retry of an uncorrectable read returns (R222). -/
def State.retryDone (s : State) (id : Nat) (o : LineOutcome) : State :=
  match s.req? id with
  | none => s
  | some r =>
    if r.state != .retrying then s
    else
      match s.pageById r.page with
      | none => (s.endReq r).settle r.owner
      | some p =>
        match (s.site r.site).sees (r.bank / 16) o with
        | .clean => (s.lineCorrected r.site (r.bank / 16) none).serve r
        | .corrected l => (s.lineCorrected r.site (r.bank / 16) (some l)).serve r
        | .uncorrectable => s.lineLost p r

-- Semaphore pairs (R170, R171) -----------------------------------------------------------------------------------------------------

/-- The auger takes 1 from FREE for the next fill or from FULL for the next write-back (R170). -/
def State.augerTake (s : State) (bay slot : Nat) : State :=
  match s.stream? bay slot with
  | none => s
  | some x =>
    let i := x.ringPos
    let p := s.pair x.ctx bay (hdrQueue x.hdr)
    let y := { x with cur := some i, order := x.order ++ [i], ringPos := (i + 1) % hdrDepth x.hdr }
    if x.state != 1 || x.cancelling || x.cur.isSome || x.stop.isSome || x.reStop.isSome || x.fault.isSome || decide (hdrEntries x.hdr < x.next) then s
    else if hdrKind x.hdr = 1 && decide (0 < p.free) && (tfind x.bufs i).isNone then
      (s.pairTake x.ctx bay (hdrQueue x.hdr) false).setStream { y with bufs := tset x.bufs i {} }
    else if hdrKind x.hdr = 2 && decide (0 < p.full) then
      let b : Buf := { data := (tget x.bufs i {}).data }
      (s.pairTake x.ctx bay (hdrQueue x.hdr) true).setStream { y with bufs := tset x.bufs i b }
    else s

def execSemPairAugerTake (bay slot : Fin 64) (s : State) : Result := .next (s.augerTake bay slot)

/-- A Plane pass that takes its gradients from a pair's ring gets a buffer's bytes (R284). -/
def State.planeGets (s : State) (ctx bay pair : Nat) (bs : List Byte) : State :=
  s.modCtx ctx fun c => { c with planes := c.planes.map fun (e : Nat × Plane) =>
    (e.1, if (e.2.state == 1 && fld e.2.hdr 0x1A 1 == bay) then { e.2 with gIn := tset e.2.gIn pair (tget e.2.gIn pair [] ++ bs) } else e.2) }

/-- An agent takes 1 from FULL and reads the next buffer, or takes 1 from FREE and fills it; under CHECK_GEN a stale buffer is fetched again first (R170, R183). -/
def State.agentTake (s : State) (agent : PairAgent) (bay slot : Nat) (fill : List Byte) : State :=
  match s.stream? bay slot with
  | none => s
  | some x =>
    let i := x.agentPos
    let q := hdrQueue x.hdr
    let p := s.pair x.ctx bay q
    let nxt := (i + 1) % hdrDepth x.hdr
    if hdrKind x.hdr = 1 && decide (0 < p.full) then
      match tfind x.bufs i with
      | none => s
      | some b =>
        if b.use != 2 then s
        else if hdrCheckGen x.hdr && !(s.staleGens x.ctx b).isEmpty then s.startRefetch x i b (s.staleGens x.ctx b)
        else
          let t := if agent = .plane then s.planeGets x.ctx bay q (memReadN b.data 0 (hdrBufBytes x.hdr)) else s
          ((((t.pairTake x.ctx bay q true).setStream { x with bufs := tdel x.bufs i, agentPos := nxt }).pairAdd x.ctx bay q false 1)).settleStream bay slot
    else if hdrKind x.hdr = 2 && decide (0 < p.free) then
      let b : Buf := { data := memWriteN [] 0 (fill.take (hdrBufBytes x.hdr)), use := 2 }
      ((s.pairTake x.ctx bay q false).setStream { x with bufs := tset x.bufs i b, agentPos := nxt }).pairAdd x.ctx bay q true 1
    else s

def execSemPairAgentTake (agent : PairAgent) (bay slot : Fin 64) (fill : List Byte) (s : State) : Result := .next (s.agentTake agent bay slot fill)

-- Lane sparing and patrols (R200, R223, R225) -----------------------------------------------------------------------------------------

/-- The spare of a sub-channel is trained and switched in: SPARE_USED and SPARE_FOR are set (R225, R38). -/
def State.spareSwitched (s : State) (site sub : Nat) : State :=
  match tfind (s.site site).sparing sub with
  | none => s
  | some lane =>
    if s.reqs.any (fun r => r.site == site && r.bank / 16 == sub && r.inFlight) then s
    else
      let x := s.site site
      let e := s.plan.site site
      let t := s.setSite site { x with sparing := tdel x.sparing sub, laneCe := tdel x.laneCe (sub * 16 + lane) }
      let u := t.setSiteEntry site { e with
        spareUsed := e.spareUsed ||| BitVec.ofNat 32 (2 ^ sub)
        spareFor := (e.spareFor &&& ~~~(BitVec.ofNat 128 (15 * 2 ^ (4 * sub)))) ||| BitVec.ofNat 128 (lane * 2 ^ (4 * sub)) }
      (u.laneSpared site sub lane 0).spareTriggers site sub

def execLaneSpareSwitched (site : Fin 12) (sub : Fin 32) (s : State) : Result := .next (s.spareSwitched site sub)

/-- A lane sparing window ends: the counts start again (R225, R366). -/
def State.spareWindow (s : State) (site : Nat) : State :=
  let now := s.now (siteHalf site)
  if windowEnd now s.yard.spareWindow (s.site site).spareEnded then s.setSite site { s.site site with laneCe := [], spareEnded := now } else s

def execLaneSparingWindowEnd (site : Fin 12) (s : State) : Result := .next (s.spareWindow site)

/-- Lines of a site: 96 GB of 256 bytes (R193, R216, R223). -/
def siteLines : Nat := 375000000

/-- The line of a site that a number stands for is uncorrectable: it is marked where a page holds it, and logged (R222, R223). -/
def State.patrolLost (s : State) (site line : Nat) : State :=
  let frame := line / 8192
  let g := line % 8192 / 16
  let holds (p : Page) : Bool := p.framed && p.site == site && p.frame == frame && (p.big || g / 16 == p.part)
  let t := match s.pages.find? holds with
    | some p => s.poisonLine p.id (line % 8192 - 256 * p.part)
    | none => s
  t.logUe site frame g 2

/-- The patrol reads the next line of a site, when no request waits there: every line once in each window, a second time where the first read is uncorrectable (R222, R223, R366). -/
def State.patrol (s : State) (site : Nat) (o retry : LineOutcome) : State :=
  let x := s.site site
  let w := s.now (siteHalf site) / 2 ^ s.yard.scrubPeriod
  let n := if w = x.patrolWin then x.patrolNext else 0
  if !s.yard.scrubEnable || !s.siteUp site || decide (siteLines ≤ n)
      || s.reqs.any (fun r => r.site == site && (r.state == .waiting || r.state == .bankBlocked)) then s
  else
    let sub := (granuleBank site (n / 8192) (n % 8192 / 16)).1
    let t := s.setSite site { x with patrolNext := n + 1, patrolWin := w }
    match x.sees sub o with
    | .clean => t
    | .corrected l => t.lineCorrected site sub (some l)
    | .uncorrectable =>
      match x.sees sub retry with
      | .clean => t.lineCorrected site sub none
      | .corrected l => t.lineCorrected site sub (some l)
      | .uncorrectable => t.patrolLost site n

def execYardPatrolRead (half : Half) (site : Fin 6) (outcome retry : LineOutcome) (s : State) : Result := .next (s.patrol (6 * half.num + site) outcome retry)

/-- 64-bit words of a loft (R193). -/
def loftWords : Nat := 4194304

/-- The loft patrol reads the next word of a bay, every word once in each window of 2^24 ticks; it corrects a single-bit error in place and counts it (R200, R366). -/
def State.loftPatrol (s : State) (bay : Nat) (singleBit : Bool) : State :=
  let b := s.bay bay
  let w := s.now (bayHalf bay) / 2 ^ 24
  let n := if w = b.loftWin then b.loftNext else 0
  if loftWords ≤ n then s
  else
    let t := s.setBay bay { b with loftNext := n + 1, loftWin := w }
    if singleBit then { t with yard := { t.yard with loftCe := satAdd max32 t.yard.loftCe 1 } } else t

def execLoftPatrolRead (bay : Fin 64) (singleBit : Bool) (s : State) : Result := .next (s.loftPatrol bay singleBit)

/-- A double-bit error in a stream's buffer: a LOAD buffer's blocks are fetched again once; another, or one that fails again, is lost and the stream FAULTED; a full ring buffer is read only as the next of its ring (R200). -/
def State.loftStream (s : State) (x : Stream) (i : Nat) (f : Buf) : State :=
  if hdrKind x.hdr == 0 && !f.loftRetry then
    let g : Buf := { f with loftRetry := true, refetch := f.blocks.map Prod.fst, counted := false, use := if f.use == 1 then 1 else if f.taken then 5 else 4, gens := [] }
    s.setStream { x with bufs := tset x.bufs i g }
  else if hdrKind x.hdr != 0 && decide (2 ≤ f.use) then
    if i != (if hdrKind x.hdr = 1 then x.agentPos else x.ringPos) then s
    else (s.loseRing x).1.faultStream { (s.loseRing x).2 with bufs := tdel x.bufs i } stPageFault pfLoft 0 (s.watermarkOf x)
  else s.faultStream { x with bufs := tdel x.bufs i } stPageFault pfLoft 0 (s.watermarkOf x)

/-- A double-bit error in loft data that a transfer fills or a page holds; the other targets are the scribe's (R200). -/
def State.loftBad (s : State) (target : LoftTarget) : State :=
  match target with
  | .buffer (.stream b l) i =>
    match s.stream? b l with
    | none => s
    | some x =>
      match tfind x.bufs i with
      | none => s
      | some f => s.loftStream x i f
  | .buffer (.plane _ _) _ | .buffer (.peg _ _) _ => s
  | .buffer (.fetch id) _ =>
    match s.fetch? id with
    | none => s
    | some f =>
      if !f.buf.loftRetry then s.setFetch { f with buf := { f.buf with loftRetry := true, refetch := List.range f.next }, doneAt := none }
      else (s.setFetch { f with failed := some (stPageFault, pfLoft, (f.rows.headD (0, 0)).1) }).countUnresolved
  | .page ctx va =>
    match s.locate ctx va with
    | none => s
    | some (id, off) =>
      match s.pageById id with
      | some p => if attrTier p.attr == 2 then s.poisonLine id (off / 8) else s
      | none => s
  | .staged _ | .descriptor _ _ _ => s

-- Migration (R208, R209) ------------------------------------------------------------------------------------------------------------------

/-- 64 KiB units of yard charged to a context in a half: homes, and both ends of a migration (R209, R215). -/
def State.yardUnits (s : State) (ctx : Nat) (h : Half) : Nat :=
  ((s.pages.filter fun p => p.ctx == ctx && p.charge == .yard).map fun p =>
    let u := if p.big then 32 else 1
    (if p.mapped && p.half == h then u else 0)
      + (match p.mig with
         | some m => if m.half == h then u else 0
         | none => 0)).sum

/-- The yard reservation of a half in 64 KiB units. -/
def State.yardCap (s : State) (ctx : Nat) (h : Half) : Nat :=
  32 * (match h with
        | .h0 => (s.ctx ctx).res.yardH0
        | .h1 => (s.ctx ctx).res.yardH1)

/-- The pages of a half that qualify for migration, in descending order of far count (R208). -/
def State.migrants (s : State) (h : Half) : List Page :=
  (s.pages.filter fun p =>
    p.mapped && p.half == h && attrTier p.attr == 0 && attrPlace p.attr == 3 && p.mig.isNone && p.holders.isEmpty
      && decide (s.yard.migRatio * p.counts.get h ≤ p.counts.get h.other) && decide (2 ^ s.yard.migMin ≤ p.counts.get h.other)).mergeSort
    fun a b => decide (b.counts.get h.other ≤ a.counts.get h.other)

/-- The destination of a migrating page: a place on the site with the most free frames, or, for a page that fits a partly used frame where no site has a whole one, on the site with the most free parts (R207, R208). -/
def State.migPlace (s : State) (h : Half) (big : Bool) : Option (Nat × Nat × Nat) :=
  let at_ (b : Bool) : Option (Nat × Nat × Nat) := (s.bestSite (halfSites h) b).bind fun m => (s.place m big).map fun f => (m, f)
  (at_ true).or (at_ big)

/-- Start the migration of a page if the other half's reservation and sites have room: its destination is allocated (R209 step 1). -/
def State.startMig (s : State) (h : Half) (p : Page) : State :=
  if s.yard.migBudget ≤ s.migSpent.get h then s
  else
    let u := if p.big then 32 else 1
    if s.yardCap p.ctx h.other < s.yardUnits p.ctx h.other + u then s
    else
      match s.migPlace h.other p.big with
      | none => s
      | some (m, f, k) =>
        let t := s.modPage p.id fun q => { q with mig := some ⟨.copying, h.other, m, f, k, [], 0⟩ }
        { t with migSpent := t.migSpent.set h (t.migSpent.get h + 1) }

/-- The end of a migration epoch of a half, 2^20 ticks: pages are selected, and its counts start again (R208, R366). -/
def State.epochEnd (s : State) (h : Half) : State :=
  if !windowEnd (s.now h) 20 (s.epochEnded.get h) then s
  else
    let t := { s with migSpent := s.migSpent.set h 0, epochEnded := s.epochEnded.set h (s.now h) }
    let u := if s.yard.migEnable && s.managing then forAll (s.migrants h) (fun p y => y.startMig h p) t else t
    { u with pages := u.pages.map fun p => if p.half == h then { p with counts := ⟨0, 0⟩ } else p }

def execMigrationEpochEnd (half : Half) (s : State) : Result := .next (s.epochEnd half)

/-- Go on with a page's migration; an unmapped page's migration ends here and both frames are freed (R209). -/
def State.migStep (s : State) (page : Nat) (from_ : MigStep) (f : Page → Mig → State) : State :=
  match s.pageById page with
  | none => s
  | some p =>
    match p.mig with
    | none => s
    | some m => if m.step != from_ then s else if !p.mapped then (s.modPage page fun q => { q with mig := none }).sweepPages else f p m

/-- Set a page's migration. -/
def State.setMig (s : State) (page : Nat) (m : Mig) : State := s.modPage page fun q => { q with mig := some m }

/-- After a copy or a round: the cutover begins once at most 8 granules are dirty or three rounds are done, else another round runs (R209 step 3). -/
def Mig.nextRound (m : Mig) : Mig :=
  if m.dirty.length ≤ 8 || decide (3 ≤ m.rounds) then { m with step := .cutover } else { m with step := .recopying, dirty := [] }

def execMigrationCopyDone (page : Nat) (s : State) : Result := .next (s.migStep page .copying fun _ m => s.setMig page m.nextRound)

def execMigrationRecopyDone (page : Nat) (s : State) : Result :=
  .next (s.migStep page .recopying fun _ m => s.setMig page ({ m with rounds := m.rounds + 1 }).nextRound)

/-- The translation points at the new frame; the old one drains (R209 steps 4 and 5). -/
def State.cutover (s : State) (page : Nat) : State :=
  s.migStep page .cutover fun p m =>
    let u := s.modPage page fun q =>
      { q with half := m.half, site := m.site, frame := m.frame, part := m.part, mig := some ⟨.draining, p.half, p.site, p.frame, p.part, [], 0⟩ }
    { u with yard := { u.yard with migCount := satAdd (2 ^ 64 - 1) u.yard.migCount 1 } }.sweepPages

def execMigrationCutoverDone (page : Nat) (s : State) : Result := .next (s.cutover page)

end Sys2Proof.Machine
end

