-- ==== Sys2Proof/Machine/Power.lean ====
section
/-! DEFINITION. The power manager, rails, thermal sensing and the king post's conflicts (R410 to R413, R421 to R430, R458 to R461, R471 to R476). -/

namespace Sys2Proof.Machine

/-- Change the always-on island. -/
def State.modAon (s : State) (f : Aon → Aon) : State := { s with aon := f s.aon }

/-- Change the power manager. -/
def State.modPower (s : State) (f : Power → Power) : State := s.modAon fun a => { a with power := f a.power }

/-- Change the thermal registers. -/
def State.modThermal (s : State) (f : Thermal → Thermal) : State := s.modAon fun a => { a with thermal := f a.thermal }

/-- Change the boot record. -/
def State.modBoot (s : State) (f : Boot → Boot) : State := s.modAon fun a => { a with boot := f a.boot }

-- Operating points (R423, R424) ------------------------------------------------------------------------------------

/-- CCLK of an operating point in MHz (R423). -/
def pointMhz (x : Nat) : Nat := 1200 - 100 * x

/-- P_bay of an operating point in tenths of a watt (R423). -/
def pointPower (x : Nat) : Nat :=
  match x with
  | 0 => 280
  | 1 => 233
  | 2 => 191
  | 3 => 155
  | 4 => 123
  | 5 => 98
  | 6 => 77
  | _ => 58

/-- IN_EFFECT: the smaller of REQUESTED and PWR_BOARD_MAX (R427). -/
def Power.inEffect (p : Power) : Nat := min p.requested p.boardMax

/-- CCLK_MHZ of PWR_OP: 0 before the bays' clocks start; halved while a division is in effect (R428, R432, R474). -/
def Aon.cclk (a : Aon) : Nat :=
  if !a.power.clocksOn then 0 else if a.power.division || a.power.tripDivision then pointMhz a.power.op / 2 else pointMhz a.power.op

/-- The number of busy bays that run, and of gated bays (R424). -/
def State.busyBays (s : State) : Nat := ((List.range 64).filter fun b => s.bayBusy b && s.bayRuns b).length
def State.gatedBays (s : State) : Nat := ((List.range 64).filter fun b => (s.bay b).gated).length

/-- The budget of a point in tenths of a watt (R424). -/
def budget (uncore busy gated x : Nat) : Nat := 10 * uncore + busy * pointPower x + gated * 15

/-- The fastest point no faster than CAP whose budget is within a limit; P7 when none is (R424). -/
def bestPoint (limit uncore busy gated cap : Nat) : Nat :=
  ((List.range 8).find? fun x => decide (cap ≤ x) && decide (budget uncore busy gated x ≤ 10 * limit)).getD 7

/-- The point the budget allows now. -/
def State.budgetPoint (s : State) : Nat := bestPoint s.aon.power.inEffect s.aon.power.uncoreW s.busyBays s.gatedBays s.aon.power.cap

/-- Post POWER and alert the sideband (R430, R471). -/
def State.postPower (s : State) (cause rail : Nat) : State :=
  let p := s.aon.power
  (s.postPf0 17 0xFF .h0 (toLE 1 cause ++ toLE 1 p.op ++ toLE 2 p.inEffect ++ toLE 2 p.moduleW ++ toLE 1 rail)).alert 17

/-- A temperature as its 16-bit field (R472). -/
def temp16 (t : Int) : Nat := unsgn 16 t

/-- The THERMAL payload (R475). -/
def thermalPayload (cause sensor : Nat) (t : Int) (op : Nat) : List Byte := toLE 1 cause ++ toLE 1 sensor ++ toLE 2 (temp16 t) ++ toLE 1 op

/-- Post THERMAL and alert the sideband (R471, R475). -/
def State.postThermal (s : State) (cause sensor : Nat) (t : Int) : State :=
  (s.postPf0 18 0xFF .h0 (thermalPayload cause sensor t s.aon.power.op)).alert 18

/-- Start a change of operating point: a lowering changes CCLK at once and then VCORE; a raising raises VCORE first (R425). -/
def Power.change_ (p : Power) (target : Nat) (ends : Bool) (now : Nat) : Power :=
  if p.op < target then { p with op := target, change := some ⟨target, false, ends⟩ }
  else if target < p.op then { p with change := some ⟨target, true, ends⟩, lastRaise := some now }
  else { p with division := if ends then false else p.division }

/-- Complete the POWER_LIMIT commands once the point for the new limit is reached (R427). -/
def State.limitReached (s : State) : State :=
  let p := s.aon.power
  if p.limitCmds.isEmpty || p.change.isSome || decide (p.op < s.budgetPoint) then s
  else
    let t := s.modPower fun q => { q with limitCmds := [] }
    forAll p.limitCmds (fun c u => u.complete c.1 c.2 stOk 0 (p.requested + 65536 * p.inEffect) 0) t

/-- Record sensor readings (R472, R476). -/
def Thermal.record (t : Thermal) (temps : List Int) : Thermal :=
  let m := (temps.zipIdx.take 67).foldl (fun acc x => tset acc x.2 x.1) t.temps
  let all := (List.range 67).map fun i => tget m i 0
  { t with temps := m, tempMax := all.foldl max (all.headD 0) }

/-- The lowest-numbered sensor at or above THROTTLE_C (R473). -/
def Thermal.hot (t : Thermal) : Option Nat := (List.range 67).find? fun i => decide ((8 * t.throttleC : Int) ≤ tget t.temps i 0)

/-- Whether every sensor reads below THROTTLE_C − 5 °C (R473). -/
def Thermal.cool (t : Thermal) : Bool := (List.range 67).all fun i => decide (tget t.temps i 0 < (8 * t.throttleC : Int) - 40)

/-- The point an evaluation asks for (R424, R428, R473): the slowest of the demands; a raise by one step, at most once in 2^14 ticks. -/
def Power.demand (p : Power) (best now : Nat) (backstop throttled : Bool) : Nat :=
  let low := max best (max (if backstop then p.op + 1 else 0) (max (if throttled then p.op + 1 else 0) (if p.owedLowering then p.op + 2 else 0)))
  if p.op ≤ low then min 7 low
  else if throttled then p.op
  else match p.lastRaise with
    | some t => if now < t + 16384 then p.op else p.op - 1
    | none => p.op - 1

/-- The throttle's start and end at an evaluation (R473). -/
def State.throttle (s : State) : State :=
  let t := s.aon.thermal
  if t.throttling then
    if t.cool then s.modThermal fun x => { x with throttling := false } else s
  else
    match t.hot with
    | some n => s.modThermal fun x => { x with throttling := true, hotSensor := n, throttles := satAdd max16 x.throttles 1 }
    | none => s

/-- The THERMAL event of a throttle that started or ended since the state before (R473). -/
def State.throttleEvent (s before : State) : State :=
  let n := s.aon.thermal.hotSensor
  if s.aon.thermal.throttling && !before.aon.thermal.throttling then s.postThermal 0 n (tget s.aon.thermal.temps n 0)
  else if !s.aon.thermal.throttling && before.aon.thermal.throttling then s.postThermal 1 n (tget s.aon.thermal.temps n 0)
  else s

/-- Whether the power manager's next evaluation, or its next poll of the stages, is not due yet: each comes every 2^10 ticks (R422, R424). -/
def periodEarly (last : Option Nat) (now : Nat) : Bool :=
  match last with
  | some t => decide (now < t + 1024)
  | none => false

/-- The measurements of one evaluation enter the window of 2^14 ticks, of which MODULE_W is the average and UNCORE_W the largest (R424, R432; log entry 185). -/
def Power.measure (p : Power) (now moduleW uncoreW : Nat) : Power :=
  let l := (p.samples.filter fun x => decide (now < x.1 + 16384)) ++ [(now, moduleW, uncoreW)]
  { p with
    evaluated := some now, samples := l
    moduleW := min max16 ((l.map fun x => x.2.1).sum / l.length), uncoreW := min max16 ((l.map fun x => x.2.2).foldl max 0) }

/-- Whether the operating point may not change at an evaluation: a change is in progress, the bays' clocks have not all started, or a thermal trip overrides it (R416, R417, R425, R432, R474). -/
def State.pointHeld (s : State) : Bool := s.aon.power.change.isSome || decide (s.aon.boot.stage < 9) || s.aon.tripPin

/-- One evaluation of the budget (R424, R428, R473). -/
def State.evaluate (s : State) (moduleW uncoreW : Nat) (temps : List Int) : State :=
  let a := (s.modPower fun p => p.measure (s.now .h0) moduleW uncoreW).modThermal fun t => t.record temps
  let b := a.throttle
  let p := b.aon.power
  let back := decide (p.inEffect < p.moduleW) && !b.pointHeld && decide (p.op < 7)
  let c := if b.pointHeld then b
    else b.modPower fun q =>
      { q.change_ (q.demand b.budgetPoint (b.now .h0) back b.aon.thermal.throttling) q.owedLowering (b.now .h0) with owedLowering := false }
  let d := if back then (c.modPower fun q => { q with lowered := satAdd max16 q.lowered 1 }).postPower 1 0xFF else c
  (d.throttleEvent a).limitReached

/-- The VCORE stages report the changed setpoint: the change completes (R425); a fast-protection division ends with its lowering (R428). -/
def State.settled (s : State) : State :=
  match s.aon.power.change with
  | none => s
  | some c =>
    (s.modPower fun p => { p with change := none, op := c.target, division := if c.endsDivision then false else p.division }).limitReached

-- Rails (R458 to R461) ----------------------------------------------------------------------------------------------------

/-- A rail's number: modules 0 to 7, sites 8 + m. -/
def railNum : Rail → Nat
  | .module n => n.val
  | .site m => 8 + m.val

/-- The rails enabled together at each step of R460. -/
def railGroups : List (List Nat) := [[7], [2], [0, 1], [3], [4], [8, 9, 10, 11, 12, 13, 14, 15, 16, 17, 18, 19]]

/-- How far a rail has come. -/
def State.rail (s : State) (n : Nat) : RailState := tget s.aon.rails n .off

/-- Set a rail. -/
def State.setRail (s : State) (n : Nat) (x : RailState) : State := s.modAon fun a => { a with rails := tset a.rails n x }

/-- Enable the rails of the first group that is not all good or left unpowered; none left means that every rail is good (R460). -/
def State.nextRails (s : State) : List (List Nat) → State × Bool
  | [] => (s, true)
  | g :: rest =>
    if g.all (fun n => s.rail n == .good || s.rail n == .absent) then s.nextRails rest
    else (forAll g (fun n t => if t.rail n == .off then t.setRail n .enabling else t) s, false)

/-- Turn off the next rails in reverse order: those of the last group that still has a rail on (R461). -/
def State.railsDown (s : State) : State :=
  match railGroups.reverse.find? fun g => g.any fun n => s.rail n == .good || s.rail n == .enabling || s.rail n == .fallingOff with
  | none => s.modAon fun a => { a with turningOff := false }
  | some g => forAll g (fun n t => if t.rail n == .good || t.rail n == .enabling then t.setRail n .fallingOff else t) s

/-- Everything that the rails power is lost: contexts, trained state and the PCIe link (R429, R474); the flash, the always-on island, PERST# and the model's own counters stay. -/
def State.loseAll (s : State) : State :=
  { ({} : State) with
    pending := s.pending, flash := s.flash, aon := s.aon, fresh := s.fresh,
    hif := { ({} : Hif) with perst := s.hif.perst, writes := s.hif.writes, host := s.hif.host, retrains := 0 } }

/-- Turn the rails off: PWR_OK first, then each rail in reverse order (R461). -/
def State.railsOff (s : State) : State :=
  let t := s.loseAll.modAon fun a =>
    { a with pwrOk := false, turningOff := true,
             power := { a.power with clocksOn := false, division := false, tripDivision := false, change := none, limitCmds := [] },
             joiners := ⟨{ a.joiners.h0 with running := false, restarting := false }, { a.joiners.h1 with running := false, restarting := false }⟩ }
  t.railsDown

/-- A rail fault or bridge failure: POWER with CAUSE 4, FAULT#, the cause recorded, the rails off (R429, R451, R476). -/
def State.moduleFault (s : State) (cause rail : Nat) : State :=
  let t := s.postPower 4 rail
  let u := (t.modAon fun a => { a with faultPin := true }).modThermal fun x => { x with tripCause := cause, tripRail := rail }
  (u.alert 0x20).railsOff

-- Thermal trip (R474) --------------------------------------------------------------------------------------------------------

/-- Post a trip's event once the ring has a free place (R474 step 2). -/
def State.postTrip (s : State) : State :=
  match s.aon.thermal.tripEvent with
  | none => s
  | some (n, t) =>
    if evFree (s.fn 0) then (s.modThermal fun x => { x with tripEvent := none }).postThermal 3 n t else s

/-- A sensor at or above 115 °C: THERMTRIP#, CCLK divided by 2, the cause recorded, the event posted or kept until a place frees; it overrides a throttle, a change of operating point and a division (R474). -/
def State.trip (s : State) (sensor : Nat) (t : Int) : State :=
  if s.aon.tripPin || !s.aon.pwrOk || decide (t < 920) then s
  else
    let u := s.modAon fun a =>
      { a with tripPin := true, power := { a.power with tripDivision := true, division := false, owedLowering := false, change := none },
               thermal := { a.thermal with
                 temps := tset a.thermal.temps sensor t, tempMax := max a.thermal.tempMax t, tripSensor := sensor, tripCause := 1,
                 tripEvent := some (sensor, t), tripTick := some (a.ticks.get .h0) } }
    (u.alert 0x21).postTrip

-- The king post (R410 to R413) ---------------------------------------------------------------------------------------------------

/-- A claim as CLAIM_h and HOLDER encode it (R431). -/
def claimNum : Claim → Nat
  | .h0 => 0
  | .h1 => 1
  | .none => 2

/-- A holder as HOLDER encodes it (R413, R431). -/
def holderNum (h : Option Half) : Nat :=
  match h with
  | some .h0 => 0
  | some .h1 => 1
  | none => 2

/-- A half disagrees with the grant, or stays stopped: it takes no further management action; the first conflict is posted (R409, R412, R413). -/
def State.conflict (s : State) (h : Half) (claim : Nat) (seen : BitVec 2) : State :=
  let t := s.modAon fun a => { a with king := { a.king with conflict := true, barred := a.king.barred.set h true } }
  let u := if s.aon.king.conflict then t
    else t.postPf0 16 0xFF .h0 (toLE 1 h.num ++ toLE 1 (holderNum s.holder) ++ toLE 1 claim ++ toLE 1 seen.toNat)
  if u.managed then u else u.startService false

/-- Check a claim against the grant (R412). -/
def State.checkClaim (s : State) (h : Half) (c : Claim) (seen : BitVec 2) : State :=
  let t := s.modAon fun a => { a with king := { a.king with claims := a.king.claims.set h (some c) } }
  if claimNum c = holderNum s.holder || t.aon.king.barred.get h then t else t.conflict h (claimNum c) seen

/-- A bay's ungating (R426): the point is lowered first when the budget with the bay busy exceeds the limit; at most four bays of a half in 250 ticks. -/
def State.ungate (s : State) (bay : Nat) : State :=
  let h := bayHalf bay
  let b := s.bay bay
  let recent := (s.aon.power.ungates.get h).filter fun t => decide (s.now h < t + 250)
  if !b.gated || !s.bayBusy bay || decide (4 ≤ recent.length) then s
  else
    let p := s.aon.power
    let x := bestPoint p.inEffect p.uncoreW (s.busyBays + 1) (s.gatedBays - 1) p.cap
    let t := s.modPower fun q =>
      let r := if q.op < x then q.change_ x q.owedLowering (s.now .h0) else q
      { r with ungates := r.ungates.set h (recent ++ [s.now h]) }
    t.setBay bay { b with gated := false, idleSince := none }

/-- Gate a bay that has not been busy for 125 ticks (R423). -/
def State.gate (s : State) (bay : Nat) : State :=
  let b := s.bay bay
  match b.idleSince with
  | none => s
  | some t => if b.on && !b.gated && !s.bayBusy bay && decide (t + 125 ≤ s.now (bayHalf bay)) then s.setBay bay { b with gated := true } else s

/-- The idle time of a bay at a tick (R423). -/
def State.idleTick (s : State) (bay : Nat) : State :=
  let b := s.bay bay
  if !b.on then s
  else if s.bayBusy bay then (if b.idleSince.isSome then s.setBay bay { b with idleSince := none } else s)
  else if b.idleSince.isNone then s.setBay bay { b with idleSince := some (s.now (bayHalf bay)) } else s

/-- What a step on an empty queue does: one AON tick, after which every bay's idleness is noted (R362, R423; log entry 6). -/
def State.idle (s : State) : State := forAll (List.range 64) (fun b t => t.idleTick b) s.tick

end Sys2Proof.Machine
end

