-- ==== Sys2Proof/Machine/Boot.lean ====
section
/-! DEFINITION. The power-on sequence, image slots, yard training and what each step of R416 hands on to the next (R416 to R420, R440 to R443, R224). -/

namespace Sys2Proof.Machine

-- Image slots (R440 to R443) -----------------------------------------------------------------------------------------

/-- The stored bytes of an image slot. -/
def Flash.image (f : Flash) (slot : Nat) : List Byte := tget f.images slot []

def imgVersion (m : List Byte) : Nat := fld m 8 4
def imgSvn (m : List Byte) : Nat := fld m 0xC 1
def imgParts (m : List Byte) : Nat := fld m 0xD 1
def imgStepping (m : List Byte) : Nat := fld m 0xE 1
def imgBytes (m : List Byte) : Nat := fld m 0x10 4
def imgSelftestCrc (m : List Byte) : Nat := fld m 0x14 8

/-- Component entry i of a manifest: type, offset, bytes, digest (R440). -/
def imgComponent (m : List Byte) (i : Nat) : Nat × Nat × Nat × Nat :=
  let o := 0x20 + 80 * i
  (fld m o 1, fld m (o + 4) 4, fld m (o + 8) 4, fld m (o + 16) 64)

/-- The components in use. -/
def imgComponents (m : List Byte) : List (Nat × Nat × Nat × Nat) := (List.range (fld m 0xF 1)).map (imgComponent m)

/-- Whether a component's digest matches (R441, R445). -/
def digestOk (m : List Byte) (c : Nat × Nat × Nat × Nat) : Bool := (Config.shake256 (cut m c.2.1 c.2.2.1)).toNat == c.2.2.2

/-- Whether CERT and SIGNATURE of a manifest verify (R441). -/
def imgSigned (m : List Byte) : Bool :=
  let cert := cut m 0x8E0 (fld m 0x8D0 2)
  Config.certOk cert && Config.ed448Ok cert (cut m 0 0xCE0) (cut m 0xCE0 114)

/-- Whether PARTS and STEPPING match the variant record (R441). -/
def imgForPart (m : List Byte) (v : Variant) : Bool := bit (imgParts m) v.part && imgStepping m == v.stepping.toNat

/-- Whether MAGIC, FORMAT and the reserved bytes of a manifest are as R440 states. -/
def imgForm (m : List Byte) : Bool :=
  fld m 0 4 == 0x4D464C43 && fld m 4 4 == 1 && zeroAt m 0x1C 4 && zeroAt m 0x8D2 14 && zeroAt m 0xD52 14
    && bits (imgParts m) 7 2 == 0
    && (List.range 15).all fun i => zeroAt m (0x21 + 80 * i) 3 && zeroAt m (0x20 + 80 * i + 12) 4

/-- Whether the joiner firmware component's digest matches (R441, R444). -/
def joinerOk (m : List Byte) : Bool := (imgComponents m).any fun c => c.1 == 1 && digestOk m c

/-- Whether a slot is usable (R441). -/
def imgUsable (m : List Byte) (f : Flash) : Bool :=
  imgForm m && imgSigned m && imgForPart m f.variant && decide (f.minSvn ≤ imgSvn m) && joinerOk m

/-- Bytes of the running image. -/
def State.runningImage (s : State) : List Byte :=
  match s.sill.running with
  | some n => s.flash.image n
  | none => []

/-- The slots in the order Sill tries them, once PENDING and TRIED have been looked at, and the flash with the marks this leaves (R442, R443). -/
def bootOrder (f : Flash) : List Nat × Flash :=
  let others := [f.active, 1 - f.active]
  if f.pending && f.tried then (others, { f with pending := false, fallback := true })
  else if f.pending then
    if imgUsable (f.image f.pendingSlot) f then ([f.pendingSlot], { f with tried := true })
    else (others, { f with pending := false, fallback := true })
  else (others, f)

/-- Commit a pending image at READY (R443). -/
def State.commitImage (s : State) : State :=
  if s.flash.pending && s.sill.running == some s.flash.pendingSlot then
    { s with flash := { s.flash with
        active := s.flash.pendingSlot, pending := false, tried := false,
        minSvn := max s.flash.minSvn (imgSvn (s.flash.image s.flash.pendingSlot)) } }
  else s

-- Stages (R416) ----------------------------------------------------------------------------------------------------------

/-- A step of R416 is completed. -/
def State.setStage (s : State) (n : Nat) : State := s.modBoot fun b => { b with stage := n, stageTick := s.now .h0 }

/-- Whether the power-on sequence goes on: it ends with the recovery loader, with a failed variant record and with Sill's error state (R34, R416, R436). -/
def State.booting (s : State) : Bool :=
  s.aon.pwrOk && !s.sill.recovery && (s.aon.boot.fail == 0 || s.aon.boot.fail == 2 || s.aon.boot.fail == 3)

/-- The recovery loader runs and the sequence ends (R418). -/
def State.recover (s : State) (fail : Nat) : State :=
  { (s.modBoot fun b => { b with fail := fail }) with sill := { s.sill with recovery := true } }

/-- Step 12 done: READY, and a pending image commits (R416, R443). -/
def State.makeReady (s : State) : State :=
  if s.booting then ((s.setStage 12).modBoot fun b => { b with ready := true }).commitImage else s

/-- Step 12: the retirements and changes of this boot enter the floor plan in one write; with none, READY at once (R416). -/
def State.finishBoot (s : State) : State :=
  let t := s.startService true
  if t.svc.isSome || t.svcOwed || !t.svcWait.isEmpty then t else t.makeReady

/-- Step 12 goes on when what held it back has passed: the holder's complex had to restart, or no half manages any more (R409, R412). -/
def State.resumeBoot (s : State) : State :=
  if s.aon.boot.stage = 11 && !s.aon.boot.ready && s.svc.isNone then s.finishBoot else s

/-- Whether every core that can serve has finished its self-test (R420). -/
def State.allTested (s : State) : Bool :=
  (List.range 64).all fun b => !s.halfIn (bayHalf b)
    || (List.range 416).all fun i => !s.coreGood (416 * b + i) || (tget s.aon.boot.tested b 0).getLsbD i

/-- Steps 10 and 11 end when nothing is left to repair or to test. -/
def State.bootCores (s : State) : State :=
  let b := s.aon.boot
  let loaded := (b.broadcast.h0 || !s.halfIn .h0) && (b.broadcast.h1 || !s.halfIn .h1) && b.missing.isEmpty
  let t := if b.stage = 9 && loaded then s.setStage 10 else s
  if t.aon.boot.stage = 10 && t.allTested then (t.setStage 11).finishBoot else t

/-- Whether a port's part in step 8 is done: locked, down, or no signal found (R303, R416). -/
def Port.settled (p : Port) : Bool := p.step == 1 || decide (5 ≤ p.step) || p.state == 2

/-- Step 8 ends when every port of a present half has ended its training (R416). -/
def State.bootLinks (s : State) : State :=
  if s.aon.boot.stage = 7 && (List.range 8).all (fun n => !s.halfIn (halfOf (n / 4)) || (s.port n).settled) then s.setStage 8 else s

/-- Whether a site takes part in this power-on's training. -/
def State.siteTrains (s : State) (m : Nat) : Bool := s.flash.variant.siteEnable.getLsbD m && s.halfIn (siteHalf m)

/-- Step 7 ends when every site of R224 has ended its training. -/
def State.bootYard (s : State) : State :=
  if s.aon.boot.stage = 6 && (List.range 12).all (fun m => !s.siteTrains m || (s.site m).trained) then (s.setStage 7).bootLinks else s

/-- STATE becomes 1 and a service write is owed (R49). -/
def State.belowGuarantee (s : State) : State := { s with plan := { s.plan with state := 1 } }.oweService

-- Rails and PWR_OK (R460, R463) ---------------------------------------------------------------------------------------------

/-- Every enabled rail is good: PWR_OK; step 3 begins, and Sill counts the power-on (R36, R460). -/
def State.railsGood (s : State) : State :=
  let t := (s.modAon fun a => { a with pwrOk := true }).setStage 2
  { t with flash := { t.flash with bootSerial := (t.flash.bootSerial + 1) % 2 ^ 32 }, hif := { t.hif with linkUp := !t.hif.perst } }

/-- Enable what comes next in the start order (R460). -/
def State.startRails (s : State) : State :=
  let r := s.nextRails railGroups
  if r.2 && !s.aon.pwrOk then r.1.railsGood else r.1

/-- AON_PWRGD is asserted: the straps are sampled, the island leaves reset, and the first rail is enabled (R416 step 1, R464). -/
def State.powerOn (s : State) (mode : Bool) (addr : BitVec 3) : State :=
  if s.aon.powered then s
  else
    let n := s.flash.bootSerial
    let a : Aon := {}
    let b : Aon := { a with
      powered := true
      lag := ⟨Config.tickLag n 0, Config.tickLag n 1⟩
      sb := { a.sb with mode := mode, addr := addr }
      boot := { a.boot with stage := 1 } }
    ({ s.loseAll with aon := b }).startRails

/-- AON_PWRGD is deasserted: the rails go off and all state of the island is lost (R465). -/
def State.powerOff (s : State) : State :=
  if !s.aon.powered then s
  else
    let t := s.railsOff
    let a : Aon := {}
    { t with aon := { a with rails := t.aon.rails, turningOff := t.aon.turningOff } }

def execAonPwrgdAssert (sbMode : Bool) (sbAddr : BitVec 3) (s : State) : Result := .next (s.powerOn sbMode sbAddr)

def execAonPwrgdDeassert (s : State) : Result := .next s.powerOff

/-- A stage reports POWER_GOOD (R460). -/
def State.railGood (s : State) (n : Nat) : State :=
  if s.rail n != .enabling || s.aon.turningOff then s else (s.setRail n .good).startRails

def execRailPowerGood (rail : Rail) (s : State) : Result := .next (s.railGood (railNum rail))

/-- A rail misses its bound: a rail fault; a site whose stage does not answer is left unpowered (R460). -/
def State.railLate (s : State) (n : Nat) (answers : Bool) : State :=
  if s.rail n != .enabling || s.aon.turningOff then s
  else if 8 ≤ n && !answers then (s.setRail n .absent).startRails
  else s.moduleFault 2 (if n < 8 then n else 0xFF)

def execRailStartTimeout (rail : Rail) (answers : Bool) (s : State) : Result := .next (s.railLate (railNum rail) answers)

/-- A rail being turned off falls below 10 %: the next rails follow (R461). -/
def State.railDown (s : State) (n : Nat) : State :=
  if s.rail n != .fallingOff then s
  else
    let t := s.setRail n .off
    if t.aon.turningOff then t.railsDown else t

def execRailBelowTenPercent (rail : Rail) (s : State) : Result := .next (s.railDown (railNum rail))

-- Sill and the joiners (steps 3 to 6) ------------------------------------------------------------------------------------------

/-- Sill has tested itself and verified the slots: the first usable one boots, or the recovery loader runs; a failed test is Sill's error state (R436, R442). -/
def State.sillBoot (s : State) (failing : Nat) : State :=
  if !s.aon.pwrOk || s.aon.boot.stage != 2 || s.sill.state != 0 then s
  else if failing != 0 then
    { (s.modBoot fun b => { b with fail := 1 }) with sill := { s.sill with state := 2, selftest := failing } }
  else
    let o := bootOrder s.flash
    let t := { s with flash := o.2, sill := { s.sill with state := 1 } }
    match o.1.find? fun n => imgUsable (t.flash.image n) t.flash with
    | none => t.recover 1
    | some n => { t with sill := { t.sill with running := some n } }.setStage 3

def execSillBootVerifyDone (failing : Fin 7) (s : State) : Result := .next (s.sillBoot failing)

/-- FAIL from the halves' results (R431). -/
def halfFail (ok : PerHalf Bool) : Nat :=
  match ok.h0, ok.h1 with
  | true, true => 0
  | false, true => 2
  | true, false => 3
  | false, false => 4

/-- A complex has run its half self-test (R416 step 4). -/
def State.halfTested (s : State) (h : Half) (passed : Bool) : State :=
  let k := s.aon.king
  if !s.booting || s.aon.boot.stage != 3 || k.resultIn.get h then s
  else
    let t := s.modAon fun a => { a with
      king := { a.king with resultIn := a.king.resultIn.set h true, halfOk := a.king.halfOk.set h passed }
      joiners := a.joiners.set h { a.joiners.get h with running := passed, lastBeat := s.now h } }
    if t.aon.king.resultIn.h0 && t.aon.king.resultIn.h1 then t.setStage 4 else t

def execHalfSelftestDone (half : Half) (passed : Bool) (s : State) : Result := .next (s.halfTested half passed)

/-- Compare the claim of a half whose self-test result is in, passed or not (R412, R416 step 5; log entry 46). -/
def State.firstClaim (s : State) (h : Half) (c : Claim) (seen : BitVec 2) : State :=
  if s.aon.king.resultIn.get h then s.checkClaim h c seen else s

/-- The arbiter grants the king post and checks the claims; with neither half passing, the recovery loader runs (R410, R412, R416 step 5). -/
def State.grant (s : State) (c0 c1 : Claim) (seen0 seen1 : BitVec 2) : State :=
  let b := s.aon.boot
  if !s.booting || !(b.stage = 4 || (b.stage = 3 && b.stageTick + 250000 ≤ s.now .h0)) then s
  else
    let ok := s.aon.king.halfOk
    let holder : Option Half := if ok.h0 then some .h0 else if ok.h1 then some .h1 else none
    let t := (s.modAon fun a => { a with king := { a.king with holder := holder } }).modBoot fun x => { x with fail := halfFail ok }
    let u := if holder.isNone then t.recover 4 else t.setStage 5
    (u.firstClaim .h0 c0 seen0).firstClaim .h1 c1 seen1

def execKingPostGrant (claimH0 claimH1 : Claim) (seenH0 seenH1 : BitVec 2) (s : State) : Result := .next (s.grant claimH0 claimH1 seenH0 seenH1)

/-- The live floor plan of this power-on: the service copy with the variant record's fields, this boot's halves, no site trained and every port down (R36, R41, R42, R46). -/
def State.livePlan (s : State) : FloorPlan :=
  let v := s.flash.variant
  let p := s.flash.servicePlan
  let ok := s.aon.king.halfOk
  { p with
    part := v.part, stepping := v.stepping, minCores := v.minCores, minPerBay := v.minPerBay, serial := v.serial
    halves := (if ok.h0 then 1 else 0) ||| (if ok.h1 then 2 else 0)
    siteMask := 0, portUp := 0, portHalf := 0, bootSerial := s.flash.bootSerial, ports := []
    sites := (List.range 12).map fun m =>
      (m, { ({} : SiteEntry) with state := if !v.siteEnable.getLsbD m then 1 else if ok.get (siteHalf m) then 0 else 2 }) }

/-- The holder has verified the variant record and built the live floor plan; disabled sites lose their rails and training starts (R34, R416 step 6, R460). -/
def State.planBuild (s : State) : State :=
  if !s.booting || s.aon.boot.stage != 5 then s
  else if !s.flash.variant.sigOk then s.modBoot fun b => { b with fail := 5 }
  else
    let t := { s with plan := s.livePlan, planBuilt := true }
    let u := forAll (List.range 12) (fun m x =>
      if x.flash.variant.siteEnable.getLsbD m then
        (if x.halfIn (siteHalf m) then x.setSite m { x.site m with trial := some x.aon.rateTarget } else x)
      else if x.rail (8 + m) == .good then x.setRail (8 + m) .fallingOff else x) t
    let v := if u.plan.halves == 3 then u else u.belowGuarantee
    (v.setStage 6).bootYard

def execFloorplanBuildDone (s : State) : Result := .next s.planBuild

-- Yard training (R224) -----------------------------------------------------------------------------------------------------------

/-- A site's training ends as failed: SITE_STATE 2, and the part is in recovery service (R49, R224 step 7). -/
def State.siteFails (s : State) (m : Nat) : State :=
  let t := s.setSite m { s.site m with trained := true, trial := none }
  ((t.setSiteEntry m { t.plan.site m with state := 2 }).belowGuarantee).bootYard

/-- A site has been initialised and its package identified (R224 steps 1 and 2); a site without power fails. -/
def State.siteInit (s : State) (m : Nat) (listed : Bool) : State :=
  let x := s.site m
  if !s.booting || s.aon.boot.stage != 6 || x.trial.isNone || x.initDone || x.trained then s
  else if !listed || s.rail (8 + m) != .good then s.siteFails m
  else s.setSite m { x with initDone := true }

def execYardInitDone (site : Fin 12) (listed : Bool) (s : State) : Result := .next (s.siteInit site listed)

/-- The failed lanes of each sub-channel as a table. -/
def failedTable (l : List (Fin 32 × BitVec 13)) : Table (BitVec 13) := l.foldl (fun t e => tset t e.1.val e.2) []

/-- The data lane a sub-channel's spare replaces: its one failed lane, when that is a data lane (R224 step 5). -/
def spareLane (m : BitVec 13) : Option Nat :=
  if popCount 13 m.toNat = 1 then (List.range 12).find? fun i => m.getLsbD i else none

/-- A training round at the trial rate is done: spares are switched in, or the site retrains at the next lower rate, or fails (R224 steps 5 to 7). -/
def State.siteRound (s : State) (m : Nat) (failed : List (Fin 32 × BitVec 13)) : State :=
  let x := s.site m
  match x.trial with
  | none => s
  | some r =>
    if !s.booting || s.aon.boot.stage != 6 || !x.initDone || x.trained then s
    else
      let f := failedTable failed
      if f.any (fun e => decide (2 ≤ popCount 13 e.2.toNat)) then
        if r = 0 then s.siteFails m else s.setSite m { x with trial := some (r - 1) }
      else
        let spares := f.filterMap fun e => (spareLane e.2).map fun l => (e.1, l)
        let used := spares.foldl (fun a e => a ||| 2 ^ e.1) 0
        let for_ := spares.foldl (fun a e => a ||| e.2 * 16 ^ e.1) 0
        let t := s.setSite m { x with rate := r, trial := none, trained := true, failed := f }
        let u := t.setSiteEntry m ⟨0, BitVec.ofNat 32 used, BitVec.ofNat 128 for_⟩
        let v := { u with plan := { u.plan with siteMask := u.plan.siteMask ||| BitVec.ofNat 12 (2 ^ m) } }
        (forAll spares (fun e y => y.postPf0 13 0xFF (siteHalf m) (toLE 1 m ++ toLE 1 e.1 ++ toLE 1 e.2 ++ toLE 1 0)) v).bootYard

def execYardTrainingRoundDone (site : Fin 12) (failed : List (Fin 32 × BitVec 13)) (s : State) : Result := .next (s.siteRound site failed)

-- Bays and cores (steps 9 to 11) -----------------------------------------------------------------------------------------------------

/-- The bays of a wave (R417). -/
def waveBays (w : Nat) : List Nat := [4 * w, 4 * w + 1, 4 * w + 2, 4 * w + 3, 32 + 4 * w, 33 + 4 * w, 34 + 4 * w, 35 + 4 * w]

/-- The next wave of bays starts, 20 µs after the wave before (R417). -/
def State.wave (s : State) : State :=
  let b := s.aon.boot
  let early := match b.waveTick with
    | some t => decide (s.now .h0 < t + 250)
    | none => false
  if !s.booting || b.stage != 8 || early then s
  else
    let t := forAll (waveBays b.wave) (fun n x => if x.halfIn (bayHalf n) then x.setBay n { x.bay n with on := true } else x) s
    let u := (t.modBoot fun x => { x with wave := b.wave + 1, waveTick := some (s.now .h0) }).modPower fun p => { p with clocksOn := true }
    if b.wave = 7 then u.setStage 9 else u

def execBayWaveStart (s : State) : Result := .next s.wave

/-- The joiner of a half has broadcast the microcode and read every core's chunk map (R419 steps 1 and 2). -/
def State.broadcast (s : State) (h : Half) (missing : List (CoreId × BitVec 16)) : State :=
  let b := s.aon.boot
  if !s.booting || b.stage != 9 || !s.halfIn h || b.broadcast.get h then s
  else
    let m := missing.foldl (fun t e => if bayHalf (coreBay e.1) = h && s.coreGood e.1 && e.2 != 0 then tset t e.1.val e.2 else t) b.missing
    (s.modBoot fun x => { x with broadcast := x.broadcast.set h true, missing := m }).bootCores

def execMicrocodeBroadcastDone (half : Half) (missing : List (CoreId × BitVec 16)) (s : State) : Result := .next (s.broadcast half missing)

/-- A repair round of a half is done: after three, a core that still lacks a chunk is retired with CAUSE 1 (R419 steps 3 and 4). -/
def State.repair (s : State) (h : Half) (missing : List (CoreId × BitVec 16)) : State :=
  let b := s.aon.boot
  let mine (e : Nat × BitVec 16) : Bool := bayHalf (coreBay e.1) == h
  if !s.booting || b.stage != 9 || !b.broadcast.get h || !(b.missing.any mine) then s
  else
    let given := missing.foldl (fun t e => tset t e.1.val e.2) ([] : Table (BitVec 16))
    let left := (b.missing.map fun e => if mine e then (e.1, e.2 &&& tget given e.1 0) else e).filter fun e => e.2 != 0
    let n := b.repairs.get h + 1
    if n < 3 then (s.modBoot fun x => { x with missing := left, repairs := x.repairs.set h n }).bootCores
    else
      let t := s.modBoot fun x => { x with missing := left.filter fun e => !mine e, repairs := x.repairs.set h n }
      (forAll (left.filter mine) (fun e y => y.retireCore e.1 1) t).bootCores

def execMicrocodeRepairDone (half : Half) (missing : List (CoreId × BitVec 16)) (s : State) : Result := .next (s.repair half missing)

/-- A core's boot self-test has ended, by its CRC or by the 5 ms limit (R420). -/
def State.coreTested (s : State) (core : Nat) (passed : Bool) : State :=
  let b := s.aon.boot
  let bay := coreBay core
  let m := tget b.tested bay 0
  if !s.booting || b.stage != 10 || !s.halfIn (bayHalf bay) || !s.coreGood core || m.getLsbD (core % 416) then s
  else
    let t := s.modBoot fun x => { x with tested := tset x.tested bay (m ||| BitVec.ofNat 416 (2 ^ (core % 416))) }
    (if passed then t else t.retireCore core 3).bootCores

def execCoreSelftestDone (core : CoreId) (crc : BitVec 64) (s : State) : Result :=
  .next (s.coreTested core (crc.toNat == imgSelftestCrc s.runningImage))

def execCoreSelftestTimeout (core : CoreId) (s : State) : Result :=
  .next (if s.aon.boot.stageTick + 62500 ≤ s.now .h0 then s.coreTested core false else s)

-- Service writes (R45) ----------------------------------------------------------------------------------------------------------------

/-- Sill has signed the new image: GENERATION is incremented, and the image goes to the flash slot that does not hold the current generation (R45 steps 3 and 4). -/
def State.planSigned (s : State) : State :=
  match s.svc with
  | none => s
  | some v =>
    if v.stage != .signing || s.sill.cur != some .signPlan || s.sill.state != 1 then s
    else
      let p := { s.plan with
        generation := (s.plan.generation + 1) % 2 ^ 32, goodMap := v.draft.goodMap, retireLog := v.draft.retireLog,
        pendingCore := v.draft.pendingCore, state := max v.draft.state s.plan.state, bootSerial := s.flash.bootSerial }
      let t := { s with
        plan := p, svc := some { v with stage := .flashing, draft := p }, flash := s.flash.setSlot s.flash.freeSlot ⟨p, false⟩
        scribe := { s.scribe with quarantined := s.scribe.quarantined.filter fun c => p.good c } }
      t.sillNext

def execServiceWriteSigned (s : State) : Result := .next s.planSigned

/-- The image is in flash: the change is announced to PF0, or READY is set at boot, and a write that waits starts (R45 step 5, R47, R416). -/
def State.planFlashed (s : State) : State :=
  match s.svc with
  | none => s
  | some v =>
    if v.stage != .flashing then s
    else
      let t := { s with svc := none, flash := s.flash.setSlot s.flash.freeSlot ⟨v.draft, true⟩ }
      if v.boot then (t.makeReady).startService false
      else (t.postPf0 12 0xFF t.kingHalf (toLE 4 t.plan.generation ++ toLE 1 t.plan.state)).startService false

def execServiceWriteFlashed (s : State) : Result := .next s.planFlashed

end Sys2Proof.Machine
end

