-- ==== Sys2Proof/Machine/Crc.lean ====
section
/-! DEFINITION. The two cyclic redundancy codes of the module: CRC-32C of R306 and CRC-64/ECMA-182 of R154. -/

namespace Sys2Proof.Machine

/-- Shift a reflected CRC by some bits. -/
def crcShiftR (poly : Nat) : Nat → Nat → Nat
  | 0, c => c
  | k + 1, c => crcShiftR poly k (if c % 2 = 1 then Nat.xor (c / 2) poly else c / 2)

/-- CRC-32C: polynomial 0x1EDC6F41 reflected, initial value and final XOR all ones (R306). -/
def crc32c (bs : List Byte) : Nat := Nat.xor (bs.foldl (fun c b => crcShiftR 0x82F63B78 8 (Nat.xor c b.toNat)) 0xFFFFFFFF) 0xFFFFFFFF

/-- Shift a CRC-64 that is not reflected by some bits. -/
def crcShiftL : Nat → Nat → Nat
  | 0, c => c
  | k + 1, c => crcShiftL k (if 2 ^ 63 ≤ c then Nat.xor (c * 2 % 2 ^ 64) 0x42F0E1EBA9EA3693 else c * 2)

/-- CRC-64/ECMA-182: initial value 0, no reflection, no final XOR (R154). -/
def crc64 (bs : List Byte) : Nat := bs.foldl (fun c b => crcShiftL 8 (Nat.xor c (b.toNat * 2 ^ 56))) 0

end Sys2Proof.Machine
end

