-- ==== Sys2Proof/Machine/Manage.lean ====
section
/-! DEFINITION. Joiner heartbeats and restarts, Sill's health tests, the power manager's events, thermal events, the bridge and the interference meter (R409, R412, R421 to R430, R436, R444, R451, R471 to R475, R373). -/

namespace Sys2Proof.Machine

-- Joiners (R409, R412, R444) ---------------------------------------------------------------------------------

/-- Change a joiner complex. -/
def State.modJoiner (s : State) (h : Half) (f : Joiner → Joiner) : State :=
  s.modAon fun a => { a with joiners := a.joiners.set h (f (a.joiners.get h)) }

/-- A heartbeat arrives with the complex's claim; one at the deadline tick is a near-miss, one after it comes too late (R365, R409, R412). -/
def State.heartbeat (s : State) (h : Half) (c : Claim) (seen : BitVec 2) : State :=
  let j := s.aon.joiners.get h
  if !s.aon.pwrOk || !j.running || expired (s.now h) j.lastBeat 2500 then s
  else
    let t := if s.now h = j.lastBeat + 2500 then s.nearMissDev else s
    let u := t.modJoiner h fun k => { k with lastBeat := s.now h }
    if s.aon.boot.stage < 5 then u else (u.checkClaim h c seen).resumeBoot

def execJoinerHeartbeat (half : Half) (claim : Claim) (seen : BitVec 2) (s : State) : Result := .next (s.heartbeat half claim seen)

/-- Whether a command in the holder's hands has not committed (R409): a running one has, but for XFER, ATTEST and FW_UPDATE, whose work the firmware itself still does. -/
def Cmd.uncommitted (c : Cmd) : Bool :=
  match c.phase with
  | .fetched | .started | .waitingFault _ => true
  | .running => c.opcode == 0x12 || c.opcode == 3 || c.opcode == 5

/-- Whether a Sill request is an ATTEST's or a FW_UPDATE's. -/
def SillJob.ofCommand : SillJob → Bool
  | .attest _ _ | .fwUpdate _ _ => true
  | .signPlan | .verifyJoiner _ | .spdm _ _ => false

/-- Commands in the hands of a complex that restarts complete with ABORTED; the faults they wait on and their requests to Sill are dropped (R409). -/
def State.abortHeld (s : State) (h : Half) : State :=
  if s.holder != some h then s
  else
    let t := { s with faults := s.faults.filter fun f => match f.who with
      | .command fn slot => match s.cmd? fn slot with
        | some c => !c.uncommitted
        | none => true
      | _ => true }
    let u := (t.sillDrop SillJob.ofCommand).modSill fun x => { x with update := none }
    forAll (List.range 9) (fun fn x =>
      forAll ((x.fn fn).outstanding.filter Cmd.uncommitted) (fun c y => y.done fn c.slot stAborted 0) x) u

/-- A complex is left stopped: the king post treats its half as in conflict; what a stopped complex read is not stated (R409, R413; log entry 13). -/
def State.leaveStopped (s : State) (h : Half) : State :=
  let t := s.modJoiner h fun j => { j with running := false, restarting := false, stopped := true }
  let seen := (Config.freeByte s.fresh 0).setWidth 2
  let u := { t with fresh := t.fresh + 1 }
  if u.aon.king.barred.get h then u else (u.conflict h 3 seen).resumeBoot

/-- 2,500 ticks without a heartbeat: the complex restarts from the image Sill holds; the third restart leaves it stopped (R409, R444). -/
def State.heartbeatLate (s : State) (h : Half) : State :=
  let j := s.aon.joiners.get h
  if !s.aon.pwrOk || !j.running || !expired (s.now h) j.lastBeat 2500 then s
  else
    let t := (s.modJoiner h fun k => { k with running := false, restarts := satAdd max16 k.restarts 1 }).abortHeld h
    if 3 ≤ j.restarts + 1 then t.leaveStopped h
    else (t.modJoiner h fun k => { k with restarting := true }).sillHigh (.verifyJoiner h)

def execJoinerHeartbeatTimeout (half : Half) (s : State) : Result := .next (s.heartbeatLate half)

/-- Sill has verified the active slot's joiner component again and the complex has restarted, or it stays stopped (R444); waiting management actions resume. -/
def State.restarted (s : State) (h : Half) : State :=
  if !(s.aon.joiners.get h).restarting || s.sill.state != 1 || s.sill.cur != some (.verifyJoiner h) then s
  else
    let t := s.sillNext
    if !joinerOk (s.flash.image s.flash.active) then t.leaveStopped h
    else
      let u := t.modJoiner h fun j => { j with running := true, restarting := false, lastBeat := t.now h }
      if u.aon.boot.ready then u.startService false else u.resumeBoot

def execJoinerRestartDone (half : Half) (s : State) : Result := .next (s.restarted half)

/-- A continuous health test fails: Sill enters its error state, and a boot that is not over ends with FAIL 1 (R436). -/
def State.healthFail (s : State) : State :=
  if !s.aon.pwrOk || s.sill.state = 2 then s
  else
    let t := { s with sill := { s.sill with state := 2, selftest := 5 } }
    if t.aon.boot.ready || !s.booting then t else t.modBoot fun b => { b with fail := 1 }

def execSillHealthTestFail (s : State) : Result := .next s.healthFail

-- Power manager (R421 to R430) ---------------------------------------------------------------------------------

def execBudgetEvaluation (moduleW uncoreW : Nat) (temps : List Int) (s : State) : Result :=
  .next (if s.aon.pwrOk && !periodEarly s.aon.power.evaluated (s.now .h0) then s.evaluate moduleW uncoreW temps else s)

def execOpVcoreSettled (s : State) : Result := .next s.settled

/-- The number under which a stage's missed polls are counted: rail n, or 8 + site. -/
def polls (l : List (Fin 8)) (m : List (Fin 12)) : List Nat := l.map Fin.val ++ m.map fun x => 8 + x.val

/-- Polls missed in a row after a poll. -/
def missedAfter (t : Table Nat) (silent : List Nat) : Table Nat :=
  silent.foldl (fun acc n => tset acc n (tget t n 0 + 1)) []

/-- A table with values listed from key 0 on. -/
def listed (l : List Nat) : Table Nat := (l.zipIdx.take 8).map fun x => (x.2, min max16 x.1)

/-- One poll of every stage: readings are recorded; a reported fault, or a third poll missed in a row, is a rail fault (R422, R429). VAON's stage is never commanded. -/
def State.poll (s : State) (r : StageReadings) : State :=
  if !s.aon.pwrOk || periodEarly s.aon.power.polled (s.now .h0) then s
  else
    let up (n : Nat) : Bool := s.rail n == .good
    let silent := (polls r.silent r.siteSilent).filter up
    let missed := missedAfter s.aon.power.missed silent
    let t := s.modPower fun p => { p with polled := some (s.now .h0), railMv := listed r.mv, railCurrent := listed r.current, missed := missed }
    match ((polls r.faulted r.siteFaulted).filter up ++ silent.filter fun n => decide (3 ≤ tget missed n 0)).head? with
    | none => t
    | some n => t.moduleFault 2 (if n < 8 then n else 0xFF)

def execStagePoll (readings : StageReadings) (s : State) : Result := .next (s.poll readings)

/-- Fast protection: every bay's CCLK is divided by 2, and the point is lowered by two steps at the next evaluation (R428). -/
def State.protect_ (s : State) (cause rail : Nat) : State :=
  if !s.aon.pwrOk then s
  else (s.modPower fun p => { p with division := true, owedLowering := true, alerts := satAdd max16 p.alerts 1 }).postPower cause rail

def execVrAlertAssert (s : State) : Result := .next (s.protect_ 2 0xFF)

def execVcoreCurrentLimit (half : Half) (s : State) : Result := .next (s.protect_ 3 half.num)

def execBayIdleGate (bay : Fin 64) (s : State) : Result := .next (s.gate bay)

def execBayUngate (bay : Fin 64) (s : State) : Result := .next (s.ungate bay)

-- Thermal (R474, R475) ---------------------------------------------------------------------------------------------

def execThermalTrip (sensor : Fin 67) (temp : Int) (s : State) : Result := .next (s.trip sensor temp)

/-- Once the trip's event is posted, or 20 µs after the trip, the rails go off (R474 step 3). -/
def State.tripShutdown (s : State) : State :=
  match s.aon.thermal.tripTick with
  | none => s
  | some t =>
    if s.aon.thermal.tripEvent.isNone || decide (t + 250 ≤ s.now .h0) then
      (s.modThermal fun x => { x with tripTick := none, tripEvent := none }).railsOff
    else s

def execThermtripShutdown (s : State) : Result := .next s.tripShutdown

def execSiteOverTemperature (site : Fin 12) (temp : Int) (s : State) : Result :=
  .next (if s.aon.pwrOk then s.postThermal 2 site temp else s)

-- Sideband (R468, R469) ----------------------------------------------------------------------------------------------

/-- Set bits of SB_STATUS. -/
def State.sbSet (s : State) (v : BitVec 4) : State := s.modAon fun a => { a with sb := { a.sb with status := a.sb.status ||| v } }

/-- The board limit is written: a change of IN_EFFECT posts POWER (R427, R469). -/
def State.boardMax (s : State) (v : Nat) : State :=
  if !s.aon.powered then s
  else if v < 1400 || decide (2400 < v) then s.sbSet 1
  else
    let t := s.modPower fun p => { p with boardMax := v }
    if t.aon.power.inEffect = s.aon.power.inEffect then t else t.postPower 0 0xFF

def execPwrBoardMaxWrite (value : Word) (s : State) : Result := .next (s.boardMax value.toNat)

/-- SB_STATUS bits written 1 are cleared; clearing EVENT ends a pending alert (R469, R471). -/
def State.sbClear (s : State) (v : Nat) : State :=
  if !s.aon.powered then s
  else
    let m := s.aon.sb.status &&& ~~~(BitVec.ofNat 4 v)
    s.modAon fun a => { a with sb := { a.sb with status := m }, alertPin := a.alertPin && m.getLsbD 3 }

def execSbStatusWrite (value : Word) (s : State) : Result := .next (s.sbClear value.toNat)

-- Bridge (R451) ---------------------------------------------------------------------------------------------------------

/-- Change the link registers. -/
def State.modLinks (s : State) (f : Links → Links) : State := { s with links := f s.links }

/-- Whether a flit's last four bytes are the CRC-32C of the bytes before them (R306, R451). -/
def flitOk (bs : List Byte) : Bool := decide (bs.length = 256) && crc32c (bs.take 252) == leNat (bs.drop 252)

/-- A bridge flit arrives: a good one is delivered, a bad one is replayed; the sixteenth replay without progress in a direction starts a retrain, during which traffic waits (R451). -/
def State.flit (s : State) (to_ : Half) (bs : List Byte) : State :=
  if !s.aon.pwrOk || s.links.bridgeRetrain.isSome then s
  else if flitOk bs then s.modLinks fun l => { l with bridgeRun := l.bridgeRun.set to_ 0, bridgeFlits := l.bridgeFlits.set to_ (l.bridgeFlits.get to_ + 1) }
  else
    let t := { s with sill := { s.sill with bridgeReplays := satAdd max16 s.sill.bridgeReplays 1 } }
    let n := s.links.bridgeRun.get to_ + 1
    if n < 16 then t.modLinks fun l => { l with bridgeRun := l.bridgeRun.set to_ n }
    else
      let u := t.modLinks fun l => { l with bridgeRun := l.bridgeRun.set to_ n, bridgeRetrain := some (s.now .h0) }
      { u with sill := { u.sill with bridgeRetrains := satAdd max16 u.sill.bridgeRetrains 1 } }

def execBridgeFlitReceive (dir : Half) (bytes : List Byte) (s : State) : Result := .next (s.flit dir bytes)

/-- The bridge retrain ends within 1 ms: waiting traffic is replayed (R451). -/
def State.bridgeDone (s : State) : State :=
  match s.links.bridgeRetrain with
  | none => s
  | some t => if expired (s.now .h0) t 12500 then s else s.modLinks fun l => { l with bridgeRun := ⟨0, 0⟩, bridgeRetrain := none }

def execBridgeRetrainDone (s : State) : Result := .next s.bridgeDone

/-- The retrain has not ended within 1 ms: the module fails with POWER CAUSE 4 and RAIL 0xFF (R451). -/
def State.bridgeLate (s : State) : State :=
  match s.links.bridgeRetrain with
  | none => s
  | some t => if expired (s.now .h0) t 12500 then s.moduleFault 3 0xFF else s

def execBridgeRetrainTimeout (s : State) : Result := .next s.bridgeLate

-- Interference meter (R373) -----------------------------------------------------------------------------------------------

/-- RATIO of a window: 8.8 fixed point, saturating; 0 with no tile (R373). -/
def meterRatio (m : Nat × Nat × Nat) : Nat := if m.2.2 = 0 || m.1 = 0 then 0 else min max16 (256 * m.2.1 / m.1)

/-- A meter window of a half ends, at a tick that is a multiple of 2^20 (R366): RATIO and TILES of every context and the window's index are written, and INTERFERENCE is posted for a RATIO that reaches ALERT (R373). -/
def State.meterEnd (s : State) (h : Half) : State :=
  if !windowEnd (s.now h) 20 (s.ctxRegs.meterEnded.get h) then s else
  let w := (s.now h / 2 ^ 20 - 1) % 2 ^ 32
  let alert := s.ctxRegs.alert
  let t := { s with ctxRegs := { s.ctxRegs with window := s.ctxRegs.window.set h w, meterEnded := s.ctxRegs.meterEnded.set h (s.now h) } }
  forAll (List.range 8) (fun n x =>
    let m := (x.ctx n).meter.get h
    let r := meterRatio m
    let k := min max16 m.2.2
    let y := x.modCtx n fun c => { c with meter := c.meter.set h (0, 0, 0), imeter := c.imeter.set h (r, k) }
    if alert != 0 && decide (alert ≤ r) then
      y.postPf0 15 n h (toLE 1 h.num ++ toLE 4 w ++ toLE 2 r ++ toLE 2 k) else y) t

def execInterferenceMeterWindowEnd (half : Half) (s : State) : Result := .next (s.meterEnd half)

end Sys2Proof.Machine
end

