-- ==== Sys2Proof/Machine/Links.lean ====
section
/-! DEFINITION. Tenon links: training, width and retraining, frames with replay, packets, credits, routing and the route table (R300 to R326, R350). -/

namespace Sys2Proof.Machine

-- Coordinates and ports (R22, R24, R26) ---------------------------------------------------------------------

/-- One axis of a packed coordinate. -/
def coordAt (c : BitVec 48) (axis : Nat) : Nat := c.toNat / 2 ^ (12 * axis) % 4096

/-- A packed coordinate with one axis replaced. -/
def coordSet (c : BitVec 48) (axis v : Nat) : BitVec 48 := BitVec.ofNat 48 (c.toNat - coordAt c axis * 2 ^ (12 * axis) + v % 4096 * 2 ^ (12 * axis))

def portAxis (n : Nat) : Nat := n / 2
def portNeg (n : Nat) : Bool := n % 2 == 1
def portHalf (n : Nat) : Half := halfOf (n / 4)

/-- Length of an axis (R326 holds length − 1). -/
def State.axisLen (s : State) (axis : Nat) : Nat := coordAt s.aon.axisLen axis + 1

/-- The coordinate one step on from a value along an axis. -/
def stepCoord (v len : Nat) (neg : Bool) : Nat := if neg then (v + len - 1) % len else (v + 1) % len

/-- Change one port. -/
def State.modPort (s : State) (n : Nat) (f : Port → Port) : State := s.setPort n (f (s.port n))

/-- Whether a port is in service: trained to full or half width (R303, R319). -/
def Port.up (p : Port) : Bool := p.step == 7 && decide (p.state ≤ 1)

/-- Whether a port exchanges frames: locked and not retraining (R303, R304). -/
def Port.frames (p : Port) : Bool := decide (5 ≤ p.step) && p.state != 2 && !p.retraining

/-- Count discarded packets (R315, R318, R320, R323, R324). -/
def State.discard (s : State) (n : Nat) : State := s.modLinks fun l => { l with discard := satAdd max32 l.discard n }

-- Training (R303) ------------------------------------------------------------------------------------------------

/-- The n lowest-numbered lanes of a mask. -/
def lowestLanes (n : Nat) (m : BitVec 14) : BitVec 14 :=
  ((List.range 14).foldl (fun acc i => if m.getLsbD i && decide (popCount 14 acc.toNat < n) then acc ||| BitVec.ofNat 14 (2 ^ i) else acc) (0 : BitVec 14))

/-- The active set of a good mask: 12 lanes, 6, or none (R303 step 4, R304). -/
def activeSet (good : BitVec 14) (halfOnly : Bool) : BitVec 14 :=
  let n := popCount 14 good.toNat
  if n < 6 then 0 else if n < 12 || halfOnly then lowestLanes 6 good else lowestLanes 12 good

/-- SPARES_USED: lanes 12 and 13 in LANE_ACTIVE. -/
def sparesUsed (m : BitVec 14) : Nat := b2n (m.getLsbD 12) + b2n (m.getLsbD 13)

/-- Write the live floor plan's entry of a port, and PORT_HALF (R36, R39, R303 step 7). -/
def State.writePortEntry (s : State) (n : Nat) : State :=
  let p := s.port n
  let q := match p.partner with
    | some x => (x.1, x.2.1)
    | none => (0, 0)
  (s.setPortEntry n ⟨p.state, sparesUsed p.carrying, p.laneGood, p.carrying, q.1, q.2⟩).setPortHalf n (p.state == 1)

/-- Post LINK_DEGRADED (R305, R398). -/
def State.linkDegraded (s : State) (n outcome lost : Nat) : State :=
  let p := s.port n
  s.postPf0 14 0xFF (portHalf n) (toLE 1 n ++ toLE 1 outcome ++ toLE 2 p.laneGood.toNat ++ toLE 2 p.laneActive.toNat ++ toLE 4 lost)

/-- Post LINK_DEGRADED where a spare is used or the port runs at half width (R303 step 7). -/
def State.degradedIf (s : State) (n : Nat) : State :=
  let p := s.port n
  if p.state = 1 then s.linkDegraded n 1 0 else if sparesUsed p.laneActive != 0 then s.linkDegraded n 0 0 else s

/-- A port has reset its lanes and looks for a signal (R303 step 1). -/
def State.laneReset (s : State) (n : Nat) (signal : Bool) : State :=
  if !s.aon.pwrOk || s.aon.boot.stage < 7 || !s.halfIn (portHalf n) || (s.port n).step != 0 then s
  else (s.modPort n fun p => { p with step := if signal then 2 else 1 }).bootLinks

def execLinkLaneResetDone (port : Fin 8) (signal : Bool) (s : State) : Result := .next (s.laneReset port signal)

def execLinkSignalDetected (port : Fin 8) (s : State) : Result :=
  .next (if (s.port port).step = 1 then s.modPort port fun p => { p with step := 2 } else s)

def execLinkPmdTrainingDone (port : Fin 8) (passed : BitVec 14) (s : State) : Result :=
  .next (if (s.port port).step = 2 then s.modPort port fun p => { p with step := 3, passed := passed } else s)

/-- The pass masks are exchanged: LANE_GOOD and the active set, or the port is down (R303 steps 3 and 4). -/
def State.masksExchanged (s : State) (n : Nat) (partner : BitVec 14) : State :=
  if (s.port n).step != 3 then s
  else
    let good := (s.port n).passed &&& partner
    let act := activeSet good false
    let t := s.modPort n fun p => { p with step := 4, laneGood := good, laneActive := act }
    if act != 0 then t
    else (((t.modPort n fun p => { p with state := 2 }).writePortEntry n).linkDegraded n 2 0).bootLinks

def execLinkMaskExchangeDone (port : Fin 8) (partner : BitVec 14) (s : State) : Result := .next (s.masksExchanged port partner)

/-- Credits the partner's input buffer grants: its amounts for the data sub-classes, 34 for the others (R314). -/
def creditTable (credits : List Nat) : Table Nat :=
  (List.range 8).map fun i => (i, if i < 4 then credits.getD i 0 else 34)

/-- This port's division of its input buffer, which it tells the partner at credit initialisation (R314, R326). -/
def State.ownCredits (s : State) : Table Nat := creditTable ((List.range 4).map fun i => tget s.aon.credits i 0)

/-- Put a packet in a port's queue of its channel. -/
def State.enqueue (s : State) (n : Nat) (p : Packet) : State := s.modPort n fun q => { q with queues := tset q.queues p.vc (tget q.queues p.vc [] ++ [p]) }

/-- A control packet of 32 bytes; its encoding is the agent's (R315; log entry 21). -/
def controlPacket (vc dctx dir : Nat) (own dest : BitVec 48) (ptag : BitVec 32) (kind : Nat) (args : List Nat) : Packet :=
  { vc := vc, sub := 0, dir := dir, kind := 2, dctx := dctx, poison := false, dest := dest, src := own, target := Config.controlTarget kind args
    ptag := ptag, payload := cut (Config.controlPayload kind args) 0 32 }

/-- An end sends the other its coordinate, port number and serial over VC3 (R303 step 6). -/
def State.sayIdentity (s : State) (n : Nat) : State :=
  if !s.aon.coordValid then s
  else
    let a := portAxis n
    let dest := coordSet s.aon.coord a (stepCoord (coordAt s.aon.coord a) (s.axisLen a) (portNeg n))
    s.enqueue n (controlPacket 3 0 (b2n (portNeg n)) s.aon.coord dest 0 4 [s.aon.coord.toNat, n, s.flash.variant.serial.toNat])

/-- Markers, deskew, FEC and credits are in place: FSEQ starts at 0 (R303 step 5). -/
def State.locked (s : State) (n : Nat) (credits : List Nat) : State :=
  if (s.port n).step != 4 || (s.port n).state == 2 then s
  else
    (s.modPort n fun p => { p with
      step := 5, txSeq := 0, rxSeq := 0, replayBuf := [], resend := none, replayRun := 0, nak := false, discarding := false
      txCredits := creditTable credits, txGrant := creditTable credits, rxGrant := s.ownCredits }).bootLinks.sayIdentity n

def execLinkLockDone (port : Fin 8) (credits : List Nat) (s : State) : Result := .next (s.locked port credits)

/-- Whether a partner is the neighbour of R319. -/
def State.partnerOk (s : State) (n : Nat) (coord : BitVec 48) (partnerPort : BitVec 8) : Bool :=
  let a := portAxis n
  coord == coordSet s.aon.coord a (stepCoord (coordAt s.aon.coord a) (s.axisLen a) (portNeg n))
    && partnerPort.toNat == (if portNeg n then n - 1 else n + 1)

/-- The partner's identity arrives: the check of R319, and the port's entry (R303 steps 6 and 7). On an axis of length 1 the port stays at PORT_STATE 3. -/
def State.identity (s : State) (n : Nat) (coord : BitVec 48) (partnerPort : BitVec 8) (serial : BitVec 64) : State :=
  let p := s.port n
  if p.step != 5 || p.state == 2 || p.retraining || !s.aon.coordValid then s
  else if !s.partnerOk n coord partnerPort then (s.modPort n fun q => { q with step := 7, state := 3, miscabled := true, partner := none }).writePortEntry n
  else if s.axisLen (portAxis n) = 1 then (s.modPort n fun q => { q with step := 7, state := 3, partner := none }).writePortEntry n
  else
    let half := decide (popCount 14 p.laneActive.toNat < 12)
    let t := s.modPort n fun q => { q with step := 7, state := if half then 1 else 0, halfLocked := half, partner := some (coord, partnerPort, serial) }
    (t.writePortEntry n).degradedIf n

def execLinkIdentityReceived (port : Fin 8) (coord : BitVec 48) (partnerPort : BitVec 8) (serial : BitVec 64) (s : State) : Result :=
  .next (s.identity port coord partnerPort serial)

-- Packets and credits (R313 to R315) -------------------------------------------------------------------------------

/-- Sub-class of a packet: 2 × VC + SUB. -/
def Packet.cls (p : Packet) : Nat := 2 * p.vc + p.sub

/-- Credits a packet takes (R314). -/
def Packet.credits (p : Packet) : Nat := ups p.payload.length 256 + 1

/-- The 32-byte header of a packet whose payload begins at a given offset of its frame (R315). -/
def Packet.header (p : Packet) (start : Nat) : List Byte :=
  toLE 1 (p.vc + 4 * p.sub + 8 * p.dir + 16 * p.kind) ++ toLE 1 (p.dctx + 8 * b2n p.poison) ++ toLE 2 p.payload.length
    ++ toLE 6 p.dest.toNat ++ toLE 6 p.src.toNat ++ toLE 8 p.target.toNat ++ toLE 4 p.ptag.toNat ++ toLE 2 start ++ toLE 2 0

/-- A packet from its header and payload. -/
def packetOf (h payload : List Byte) (buf : Option (Nat × Nat)) (order : Nat) : Packet :=
  let k := fld h 0 1
  { vc := bits k 1 0, sub := bits k 2 2, dir := bits k 3 3, kind := bits k 7 4, dctx := bits (fld h 1 1) 2 0, poison := bit (fld h 1 1) 3
    dest := BitVec.ofNat 48 (fld h 4 6), src := BitVec.ofNat 48 (fld h 0xA 6), target := BitVec.ofNat 64 (fld h 0x10 8)
    ptag := BitVec.ofNat 32 (fld h 0x18 4), payload := payload, buf := buf, order := order }

/-- Whether a header or payload holds a reserved value (R313, R315). -/
def packetBad (h payload : List Byte) : Bool :=
  let kind := bits (fld h 0 1) 7 4
  let vc := bits (fld h 0 1) 1 0
  let n := payload.length
  bits (fld h 1 1) 7 4 != 0 || bits (fld h 2 2) 15 13 != 0 || !zeroAt h 0x1E 2 || decide (7499 < fld h 0x1C 2) || decide (2 < kind)
    || (if kind = 2 then decide (vc < 2) || decide (n < 32) || decide (256 < n)
        else decide (2 ≤ vc)
          || (if kind = 0 then n % 32 != 0 || decide (n < 32) || decide (4096 < n) || refHigh (fld h 0x10 8) != 0 || fld h 0x10 8 % 32 != 0
              else n != 8 || fld h 0x14 4 != 0 || fld payload 0 4 == 0 || decide (65535 < fld payload 0 4) || fld payload 4 4 != 0))

/-- Give back the credits of the input buffer a packet held (R306, R314). -/
def State.freeCredits (s : State) (p : Packet) : State :=
  match p.buf with
  | none => s
  | some (n, c) => s.modPort n fun q => { q with rxReturn := tset q.rxReturn c (tget q.rxReturn c 0 + p.credits) }

-- Routing (R320 to R324) -----------------------------------------------------------------------------------------------

/-- Whether k steps from a coordinate in one direction cross a break of the axis (R323). -/
def crosses (breaks : List (Nat × Nat)) (axis len from_ k : Nat) (neg : Bool) : Bool :=
  breaks.any fun b => b.1 == axis &&
    (if neg then decide ((from_ + len - 1 - b.2 % len) % len < k) else decide ((b.2 + len - from_ % len) % len < k))

/-- The direction of a packet that enters an axis: the shorter way without a break, + on a tie; none where both ways are broken (R320, R323). -/
def chooseDir (breaks : List (Nat × Nat)) (axis len from_ to_ : Nat) : Option Bool :=
  let f := (to_ + len - from_ % len) % len
  let b := len - f
  let plus := !crosses breaks axis len from_ f false
  let minus := !crosses breaks axis len from_ b true
  if plus && (f ≤ b || !minus) then some false else if minus then some true else none

/-- The first axis on which a destination differs. -/
def firstAxis (own dest : BitVec 48) : Option Nat := (List.range 4).find? fun a => coordAt own a != coordAt dest a

/-- Whether a destination lies beyond an axis length (R320). -/
def State.beyond (s : State) (dest : BitVec 48) : Bool := (List.range 4).any fun a => decide (s.axisLen a ≤ coordAt dest a)

/-- The next hop: port and packet with DIR and SUB; from_ is the port it came in by (R320, R321). -/
def State.hop (s : State) (p : Packet) (from_ : Option Nat) : Option (Nat × Packet) :=
  match firstAxis s.aon.coord p.dest with
  | none => none
  | some a =>
    let own := coordAt s.aon.coord a
    let len := s.axisLen a
    let dir : Option (Bool × Nat) :=
      match from_ with
      | some n => if portAxis n = a then some (p.dir == 1, p.sub) else (chooseDir s.links.breaks a len own (coordAt p.dest a)).map fun d => (d, 0)
      | none => (chooseDir s.links.breaks a len own (coordAt p.dest a)).map fun d => (d, 0)
    dir.map fun d =>
      let dateline := if d.1 then own == 0 else own + 1 == len
      (2 * a + b2n d.1, { p with dir := b2n d.1, sub := if dateline then 1 else d.2 })

/-- Send a control packet of this chip's own by the ring, either way round where the shorter one's port is not up; it takes no part in the route table (R303, R322, R323). -/
def State.sendFirm (s : State) (vc dctx : Nat) (dest : BitVec 48) (ptag : BitVec 32) (kind : Nat) (args : List Nat) : State :=
  match s.hop (controlPacket vc dctx 0 s.aon.coord dest ptag kind args) none with
  | none => s
  | some (n, p) =>
    let m := if portNeg n then n - 1 else n + 1
    if (s.port n).up then s.enqueue n p else if (s.port m).up then s.enqueue m { p with dir := b2n (portNeg m) } else s

/-- The port states that a chip tells (R322). -/
def State.portStates (s : State) : List Nat := (List.range 8).map fun n => b2n (s.port n).up

/-- Deliver a packet for this chip: WRITE and SIGNAL wait to commit, CONTROL goes to its agent, which answers a chip that asks for port states and hears of packets found unreachable (R316, R317, R322, R323; log entry 182). Port 8 is local delivery. -/
def State.deliverHere (s : State) (n : Nat) (p : Packet) : State :=
  if p.kind = 2 then
    let t := s.freeCredits p
    if p.vc = 3 && p.target == Config.controlTarget 5 [] then t.sendFirm 3 0 p.src 0 6 s.portStates
    else if p.vc = 2 && p.target == Config.controlTarget 7 [] then t.modLinks fun l => { l with unreachable := l.unreachable ++ [(p.dctx, p.ptag)] }
    else t
  else s.modPort n fun q => { q with commit := tset q.commit p.vc (tget q.commit p.vc [] ++ [p]) }

/-- Send a packet on: delivered here, queued at its next port, or discarded; one without a route that came from another chip is reported to its source (R320, R323, R324). The answer says whether a route exists. -/
def State.forward (s : State) (p : Packet) (from_ : Option Nat) : State × Bool :=
  if p.dest = s.aon.coord then (s.deliverHere (from_.getD 8) p, true)
  else if s.beyond p.dest then ((s.discard 1).freeCredits p, true)
  else
    match s.hop p from_ with
    | none =>
      let t := (s.discard 1).freeCredits p
      (if from_.isSome && p.vc != 3 then t.sendFirm 2 p.dctx p.src p.ptag 7 [] else t, false)
    | some (n, q) =>
      if (s.links.inTable.getLsbD n || p.vc == 3) && (s.port n).up then (s.enqueue n q, true) else ((s.discard 1).freeCredits p, true)

/-- Whether the route table gives a route to a chip (R329). -/
def State.reachable (s : State) (dest : BitVec 48) : Bool :=
  dest == s.aon.coord || (!s.beyond dest && (s.hop ⟨0, 0, 0, 0, 0, false, dest, 0, 0, 0, [], none, 0⟩ none).isSome)

/-- A packet of this chip's own (R315, R319): none is sent until the coordinate is valid. -/
def State.send (s : State) (vc kind dctx : Nat) (dest : BitVec 48) (target : BitVec 64) (ptag : BitVec 32) (payload : List Byte) : State × Bool :=
  if !s.aon.coordValid then (s, true)
  else s.forward ⟨vc, 0, 0, kind, dctx, false, dest, s.aon.coord, target, ptag, payload, none, 0⟩ none

/-- Whether a sub-class of a port is held by a fault of a received WRITE (R318). -/
def State.clsHeld (s : State) (n c : Nat) : Bool :=
  s.faults.any fun f => match f.who with
    | .remote m d => m == n && d == c
    | _ => false

/-- The WRITE that holds a sub-class of a port: its place among the packets received (R318). -/
def State.holdOrder (s : State) (n c : Nat) : Option Nat :=
  if s.clsHeld n c then ((tget (s.port n).commit (c / 2) []).find? fun p => p.cls == c).map Packet.order else none

/-- Whether a packet came behind a held WRITE on its input port and sub-class (R318). -/
def State.behindHold (s : State) (p : Packet) : Bool :=
  match p.buf with
  | none => false
  | some (n, c) => (s.holdOrder n c).any fun k => decide (k < p.order)

/-- Whether a packet goes from a port of one half to one of the other while the bridge retrains (R26, R451). -/
def State.crossWaits (s : State) (n : Nat) (p : Packet) : Bool :=
  s.links.bridgeRetrain.isSome && p.buf.any fun b => portHalf b.1 != portHalf n

/-- The packet of a channel that a port may start: of those not held, the first whose sub-class has the credits and no earlier packet (R314, R318, R350). -/
def State.startable (s : State) (n vc : Nat) : Option Packet :=
  let l := (tget (s.port n).queues vc []).filter fun k => !s.behindHold k && !s.crossWaits n k
  (l.zipIdx.find? fun x => decide (x.1.credits ≤ tget (s.port n).txCredits x.1.cls 0) && (l.take x.2).all fun y => y.cls != x.1.cls).map Prod.fst

/-- The channel whose packet a port starts next: VC3, VC2, VC0, VC1; after 15 starts in a row from VC0, VC1 if it waits (R350). -/
def State.nextVc (s : State) (n : Nat) : Option Nat :=
  let order := if 15 ≤ (s.port n).vc0Run then [1, 3, 2, 0] else [3, 2, 0, 1]
  order.find? fun v => (s.startable n v).isSome

/-- Start a packet: its credits are taken, its bytes enter the frame stream, and the input buffer that held it is free (R308, R314, R350). -/
def State.packetStart (s : State) (n : Nat) : State :=
  let p := s.port n
  if !p.frames then s
  else
    match s.nextVc n with
    | none => s
    | some v =>
      match s.startable n v with
      | none => s
      | some k =>
        let run := if v = 0 then min 15 (p.vc0Run + 1) else 0
        (s.setPort n { p with
          queues := tset p.queues v ((tget p.queues v []).erase k)
          txCredits := tset p.txCredits k.cls (tget p.txCredits k.cls 0 - k.credits)
          stream := p.stream ++ [(k.header 0, k.payload)]
          vc0Run := run }).freeCredits k

def execPacketStart (port : Fin 8) (s : State) : Result := .next (s.packetStart port)

-- Frames (R306 to R312) -------------------------------------------------------------------------------------------------

/-- Fill a frame's payload from the packet stream: headers, payload, rest of the stream (R308). -/
def fillFrame : Nat → List (List Byte × List Byte) → List (List Byte) → List Byte → List (List Byte) × List Byte × List (List Byte × List Byte)
  | 0, st, hs, pl => (hs, pl, st)
  | k + 1, st, hs, pl =>
    match st with
    | [] => (hs, pl, [])
    | (h, b) :: rest =>
      let room := 7500 - pl.length
      if room = 0 || (!h.isEmpty && decide (6 ≤ hs.length)) then (hs, pl, st)
      else
        let hs' := if h.isEmpty then hs else hs ++ [h.take 0x1C ++ toLE 2 pl.length ++ h.drop 0x1E]
        if b.length ≤ room then fillFrame k rest hs' (pl ++ b) else (hs', pl ++ b.take room, ([], b.drop room) :: rest)

/-- The 7-bit credit returns of a frame, and what is left to return; a held sub-class returns none (R306, R318). -/
def takeReturns (held : Nat → Bool) (t : Table Nat) : Nat × Table Nat :=
  let n (i v : Nat) : Nat := if held i then 0 else min 127 v
  ((List.range 8).foldl (fun v i => v + n i (tget t i 0) * 2 ^ (7 * i)) 0, t.map fun e => (e.1, e.2 - n e.1 e.2))

/-- The bytes of a frame; idle fill is not stated (R306, R308; log entry 13). -/
def frameBytes (fseq ack ctl credits : Nat) (hs : List (List Byte)) (pl : List Byte) (fill : Nat → Byte) : List Byte :=
  let h := hs.flatten
  let body := toLE 3 fseq ++ toLE 3 ack ++ toLE 1 ctl ++ toLE 7 credits
    ++ h ++ ((List.range (192 - h.length)).map fun i => fill i)
    ++ pl ++ ((List.range (7500 - pl.length)).map fun i => fill (192 + i))
  body ++ toLE 4 (crc32c body)

/-- The frame a port sends in a frame period: the next to resend, a new sequenced frame, or IDLE (R310, R312). -/
def Port.nextFrame (p : Port) : Option Frame × Port :=
  match p.resend with
  | some k =>
    match p.replayBuf[k]? with
    | some f => (some f, { p with resend := if k + 1 < p.replayBuf.length then some (k + 1) else none })
    | none => (none, { p with resend := none })
  | none =>
    if p.stream.isEmpty || decide (64 ≤ p.replayBuf.length) then (none, p)
    else
      let r := fillFrame (p.stream.length + 1) p.stream [] []
      let f : Frame := ⟨p.txSeq, r.1, r.2.1⟩
      (some f, { p with txSeq := (p.txSeq + 1) % 2 ^ 24, stream := r.2.2, replayBuf := p.replayBuf ++ [f] })

/-- One frame period of a port (R312). -/
def State.framePeriod (s : State) (n : Nat) : State :=
  let p := s.port n
  if !p.frames then s
  else
    let f := p.nextFrame.1
    let q := p.nextFrame.2
    let fill := Config.freeByte s.fresh
    let ret := takeReturns (s.clsHeld n) q.rxReturn
    let ack := (q.rxSeq + 2 ^ 24 - 1) % 2 ^ 24
    let nak := 16 * b2n q.nak
    let bytes := match f with
      | some x => frameBytes x.fseq ack (x.headers.length + nak) ret.1 x.headers x.payload fill
      | none => frameBytes (leNat [fill 8000, fill 8001, fill 8002]) ack (8 + nak) ret.1 [] [] fill
    ({ s with fresh := s.fresh + 1 }).setPort n { q with
      nak := false, rxReturn := ret.2, lastFrame := bytes
      ackTick := if p.replayBuf.isEmpty then s.now (portHalf n) else q.ackTick }

def execFramePeriod (port : Fin 8) (s : State) : Result := .next (s.framePeriod port)

/-- Both ends stop sending frames and train again (R304). -/
def State.retrain (s : State) (n : Nat) : State :=
  if !(s.port n).up || (s.port n).retraining then s
  else s.modPort n fun p => { p with retraining := true, retrains := satAdd max16 p.retrains 1 }

/-- A replay from the oldest unacknowledged frame; REPLAY_LIMIT of them without progress make the port retrain (R310, R311). -/
def State.replay (s : State) (n : Nat) : State :=
  let p := s.port n
  if p.replayBuf.isEmpty then s
  else
    let t := s.setPort n { p with resend := some 0, replays := satAdd max16 p.replays 1, replayRun := p.replayRun + 1, ackTick := s.now (portHalf n) }
    if s.aon.replayLimit ≤ p.replayRun + 1 then t.retrain n else t

/-- ACK has not advanced for REPLAY_TIMEOUT ticks (R310, R364). -/
def State.replayLate (s : State) (n : Nat) : State :=
  let p := s.port n
  if !p.frames || p.replayBuf.isEmpty || !expired (s.now (portHalf n)) p.ackTick s.aon.replayTimeout then s else s.replay n

/-- ACK advances: acknowledged frames leave the replay buffer; an advance at the deadline tick is a near-miss, and after it the wait has ended with its replay (R310, R365). -/
def State.ackFrames (s : State) (n ack : Nat) : State :=
  match (s.port n).replayBuf with
  | [] => s
  | f :: r =>
    let k := (ack + 2 ^ 24 - f.fseq) % 2 ^ 24 + 1
    if r.length + 1 < k then s
    else
      let s := s.replayLate n
      let p := s.port n
      let t := s.setPort n { p with
        replayBuf := p.replayBuf.drop k, replayRun := 0, ackTick := s.now (portHalf n)
        resend := match p.resend with
          | some r => if p.replayBuf.length ≤ k then none else some (r - k)
          | none => none }
      if s.now (portHalf n) = p.ackTick + s.aon.replayTimeout then t.nearMissDev else t

/-- Credit returns of a frame are added (R306, R314). -/
def State.addCredits (s : State) (n v : Nat) : State :=
  s.modPort n fun p => { p with txCredits := (List.range 8).foldl (fun t i => tset t i (tget t i 0 + bits v (7 * i + 6) (7 * i))) p.txCredits }

/-- A packet that has arrived whole: reserved values are discarded; before VALID only firmware's packets are taken; otherwise it is delivered or sent on (R315, R319, R320). -/
def State.arrive (s : State) (n : Nat) (h payload : List Byte) : State :=
  let id := s.newId
  let s := id.2
  let p := packetOf h payload (some (n, bits (fld h 0 1) 1 0 * 2 + bits (fld h 0 1) 2 2)) id.1
  if packetBad h payload then (s.discard 1).freeCredits p
  else if !s.aon.coordValid && p.vc != 3 then s.freeCredits p
  else (s.forward p (some n)).1

/-- Take the packets that a good frame's payload completes: headers, payload (R308, R309). -/
def State.takePackets (s : State) (n : Nat) (hs : List (List Byte)) (pl : List Byte) : State :=
  let p := s.port n
  let t := match p.rxHeaders with
    | [] => s
    | h :: _ =>
      let need := bits (fld h 2 2) 12 0 - p.rxBytes.length
      let got := p.rxBytes ++ pl.take need
      if pl.length < need then s.setPort n { p with rxBytes := got }
      else (s.setPort n { p with rxHeaders := [], rxBytes := [] }).arrive n h got
  forAll hs (fun h x =>
    let len := bits (fld h 2 2) 12 0
    let got := (pl.drop (fld h 0x1C 2)).take len
    if got.length < len then x.modPort n fun q => { q with rxHeaders := [h], rxBytes := got } else x.arrive n h got) t

/-- The lane-error counts of the window that a tick lies in: those of an earlier window are gone (R304, R366). -/
def State.rollLane (s : State) (n : Nat) : State :=
  let w := s.now (portHalf n) / 2 ^ 16
  if w = (s.port n).laneUeEnded / 2 ^ 16 then s else s.modPort n fun p => { p with laneUe := [], laneUeEnded := 2 ^ 16 * w }

/-- FEC counts of a frame by lane (R304, R326). -/
def State.countFec (s : State) (n : Nat) (fec : List LaneFec) : State :=
  (s.rollLane n).modPort n fun p => { p with
    fecCe := satAdd max32 p.fecCe (fec.map LaneFec.corrected).sum
    fecUe := satAdd max32 p.fecUe (fec.map LaneFec.uncorrectable).sum
    laneUe := fec.foldl (fun t f => tset t f.lane.val (tget t f.lane.val 0 + f.uncorrectable)) p.laneUe }

/-- A discarded frame: NAK goes out, and later frames are discarded until the replayed one arrives (R309). -/
def State.badFrame (s : State) (n : Nat) : State := s.modPort n fun p => { p with nak := true, discarding := true }

/-- The ACK, NAK and credits of a good frame. -/
def State.frameState (s : State) (n : Nat) (bytes : List Byte) : State :=
  let t := (s.ackFrames n (fld bytes 3 3)).addCredits n (fld bytes 7 7)
  if bit (fld bytes 6 1) 4 then t.replay n else t

/-- A sequenced frame with a good CRC: the one expected is taken, a later one is discarded with NAK, an earlier one is a repeat (R309 to R311). -/
def State.sequenced (s : State) (n : Nat) (bytes : List Byte) : State :=
  let p := s.port n
  let d := (fld bytes 0 3 + 2 ^ 24 - p.rxSeq) % 2 ^ 24
  if d = 0 then
    let t := (s.setPort n { p with rxSeq := (p.rxSeq + 1) % 2 ^ 24, discarding := false }).frameState n bytes
    t.takePackets n ((List.range (min 6 (bits (fld bytes 6 1) 2 0))).map fun i => cut bytes (0xE + 32 * i) 32) (cut bytes 0xCE 7500)
  else if p.discarding then s
  else if d < 2 ^ 23 then s.badFrame n
  else s.frameState n bytes

/-- A frame arrives (R309). -/
def State.frameIn (s : State) (n : Nat) (bytes : List Byte) (fec : List LaneFec) : State :=
  if !(s.port n).frames then s
  else
    let t := s.countFec n fec
    let good := decide (bytes.length = 7710) && crc32c (bytes.take 7706) == leNat (bytes.drop 7706) && fec.all fun f => f.uncorrectable == 0
    let u := if !good then t.badFrame n
      else if !bit (fld bytes 6 1) 3 then t.sequenced n bytes
      else if (t.port n).discarding then t else t.frameState n bytes
    if (u.port n).laneUe.any fun e => decide (16 ≤ e.2) then u.retrain n else u

def execReplayTimeoutExpiry (port : Fin 8) (s : State) : Result := .next (s.replayLate port)

/-- A lane-error window ends: the counts start again (R304, R366). -/
def State.laneWindow (s : State) (n : Nat) : State :=
  let now := s.now (portHalf n)
  if windowEnd now 16 (s.port n).laneUeEnded then s.modPort n fun p => { p with laneUe := [], laneUeEnded := now } else s

def execLinkLaneErrorWindowEnd (port : Fin 8) (s : State) : Result := .next (s.laneWindow port)

def execLinkMarkerLockLost (port : Fin 8) (lane : Fin 14) (s : State) : Result :=
  .next (if (s.port port).laneActive.getLsbD lane then s.retrain port else s)

/-- Packets that a port going down discards: queued ones, those with a byte in its replay buffer, and those partly sent (R324). -/
def Port.held (p : Port) : Nat :=
  let sent := (p.replayBuf.map fun f => f.headers.length).sum
  let tail := match p.replayBuf with
    | [] => p.stream.any fun e => e.1.isEmpty
    | f :: _ => match f.headers with
      | [] => true
      | h :: _ => fld h 0x1C 2 != 0
  (p.queues.map fun q => q.2.length).sum + sent + (p.stream.filter fun e => !e.1.isEmpty).length + b2n tail

/-- A port goes down at run time (R304, R324): its packets are discarded and counted, and PORT_UP is cleared. -/
def State.portDown (s : State) (n : Nat) (good : BitVec 14) : State :=
  let p := s.port n
  let lost := p.held
  let t := forAll ((p.queues.map Prod.snd).flatten) (fun k x => x.freeCredits k) s
  let u := (t.modPort n fun q => { q with
    state := 2, retraining := false, laneGood := good, laneActive := 0, queues := [], stream := [], replayBuf := [], resend := none
    rxHeaders := [], rxBytes := [], lost := lost }).discard lost
  (((u.writePortEntry n).setPortUp n false).linkDegraded n 2 lost).oweService

/-- A retrain ends: credits are initialised with the amounts that now apply, and the port resumes at full or half width and replays; or it is down (R304, R314, R326). -/
def State.retrained (s : State) (n : Nat) (passed partner : BitVec 14) (credits : List Nat) : State :=
  let p := s.port n
  if !p.retraining then s
  else
    let good := passed &&& partner
    let act := activeSet good p.halfLocked
    if act = 0 then s.portDown n good
    else
      let half := decide (popCount 14 act.toNat < 12)
      let t := s.setPort n { p with
        retraining := false, laneGood := good, laneActive := act, state := if half then 1 else 0, halfLocked := half || p.halfLocked
        resend := if p.replayBuf.isEmpty then none else some 0, replayRun := 0, nak := false, discarding := false, laneUe := []
        ackTick := s.now (portHalf n), txGrant := creditTable credits, rxGrant := s.ownCredits
        txCredits := (List.range 8).map fun i => (i, tget p.txCredits i 0 + tget (creditTable credits) i 0 - tget p.txGrant i 0) }
      if act = p.laneActive then t
      else ((t.writePortEntry n).linkDegraded n (if half then 1 else 0) 0).oweService

def execLinkRetrainDone (port : Fin 8) (lanes : LaneMasks) (credits : List Nat) (s : State) : Result := .next (s.retrained port lanes.passed lanes.partner credits)

-- The route table (R322) ---------------------------------------------------------------------------------------------------

/-- The link of a port: axis and the coordinate below it. -/
def State.linkOf (s : State) (n : Nat) : Nat × Nat :=
  let a := portAxis n
  let c := coordAt s.aon.coord a
  (a, if portNeg n then stepCoord c (s.axisLen a) true else c)

/-- The port states have been exchanged: breaks, the ports in the table, PORT_UP and ROUTE_GEN; the table does not change while contexts run (R322, R324; log entry 183). -/
def State.routeBuilt (s : State) (breaks : List (Fin 4 × Nat)) : State :=
  if !s.links.busy || !s.managing || s.anyAdmitted then s
  else
    let far := (breaks.map fun b => (b.1.val, b.2)).filter fun b => decide (b.2 < s.axisLen b.1)
    let own := ((List.range 8).filter fun n => !(s.port n).up && s.axisLen (portAxis n) != 1).map s.linkOf
    let all := (far ++ own).dedup
    let tab := (List.range 8).foldl (fun m n => if (s.port n).up && !all.contains (s.linkOf n) then m ||| BitVec.ofNat 8 (2 ^ n) else m) (0 : BitVec 8)
    let t := s.modLinks fun l => { l with busy := false, routeGen := satAdd max16 l.routeGen 1, breaks := all, inTable := tab }
    { t with plan := { t.plan with portUp := tab } }

def execRouteBuildDone (breaks : List (Fin 4 × Nat)) (s : State) : Result := .next (s.routeBuilt breaks)

end Sys2Proof.Machine
end

