-- ==== Sys2Proof/Machine/Registers.lean ====
section
/-! DEFINITION. Register space: what every register reads, the _LO and _HI pairs, writes by access type, the doorbells, and the sideband's index space (R16 to R19, R104, R158, R191, R230, R231, R295, R326, R346, R374, R403, R404, R431 to R433, R453, R468 to R470, R476). -/

namespace Sys2Proof.Machine

-- Values (R13) ----------------------------------------------------------------------------------------------

/-- Element of an array of registers: the index of an offset. -/
def regIndex (base n o : Nat) : Option Nat :=
  if base ≤ o && decide (o < base + 4 * n) && (o - base) % 4 == 0 then some ((o - base) / 4) else none

/-- Two 16-bit fields. -/
def two16 (hi lo : Nat) : Nat := hi % 65536 * 65536 + lo % 65536

/-- The value of the first array that holds an offset; 0 where none does (RSVD). -/
def firstReg (o : Nat) : List (Nat × Nat × (Nat → Nat)) → Nat
  | [] => 0
  | (b, n, f) :: rest =>
    match regIndex b n o with
    | some i => f i
    | none => firstReg o rest

/-- AON_ registers (R431, R476). -/
def State.aonReg (s : State) (o : Nat) : Nat :=
  let b := s.aon.boot
  let k := s.aon.king
  let t := s.aon.thermal
  let claim (c : Option Claim) : Nat := (c.map claimNum).getD 3
  firstReg o [
    (0, 1, fun _ => 0x00010000),
    (4, 1, fun _ => b2n b.ready * 2 ^ 31 + b.fail * 65536 + b.stage),
    (8, 1, fun _ => b2n k.halfOk.h1 * 512 + b2n k.halfOk.h0 * 256 + b2n k.conflict * 128 + claim k.claims.h1 * 16 + claim k.claims.h0 * 4
      + holderNum k.holder),
    (0x10, 1, fun _ => t.throttleC),
    (0x14, 1, fun _ => two16 t.throttles (t.hotSensor * 256 + b2n t.throttling)),
    (0x18, 1, fun _ => temp16 t.tempMax),
    (0x1C, 1, fun _ => t.tripSensor * 2 ^ 24 + t.tripRail * 65536 + t.tripCause),
    (0x100, 67, fun i => temp16 (tget t.temps i 0))]

/-- PWR_ registers (R432). -/
def State.pwrReg (s : State) (o : Nat) : Nat :=
  let p := s.aon.power
  firstReg o [
    (0, 1, fun _ => 0x00010808),
    (4, 1, fun _ => two16 p.inEffect p.requested),
    (8, 1, fun _ => p.boardMax),
    (0xC, 1, fun _ => two16 s.aon.cclk (p.op * 256 + p.cap)),
    (0x10, 1, fun _ => two16 p.moduleW p.uncoreW),
    (0x14, 1, fun _ => s.gatedBays * 256 + ((List.range 64).filter s.bayBusy).length),
    (0x18, 1, fun _ => two16 p.alerts p.lowered),
    (0x40, 8, fun i => two16 (tget p.railMv i 0) (tget p.railCurrent i 0))]

/-- The staged image's manifest field, 0 while PENDING is 0 (R453). -/
def State.staged (s : State) (f : List Byte → Nat) : Nat := if s.flash.pending then f (s.flash.image s.flash.pendingSlot) else 0

/-- SILL_ registers (R453). -/
def State.sillReg (s : State) (o : Nat) : Nat :=
  let x := s.sill
  firstReg o [
    (0, 1, fun _ => 0x00010209),
    (4, 1, fun _ => x.selftest * 65536 + b2n s.flash.tried * 512 + b2n s.flash.fallback * 256 + b2n x.recovery * 128 + b2n s.flash.pending * 64
      + (if x.running.isSome then s.flash.active else 2) * 4 + x.state),
    (8, 1, fun _ => s.staged imgSvn * 65536 + imgSvn s.runningImage * 256 + s.flash.minSvn),
    (0xC, 1, fun _ => s.staged imgVersion),
    (0x18, 1, fun _ => two16 x.sessions x.signatures),
    (0x1C, 1, fun _ => two16 x.bridgeRetrains x.bridgeReplays)]

/-- JNR_ registers (R433). -/
def State.jnrReg (s : State) (o : Nat) : Nat :=
  firstReg o [
    (0, 1, fun _ => 0x00010408),
    (4, 1, fun _ => imgVersion s.runningImage),
    (0x10, 2, fun i =>
      let j := s.aon.joiners.get (halfOf i)
      two16 j.restarts (b2n j.running * 2 + b2n (s.holder == some (halfOf i))))]

/-- SCR_ registers (R158). -/
def State.scrReg (s : State) (o : Nat) : Nat :=
  firstReg o [
    (0, 8, fun n => tget s.scribe.rate n 10),
    (0x28, 1, fun _ => two16 s.scribe.sdcUnresolved s.scribe.sdcResolved)]

/-- AUG_ registers (R191). -/
def State.augReg (s : State) (o : Nat) : Nat :=
  let a := s.aug
  firstReg o [
    (0, 1, fun _ => 0x0001407F),
    (4, 1, fun _ => a.bayCap * 65536 + a.bankCap * 1024 + a.lcReserve),
    (0x10, 1, fun _ => a.cancel),
    (0x1C, 1, fun _ => two16 a.unresolved a.resolved),
    (0x40, 12, fun m => if s.siteUp m then s.slotsUsed m else 0)]

/-- YRD_ registers (R230). -/
def State.yrdReg (s : State) (o : Nat) : Nat :=
  let y := s.yard
  firstReg o [
    (0, 1, fun _ => 0x00010000 + s.flash.variant.siteEnable.toNat),
    (4, 1, fun _ => s.aon.rateTarget),
    (8, 1, fun _ => b2n y.scrubEnable * 32 + y.scrubPeriod),
    (0xC, 1, fun _ => y.spareWindow * 256 + y.spareThresh),
    (0x10, 1, fun _ => y.migBudget * 65536 + y.migRatio * 4096 + y.migMin * 256 + b2n y.migEnable),
    (0x1C, 1, fun _ => y.errLoc.toNat),
    (0x40, 12, fun m => min 255 (s.site m).erased.length * 65536 + popCount 32 (s.plan.site m).spareUsed.toNat * 256 + (s.site m).rate * 64 + (s.plan.site m).state),
    (0x80, 12, fun m => (s.site m).ce),
    (0xC0, 12, fun m => (s.site m).ue)]

/-- KRF_ registers (R231). -/
def State.krfReg (s : State) (o : Nat) : Nat :=
  firstReg o [
    (0, 1, fun _ => 0x00010000),
    (4, 1, fun _ => s.yard.packLowLog2 * 2 + b2n s.yard.compress),
    (8, 1, fun _ => s.yard.verifyFail),
    (0x40, 8, fun c => (s.packLines c .h0 + s.packLines c .h1 + 15) / 16)]

/-- PLN_ registers (R295). -/
def State.plnReg (s : State) (o : Nat) : Nat :=
  let c := s.ctxRegs
  firstReg o [
    (0, 1, fun _ => 0x00010004 + popCount 12 s.plan.siteMask.toNat * 256),
    (0xC, 1, fun _ => two16 c.skipped c.applied),
    (0x10, 1, fun _ => two16 c.stashFull c.stashDrops)]

/-- LNK_ registers (R326). -/
def State.lnkReg (s : State) (o : Nat) : Nat :=
  let l := s.links
  let cr (i : Nat) : Nat := tget s.aon.credits i 0
  firstReg o [
    (0, 1, fun _ => 0x0001080E),
    (0x14, 1, fun _ => two16 l.routeGen (b2n l.busy * 2)),
    (0x18, 1, fun _ => s.aon.replayLimit * 256 + s.aon.replayTimeout),
    (0x1C, 2, fun v => two16 (cr (2 * v + 1)) (cr (2 * v))),
    (0x24, 1, fun _ => l.discard),
    (0x40, 8, fun n =>
      let p := s.port n
      p.state * 2 ^ 30 + b2n p.miscabled * 2 ^ 29 + b2n p.retraining * 2 ^ 28 + p.laneGood.toNat * 2 ^ 14 + p.carrying.toNat),
    (0x60, 8, fun n => two16 (s.port n).retrains (s.port n).replays),
    (0x80, 8, fun n => (s.port n).fecCe),
    (0xA0, 8, fun n => (s.port n).fecUe)]

/-- PEG_ registers (R346). -/
def State.pegReg (s : State) (o : Nat) : Nat :=
  firstReg o [
    (0, 1, fun _ => 0x00010400),
    (4, 1, fun _ => s.links.pegTimeout),
    (0x10, 1, fun _ => two16 s.links.mismatches s.links.timeouts),
    (0x14, 1, fun _ => s.links.pegStray)]

/-- CTX_ registers (R374). -/
def State.ctxReg (s : State) (o : Nat) : Nat :=
  let r := s.ctxRegs
  firstReg o [
    (0, 1, fun _ => 0x00014008),
    (4, 1, fun _ => r.alert),
    (0x18, 1, fun _ => r.nearmissDev),
    (0x20, 8, fun n =>
      let c := s.ctx n
      two16 c.tenancy (b2n c.clearing * 8 + b2n c.explicit * 4 + b2n c.be * 2 + b2n c.admitted)),
    (0x40, 8, fun n => (s.ctx n).handleLog2 * 256 + (s.ctx n).waitLog2),
    (0x60, 8, fun n => (s.ctx n).nearmiss),
    (0x80, 8, fun n => two16 (s.ctx n).abandoned (s.ctx n).yielded),
    (0xA0, 8, fun n => two16 (s.ctx n).saturated (s.ctx n).stray),
    (0xC0, 8, fun n => two16 (s.ctx n).imeter.h0.1 (s.ctx n).imeter.h0.2),
    (0xE0, 8, fun n => two16 (s.ctx n).imeter.h1.1 (s.ctx n).imeter.h1.2),
    (0x100, 2, fun h => r.window.get (halfOf h))]

/-- LNK_COORD and LNK_AXIS_LEN as 64-bit pairs (R326). -/
def Aon.coordPair (a : Aon) : Nat := b2n a.coordValid * 2 ^ 63 + a.coord.toNat

/-- The 64-bit pairs of PF0 BAR0: block, offset of _LO, value (R19). -/
def State.pairs0 (s : State) : List (Nat × Nat × Nat) :=
  [(0x03, 0x10, (Config.shake256 Config.dikPublic).toNat % 2 ^ 64),
   (0x10, 0x20, s.scribe.tiles),
   (0x11, 0x08, s.aug.refetch),
   (0x11, 0x14, s.aug.bankHits),
   (0x12, 0x04, Config.tableId.toNat),
   (0x13, 0x14, s.yard.migCount),
   (0x14, 0x0C, s.yard.kerfIn),
   (0x14, 0x14, s.yard.kerfOut),
   (0x15, 0x04, s.ctxRegs.elems),
   (0x16, 0x04, s.aon.coordPair),
   (0x16, 0x0C, s.aon.axisLen.toNat),
   (0x17, 0x08, s.links.signins),
   (0x18, 0x08, s.aon.ticks.h0),
   (0x18, 0x10, s.aon.ticks.h1)]

/-- The pair whose _LO register lies at an offset of a block. -/
def pairAt (l : List (Nat × Nat × Nat)) (blk o : Nat) : Option Nat :=
  (l.find? fun e => e.1 == blk && e.2.1 == o).map fun e => e.2.2

/-- A register of PF0 BAR0 that is no part of a pair (R377); addresses outside every block read 0. -/
def State.reg0 (s : State) (blk o : Nat) : Nat :=
  match blk with
  | 0x00 => if o = 0 && s.hif.linkUp then two16 s.hif.retrains (s.hif.linkWidth * 16 + s.hif.linkSpeed) else if o = 0 then two16 s.hif.retrains 0 else 0
  | 0x01 => s.aonReg o
  | 0x02 => s.pwrReg o
  | 0x03 => s.sillReg o
  | 0x04 => s.jnrReg o
  | 0x10 => s.scrReg o
  | 0x11 => s.augReg o
  | 0x12 => if o = 0 then 0x00014002 else 0
  | 0x13 => s.yrdReg o
  | 0x14 => s.krfReg o
  | 0x15 => s.plnReg o
  | 0x16 => s.lnkReg o
  | 0x17 => s.pegReg o
  | 0x18 => s.ctxReg o
  | _ => 0

/-- Function registers that are no part of a pair (R403). -/
def State.reg2 (s : State) (n o : Nat) : Nat :=
  let f := s.fn n
  firstReg o [
    (0x00, 1, fun _ => 0x00010000 + n * 256 + (if n = 0 then 0xFF else n - 1)),
    (0x04, 1, fun _ => b2n f.evqEn * 2 + b2n f.enable),
    (0x08, 1, fun _ => f.err.toNat),
    (0x28, 1, fun _ => f.cmdHead),
    (0x2C, 1, fun _ => f.outstanding.length + f.cplWait.length),
    (0x30, 1, fun _ => two16 f.irqDelay f.irqCount),
    (0x34, 1, fun _ => f.evqLost),
    (0x40, 1, fun _ => if n = 0 then b2n s.hif.bar4Valid * 8 + s.hif.bar4Ctx else 0),
    (0x2000, 12, fun i => (tget f.msixTable i 0).toNat),
    (0x3000, 1, fun _ => f.pba.toNat)]

/-- The 64-bit pairs of a function's BAR2. -/
def State.pairs2 (s : State) (n : Nat) : List (Nat × Nat × Nat) :=
  let f := s.fn n
  [(0, 0x10, f.cmdBase.toNat), (0, 0x18, f.cplBase.toNat), (0, 0x20, f.evqBase.toNat),
   (0, 0x44, if n = 0 then s.hif.bar4Base.toNat else 0)]

/-- The sideband's index space: the registers it reaches (R468). -/
def State.regSb (s : State) (i : Nat) : Nat :=
  if i = 0 then 0x00010000
  else if i = 1 then s.aon.sb.status.toNat
  else if i = 2 then s.aonReg 4
  else if i = 3 then s.aonReg 8
  else if i = 4 then s.aonReg 0x1C
  else if i = 5 then s.aonReg 0x18
  else if i = 6 then s.aonReg 0x14
  else if i = 8 then s.pwrReg 4
  else if i = 9 then s.pwrReg 8
  else if i = 0xA then s.pwrReg 0x10
  else if i = 0xB then s.pwrReg 0xC
  else if i = 0xC then s.pwrReg 0x18
  else if 0x10 ≤ i && i ≤ 0x17 then s.pwrReg (0x40 + 4 * (i - 0x10))
  else if i = 0x1C then (if s.planBuilt then s.flash.variant.serial.toNat % 2 ^ 32 else 0)
  else if i = 0x1D then (if s.planBuilt then s.flash.variant.serial.toNat / 2 ^ 32 else 0)
  else if 0x40 ≤ i && i ≤ 0x82 then s.aonReg (0x100 + 4 * (i - 0x40))
  else 0

/-- The pairs of the sideband (R468, R470). -/
def State.pairsSb (s : State) : List (Nat × Nat × Nat) := [(0, 0x18, s.aon.coordPair), (0, 0x1A, s.aon.axisLen.toNat)]

-- Reads (R16, R19) --------------------------------------------------------------------------------------------

/-- A read of a register: value, and the latch it leaves. A _LO read latches _HI; the next _HI read takes the latched value. -/
def latchRead (pairs : List (Nat × Nat × Nat)) (plain : Nat) (blk o step : Nat) (shadow : Table Word) (key : Nat) : Nat × Table Word :=
  match pairAt pairs blk o with
  | some v => (v % 2 ^ 32, tset shadow key (BitVec.ofNat 32 (v / 2 ^ 32)))
  | none =>
    match (if step ≤ o then pairAt pairs blk (o - step) else none) with
    | some v =>
      match tfind shadow (key - step) with
      | some w => (w.toNat, tdel shadow (key - step))
      | none => (v / 2 ^ 32, shadow)
    | none => (plain, shadow)

/-- Whether a function answers configuration requests: PF0, or a VF while VF Enable is set, over a link that is up. -/
def State.present (s : State) (n : Nat) : Bool := s.hif.linkUp && (n == 0 || s.hif.vfEnable)

/-- Whether a function's registers are reached: it is present and in D0 (R375; log entry 167). -/
def State.reaches (s : State) (n : Nat) : Bool := s.present n && !(s.fn n).d3hot

/-- The addressed bytes of a register. -/
def subRead (v o len : Nat) : Word := BitVec.ofNat 32 (v / 2 ^ (8 * (o % 4)) % 2 ^ (8 * len))

/-- What a register read answers. -/
def State.answer (s : State) (v : Word) : State := { s with hif := { s.hif with out := { s.hif.out with regRead := some v } } }

/-- A register read over PCIe: of bytes inside one register, or discarded; a read of no byte, for which R16 has no rule, is discarded too (log entry 168). Shadows are kept per function: BAR0 keys lie above BAR2's. -/
def State.readHost (s : State) (n key : Nat) (pairs : List (Nat × Nat × Nat)) (plain : Nat → Nat) (blk off len : Nat) : State :=
  if !s.reaches n then s
  else if len = 0 || decide (4 < off % 4 + len) then (s.accessErr n).answer 0
  else
    let o := off - off % 4
    let f := s.fn n
    let r := latchRead pairs (plain o) blk o 4 f.shadow (key + o)
    (s.setFn n { f with shadow := r.2 }).answer (subRead r.1 off len)

/-- A register read (R16, R19, R468). -/
def State.regReadAt (s : State) (p : RegPort) (off len : Nat) : State :=
  match p with
  | .bar0 => s.readHost 0 (2 ^ 24 + off / 65536 * 65536) s.pairs0 (s.reg0 (off / 65536)) (off / 65536) (off % 65536) len
  | .bar2 n => s.readHost n 0 (s.pairs2 n) (s.reg2 n) 0 off len
  | .sideband _ =>
    if !s.aon.powered then s
    else
      let r := latchRead s.pairsSb (s.regSb off) 0 off 1 s.aon.sb.shadow off
      (s.modAon fun a => { a with sb := { a.sb with shadow := r.2 } }).answer (BitVec.ofNat 32 r.1)

def execRegisterRead (port : RegPort) (offset len : Nat) (s : State) : Result := .next (s.regReadAt port offset len)

-- Doorbells and function control (R379, R383, R384, R399, R403) ---------------------------------------------------

/-- The command ring's tail (R379). -/
def State.dbCmd (s : State) (n v : Nat) : State := if s.reaches n then s.setFn n { s.fn n with cmdTail := v % 4096 } else s

def execHifDbCmdWrite (fn : Fin 9) (value : Word) (s : State) : Result := .next (s.dbCmd fn value.toNat)

/-- The completion ring's head: waiting entries are written into the freed places (R383). -/
def State.dbCpl (s : State) (n v : Nat) : State :=
  if s.reaches n then (s.setFn n { s.fn n with cplHead := v % 4096 }).flushCpl n else s

def execHifDbCplWrite (fn : Fin 9) (value : Word) (s : State) : Result := .next (s.dbCpl fn value.toNat)

/-- DELAY ticks after the first unsignalled completion, vector 0 is signalled (R384). -/
def State.irqDelayed (s : State) (n : Nat) : State :=
  let f := s.fn n
  match f.irqFirst with
  | none => s
  | some t =>
    if f.irqDelay = 0 || decide (s.now .h0 < t + f.irqDelay) then s
    else s.setFn n (fnSignal { f with irqPending := 0, irqFirst := none } 0)

def execMsixDelayExpiry (fn : Fin 9) (s : State) : Result := .next (s.irqDelayed fn)

/-- Events that a freed place lets through: EVENTS_LOST first, then entries that wait, then a trip's event (R399, R474). -/
def State.evqResume (s : State) (n : Nat) : State :=
  let t := (s.eventsLost n).flushEvents n
  if n = 0 then t.postTrip else t

/-- The event ring's head (R399). -/
def State.dbEvq (s : State) (n v : Nat) : State :=
  if s.reaches n then (s.setFn n { s.fn n with evqHead := v % 1024 }).evqResume n else s

def execHifDbEvqWrite (fn : Fin 9) (value : Word) (s : State) : Result := .next (s.dbEvq fn value.toNat)

/-- Whether a function has an outstanding command (R380). -/
def Fn.busy (f : Fn) : Bool := !f.outstanding.isEmpty || !f.cplWait.isEmpty

/-- HIF_FN_CTL (R403): a change of ENABLE while commands are outstanding is discarded whole. -/
def State.fnCtl (s : State) (n v : Nat) : State :=
  let f := s.fn n
  let en := bit v 0
  let ev := bit v 1
  if !s.reaches n then s
  else if en != f.enable && f.busy then s.accessErr n
  else
    let g := if en && !f.enable then
        { f with cmdHead := 0, cmdTail := 0, cplHead := 0, cplTail := 0, cplPhase := true, evqHead := 0, evqTail := 0, evqPhase := true }
      else f
    (s.setFn n { g with enable := en, evqEn := ev }).evqResume n

def execHifFnCtlWrite (fn : Fin 9) (value : Word) (s : State) : Result := .next (s.fnCtl fn value.toNat)

/-- HIF_ERR_STATUS: ones clear; clearing CPL_WRITE_ERR lets entries be written again (R385, R403). -/
def State.errClear (s : State) (n v : Nat) : State :=
  let f := s.fn n
  if !s.reaches n then s
  else ((s.setFn n { f with err := f.err &&& ~~~(BitVec.ofNat 5 v) }).flushCpl n).evqResume n

def execHifErrStatusWrite (fn : Fin 9) (value : Word) (s : State) : Result := .next (s.errClear fn value.toNat)

-- Coordinates and route builds (R319, R322, R326) ---------------------------------------------------------------------

/-- A discarded register write: HIF_ACCESS_ERR of the function, or ADMITTED of the sideband (R326, R469). -/
def State.discarded (s : State) (p : RegPort) : State :=
  match p with
  | .bar0 => s.accessErr 0
  | .bar2 n => s.accessErr n
  | .sideband _ => s.sbSet 4

/-- Hold a _HI write until its _LO write (R19). -/
def State.holdHi (s : State) (p : RegPort) (key : Nat) (v : Word) : State :=
  match p with
  | .bar0 => s.setFn 0 { s.fn 0 with held := tset (s.fn 0).held key v }
  | .bar2 n => s.setFn n { s.fn n with held := tset (s.fn n).held key v }
  | .sideband _ => s.modAon fun a => { a with sb := { a.sb with held := tset a.sb.held key v } }

/-- The _HI value that takes effect with a _LO write: the held one, else the register's own. -/
def State.heldHi (s : State) (p : RegPort) (key own : Nat) : Nat :=
  let t := match p with
    | .bar0 => (s.fn 0).held
    | .bar2 n => (s.fn n).held
    | .sideband _ => s.aon.sb.held
  match tfind t key with
  | some w => w.toNat
  | none => own

/-- Drop a held _HI write. -/
def State.dropHi (s : State) (p : RegPort) (key : Nat) : State :=
  match p with
  | .bar0 => s.setFn 0 { s.fn 0 with held := tdel (s.fn 0).held key }
  | .bar2 n => s.setFn n { s.fn n with held := tdel (s.fn n).held key }
  | .sideband _ => s.modAon fun a => { a with sb := { a.sb with held := tdel a.sb.held key } }

/-- The other chips of this chip's rings. -/
def State.ringChips (s : State) : List (BitVec 48) :=
  ((List.range 4).map fun a => ((List.range (s.axisLen a)).filter fun v => v != coordAt s.aon.coord a).map fun v => coordSet s.aon.coord a v).flatten

/-- Start a route table build: every chip of the rings is asked for its port states over VC3 (R322). -/
def State.startRoute (s : State) : State :=
  forAll s.ringChips (fun c t => t.sendFirm 3 0 c 0 5 []) (s.modLinks fun l => { l with busy := true })

/-- LNK_COORD or LNK_AXIS_LEN takes a 64-bit value; with VALID the locked ports tell their identity, and the first VALID starts the first route build (R303 step 6, R319, R322). -/
def State.setCoord (s : State) (axis : Bool) (v : Nat) : State :=
  if axis then s.modAon fun a => { a with axisLen := BitVec.ofNat 48 v }
  else
    let t := s.modAon fun a => { a with coord := BitVec.ofNat 48 v, coordValid := bit v 63 }
    if !bit v 63 || s.aon.coordValid then t
    else
      let u := forAll ((List.range 8).filter fun n => (s.port n).step == 5) (fun n t => t.sayIdentity n) t
      if s.links.wasValid then u else (u.modLinks fun l => { l with wasValid := true }).startRoute

/-- A write of one of the four coordinate registers (R19, R326, R470). -/
def State.coordWrite (s : State) (p : RegPort) (r : Nat) (v : Word) : State :=
  let on := match p with
    | .bar0 => s.reaches 0
    | .bar2 _ => false
    | .sideband _ => s.aon.powered
  if !on then s
  else if s.anyAdmitted then s.discarded p
  else
    let key := 2 ^ 32 + r / 2
    if r % 2 = 1 then s.holdHi p key v
    else
      let own := if r / 2 = 0 then s.aon.coordPair / 2 ^ 32 else s.aon.axisLen.toNat / 2 ^ 32
      (s.setCoord (r / 2 == 1) (v.toNat + 2 ^ 32 * s.heldHi p key own)).dropHi p key

def execLnkCoordWrite (port : RegPort) (reg : Fin 4) (value : Word) (s : State) : Result := .next (s.coordWrite port reg value)

/-- RECOMPUTE written 1 starts a build, or is discarded while a context is admitted (R322). -/
def State.recompute0 (s : State) (v : Nat) : State :=
  if !s.reaches 0 || !bit v 0 then s else if s.anyAdmitted then s.accessErr 0 else s.startRoute

def execLnkRouteCtlRecompute (value : Word) (s : State) : Result := .next (s.recompute0 value.toNat)

-- Writes (R16 to R18) -----------------------------------------------------------------------------------------------------

/-- A field of an RW register: a value out of its range leaves it unchanged. -/
def ranged (lo hi old v : Nat) : Nat := if lo ≤ v ∧ v ≤ hi then v else old

/-- A field of which 0 is legal beside a range. -/
def rangedOr0 (lo hi old v : Nat) : Nat := if v = 0 then 0 else ranged lo hi old v

/-- LNK_CREDIT_VCv: both fields within 17 to 1,468 and the four data sub-classes within 2,936 (R326). -/
def State.creditWrite (s : State) (vc v : Nat) : State :=
  let a := bits v 10 0
  let b := bits v 26 16
  let o := tget s.aon.credits (2 - 2 * vc) 0 + tget s.aon.credits (3 - 2 * vc) 0
  if a < 17 || decide (1468 < a) || decide (b < 17) || decide (1468 < b) || decide (2936 < a + b + o) then s
  else s.modAon fun x => { x with credits := tset (tset x.credits (2 * vc) a) (2 * vc + 1) b }

/-- A whole write of a register of PF0 BAR0; what is not writable ignores it (R17). -/
def State.write0 (s : State) (blk o : Nat) (w : Word) : State :=
  let v := w.toNat
  match blk with
  | 0x01 => if o = 0x10 then s.modThermal fun t => { t with throttleC := ranged 85 105 t.throttleC (bits v 7 0) } else s
  | 0x02 => if o = 0xC then s.modPower fun p => { p with cap := bits v 2 0 } else s
  | 0x10 =>
    match regIndex 0 8 o with
    | some n => { s with scribe := { s.scribe with rate := tset s.scribe.rate n (ranged 6 12 (tget s.scribe.rate n 10) (bits v 3 0)) } }
    | none => s
  | 0x11 =>
    if o = 4 then { s with aug := { s.aug with
      bayCap := ranged 32 1024 s.aug.bayCap (bits v 26 16), bankCap := ranged 8 32 s.aug.bankCap (bits v 15 10),
      lcReserve := ranged 0 512 s.aug.lcReserve (bits v 9 0) } } else s
  | 0x13 =>
    let y := s.yard
    if o = 4 then s.modAon fun a => { a with rateTarget := ranged 0 2 a.rateTarget (bits v 1 0) }
    else if o = 8 then { s with yard := { y with scrubEnable := bit v 5, scrubPeriod := ranged 24 31 y.scrubPeriod (bits v 4 0) } }
    else if o = 0xC then { s with yard := { y with
      spareWindow := ranged 16 30 y.spareWindow (bits v 15 8), spareThresh := ranged 1 255 y.spareThresh (bits v 7 0) } }
    else if o = 0x10 then { s with yard := { y with
      migBudget := bits v 23 16, migRatio := ranged 2 15 y.migRatio (bits v 15 12), migMin := ranged 8 15 y.migMin (bits v 11 8), migEnable := bit v 0 } }
    else s
  | 0x14 =>
    if o = 4 then { s with yard := { s.yard with packLowLog2 := ranged 1 8 s.yard.packLowLog2 (bits v 4 1), compress := bit v 0 } } else s
  | 0x16 =>
    match regIndex 4 4 o with
    | some r => s.coordWrite .bar0 r w
    | none =>
      if o = 0x14 then s.recompute0 v
      else if o = 0x18 then s.modAon fun a => { a with
        replayLimit := ranged 1 255 a.replayLimit (bits v 15 8), replayTimeout := ranged 5 255 a.replayTimeout (bits v 7 0) }
      else if o = 0x1C then s.creditWrite 0 v
      else if o = 0x20 then s.creditWrite 1 v
      else s
  | 0x17 => if o = 4 then s.modLinks fun l => { l with pegTimeout := ranged 1250 16777215 l.pegTimeout (bits v 23 0) } else s
  | 0x18 =>
    if o = 4 then { s with ctxRegs := { s.ctxRegs with alert := bits v 15 0 } }
    else match regIndex 0x40 8 o with
      | some n => s.modCtx n fun c => { c with
          waitLog2 := rangedOr0 10 31 c.waitLog2 (bits v 4 0), handleLog2 := rangedOr0 14 31 c.handleLog2 (bits v 12 8) }
      | none => s
  | _ => s

/-- A ring base takes a value, unless a command is outstanding: then a write that would change it is discarded whole (R403). -/
def State.baseWrite (s : State) (n o : Nat) (lo : Word) : State :=
  let p : RegPort := .bar2 (Fin.ofNat 9 n)
  let f := s.fn n
  let old := if o = 0x10 then f.cmdBase else if o = 0x18 then f.cplBase else f.evqBase
  let v := BitVec.ofNat 64 (lo.toNat / 4096 * 4096 + 2 ^ 32 * s.heldHi p (o + 4) (old.toNat / 2 ^ 32))
  let t := s.dropHi p (o + 4)
  if f.busy && v != old then t.accessErr n
  else
    let g := t.fn n
    t.setFn n (if o = 0x10 then { g with cmdBase := v } else if o = 0x18 then { g with cplBase := v } else { g with evqBase := v })

/-- An MSI-X table word is written; a vector unmasked while its pending bit is set is signalled (log entry 16). -/
def State.msixWrite (s : State) (n i : Nat) (w : Word) : State :=
  let f := s.fn n
  let g := { f with msixTable := tset f.msixTable i w }
  let v := i / 4
  s.setFn n (if f.pba.getLsbD v && !(tget g.msixTable (4 * v + 3) 0).getLsbD 0 then
    fnSignal { g with pba := g.pba &&& ~~~(BitVec.ofNat 3 (2 ^ v)) } v else g)

/-- A whole write of a function register (R403). -/
def State.write2 (s : State) (n o : Nat) (w : Word) : State :=
  let v := w.toNat
  let p : RegPort := .bar2 (Fin.ofNat 9 n)
  if o = 4 then s.fnCtl n v
  else if o = 8 then s.errClear n v
  else if o = 0x10 || o = 0x18 || o = 0x20 then s.baseWrite n o w
  else if o = 0x14 || o = 0x1C || o = 0x24 then s.holdHi p o w
  else if o = 0x30 then s.setFn n { s.fn n with irqDelay := bits v 31 16, irqCount := ranged 1 255 (s.fn n).irqCount (bits v 7 0) }
  else if o = 0x40 && n == 0 then { s with hif := { s.hif with bar4Valid := bit v 3, bar4Ctx := bits v 2 0 } }
  else if o = 0x44 && n == 0 then
    let t := s.dropHi p 0x48
    { t with hif := { t.hif with bar4Base := BitVec.ofNat 64 (v + 2 ^ 32 * (s.heldHi p 0x48 (s.hif.bar4Base.toNat / 2 ^ 32) % 2 ^ 25)) } }
  else if o = 0x48 && n == 0 then s.holdHi p o w
  else if o = 0x1000 then s.dbCmd n v
  else if o = 0x1004 then s.dbCpl n v
  else if o = 0x1008 then s.dbEvq n v
  else match regIndex 0x2000 12 o with
    | some i => s.msixWrite n i w
    | none => s

/-- A sideband write of a value to an index (R468, R469). -/
def State.writeSb (s : State) (i : Nat) (w : Word) : State :=
  if i = 1 then s.sbClear w.toNat
  else if i = 9 then s.boardMax w.toNat
  else match (if 0x18 ≤ i && i ≤ 0x1B then some (i - 0x18) else none) with
    | some r => s.coordWrite (.sideband true) r w
    | none => s.sbSet 1

/-- A register write (R16, R17, R468, R469). A PCIe write that is not one whole register is discarded. -/
def State.regWriteAt (s : State) (p : RegPort) (off : Nat) (bs : List Byte) : State :=
  let whole := off % 4 == 0 && bs.length == 4
  let w : Word := BitVec.ofNat 32 (leNat bs)
  match p with
  | .bar0 => if !s.reaches 0 then s else if whole then s.write0 (off / 65536) (off % 65536) w else s.accessErr 0
  | .bar2 n => if !s.reaches n then s else if whole then s.write2 n off w else s.accessErr n
  | .sideband pec =>
    if !s.aon.powered then s
    else if s.aon.sb.mode && !pec then s.sbSet 2
    else if bs.length == 4 then s.writeSb off w else s

def execRegisterWrite (port : RegPort) (offset : Nat) (bytes : List Byte) (s : State) : Result := .next (s.regWriteAt port offset bytes)

end Sys2Proof.Machine
end

