-- ==== Sys2Proof/Machine/Commands.lean ====
section
/-! DEFINITION. Sprinyd commands: fetching, refusing, starting, faulting (R379 to R387, R412, R418, R481). -/

namespace Sys2Proof.Machine

/-- The commands of R388. -/
def knownOpcode (o : Nat) : Bool := (decide (1 ≤ o) && decide (o ≤ 7)) || (decide (0x10 ≤ o) && decide (o ≤ 0x1B))

/-- Context commands: CTX_ADMIT, CTX_RELEASE and those from MAP on. -/
def ctxCommand (o : Nat) : Bool := o == 6 || decide (7 ≤ o)

/-- The parameter bytes a command uses, by opcode and OP; none for an OP out of range (R382, R388). -/
def usedParams (o op : Nat) : Option (List (Nat × Nat)) :=
  match o with
  | 0x01 => some [(8, 8), (0x10, 1)]
  | 0x02 => some [(8, 8)]
  | 0x03 => some [(8, 8), (0x10, 4), (0x18, 32)]
  | 0x04 => some [(8, 2)]
  | 0x05 => some [(8, 8), (0x10, 4)]
  | 0x06 => some [(8, 0x28)]
  | 0x07 => some []
  | 0x10 => some [(8, 8), (0x10, 8), (0x18, 4)]
  | 0x11 => some [(8, 16)]
  | 0x12 => some [(8, 1), (0x10, 24)]
  | 0x13 => some [(8, 1), (0x10, 16)]
  | 0x14 => if op ≤ 1 then some [(8, 2)] else none
  | 0x15 => if op = 0 then some [(8, 2), (0x10, 8)] else if op = 1 then some [(8, 3), (0x18, 32)] else if op ≤ 4 then some [(8, 3)] else none
  | 0x16 => if op = 0 then some [(8, 1), (0x10, 8)] else if op ≤ 2 then some [(8, 1)] else none
  | 0x17 => if op = 0 then some [(8, 1), (0x10, 8)] else if op = 1 then some [(8, 2)] else none
  | 0x18 => some [(8, 1), (0x10, 16)]
  | 0x19 =>
    if op = 0 then some [(8, 1), (0xA, 4), (0x10, 16)] else if op = 1 then some [(8, 1), (0xA, 4), (0x20, 16)]
    else if op = 2 then some [(8, 1), (0xA, 4)] else none
  | 0x1A => if op = 0 then some [(8, 1), (0x10, 8)] else if op ≤ 2 then some [(8, 1), (0xA, 4), (0x10, 8)] else none
  | _ => some [(0x10, 24)]

/-- The OP of a command entry: LAUNCH's stands at 0x09, the others' at 0x08. -/
def Cmd.op (c : Cmd) : Nat := if c.opcode = 0x14 then fld c.bytes 9 1 else fld c.bytes 8 1

/-- Whether every parameter byte outside the used ranges is zero. -/
def unusedZero (bs : List Byte) (used : List (Nat × Nat)) : Bool :=
  (List.range 56).all fun i => used.any (fun u => decide (u.1 ≤ 8 + i) && decide (8 + i < u.1 + u.2)) || bs.getD (8 + i) 0 == 0

/-- How a fetched command is refused, with STATUS and DETAIL (R382, R386, R387, R418). -/
def refusal (recovery : Bool) (fn : Nat) (c : Cmd) : Option (Nat × Nat) :=
  let o := c.opcode
  if !knownOpcode o then some (stCmdInvalid, 1)
  else if fn != 0 && ((o == 4 || o == 5 || o == 6) || (ctxCommand o && c.ctx != fn - 1)) then some (stNotPermitted, 0)
  else if recovery && o != 3 && o != 5 then some (stCmdInvalid, 4)
  else if bits (fld c.bytes 1 1) 7 2 != 0 || !zeroAt c.bytes 5 3 || (!ctxCommand o && c.ctx != 0) then some (stCmdInvalid, 2)
  else
    match usedParams o c.op with
    | none => some (stCmdInvalid, 3)
    | some u => if !unusedZero c.bytes u then some (stCmdInvalid, 2) else if ctxCommand o && decide (7 < c.ctx) then some (stCmdInvalid, 3) else none

/-- Whether a function's commands are served: after READY, or PF0's while only the recovery loader or the ridge die runs (R34, R379, R418). -/
def State.serves (s : State) (n : Nat) : Bool := s.aon.boot.ready || (n == 0 && (s.sill.recovery || s.aon.boot.fail == 5))

/-- Whether a function may fetch (R379, R380, R385, R403). -/
def State.mayFetch (s : State) (n : Nat) : Bool :=
  let f := s.fn n
  s.reaches n && s.serves n && f.enable && !f.err.getLsbD errCmdRead && !f.err.getLsbD errCplWrite && f.cmdHead != f.cmdTail
    && decide (f.outstanding.length + f.cplWait.length < 512)

/-- AER logs a poisoned completion or a timeout of a device read (R399; log entry 167). -/
def State.logRead (s : State) (n : Nat) (why : HostFail) : State :=
  let log (i : Nat) : State := s.setFn n { s.fn n with aer := (s.fn n).aer ||| BitVec.ofNat 32 (2 ^ i) }
  match why with
  | .error => s
  | .timeout => log 14
  | .poisoned => log 12

/-- Fetch the next command entry; a refused command completes at once and has no effect (R379, R385, R387). -/
def State.fetchCmd (s : State) (n : Nat) (entry : HostData) : State :=
  if !s.mayFetch n then s
  else
    let f := s.fn n
    match entry with
    | .failed why => (s.setFn n (fnErr f errCmdRead)).logRead n why
    | .data bs =>
      let c : Cmd := ⟨f.cmdHead, cut bs 0 64, .fetched, 0⟩
      let t := s.setFn n { f with cmdHead := (f.cmdHead + 1) % 4096, outstanding := f.outstanding ++ [c] }
      match refusal s.sill.recovery n c with
      | some r => t.done n c.slot r.1 r.2
      | none => t

def execCommandFetch (fn : Fin 9) (entry : HostData) (s : State) : Result := .next (s.fetchCmd fn entry)

/-- The commands of a ring that were fetched before one and have not completed (R380). -/
def Fn.before (f : Fn) (slot : Nat) : List Cmd := f.outstanding.takeWhile fun d => d.slot != slot

/-- Whether a command may start: commands start in fetch order, and ORDER waits until every command fetched before has completed (R381). -/
def State.mayStart (s : State) (n : Nat) (c : Cmd) : Bool :=
  ((s.fn n).before c.slot).all fun d => !c.order && d.phase != .fetched

/-- A command that has started waits, and is taken up again by its own row (R381, R389). -/
def State.await (s : State) (n : Nat) (c : Cmd) : State := s.setCmd n c.slot { c with phase := .started }

/-- Commands that the holder of the king post carries out (R405, R411, R412). -/
def management (c : Cmd) : Bool :=
  let o := c.opcode
  o == 4 || o == 5 || o == 6 || o == 7 || o == 0x10 || o == 0x11 || (o == 0x15 && c.op != 2) || o == 0x16 || o == 0x17 || o == 0x19

/-- Whether the complex of the king post's holder, which executes the commands, restarts (R406, R409). -/
def State.holderRestarts (s : State) : Bool :=
  match s.holder with
  | none => false
  | some h => (s.aon.joiners.get h).restarting

/-- Start a fetched command, or take up one that waits, or answer why it cannot: no manager, or a context that is not admitted (R381, R386, R406, R409, R412). -/
def State.begin (s : State) (n slot opcode op : Nat) (run : Cmd → State → State) : State :=
  match s.cmd? n slot with
  | none => s
  | some c =>
    if c.opcode != opcode || (decide (0x14 ≤ opcode) && opcode != 0x18 && opcode != 0x1B && c.op != op) || (c.phase != .started && (c.phase != .fetched || !s.mayStart n c)) || s.holderRestarts then s
    else if management c && !s.managed && !s.sill.recovery then s.done n slot stCmdInvalid 4
    else if management c && !s.managing && !s.sill.recovery then s
    else if ctxCommand opcode && opcode != 6 && (!s.admitted c.ctx || (s.ctx c.ctx).clearing) then s.done n slot stNotAdmitted 0
    else run c s

/-- A command meets a page fault: the joiner may resolve it and the command is taken up again; otherwise it ends (R395, R481). -/
def State.cmdFault (s : State) (n : Nat) (c : Cmd) (addr cause : Nat) (write : Bool) : State :=
  if resolvable cause then
    let r := s.postFault c.ctx addr write cause (.command n c.slot) .h0
    r.2.setCmd n c.slot { c with phase := .waitingFault r.1 }
  else s.done n c.slot stPageFault cause

/-- Read a structure a command names through its context's translation, and go on with its bytes (R208, R481). -/
def State.cmdRead (s : State) (n : Nat) (c : Cmd) (addr len : Nat) (k : List Byte → State → State) : State :=
  match s.tryRead c.ctx addr len .module with
  | .ok b => k b (s.countRange c.ctx addr len .h0)
  | .error f => s.cmdFault n c f.1 f.2 false

/-- A parameter of a command entry. -/
def Cmd.par (c : Cmd) (off n : Nat) : Nat := fld c.bytes off n

/-- End a command with CMD_INVALID. -/
def State.invalid (s : State) (n : Nat) (c : Cmd) (detail : Nat) : State := s.done n c.slot stCmdInvalid detail

/-- Two free bytes: a TAG the spec does not give (log entry 13). -/
def State.freeTag (s : State) : Nat × State := (leNat [Config.freeByte s.fresh 0, Config.freeByte s.fresh 1], { s with fresh := s.fresh + 1 })

end Sys2Proof.Machine
end

