-- ==== Sys2Proof/Machine/Pegs.lean ====
section
/-! DEFINITION. Groups and pegs: sign-in, the collectives in ring order, circulation, completion and faults (R327 to R347, R393), and signals (R317, R358). -/

namespace Sys2Proof.Machine

-- Groups (R327 to R329) --------------------------------------------------------------------------------------

def grpAxes (g : List Byte) : Nat := fld g 0 1
def grpStart (g : List Byte) (a : Nat) : Nat := coordAt (BitVec.ofNat 48 (fld g 2 6)) a
def grpLen (g : List Byte) (a : Nat) : Nat := coordAt (BitVec.ofNat 48 (fld g 8 6)) a

/-- Members along an axis: n_a of R328. -/
def grpN (g : List Byte) (a : Nat) : Nat := if bit (grpAxes g) a then grpLen g a + 1 else 1

/-- The group size P (R328). -/
def grpSize (g : List Byte) : Nat := grpN g 0 * grpN g 1 * grpN g 2 * grpN g 3

/-- A context's group record; one never defined is all zero: the chip alone. -/
def State.group (s : State) (ctx n : Nat) : List Byte := tget (s.ctx ctx).groups n (List.replicate 16 0)

/-- The offset of this chip on an axis. -/
def State.grpOff (s : State) (g : List Byte) (a : Nat) : Nat :=
  if bit (grpAxes g) a then (coordAt s.aon.coord a + s.axisLen a - grpStart g a % s.axisLen a) % s.axisLen a else 0

/-- This chip's rank (R328). -/
def State.rank (s : State) (g : List Byte) : Nat :=
  ((s.grpOff g 3 * grpN g 2 + s.grpOff g 2) * grpN g 1 + s.grpOff g 1) * grpN g 0 + s.grpOff g 0

/-- The coordinate of a rank. -/
def State.member (s : State) (g : List Byte) (r : Nat) : BitVec 48 :=
  let offs := [r % grpN g 0, r / grpN g 0 % grpN g 1, r / (grpN g 0 * grpN g 1) % grpN g 2, r / (grpN g 0 * grpN g 1 * grpN g 2)]
  (List.range 4).foldl (fun c a => if bit (grpAxes g) a then coordSet c a ((grpStart g a + offs.getD a 0) % s.axisLen a) else c) s.aon.coord

/-- Whether a group record is refused with GROUP_INVALID (R329). -/
def State.groupBad (s : State) (g : List Byte) : Bool :=
  !s.aon.coordValid || bits (grpAxes g) 7 4 != 0 || !zeroAt g 1 1 || !zeroAt g 14 2
    || (List.range 4).any (fun a =>
        if bit (grpAxes g) a then decide (s.axisLen a ≤ grpStart g a) || decide (s.axisLen a < grpLen g a + 1)
        else grpStart g a != 0 || grpLen g a != 0)
    || decide (65536 < grpSize g)

-- Entries (R331) ------------------------------------------------------------------------------------------------

def pgOp (e : List Byte) : Nat := fld e 0 1
def pgPersist (e : List Byte) : Bool := bit (fld e 1 1) 0
def pgTile (e : List Byte) : Bool := bit (fld e 1 1) 1
def pgReverse (e : List Byte) : Bool := bit (fld e 1 1) 2
def pgAfterStep (e : List Byte) : Bool := bit (fld e 1 1) 3
def pgIrq (e : List Byte) : Bool := bit (fld e 1 1) 4
def pgGroup (e : List Byte) : Nat := fld e 2 1
def pgRed (e : List Byte) : Nat := bits (fld e 3 1) 1 0
def pgCarry (e : List Byte) : Bool := bit (fld e 3 1) 2
def pgFmt (e : List Byte) : Nat := fld e 4 1
def pgDfmt (e : List Byte) : Nat := bits (fld e 5 1) 3 0
def pgSat (e : List Byte) : Bool := bit (fld e 5 1) 4
def pgThresh (e : List Byte) : Nat := fld e 6 2
def pgElems (e : List Byte) : Nat := fld e 8 4 + 1
def pgSeg (e : List Byte) : Nat := fld e 0xC 4 + 1
def pgSends (e : List Byte) : Nat := fld e 0x10 2 + 1
def pgPeer (e : List Byte) : Int := sgn 16 (fld e 0x12 2)
def pgTimeout (e : List Byte) : Nat := fld e 0x14 4
def pgSrc (e : List Byte) : Nat := fld e 0x18 8
def pgDst (e : List Byte) : Nat := fld e 0x20 8
def pgScratch (e : List Byte) : Nat := fld e 0x28 8
def pgLsig (e : List Byte) : Nat := fld e 0x30 4
def pgLsigN (e : List Byte) : Nat := fld e 0x34 2
def pgChain (e : List Byte) : Nat := fld e 0x36 2
def pgRsig (e : List Byte) : Nat := fld e 0x38 4
def pgRsigN (e : List Byte) : Nat := fld e 0x3C 2
def pgTag (e : List Byte) : Nat := fld e 0x3E 2

/-- Formats that a reduction takes (R332). -/
def redFmt (f : Nat) : Bool := f ≤ 4 || f == 8 || f == 10

/-- Whether an address of an entry is bad: one the OP uses must be 32-byte aligned and not zero, another must be zero. -/
def pgAddrBad (v : Nat) (used : Bool) : Bool := refHigh v != 0 || (if used then v == 0 || v % 32 != 0 else v != 0)

/-- Whether PEG_LOAD refuses an entry with DESC_INVALID (R332). -/
def pegBad (e : List Byte) : Bool :=
  let op := pgOp e
  let red := op == 2 || op == 3
  let sends := op == 1 || op == 6
  decide (6 < op) || bits (fld e 1 1) 7 5 != 0 || decide (63 < pgGroup e) || bits (fld e 3 1) 7 3 != 0 || pgRed e == 3
    || decide (10 < pgFmt e) || bits (fld e 5 1) 7 5 != 0 || decide (10 < pgDfmt e) || decide (4095 < fld e 0x10 2)
    || pgThresh e == 0
    || (!red && fld e 3 1 != 0)
    || (op == 0 && (pgGroup e != 0 || fld e 4 2 != 0 || fld e 8 4 != 0)) || (decide (op < 2) && pgTimeout e != 0) || (decide (4 ≤ op) && pgSat e)
    || (op != 6 && fld e 0x10 2 != 0) || (op != 1 && fld e 0x12 2 != 0)
    || (!sends && pgRsig e % 256 != 0xFF && (pgRsig e != 0 || pgRsigN e != 0)) || (!sends && pgRsigN e != 0)
    || (!pgTile e && fld e 0xC 4 != 0)
    || pgAddrBad (pgSrc e) (op != 0) || pgAddrBad (pgDst e) (op != 0) || pgAddrBad (pgScratch e) red
    || (pgLsig e % 256 != 0xFF && pgLsigN e == 0) || (sends && pgRsig e % 256 != 0xFF && pgRsigN e == 0)
    || (op != 0 && pgElems e * fmtBits (pgFmt e) % 256 != 0)
    || (red && (!redFmt (pgFmt e) || !redFmt (pgDfmt e))) || (decide (4 ≤ op) && pgDfmt e != pgFmt e)
    || (pgTile e && (op == 0 || op == 6 || pgThresh e != 1))
    || pgElems e % pgSeg e != 0 && pgTile e
    || (pgAfterStep e && op != 6) || (pgReverse e && decide (op < 2))

/-- Elements of SRC over all blocks. -/
def pgSrcElems (e : List Byte) (p : Nat) : Nat := if pgOp e = 5 then p * pgElems e else pgElems e

/-- Segments of SRC: one unless TILE is set (R342). -/
def pgSegs (e : List Byte) (p : Nat) : Nat := if pgTile e then pgSrcElems e p / pgSeg e else 1

/-- First element and count of a segment. -/
def pgSegRange (e : List Byte) (p k : Nat) : Nat × Nat := if pgTile e then (k * pgSeg e, pgSeg e) else (0, pgSrcElems e p)

/-- Ring neighbours (R336). -/
def pgSucc (e : List Byte) (p r : Nat) : Nat := if pgReverse e then (r + p - 1) % p else (r + 1) % p
def pgPred (e : List Byte) (p r : Nat) : Nat := if pgReverse e then (r + 1) % p else (r + p - 1) % p

/-- The chunk size Q (R337). -/
def pgChunk (e : List Byte) (p : Nat) : Nat := (pgElems e + 32 * p - 1) / (32 * p) * 32

/-- Elements of a chunk: first and count. -/
def pgChunkRange (e : List Byte) (p c : Nat) : Nat × Nat :=
  let lo := min (c * pgChunk e p) (pgElems e)
  (lo, min ((c + 1) * pgChunk e p) (pgElems e) - lo)

/-- The common part of two ranges. -/
def meet (a b : Nat × Nat) : Nat × Nat :=
  let lo := max a.1 b.1
  (lo, min (a.1 + a.2) (b.1 + b.2) - lo)

/-- Bytes from an element on: offset and length. -/
def elemBytes (w : Nat) (r : Nat × Nat) : Nat × Nat := (r.1 * w / 8, ((r.1 + r.2) * w + 7) / 8 - r.1 * w / 8)

-- The peg table -----------------------------------------------------------------------------------------------------

/-- Change the peg of a number, if loaded. -/
def State.peg? (s : State) (ctx k : Nat) : Option Peg := tfind (s.ctx ctx).pegs k

def State.setPeg (s : State) (ctx k : Nat) (p : Peg) : State := s.modCtx ctx fun c => { c with pegs := tset c.pegs k p }

/-- Whether a peg waits for a page fault. -/
def State.pegBlocked (s : State) (ctx k : Nat) : Bool :=
  s.faults.any fun f => f.ctx == ctx && match f.who with
    | .peg n => n == k
    | .status kind _ n => kind == 3 && n == k
    | _ => false

/-- The status record of a peg (R335). -/
def Peg.record (p : Peg) : List Byte :=
  toLE 1 p.state ++ toLE 1 p.code ++ toLE 2 (pgTag p.entry) ++ toLE 4 p.firings ++ toLE 4 p.counter ++ toLE 4 (p.badRank.getD max32)

/-- Write a peg's status record; a write that faults waits for the joiner (R335, R480). The peg engine counts in H0 (R363). -/
def State.putPeg (s : State) (ctx k : Nat) (p : Peg) : State :=
  let t := s.setPeg ctx k p
  match (s.ctx ctx).pegArea with
  | none => t
  | some a =>
    match t.tryWrite ctx (a + 16 * k) p.record false false .h0 .module with
    | .ok u => u
    | .error f => (t.postFault ctx f.1 true f.2 (.status 3 0 k) .h0).2

/-- The timeout of a peg's waits that start now (R341, R347). -/
def State.pegLimit (s : State) (e : List Byte) : Nat := if pgTimeout e = 0 then s.links.pegTimeout else pgTimeout e

/-- The signature of a peg's sign-in (R339). -/
def State.signature (s : State) (ctx k : Nat) (p : Peg) : BitVec 64 :=
  let e := p.entry
  let g := s.group ctx (pgGroup e)
  BitVec.ofNat 64 (crc64 (toLE 1 (pgOp e) ++ toLE 1 (bits (fld e 1 1) 2 1 * 2) ++ toLE 1 (fld e 3 1) ++ toLE 1 (pgFmt e) ++ toLE 1 (fld e 5 1)
    ++ [0] ++ toLE 2 k ++ toLE 4 (pgElems e - 1) ++ toLE 4 (pgSeg e - 1) ++ toLE 2 (pgSends e - 1) ++ toLE 2 p.inst.toNat
    ++ toLE 4 (grpSize g) ++ toLE 1 (grpAxes g) ++ [0] ++ toLE 6 (fld g 8 6) ++ toLE 6 (fld g 2 6) ++ toLE 2 0))

-- Sending (R313, R336) ---------------------------------------------------------------------------------------------------

/-- PTAG of a peg's packets. -/
def Peg.ptag (p : Peg) (k : Nat) : BitVec 32 := BitVec.ofNat 32 (k + 65536 * p.inst.toNat)

/-- The channel of a context's class. -/
def State.dataVc (s : State) (ctx : Nat) : Nat := b2n (s.ctx ctx).be

/-- Send whole 32-byte blocks as WRITE packets of at most 4,096 bytes. -/
def State.sendBlocks (s : State) (ctx : Nat) (dest : BitVec 48) (ptag : BitVec 32) (addr : Nat) (bs : List Byte) : State × Bool :=
  ((chunks 4096 (bs.length / 4096 + 1) bs).zipIdx).foldl (fun r c =>
    let x := r.1.send (s.dataVc ctx) 0 ctx dest (BitVec.ofNat 64 (refAddr (addr + 4096 * c.2))) ptag c.1
    (x.1, r.2 && x.2)) (s, true)

/-- A 32-byte block from the pieces that hold its bytes; where none does, beyond the end of the buffer, its byte is open (log entry 128). -/
def blockBytes (l : List (Nat × List Byte)) (b : Nat) (fill : Nat → Byte) : List Byte :=
  (List.range 32).map fun i => (l.findSome? fun p => if p.1 ≤ 32 * b + i then p.2[32 * b + i - p.1]? else none).getD (fill i)

/-- The pieces that lie in a block of a destination. -/
def inBlock (l : List (BitVec 48 × Nat × List Byte)) (dest : BitVec 48) (b : Nat) : List (Nat × List Byte) :=
  (l.filter fun p => p.1 == dest && p.2.1 / 32 == b).map Prod.snd

/-- Send the block of a destination once every byte of it below the end of the buffer is formed; its bytes are kept until then (R315). -/
def State.sendTail (r : State × Bool) (ctx k : Nat) (dest : BitVec 48) (ptag : BitVec 32) (stop b : Nat) : State × Bool :=
  match tfind (r.1.ctx ctx).pegs k with
  | none => r
  | some p =>
    let l := inBlock p.tails dest b
    if (l.map fun x => x.2.length).sum != min 32 (stop - 32 * b) then r
    else
      let q := r.1.newId
      let t := q.2.modCtx ctx fun c => { c with pegs := tset c.pegs k { p with tails := p.tails.filter fun x => !(x.1 == dest && x.2.1 / 32 == b) } }
      let x := t.sendBlocks ctx dest ptag (32 * b) (blockBytes l b (Config.freeByte q.1))
      (x.1, r.2 && x.2)

/-- Send formed bytes of a peg to a destination as WRITE packets of whole, aligned 32-byte blocks; a block that they fill in part waits for its other bytes (R315). `stop` is the end of the buffer they belong to. -/
def State.sendWrites (s : State) (ctx k : Nat) (dest : BitVec 48) (ptag : BitVec 32) (stop addr : Nat) (bs : List Byte) : State × Bool :=
  let h := min bs.length ((32 - addr % 32) % 32)
  let m := (bs.length - h) / 32 * 32
  let ends := ([(addr, bs.take h), (addr + h + m, bs.drop (h + m))]).filter fun e => !e.2.isEmpty
  let t := s.modCtx ctx fun c => match tfind c.pegs k with
    | some p => { c with pegs := tset c.pegs k { p with tails := p.tails ++ ends.map fun e => (dest, e.1, e.2) } }
    | none => c
  ((ends.map fun e => e.1 / 32).dedup).foldl (fun r b => State.sendTail r ctx k dest ptag stop b) (t.sendBlocks ctx dest ptag (addr + h) ((bs.drop h).take m))

/-- Send RSIG behind a delivery (R331). -/
def State.sendRsig (s : State) (ctx : Nat) (dest : BitVec 48) (ptag : BitVec 32) (e : List Byte) : State :=
  if pgRsig e % 256 = 0xFF then s
  else (s.send (s.dataVc ctx) 1 ctx dest (BitVec.ofNat 64 (pgRsig e)) ptag (toLE 8 (pgRsigN e))).1

/-- Send the RSIGs of the segments all of whose bytes have gone out (R331, R342). -/
def State.sendOwed (s : State) (ctx k : Nat) (dest : BitVec 48) (ptag : BitVec 32) (e : List Byte) : State :=
  match tfind (s.ctx ctx).pegs k with
  | none => s
  | some p =>
    let waits (o : Nat × Nat) : Bool := p.tails.any fun t => decide (t.2.1 < o.1 + o.2) && decide (o.1 < t.2.1 + t.2.2.length)
    let t := s.modCtx ctx fun c => { c with pegs := tset c.pegs k { p with owed := p.owed.filter waits } }
    forAll (p.owed.filter fun o => !waits o) (fun _ x => x.sendRsig ctx dest ptag e) t

/-- Send a control message on VC2 (R336); its encoding is the agent's (log entry 21). -/
def State.sendControl (s : State) (ctx : Nat) (dest : BitVec 48) (ptag : BitVec 32) (kind : Nat) (args : List Nat) : State × Bool :=
  s.send 2 2 ctx dest (Config.controlTarget kind args) ptag (cut (Config.controlPayload kind args) 0 32)

-- Faults (R341) ---------------------------------------------------------------------------------------------------------------

/-- Post a COLL_ event (R341, R398). -/
def State.collEvent (s : State) (ctx k : Nat) (p : Peg) (code : Nat) : State :=
  s.postCtx ctx (code - 1) .h0 (toLE 2 (pgTag p.entry) ++ toLE 2 k ++ toLE 1 (pgGroup p.entry) ++ toLE 8 (s.signature ctx k p).toNat
    ++ toLE 4 (p.badRank.getD max32))

/-- A peg as it stands after a fault. -/
def Peg.faulted (p : Peg) (code : Nat) : Peg := { p with state := 2, code := code, arrivals := [], finishing := false, tails := [], owed := [] }

/-- SCRATCH is undefined after any fault: free values stand in it, wherever the peg may write (R341; log entry 13). -/
def State.spoilScratch (s : State) (ctx : Nat) (p : Peg) : State :=
  let e := p.entry
  if !(pgOp e == 2 || pgOp e == 3) then s
  else
    let q := s.newId
    let n := pgElems e * (if pgCarry e then 4 else 8)
    let a := refAddr (pgScratch e)
    forAll (List.range (ups (a % 65536 + n) 65536)) (fun i t =>
      let lo := if i = 0 then 0 else 65536 * i - a % 65536
      let k := min n (65536 * (i + 1) - a % 65536) - lo
      match t.tryWrite ctx (a + lo) ((List.range k).map fun j => Config.freeByte q.1 (lo + j)) false false .h0 .module with
      | .ok u => u
      | .error _ => t) q.2

/-- The requests of a peg that ends are given up. -/
def State.dropPeg (s : State) (ctx k : Nat) : State :=
  s.dropOwner fun x => match x with
    | .peg c i => c.val == ctx && i.val == k
    | .plane _ _ | .stream _ _ | .fetch _ => false

/-- A collective fault ends a peg: its record is written and its event posted (R341). -/
def State.pegFail (s : State) (ctx k : Nat) (p : Peg) (code : Nat) : State :=
  let q := p.faulted code
  let t := ((((s.dropPeg ctx k).spoilScratch ctx p).putPeg ctx k q)).collEvent ctx k q code
  t.modLinks fun l => if code = stCollMismatch then { l with mismatches := satAdd max16 l.mismatches 1 } else { l with timeouts := satAdd max16 l.timeouts 1 }

/-- An unresolved page fault ends a peg with PAGE_FAULT (R341, R480); a status record that met the fault is not written. -/
def State.pegPageFault (s : State) (ctx k : Nat) (cause addr : Nat) (record : Bool) : State :=
  match s.peg? ctx k with
  | none => s
  | some p =>
    let q := p.faulted stPageFault
    let u := (s.dropPeg ctx k).spoilScratch ctx p
    let t := if record then u.putPeg ctx k q else u.setPeg ctx k q
    t.faultEvent (ctx + 1) ctx .h0 cause 3 (pgTag p.entry) addr 0

/-- A local read or write of a peg faults (R336, R341). -/
def State.pegMeets (s : State) (ctx k : Nat) (f : Nat × Nat) (write : Bool) : State :=
  if resolvable f.2 then (s.postFault ctx f.1 write f.2 (.peg k) .h0).2 else s.pegPageFault ctx k f.2 f.1 true

/-- A running peg that no fault holds. -/
def State.pegLive (s : State) (ctx k : Nat) : Option Peg :=
  match s.peg? ctx k with
  | none => none
  | some p => if p.state == 1 && !p.finishing && !s.pegBlocked ctx k then some p else none

-- Reductions (R337) -----------------------------------------------------------------------------------------------------------------

/-- A carried value: rne48 for SUM with CARRY 0, FP32 with CARRY 1; MAX and MIN are exact (log entry 184). -/
def redCarry (e : List Byte) (v : Num) : Num :=
  if pgRed e != 0 then v else if pgCarry e then decodeElem 0 ((drainFp 0 false v).run 0).1 else ((r48 v).run 0).1

/-- One reduction step. -/
def redOp (e : List Byte) (a b : Num) : Num :=
  match pgRed e with
  | 0 => a.add b
  | 1 => a.max b
  | _ => if a.isNan || b.isNan then .nan else if b.lt a then b else a

/-- Bits of the carry format. -/
def carryFmt (e : List Byte) : Nat := if pgCarry e then 0 else 10

/-- Values in the carry format. -/
def carryBytes (e : List Byte) (vs : List Num) : List Byte := packElems (fmtBits (carryFmt e)) (vs.map fun v => ((drainElem (carryFmt e) false v).run 0).1)

/-- Values from packed bytes of a format. -/
def valuesOf (f n : Nat) (bs : List Byte) : List Num := (List.range n).map fun i => decodeElem f (element bs (fmtBits f) i)

/-- Values converted into DCTL's format (R82, R83, R337). -/
def resultBytes (e : List Byte) (vs : List Num) : List Byte := packElems (fmtBits (pgDfmt e)) (vs.map fun v => ((drainElem (pgDfmt e) (pgSat e) v).run 0).1)

/-- Whether every segment of a range is ready. -/
def Peg.readyFor (p : Peg) (size : Nat) (r : Nat × Nat) : Bool :=
  !pgTile p.entry || (List.range (pgSegs p.entry size)).all fun k => (meet (pgSegRange p.entry size k) r).2 == 0 || p.ready.contains k

/-- A peg's name as one that makes line requests. -/
def pegXfer (ctx k : Nat) : XferId := .peg (Fin.ofNat 8 ctx) (Fin.ofNat 1024 k)

/-- Read own elements of SRC, with the line requests that takes (R336). -/
def State.pegRead (s : State) (ctx k : Nat) (base w : Nat) (r : Nat × Nat) : Except (Nat × Nat) (List Byte × State) :=
  let b := elemBytes w r
  let a := refAddr (refAddr base + b.1)
  match s.tryRead ctx a b.2 .module with
  | .ok bs => .ok (bs, s.issueEngine (pegXfer ctx k) ctx .h0 false a b.2)
  | .error f => .error f

/-- Where a range of DST lies. -/
def dstAt (e : List Byte) (first : Nat) : Nat := refAddr (refAddr (pgDst e) + first * fmtBits (pgDfmt e) / 8)

/-- Write bytes into memory by a network interface, with the line requests that takes; received bytes are a remote write, whose generation counts advance (R182, R336). -/
def State.portWrite (s : State) (ctx k addr : Nat) (bs : List Byte) (remote poison : Bool) (h : Half) : Except (Nat × Nat) State :=
  match s.rangeFault ctx addr bs.length true .module with
  | some f => .error f
  | none =>
    match s.commitAll ctx [(addr, bs)] remote poison with
    | .ok t => .ok (t.issueEngine (pegXfer ctx k) ctx h true addr bs.length)
    | .error f => .error f

/-- Write own elements into DST of this chip (R336). -/
def State.pegWrite (s : State) (ctx k addr : Nat) (bs : List Byte) : Except (Nat × Nat) State := s.portWrite ctx k addr bs false false .h0

/-- The end of DST and of SCRATCH: the last byte that a peg may send ends there (R315). -/
def dstEnd (e : List Byte) (elems : Nat) : Nat := refAddr (pgDst e) + (elems * fmtBits (pgDfmt e) + 7) / 8
def scratchEnd (e : List Byte) : Nat := refAddr (pgScratch e) + pgElems e * fmtBits (carryFmt e) / 8

/-- A sender's packet found no route: the peg ends with COLL_UNREACHABLE (R323, R341). -/
def State.pegSent (r : State × Bool) (ctx k : Nat) : State :=
  if r.2 then r.1 else match r.1.peg? ctx k with
    | some p => r.1.pegFail ctx k p stCollUnreachable
    | none => r.1

/-- The owner forms a result: into DST, and in ALL_REDUCE on to the successor (R337). -/
def State.formResult (s : State) (ctx k : Nat) (p : Peg) (g : List Byte) (r : Nat × Nat) (vs : List Num) : Except (Nat × Nat) State := do
  let e := p.entry
  let n := grpSize g
  let me := s.rank g
  let bs := resultBytes e vs
  let at_ := if pgOp e = 2 then r.1 else r.1 - (pgChunkRange e n me).1
  let t ← s.pegWrite ctx k (dstAt e at_) bs
  let u := t.setPeg ctx k { p with received := p.received ++ [r] }
  pure (if pgOp e = 2 && decide (1 < n) then State.pegSent (u.sendWrites ctx k (s.member g (pgSucc e n me)) (p.ptag k) (dstEnd e (pgElems e)) (dstAt e r.1) bs) ctx k else u)

/-- A partial sum goes to the successor's SCRATCH (R337). -/
def State.sendPartial (s : State) (ctx k : Nat) (p : Peg) (g : List Byte) (r : Nat × Nat) (vs : List Num) : State :=
  let e := p.entry
  let t := s.setPeg ctx k { p with sent := p.sent ++ [r] }
  State.pegSent (t.sendWrites ctx k (s.member g (pgSucc e (grpSize g) (s.rank g))) (p.ptag k) (scratchEnd e)
    (refAddr (refAddr (pgScratch e) + r.1 * fmtBits (carryFmt e) / 8)) (carryBytes e vs)) ctx k

/-- One own segment joins a reduction: it starts the ring of the chunk whose first rank this is (R337, R342). -/
def State.reduceOwn (s : State) (ctx k : Nat) (p : Peg) (g : List Byte) (seg : Nat) : State :=
  let e := p.entry
  let n := grpSize g
  let me := s.rank g
  let r := meet (pgSegRange e n seg) (pgChunkRange e n (if n = 1 then me else pgPred e n me))
  let did := if n = 1 then p.received.contains r else p.sent.contains r
  if r.2 = 0 || did then s
  else
    match s.pegRead ctx k (pgSrc e) (fmtBits (pgFmt e)) r with
    | .error f => s.pegMeets ctx k f false
    | .ok (bs, s) =>
      let vs := (valuesOf (pgFmt e) r.2 bs).map (redCarry e)
      if n = 1 then
        match s.formResult ctx k p g r (valuesOf (pgFmt e) r.2 bs) with
        | .ok t => t
        | .error f => s.pegMeets ctx k f true
      else s.sendPartial ctx k p g r vs

/-- A landed partial sum is combined with the own elements once they are ready (R337). -/
def State.reduceArrival (s : State) (ctx k : Nat) (p : Peg) (g : List Byte) (a : Arrival) : State :=
  let e := p.entry
  let n := grpSize g
  let me := s.rank g
  let r := meet (a.first, a.bytes.length * 8 / fmtBits (carryFmt e)) (0, pgElems e)
  if !p.readyFor n r then s
  else
    match s.pegRead ctx k (pgSrc e) (fmtBits (pgFmt e)) r with
    | .error f => s.pegMeets ctx k f false
    | .ok (bs, s) =>
      let acc := ((valuesOf (carryFmt e) r.2 a.bytes).zip (valuesOf (pgFmt e) r.2 bs)).map fun v => redCarry e (redOp e v.1 v.2)
      let q := { p with arrivals := p.arrivals.erase a }
      if a.first / pgChunk e n = me then
        match s.formResult ctx k q g r acc with
        | .ok t => t
        | .error f => s.pegMeets ctx k f true
      else s.sendPartial ctx k q g r acc

/-- Blocks of a circulation that have arrived whole (R343). -/
def Peg.blocksIn (p : Peg) : Nat := (p.received.map Prod.snd).sum / pgElems p.entry

/-- Buffer b of a circulation. -/
def circBuf (e : List Byte) (b : Nat) : Nat := refAddr (if b % 2 = 0 then pgSrc e else pgDst e)

/-- Where an arrival lands. -/
def landAt (p : Peg) (a : Arrival) : Nat :=
  let e := p.entry
  if !a.final then refAddr (refAddr (pgScratch e) + a.first * fmtBits (carryFmt e) / 8)
  else if pgOp e = 6 then refAddr (circBuf e (p.blocksIn + 1) + a.first * fmtBits (pgFmt e) / 8)
  else dstAt e a.first

/-- An arrival in final bits is done: in a ring it goes on until it has reached every member (R336, R337). -/
def State.finalDone (s : State) (ctx k : Nat) (p : Peg) (g : List Byte) (a : Arrival) : State :=
  let e := p.entry
  let n := grpSize g
  let me := s.rank g
  let all := if pgOp e = 2 then pgElems e else if pgOp e = 6 then pgElems e else n * pgElems e
  let cnt := (meet (a.first, a.bytes.length * 8 / fmtBits (pgDfmt e)) (0, all)).2
  let t := s.setPeg ctx k { p with arrivals := p.arrivals.erase a, received := p.received ++ [(a.first, cnt)] }
  let origin := if pgOp e = 2 then a.first / pgChunk e n else a.first / pgElems e
  if (pgOp e = 2 || pgOp e = 4) && pgSucc e n me != origin then
    State.pegSent (t.sendBlocks ctx (s.member g (pgSucc e n me)) (p.ptag k) (dstAt e a.first) a.bytes) ctx k
  else t

/-- Take a landed arrival: a partial sum joins the own elements, final bits go on (R337). -/
def State.takeArrival (s : State) (ctx k : Nat) (a : Arrival) : State :=
  match s.pegLive ctx k with
  | none => s
  | some p =>
    let g := s.group ctx (pgGroup p.entry)
    if a.final then s.finalDone ctx k p g a else s.reduceArrival ctx k p g a

-- The other operations (R336, R342, R343) --------------------------------------------------------------------------------------------

/-- The bytes a SEND moves: as they stand, or converted where DCTL names another format. -/
def sendBytes (e : List Byte) (n : Nat) (bs : List Byte) : List Byte := if pgFmt e = pgDfmt e then bs else resultBytes e (valuesOf (pgFmt e) n bs)

/-- Move one own segment of SEND, ALL_GATHER or ALL_TO_ALL. -/
def State.moveOwn (s : State) (ctx k : Nat) (p : Peg) (g : List Byte) (seg : Nat) : State :=
  let e := p.entry
  let n := grpSize g
  let me := s.rank g
  let r := pgSegRange e n seg
  if p.sent.contains r then s
  else
    match s.pegRead ctx k (pgSrc e) (fmtBits (pgFmt e)) r with
    | .error f => s.pegMeets ctx k f false
    | .ok (bs, s) =>
      let q := { p with sent := p.sent ++ [r] }
      if pgOp e = 1 then
        let to_ := s.member g (((me : Int) + pgPeer e).emod n).toNat
        let out := sendBytes e r.2 bs
        let x := (s.setPeg ctx k { q with owed := q.owed ++ [(dstAt e r.1, out.length)] }).sendWrites ctx k to_ (p.ptag k) (dstEnd e (pgElems e)) (dstAt e r.1) out
        State.pegSent (x.1.sendOwed ctx k to_ (p.ptag k) e, x.2) ctx k
      else if pgOp e = 4 then
        let first := me * pgElems e + r.1
        match s.pegWrite ctx k (dstAt e first) bs with
        | .error f => s.pegMeets ctx k f true
        | .ok t =>
          let u := t.setPeg ctx k { q with received := q.received ++ [(first, r.2)] }
          if n = 1 then u else State.pegSent (u.sendWrites ctx k (s.member g (pgSucc e n me)) (p.ptag k) (dstEnd e (n * pgElems e)) (dstAt e first) bs) ctx k
      else
        let blocks := if pgTile e then [r] else (List.range n).map fun d => (d * pgElems e, pgElems e)
        let own := blocks.filter fun b => b.1 / pgElems e == me
        let w := fmtBits (pgFmt e)
        let part (b : Nat × Nat) : List Byte := (bs.drop ((b.1 - r.1) * w / 8)).take (elemBytes w b).2
        let dst (b : Nat × Nat) : Nat := me * pgElems e + b.1 % pgElems e
        match own.foldlM (fun t b => t.pegWrite ctx k (dstAt e (dst b)) (part b)) s with
        | .error f => s.pegMeets ctx k f true
        | .ok t =>
          let u := t.setPeg ctx k { q with received := q.received ++ own.map fun b => (dst b, b.2) }
          State.pegSent ((blocks.filter fun b => b.1 / pgElems e != me).foldl (fun x b =>
            let y := x.1.sendWrites ctx k (s.member g (b.1 / pgElems e)) (p.ptag k) (dstEnd e (n * pgElems e)) (dstAt e (dst b)) (part b)
            (y.1, x.2 && y.2)) (u, true)) ctx k

/-- Send the next block of a circulation and the GRANTs now due; n bounds the rounds (R343). -/
def State.circulate (s : State) (ctx k : Nat) : Nat → State
  | 0 => s
  | fuel + 1 =>
    match s.pegLive ctx k with
    | none => s
    | some p =>
      let e := p.entry
      let g := s.group ctx (pgGroup e)
      let n := grpSize g
      let me := s.rank g
      let t := p.sent.length
      if p.granted < p.sent.length && decide (p.granted + 2 ≤ p.triggers) then
        let u := s.setPeg ctx k { p with granted := p.granted + 1 }
        ((u.sendControl ctx (s.member g (pgPred e n me)) (p.ptag k) 3 [ctx, k, p.inst.toNat]).1).circulate ctx k fuel
      else if decide (pgSends e ≤ t) || p.grants == 0 || (t != 0 && decide (p.blocksIn < t)) || (pgAfterStep e && decide (p.triggers < t + 2)) then s
      else
        match s.pegRead ctx k (circBuf e t) (fmtBits (pgFmt e)) (0, pgElems e) with
        | .error f => s.pegMeets ctx k f false
        | .ok (bs, s) =>
          let u := s.setPeg ctx k { p with sent := p.sent ++ [(t * pgElems e, pgElems e)], grants := p.grants - 1 }
          let to_ := s.member g (pgSucc e n me)
          let x := u.sendBlocks ctx to_ (p.ptag k) (circBuf e (t + 1)) bs
          (State.pegSent (x.1.sendRsig ctx to_ (p.ptag k) e, x.2) ctx k).circulate ctx k fuel

/-- Everything a peg's data phase can do now (R337, R342, R343). -/
def State.pegWork (s : State) (ctx k : Nat) : State :=
  match s.pegLive ctx k with
  | none => s
  | some p =>
    let e := p.entry
    let t := forAll p.arrivals (fun a x => x.takeArrival ctx k a) s
    if pgOp e = 6 then t.circulate ctx k (2 * pgSends e + 2)
    else if pgOp e = 0 then t
    else
      forAll p.ready (fun seg x =>
        match x.pegLive ctx k with
        | none => x
        | some q =>
          let g := x.group ctx (pgGroup e)
          if pgOp e = 2 || pgOp e = 3 then x.reduceOwn ctx k q g seg else x.moveOwn ctx k q g seg) t

-- Sign-in (R340) ---------------------------------------------------------------------------------------------------------------------------

/-- GO: the data phase starts (R340 step 3). -/
def State.pegGo (s : State) (ctx k : Nat) (p : Peg) : State :=
  let t := s.setPeg ctx k { p with go := true, since := s.now .h0, limit := s.pegLimit p.entry }
  (t.modLinks fun l => { l with signins := satAdd (2 ^ 64 - 1) l.signins 1 }).pegWork ctx k

/-- Rank 0 holds P signatures: GO to every member, or ABORT with the lowest differing rank (R340 step 2). -/
def State.compareOpens (s : State) (ctx k : Nat) (p : Peg) : State :=
  let g := s.group ctx (pgGroup p.entry)
  let n := grpSize g
  let got := p.opens.filter fun o => o.inst == p.inst
  if got.length < n then s
  else
    let own := s.signature ctx k p
    let bad := ((got.filter fun o => o.signature != own).map OpenRec.rank)
    let others := (List.range n).drop 1
    let q := { p with opens := p.opens.filter fun o => o.inst != p.inst }
    match bad with
    | [] => (forAll others (fun r x => (x.sendControl ctx (s.member g r) (p.ptag k) 1 [ctx, k, p.inst.toNat]).1) (s.setPeg ctx k q)).pegGo ctx k q
    | b :: rest =>
      let low := rest.foldl min b
      (forAll others (fun r x => (x.sendControl ctx (s.member g r) (p.ptag k) 2 [ctx, k, p.inst.toNat, stCollMismatch, low]).1) s).pegFail ctx k
        { q with badRank := some low } stCollMismatch

/-- A peg signs in: rank 0 records its signature, another member sends OPEN (R340 step 1). -/
def State.signIn (s : State) (ctx k : Nat) (p : Peg) : State :=
  let g := s.group ctx (pgGroup p.entry)
  let q := { p with signed := true, inst := p.inst + 1, since := s.now .h0, limit := s.pegLimit p.entry }
  let sig := s.signature ctx k q
  let me := s.rank g
  if me = 0 then
    let r := { q with opens := q.opens.filter (fun o => o.inst == q.inst && o.rank != 0) ++ [⟨0, q.inst, sig⟩] }
    (s.setPeg ctx k r).compareOpens ctx k r
  else State.pegSent ((s.setPeg ctx k q).sendControl ctx (s.member g 0) (q.ptag k) 0 [ctx, k, q.inst.toNat, me, sig.toNat]) ctx k

/-- Carry a running peg on: sign in, then its data phase. -/
def State.pegPump (s : State) (ctx k : Nat) : State :=
  match s.pegLive ctx k with
  | none => s
  | some p =>
    if decide (2 ≤ pgOp p.entry) && !p.signed then s.signIn ctx k p
    else if decide (2 ≤ pgOp p.entry) && !p.go then s
    else s.pegWork ctx k

/-- An ARMED peg whose counter has reached THRESH runs; a circulation counts its further triggers, up to S + 1 of a sequence (R334, R343). -/
def State.pegCheck (s : State) (ctx k : Nat) : State :=
  match s.peg? ctx k with
  | none => s
  | some p =>
    let e := p.entry
    if s.pegBlocked ctx k || p.finishing || p.counter < pgThresh e then s
    else if p.state = 0 then
      let all := if pgTile e then p.ready else [0]
      let n := if pgOp e = 6 then min (p.counter / pgThresh e) (pgSends e + 1) else 1
      (s.putPeg ctx k { p with
        state := 1, counter := p.counter - n * pgThresh e, ready := all, sent := [], received := [], arrivals := [], go := false, signed := false
        since := s.now .h0, limit := s.pegLimit e, badRank := none, triggers := n, grants := 1, granted := 0, tails := [], owed := [] }).pegPump ctx k
    else if p.state = 1 && pgOp e = 6 && decide (p.triggers ≤ pgSends e) then
      let n := min (p.counter / pgThresh e) (pgSends e + 1 - p.triggers)
      (s.putPeg ctx k { p with triggers := p.triggers + n, counter := p.counter - n * pgThresh e }).pegPump ctx k
    else s

/-- Raise a peg's counter; a raise that names no loaded peg is counted (R333). -/
def State.raisePeg (s : State) (ctx k n : Nat) : State :=
  match s.peg? ctx k with
  | none => s.modLinks fun l => { l with pegStray := satAdd max32 l.pegStray 1 }
  | some p => (s.setPeg ctx k { p with counter := min max32 (p.counter + n) }).pegCheck ctx k

/-- PEG_TILE of a tile: the segment of its iteration and row is ready, and the counter is raised (R151, R342). -/
def State.raiseTile (s : State) (ctx k seg : Nat) : State :=
  let t := match s.peg? ctx k with
    | some p => if pgTile p.entry && !p.ready.contains seg then s.setPeg ctx k { p with ready := p.ready ++ [seg] } else s
    | none => s
  (t.raisePeg ctx k 1).pegPump ctx k

/-- A task that names a peg in PEG_TILE has completed: every segment is ready (R342). -/
def State.tilesOver (s : State) (ctx k : Nat) : State :=
  match s.peg? ctx k with
  | none => s
  | some p =>
    if !pgTile p.entry then s
    else
      let all := List.range (pgSegs p.entry (grpSize (s.group ctx (pgGroup p.entry))))
      (s.setPeg ctx k { p with ready := p.ready ++ all.filter fun i => !p.ready.contains i }).pegPump ctx k

-- Signals (R315, R317, R358) ------------------------------------------------------------------------------------------------------------------

/-- A SIGNAL's target: a task semaphore, a pair, a peg; anything else is a stray (R358). -/
def State.signal (s : State) (ctx target n : Nat) : State :=
  let kind := bits target 7 0
  let bay := bits target 15 8
  let idx := bits target 31 16
  if kind = 3 then s.raisePeg ctx idx n
  else if decide (63 < bay) || !s.inMask ctx bay then s.strayCount ctx
  else if kind = 0 && decide (idx ≤ 63) then s.semAdd ctx bay idx n
  else if kind = 1 && decide (idx ≤ 31) then s.pairAdd ctx bay idx true n
  else if kind = 2 && decide (idx ≤ 31) then s.pairAdd ctx bay idx false n
  else s.strayCount ctx

-- Completion (R334, R335) -----------------------------------------------------------------------------------------------------------------------

/-- Whether every element of a peg is done. -/
def State.pegDone (s : State) (ctx : Nat) (p : Peg) : Bool :=
  let e := p.entry
  let g := s.group ctx (pgGroup e)
  let n := grpSize g
  let got := (p.received.map Prod.snd).sum
  let out := (p.sent.map Prod.snd).sum
  let own := (pgChunkRange e n (s.rank g)).2
  p.tails.isEmpty && p.owed.isEmpty && match pgOp e with
  | 0 => true
  | 1 => decide (pgElems e ≤ out)
  | 2 => p.go && decide (pgElems e ≤ got)
  | 3 => p.go && decide (own ≤ got) && (n == 1 || decide (pgElems e - own ≤ out))
  | 4 => p.go && decide (n * pgElems e ≤ got)
  | 5 => p.go && decide (n * pgElems e ≤ got) && decide (n * pgElems e ≤ out)
  | _ => p.go && decide (pgSends e ≤ p.sent.length) && decide (pgSends e ≤ p.blocksIn) && decide (pgSends e < p.triggers)

/-- After the record: LSIG, CHAIN, event, and a further trigger (R334). -/
def State.pegFinish (s : State) (ctx k : Nat) : State :=
  match s.peg? ctx k with
  | none => s
  | some p =>
    if !p.finishing || s.pegBlocked ctx k then s
    else
      let e := p.entry
      let t := s.setPeg ctx k { p with finishing := false }
      let u := if pgLsig e % 256 = 0xFF then t else t.signal ctx (pgLsig e) (pgLsigN e)
      let v := if pgChain e = 0xFFFF then u else u.raisePeg ctx (pgChain e) 1
      let w := if pgIrq e then v.postCtx ctx 2 .h0 (toLE 2 (pgTag e) ++ toLE 2 k ++ toLE 4 p.firings) else v
      w.pegCheck ctx k

/-- Every element of a peg is done (R334). -/
def State.pegComplete (s : State) (ctx k : Nat) : State :=
  match s.pegLive ctx k with
  | none => s
  | some p =>
    if !s.pegDone ctx p then s
    else
      (s.putPeg ctx k { p with
        state := if pgPersist p.entry then 0 else 3, firings := (p.firings + 1) % 2 ^ 32, ready := [], go := false, finishing := true }).pegFinish ctx k

def execPegComplete (ctx : Fin 8) (peg : Fin 1024) (s : State) : Result := .next (s.pegComplete ctx peg)

/-- A peg's fault is resolved: a record still to be written is written, and the peg goes on (R480). -/
def State.pegResume (s : State) (ctx k : Nat) (record : Bool) : State :=
  match s.peg? ctx k with
  | none => s
  | some p =>
    let t := if record then s.putPeg ctx k p else s
    ((t.pegFinish ctx k).pegPump ctx k).pegCheck ctx k

-- What arrives (R340, R341, R343) -----------------------------------------------------------------------------------------------------------------

/-- An arrival at the deadline tick is a near-miss of the context (R365). -/
def State.pegNear (s : State) (ctx : Nat) (p : Peg) : State := if s.now .h0 = p.since + p.limit then s.nearMiss ctx else s

/-- Rank 0 receives an OPEN: recorded, held for its own trigger, or answered with ABORT (R340). -/
def State.openIn (s : State) (ctx k : Nat) (inst : BitVec 16) (rank : Nat) (sig : BitVec 64) : State :=
  match s.peg? ctx k with
  | none => s
  | some p =>
    let g := s.group ctx (pgGroup p.entry)
    if s.rank g != 0 || decide (grpSize g ≤ rank) || rank == 0 || decide (pgOp p.entry < 2) then s
    else
      let now_ := p.state == 1 && p.signed && !p.go && inst == p.inst
      let next_ := (p.state == 0 || p.state == 1) && inst == p.inst + 1
      if now_ && expired (s.now .h0) p.since p.limit then s
      else if now_ || next_ then
        let q := { p with opens := p.opens.filter (fun o => !(o.rank == rank && o.inst == inst)) ++ [⟨rank, inst, sig⟩] }
        let t := s.setPeg ctx k q
        if now_ then (t.pegNear ctx p).compareOpens ctx k q else t
      else (s.sendControl ctx (s.member g rank) (BitVec.ofNat 32 (k + 65536 * inst.toNat)) 2 [ctx, k, inst.toNat, stCollTimeout, max32]).1

def execPegOpenReceived (ctx : Fin 8) (peg : Fin 1024) (inst : BitVec 16) (rank : Nat) (signature : BitVec 64) (s : State) : Result :=
  .next (s.openIn ctx peg inst rank signature)

/-- Whether a member waits for GO or ABORT of an instance. -/
def Peg.awaitsGo (p : Peg) (inst : BitVec 16) (now : Nat) : Bool := p.state == 1 && p.signed && !p.go && inst == p.inst && !expired now p.since p.limit

def execPegGoReceived (ctx : Fin 8) (peg : Fin 1024) (inst : BitVec 16) (s : State) : Result :=
  .next (match s.peg? ctx peg with
    | none => s
    | some p => if p.awaitsGo inst (s.now .h0) then (s.pegNear ctx p).pegGo ctx peg p else s)

def execPegAbortReceived (ctx : Fin 8) (peg : Fin 1024) (inst : BitVec 16) (code badRank : Nat) (s : State) : Result :=
  .next (match s.peg? ctx peg with
    | none => s
    | some p =>
      if p.awaitsGo inst (s.now .h0) then
        (s.pegNear ctx p).pegFail ctx peg { p with badRank := if code = stCollMismatch then some badRank else none }
          (if code = stCollMismatch then stCollMismatch else stCollTimeout)
      else s)

/-- A GRANT of the sequence that runs: one more send may start. In the data phase it is a packet that ends a wait, unless that wait has passed its deadline (R341, R343, R365). -/
def State.grantIn (s : State) (ctx k : Nat) (inst : BitVec 16) : State :=
  match s.peg? ctx k with
  | none => s
  | some p =>
    if p.state != 1 || pgOp p.entry != 6 || !p.signed || inst != p.inst then s
    else
      let q := { p with grants := p.grants + 1 }
      if !p.go || expired (s.now .h0) p.since p.limit then s.setPeg ctx k q
      else (((s.pegNear ctx p).setPeg ctx k { q with since := s.now .h0, limit := s.pegLimit p.entry }).pegPump ctx k)

def execPegGrantReceived (ctx : Fin 8) (peg : PegInstance) (s : State) : Result := .next (s.grantIn ctx peg.index peg.inst)

/-- What a WRITE into a peg's buffers is to its collective: a partial sum in SCRATCH, or final bits, with its first element (R336, R337, R343). -/
def arrivalOf (p : Peg) (addr : Nat) (bs : List Byte) : Arrival :=
  let e := p.entry
  let at_ (base f : Nat) : Nat := (addr - refAddr base) * 8 / fmtBits f
  if (pgOp e == 2 || pgOp e == 3) && decide (refAddr (pgScratch e) ≤ addr) && decide (addr < scratchEnd e) then ⟨false, at_ (pgScratch e) (carryFmt e), bs⟩
  else if pgOp e = 6 then ⟨true, at_ (circBuf e (p.blocksIn + 1)) (pgFmt e), bs⟩
  else ⟨true, at_ (pgDst e) (pgDfmt e), bs⟩

/-- A WRITE of a running collective has landed: it waits for GO, or for the own element, or goes on in ring order; one after the deadline has no more effect on the peg (R337, R340, R341, R365). -/
def State.pegLanded (s : State) (ctx : Nat) (ptag : BitVec 32) (addr : Nat) (bs : List Byte) : State :=
  let k := ptag.toNat % 65536
  match s.peg? ctx k with
  | none => s
  | some p =>
    if p.state != 1 || !p.signed || p.inst.toNat != ptag.toNat / 65536 then s
    else
      let q := { p with arrivals := p.arrivals ++ [arrivalOf p addr bs] }
      if !p.go then s.setPeg ctx k q
      else if expired (s.now .h0) p.since p.limit then s
      else ((s.pegNear ctx p).setPeg ctx k { q with since := s.now .h0, limit := s.pegLimit p.entry }).pegPump ctx k

/-- Whether a running peg still waits for a packet (R341). -/
def State.pegAwaits (s : State) (ctx : Nat) (p : Peg) : Bool :=
  let e := p.entry
  let g := s.group ctx (pgGroup e)
  let n := grpSize g
  let got := (p.received.map Prod.snd).sum
  p.signed && (!p.go || match pgOp e with
    | 2 => decide (got < pgElems e)
    | 3 => decide (got < (pgChunkRange e n (s.rank g)).2) || decide ((p.sent.map Prod.snd).sum < pgElems e - (pgChunkRange e n (s.rank g)).2)
    | 6 => decide (p.blocksIn < pgSends e) || (p.grants == 0 && decide (p.sent.length < pgSends e))
    | _ => decide (got < n * pgElems e))

/-- A peg's wait has lasted TIMEOUT ticks; rank 0 aborts the members whose OPEN it holds (R341). -/
def State.pegLate (s : State) (ctx k : Nat) : State :=
  match s.peg? ctx k with
  | none => s
  | some p =>
    if p.state != 1 || !s.pegAwaits ctx p || !expired (s.now .h0) p.since p.limit then s
    else
      let g := s.group ctx (pgGroup p.entry)
      let held := if !p.go && s.rank g == 0 then p.opens.filter fun o => o.inst == p.inst && o.rank != 0 else []
      (forAll held (fun o x => (x.sendControl ctx (s.member g o.rank) (p.ptag k) 2 [ctx, k, p.inst.toNat, stCollTimeout, max32]).1) s).pegFail ctx k
        { p with opens := [] } stCollTimeout

def execPegTimeoutExpiry (ctx : Fin 8) (peg : Fin 1024) (s : State) : Result := .next (s.pegLate ctx peg)

-- Remote commits (R316 to R318) ----------------------------------------------------------------------------------------------------------------------

/-- Take a packet off a port's commit queue and give its credits back. -/
def State.committed (s : State) (n : Nat) (p : Packet) : State :=
  (s.modPort n fun q => { q with commit := tset q.commit p.vc ((tget q.commit p.vc []).erase p) }).freeCredits p

/-- Whether packets of a context on a port and channel are discarded (R318). -/
def State.isDead (s : State) (ctx n vc : Nat) : Bool := (s.ctx ctx).dead.contains (4 * n + vc)

/-- Discard a packet: every later packet of its context on the port and channel goes too, and PAGE_FAULT is posted with cause REMOTE (R318). -/
def State.discardRemote (s : State) (n : Nat) (p : Packet) (addr : Nat) : State :=
  let t := (s.committed n p).discard 1
  if t.isDead p.dctx n p.vc then t
  else
    let u := t.modCtx p.dctx fun c => { c with dead := c.dead ++ [4 * n + p.vc] }
    let g := u.freeTag
    g.2.faultEvent (p.dctx + 1) p.dctx (portHalf (n % 8)) pfRemote 4 g.1 addr p.src

/-- Whether every packet for a context must be discarded here: not admitted, or discarding since an earlier loss (R318). -/
def State.refusesRemote (s : State) (n : Nat) (p : Packet) : Bool := !s.admitted p.dctx || s.isDead p.dctx n p.vc

/-- The next WRITE of a channel: the first packet of its sub-class that waits, its sub-class not held. -/
def State.nextWrite (s : State) (n vc : Nat) : Option Packet :=
  let l := tget (s.port n).commit vc []
  ((l.zipIdx).find? fun x => x.1.kind == 0 && !s.clsHeld n x.1.cls && (l.take x.2).all fun y => y.cls != x.1.cls).map Prod.fst

/-- Whether a received packet for a range of memory crosses the bridge while it retrains (R26, R451). -/
def State.bridgeHolds (s : State) (h : Half) (ctx a n : Nat) : Bool := s.links.bridgeRetrain.isSome && s.pages.any fun p => p.meets ctx a n && p.half != h

/-- A received WRITE is translated and committed, held, or discarded; a collective's data goes on to its peg (R317, R318, R336, R337). -/
def State.remoteWrite (s : State) (n vc : Nat) : State :=
  match s.nextWrite n vc with
  | none => s
  | some p =>
    let a := refAddr p.target.toNat
    let h := portHalf (n % 8)
    if s.refusesRemote n p then s.discardRemote n p a
    else if s.writesHeld p.dctx a p.payload.length || s.bridgeHolds h p.dctx a p.payload.length then s
    else
      match s.portWrite p.dctx (p.ptag.toNat % 1024) a p.payload true p.poison h with
      | .ok t => (t.committed n p).pegLanded p.dctx p.ptag a p.payload
      | .error f =>
        if f.2 = pfRight then s.discardRemote n p f.1
        else (s.postFault p.dctx f.1 true f.2 (.remote n p.cls) h).2

def execRemoteWriteCommit (port : Fin 9) (vc : Fin 4) (s : State) : Result := .next (s.remoteWrite port vc)

/-- A received SIGNAL commits behind every earlier packet of its port and channel (R317). -/
def State.remoteSignal (s : State) (n vc : Nat) : State :=
  match tget (s.port n).commit vc [] with
  | [] => s
  | p :: _ =>
    let bay := bits p.target.toNat 15 8
    if p.kind != 1 || s.behindHold p || (s.links.bridgeRetrain.isSome && decide (bits p.target.toNat 7 0 < 3) && bayHalf bay != portHalf (n % 8)) then s
    else if s.refusesRemote n p then s.discardRemote n p 0
    else (s.committed n p).signal p.dctx (bits p.target.toNat 31 0) (fld p.payload 0 4)

def execRemoteSignalCommit (port : Fin 9) (vc : Fin 4) (s : State) : Result := .next (s.remoteSignal port vc)

/-- A collective data packet is received at a port as the WRITE it is, and lands unless R318 holds or discards it; landed, it goes on in ring order (R318, R336, R337, R343). -/
def State.dataIn (s : State) (ctx k : Nat) (inst : BitVec 16) (port : Nat) (kind : PegPacket) (first : Nat) (bs : List Byte) : State :=
  match s.peg? ctx k with
  | none => s
  | some p =>
    if !s.aon.coordValid then s
    else
      let vc := s.dataVc ctx
      let w : Packet := { vc := vc, sub := 0, dir := 0, kind := 0, dctx := ctx, poison := false, dest := s.aon.coord
                          src := s.member (s.group ctx (pgGroup p.entry)) (pgPred p.entry (grpSize (s.group ctx (pgGroup p.entry))) (s.rank (s.group ctx (pgGroup p.entry))))
                          target := BitVec.ofNat 64 (landAt p ⟨kind == .final, first, bs⟩), ptag := BitVec.ofNat 32 (k + 65536 * inst.toNat), payload := bs }
      let t := s.deliverHere port w
      if t.nextWrite port vc = some w then t.remoteWrite port vc else t

def execPegDataReceived (ctx : Fin 8) (peg : PegInstance) (arrival : PegArrival) (first : Nat) (bytes : List Byte) (s : State) : Result :=
  .next (s.dataIn ctx peg.index peg.inst arrival.port arrival.kind first bytes)

/-- Packets of this chip that another one has found unreachable are reported to their pegs (R323, R341). -/
def State.takeReports (s : State) : State :=
  forAll s.links.unreachable (fun r t =>
    match t.pegLive r.1 (r.2.toNat % 65536) with
    | some p => if p.inst.toNat = r.2.toNat / 65536 then t.pegFail r.1 (r.2.toNat % 65536) p stCollUnreachable else t
    | none => t) (s.modLinks fun l => { l with unreachable := [] })

def execFrameReceive (port : Fin 8) (bytes : List Byte) (fec : List LaneFec) (s : State) : Result := .next ((s.frameIn port bytes fec).takeReports)

-- Commands (R329, R332, R393) --------------------------------------------------------------------------------------------------------------------------

/-- GROUP_DEFINE (R329). -/
def State.groupDefine (s : State) (n : Nat) (c : Cmd) : State :=
  let k := c.par 8 1
  let g := cut c.bytes 0x10 16
  if 63 < k then s.invalid n c 3
  else if s.groupBad g then s.done n c.slot stGroupInvalid 0
  else if (List.range (grpSize g)).any fun r => !s.reachable (s.member g r) then s.done n c.slot stGroupUnreachable 0
  else if (s.ctx c.ctx).pegs.any fun e => pgOp e.2.entry != 0 && pgGroup e.2.entry == k then s.done n c.slot stGroupBusy 0
  else (s.modCtx c.ctx fun x => { x with groups := tset x.groups k g }).done n c.slot stOk 0

def execGroupDefine (fn : Fin 9) (slot : Fin 4096) (s : State) : Result := .next (s.begin fn slot 0x18 0 fun c t => t.groupDefine fn c)

/-- A freshly loaded peg: ARMED, counter 0 (R332, R335). -/
def freshPeg (e : List Byte) : Peg :=
  { entry := e, state := 0, code := 0, counter := 0, firings := 0, badRank := none, inst := 0, opens := [], go := false, since := 0, ready := []
    sent := [], received := [], arrivals := [], triggers := 0, grants := 0, granted := 0, signed := false, limit := 0, finishing := false }

/-- Whether a peg of a number is RUNNING. -/
def State.pegRuns (s : State) (ctx k : Nat) : Bool :=
  match s.peg? ctx k with
  | some p => p.state == 1
  | none => false

/-- PEG_LOAD LOAD: all entries or none (R332, R393). -/
def State.pegLoad (s : State) (n : Nat) (c : Cmd) : State :=
  let first := c.par 0xA 2
  let cnt := c.par 0xC 2 + 1
  let area := c.par 0x18 8
  let addr := c.par 0x10 8
  if addr % 64 != 0 || refHigh addr != 0 then s.invalid n c 3
  else if 1024 < first + cnt then s.done n c.slot stDescInvalid 0
  else if (match (s.ctx c.ctx).pegArea with
    | none => area == 0 || area % 16 != 0 || refHigh area != 0
    | some a => area != 0 && area != a) then s.done n c.slot stDescInvalid 0
  else s.cmdRead n c addr (64 * cnt) fun bs s =>
    let es := (List.range cnt).map fun i => cut bs (64 * i) 64
    if es.any pegBad then s.done n c.slot stDescInvalid 0
    else if (List.range cnt).any fun i => s.pegRuns c.ctx (first + i) then s.done n c.slot stPegBusy 0
    else
      let t := s.modCtx c.ctx fun x => { x with pegArea := some (x.pegArea.getD area) }
      (forAll (es.zipIdx) (fun e x => x.putPeg c.ctx (first + e.2) (freshPeg e.1)) t).done n c.slot stOk 0

def execPegLoad (fn : Fin 9) (slot : Fin 4096) (s : State) : Result := .next (s.begin fn slot 0x19 0 fun c t => t.pegLoad fn c)

/-- PEG_LOAD REARM: SRC_REF and DST_REF of an ARMED peg (R343, R393). -/
def State.pegRearm (s : State) (n : Nat) (c : Cmd) : State :=
  let k := c.par 0xA 2
  match s.peg? c.ctx k with
  | none => s.done n c.slot stPegBusy 0
  | some p =>
    let e := p.entry.take 0x18 ++ cut c.bytes 0x20 16 ++ p.entry.drop 0x28
    if p.state != 0 || p.finishing || c.par 0xC 2 != 0 then s.done n c.slot stPegBusy 0
    else if pegBad e then s.done n c.slot stDescInvalid 0
    else ((s.putPeg c.ctx k { p with entry := e }).done n c.slot stOk 0)

def execPegLoadRearm (fn : Fin 9) (slot : Fin 4096) (s : State) : Result := .next (s.begin fn slot 0x19 1 fun c t => t.pegRearm fn c)

/-- PEG_LOAD UNLOAD (R393). -/
def State.pegUnload (s : State) (n : Nat) (c : Cmd) : State :=
  let first := c.par 0xA 2
  let cnt := c.par 0xC 2 + 1
  if 1024 < first + cnt then s.done n c.slot stDescInvalid 0
  else if (List.range cnt).any fun i => s.pegRuns c.ctx (first + i) then s.done n c.slot stPegBusy 0
  else
    let t := s.modCtx c.ctx fun x => { x with pegs := x.pegs.filter fun e => decide (e.1 < first) || decide (first + cnt ≤ e.1) }
    ({ t with faults := t.faults.filter fun f => !(f.ctx == c.ctx && match f.who with
        | .peg k => decide (first ≤ k) && decide (k < first + cnt)
        | .status kind _ k => kind == 3 && decide (first ≤ k) && decide (k < first + cnt)
        | _ => false) }).done n c.slot stOk 0

def execPegLoadUnload (fn : Fin 9) (slot : Fin 4096) (s : State) : Result := .next (s.begin fn slot 0x19 2 fun c t => t.pegUnload fn c)

end Sys2Proof.Machine
end

