-- ==== Sys2Proof/Machine/TaskCheck.lean ====
section
/-! DEFINITION. Task descriptors: geometry, tile order, addresses of operands, and the checks that refuse a task (R125, R129 to R148, R198, R233 to R236, R255, R267). -/

namespace Sys2Proof.Machine

-- Geometry (R135, R140, R142) -----------------------------------------------------------------------------

/-- n rounded up to a multiple of t. -/
def padTo (n t : Nat) : Nat := (n + t - 1) / t * t

def tkMPad (d : List Byte) : Nat := padTo (tkM d) (tkTM d)
def tkNPad (d : List Byte) : Nat := padTo (tkN d) (tkTN d)
def tkKPad (d : List Byte) : Nat := padTo (tkK d) 32
def tkGM (d : List Byte) : Nat := tkMPad d / tkTM d
def tkGN (d : List Byte) : Nat := tkNPad d / tkTN d

/-- Whether a task is in diagonal mode. -/
def tkDiag (d : List Byte) : Bool := tkOpcode d == opDiag

/-- Least k with 2^k ≥ n. -/
def log2Up (n : Nat) : Nat := if n ≤ 1 then 0 else Nat.log2 (n - 1) + 1

/-- One round of the curve of R141: position, remaining d, side. -/
def hilbertStep (p : Nat × Nat) (t s : Nat) : Nat × Nat :=
  let rx := t / 2 % 2
  let ry := (t + rx) % 2
  let q := if ry = 0 then (if rx = 1 then (s - 1 - p.2, s - 1 - p.1) else (p.2, p.1)) else p
  (q.1 + s * rx, q.2 + s * ry)

/-- Position d of the Hilbert curve (R141); k rounds are left. -/
def hilbert : Nat → Nat → Nat → Nat × Nat → Nat × Nat
  | 0, _, _, p => p
  | k + 1, t, s, p => hilbert k (t / 4) (2 * s) (hilbertStep p t s)

/-- The tile positions of one outer iteration in issue order, positions outside the grid passed over (R141). -/
def tileOrder (gn gm : Nat) : List (Nat × Nat) :=
  let k := log2Up (max gn gm)
  ((List.range (4 ^ k)).map fun d => hilbert k d 1 (0, 0)).filter fun p => decide (p.1 < gn) && decide (p.2 < gm)

/-- The three loop indices of a flattened iteration, innermost first (R142). -/
def iterIdx (h : List Byte) (j : Nat) : Nat × Nat × Nat := (j % tkL0 h, j / tkL0 h % tkL1 h, j / (tkL0 h * tkL1 h))

/-- Row r of a stored operand in iteration j (R135); h holds the loop counts. An address outside the 57-bit range is taken modulo 2^57, as R162 takes a stream's and R135 does not say (log entry 174). -/
def rowAddr (h : List Byte) (j base pitch : Nat) (st : Nat → Int) (r : Nat) : Nat :=
  let i := iterIdx h j
  ((base + r * pitch : Nat) + 64 * ((i.1 : Int) * st 0 + i.2.1 * st 1 + i.2.2 * st 2)).emod (2 ^ 57 : Nat) |>.toNat

/-- Bytes of n packed elements of b bits. -/
def packBytes (n b : Nat) : Nat := (n * b + 7) / 8

/-- Stored row bytes of n elements with their scales (R135). -/
def rowBytesOf (n f : Nat) (mx : Bool) : Nat := packBytes n (fmtBits f) + (if mx then (n + 31) / 32 else 0)

def tkAFmt (d : List Byte) : Nat := ncwFmt (tkSerNcw d)
def tkBFmt (d : List Byte) : Nat := ncwFmt (tkStaNcw d)
def tkAMx (d : List Byte) : Bool := ncwMx (tkSerNcw d)
def tkBMx (d : List Byte) : Bool := ncwMx (tkStaNcw d)
def tkDFmt (d : List Byte) : Nat := dcwFmt (tkDcw d)

/-- Elements of a stored row of A and of B (R135, R136). -/
def tkAElems (d : List Byte) : Nat := if tkDiag d then tkNPad d else if tkAT d then tkMPad d else tkKPad d
def tkBElems (d : List Byte) : Nat := if tkDiag d then tkNPad d else if tkBT d then tkKPad d else tkNPad d

def tkARow (d : List Byte) : Nat := rowBytesOf (tkAElems d) (tkAFmt d) (tkAMx d)
def tkBRow (d : List Byte) : Nat := rowBytesOf (tkBElems d) (tkBFmt d) (tkBMx d)
def tkDRow (d : List Byte) : Nat := rowBytesOf (tkNPad d) (tkDFmt d) (dcwMx (tkDcw d))

-- The attention word (R233) -----------------------------------------------------------------------------------

def attWord (d : List Byte) : Nat := fld d 0x2A 6
def attMask (d : List Byte) : Nat := bits (attWord d) 47 46
def attMode (d : List Byte) : Nat := bits (attWord d) 45 44
def attLedger (d : List Byte) : Bool := bit (attWord d) 43
def attOffset (d : List Byte) : Int := sgn 22 (bits (attWord d) 41 20)
def attWindow (d : List Byte) : Nat := bits (attWord d) 19 0

/-- Modes of R233. -/
def attFwd : Nat := 0
def attBwdQ : Nat := 1
def attBwdKv : Nat := 2

/-- Whether a task appends to ledgers (R255), or walks them (R258). -/
def tkAppends (d : List Byte) : Bool := tkOpcode d == opMatmul && attLedger d
def tkWalks (d : List Byte) : Bool := tkOpcode d == opAttnA && attLedger d

-- Checks of the descriptor (R134, R131, R233) -----------------------------------------------------------------------

/-- WAIT and POST fields (R134). -/
def semFieldBad (sem n : Nat) : Bool := (decide (64 ≤ sem) && sem != 0xFF) || (sem != 0xFF && n == 0)

/-- The fields that a NOP and every first slot share. -/
def headBad (d : List Byte) : Bool :=
  bit (tkFlags d) 7 || bits (tkSpot d) 7 4 != 0 || fld d 0x1F 1 != 0
    || semFieldBad (tkWaitSem d) (tkWaitN d) || semFieldBad (tkPostSem d) (tkPostN d)

/-- Which references R234 and R258 require to be zero: A, B, D. -/
structure ZeroRefs where
  a : Bool := false
  b : Bool := false
  d : Bool := false
  deriving DecidableEq, Repr

/-- An operand's reference, pitch and strides (R132, R134). -/
def operandBad (ref pitch : Nat) (st : Nat → Int) (rowB : Nat) (queueOk freePitch mustZero : Bool) : Bool :=
  let still := pitch == 0 && (List.range 3).all fun l => st l == 0
  if mustZero then ref != 0 || !still
  else if ref = 0 then true
  else if refQueue ref != 0 then !queueOk || refAddr ref != 0 || !still
  else refAddr ref % 64 != 0 || (!(freePitch && pitch == 0) && (pitch % 64 != 0 || decide (pitch < rowB)))

/-- One slot of a MATMUL, DIAG, DUAL or attention task (R63, R111, R134, R267). -/
def slotBad (d : List Byte) (iters : Nat) (z : ZeroRefs) (append : Bool) (dRow : Nat) : Bool :=
  let pre := tkPreEn d
  bit (tkFlags d) 7 || fld d 0x1F 1 != 0
    || ncwBad (tkSerNcw d) || ncwBad (tkStaNcw d) || dcwBad (tkDcw d) || epBad (tkEpi d)
    || (if pre then preBad (tkPreNcw d) else tkPreNcw d != 0)
    || tkShapeMode d == 3 || (tkShapeMode d == 2 && decide (4096 < iters))
    || (tkDiag d && (fld d 0x14 2 != 0 || tkAT d || tkBT d))
    || (tkAMx d && tkAT d) || (tkBMx d && !tkBT d)
    || (dcwMx (tkDcw d) && tkTN d % 32 != 0 && decide (1 < tkGN d))
    || (!tkDiag d && refQueue (tkARef d) == 0 && !z.a && tkAT d && tkMPad d % 32 != 0)
    || (!tkDiag d && refQueue (tkBRef d) == 0 && !z.b && !tkBT d && tkNPad d % 32 != 0)
    || operandBad (tkARef d) (tkAPitch d) (tkAS d) (tkARow d) true false z.a
    || operandBad (tkBRef d) (tkBPitch d) (tkBS d) (tkBRow d) true (tkDiag d) z.b
    || (if append then tkDRef d == 0 || refQueue (tkDRef d) != 0 || refAddr (tkDRef d) % 64 != 0 || tkDPitch d != 0
          || !((List.range 3).all fun l => tkDS d l == 0)
        else operandBad (tkDRef d) (tkDPitch d) (tkDS d) dRow false false z.d)
    || tkAux d % 32 != 0 || refHigh (tkAux d) != 0
    || (tkAux d == 0 && (pre || tkShapeMode d != 0 || epDeriv (tkEpi d) || epScale (tkEpi d) != 0 || epBias (tkEpi d)
          || (epOscale (tkEpi d) != 0 && !z.a) || epStatIn (tkEpi d) || epStatEn (tkEpi d)))

/-- The fields that R131 reserves in a _B slot. -/
def bSlotBad (d : List Byte) : Bool :=
  bits (tkFlags d) 1 0 != 0 || !zeroAt d 0x1A 5 || !zeroAt d 0x20 10

/-- The epilogue words that R235 requires. -/
def attEpiBad (a b : List Byte) : Bool :=
  let x := tkEpi a
  let y := tkEpi b
  if attMode a = attFwd then
    !(epOnline x && epAct x == 7 && epStatEn x && !epStatSrc x && epScale x == 1 && !epBias x && epOscale x == 0)
      || !(epAct y == 0 && !epStatIn y && !epStatEn y && !epStatSrc y && epScale y == 0 && !epBias y
            && ((epOscale y == 3 && epRecip y) || (epOscale y == 0 && tkDFmt b == 10)))
  else
    !(!epOnline x && epAct x == 7 && epStatIn x && !epStatEn x && epScale x == 1 && epOscale x == 3 && epRecip x && !epBias x)
      || !(epAct y == 0 && !epStatEn y && epStatIn y && epScale y == 0 && !epBias y && decide (epOscale y ≤ 1))

/-- The further checks of an attention pair (R235). -/
def attBad (a b : List Byte) : Bool :=
  let mode := attMode a
  attMask a == 3 || mode == 3 || bit (attWord a) 42
    || tkTM a != tkTM b || tkM a != tkM b || tkTN a % 32 != 0 || decide (1024 < tkTN a)
    || decide (512 < tkK a) || decide (512 < (if mode = attFwd then tkN b else tkK b))
    || tkTN b != tkNPad b
    || (if mode = attFwd then tkK b != tkN a else if mode = attBwdQ then tkN b != tkK a else tkN b != tkK b)
    || dcwMx (tkDcw a) || tkDFmt a == 0 || decide (4 < tkDFmt a)
    || tkAMx b || tkAFmt b != tkDFmt a || tkShapeMode b != 0
    || (attLedger a && (mode != attFwd || refQueue (tkBRef a) != 0))
    || (tkPreEn a && mode != attBwdKv) || attEpiBad a b

/-- The row bytes, heads times width and page capacity that an append's destination implies are checked at the anchors (R252, R255); of the descriptor, MX_OUT. -/
def appendBad (d : List Byte) : Bool := dcwMx (tkDcw d)

/-- Whether the scribe refuses a task at step 2 of R148: its first slot, the next descriptor, its index (R125, R130, R131, R134). -/
def descBad (a b : List Byte) (idx : Nat) : Bool :=
  let op := tkOpcode a
  if op = opEnd then !zeroAt a 0 128
  else if idx = 65535 then true
  else if op = opNop then headBad a || !zeroAt a 0x2A 6
  else if 8 ≤ op || op = opDualB || op = opAttnB then true
  else
    let spot := bits (tkSpot a) 3 0
    headBad a || (spot != 0 && (decide (spot < 6) || decide (12 < spot)))
      || (if tkPair a then
            decide (idx + 1 = 65535) || tkOpcode b != op + 1 || bSlotBad b || !zeroAt b 0x2A 6
              || (if op = opDualA then
                    !zeroAt a 0x2A 6 || slotBad a (tkIters a) {} false (tkDRow a) || slotBad b (tkIters a) {} false (tkDRow b)
                  else
                    attBad a b
                      || slotBad a (tkIters a) { d := attMode a != attBwdKv } false (rowBytesOf (tkK a) (tkDFmt a) false)
                      || slotBad b (tkIters a) { a := attMode a == attFwd, b := attLedger a } false (tkDRow b))
          else if op = opMatmul then
            (attWord a != 0 && attWord a != 2 ^ 43) || slotBad a (tkIters a) {} (tkAppends a) (tkDRow a) || (tkAppends a && appendBad a)
          else !zeroAt a 0x2A 6 || slotBad a (tkIters a) {} false (tkDRow a))

-- Checks of the auxiliary record (R133, R134, R235) -----------------------------------------------------------------

/-- A reference that carries a format in its top bits. -/
def fmtRefBad (r align_ : Nat) (need : Bool) : Bool :=
  bits r 59 57 != 0 || decide (10 < bits r 63 60) || refAddr r % align_ != 0 || (need && refAddr r == 0)

/-- A plain reference. -/
def plainRefBad (r align_ : Nat) (need : Bool) : Bool := refHigh r != 0 || r % align_ != 0 || (need && r == 0)

/-- Whether an auxiliary record is refused; noOscale where R235 lets OSCALE_REF stand unused. -/
def auxBad (d x : List Byte) (noOscale : Bool) (cols : Nat) : Bool :=
  let e := tkEpi d
  plainRefBad (auxShape x) 8 (tkShapeMode d != 0) || plainRefBad (auxC x) 64 (tkPreEn d)
    || fmtRefBad (auxZ x) 64 (epDeriv e) || fmtRefBad (auxScale x) 64 (epScale e != 0)
    || fmtRefBad (auxBias x) 64 (epBias e) || fmtRefBad (auxOscale x) 64 (epOscale e != 0 && !noOscale)
    || plainRefBad (auxStatIn x) 16 (epStatIn e) || plainRefBad (auxStatOut x) 16 (epStatEn e)
    || (tkPreEn d && (auxCPitch x % 64 != 0 || decide (auxCPitch x < rowBytesOf cols (ncwFmt (tkPreNcw d)) false)))
    || (epDeriv e && (auxZPitch x % 64 != 0 || decide (auxZPitch x < rowBytesOf (tkNPad d) (bits (auxZ x) 63 60) false)))

/-- Whether the auxiliary records of a task are refused at step 4 (R134, R235). -/
def auxesBad (a b xa xb : List Byte) : Bool :=
  let att := tkOpcode a == opAttnA
  (tkAux a != 0 && auxBad a xa att (if att then tkK a else tkNPad a)) || (tkPair a && tkAux b != 0 && auxBad b xb (att && epOscale (tkEpi b) == 3) (tkNPad b))
    || (att && attMode a == attBwdQ && auxOscale xa != 0)
    || (att && attMode a == attFwd && auxOscale xb != 0)

-- Shapes (R144 to R146) -------------------------------------------------------------------------------------------

/-- The extents of a shape word; none when it exceeds the planned extents or has bits [63:60] set (R144, R146). -/
def shapeOf (d : List Byte) (w : Nat) : Option (Nat × Nat × Nat) :=
  let m := bits w 19 0
  let n := bits w 39 20
  let k := bits w 59 40
  if bits w 63 60 != 0 || decide (tkM d < m) || decide (tkN d < n) || (!tkDiag d && decide (tkK d < k)) then none
  else some (m, n, if tkDiag d then 1 else k)

/-- Whether an iteration is empty (R147). -/
def emptyShape (x : Nat × Nat × Nat) : Bool := x.1 == 0 || x.2.1 == 0 || x.2.2 == 0

-- The operand pool (R198, R236) ---------------------------------------------------------------------------------------

/-- Bytes of a tile's rows of A, of B and of its outputs, for a product. -/
def tileBytesA (d : List Byte) : Nat :=
  if tkDiag d then tkTM d * rowBytesOf (tkTN d) (tkAFmt d) (tkAMx d)
  else if tkAT d then tkKPad d * packBytes (tkTM d) (fmtBits (tkAFmt d)) else tkTM d * tkARow d
def tileBytesB (d : List Byte) : Nat :=
  if tkDiag d then (if tkBPitch d = 0 then 1 else tkTM d) * packBytes (tkTN d) (fmtBits (tkBFmt d))
  else if tkBT d then tkTN d * tkBRow d else tkKPad d * packBytes (tkTN d) (fmtBits (tkBFmt d))
def tileBytesD (d : List Byte) : Nat := tkTM d * rowBytesOf (tkTN d) (tkDFmt d) (dcwMx (tkDcw d))

/-- Bytes of an attention tile's outputs in their destination formats. -/
def attOuts (a b : List Byte) : Nat :=
  tileBytesD b + (if attMode a = attBwdKv then tkTM a * rowBytesOf (tkK a) (tkDFmt a) false else 0)

/-- The pool bytes of an attention tile (R236). -/
def attPool (a b : List Byte) : Nat :=
  let tm := tkTM a
  let tn := tkTN a
  let pB := fmtBits (tkDFmt a)
  let fwd := attMode a == attFwd
  let rowsA := tm * rowBytesOf (tkKPad a) (tkAFmt a) (tkAMx a)
  let rowsB := if fwd then 0 else tm * rowBytesOf (tkKPad b) (tkAFmt b) false
  let dv := if fwd then tkNPad b else tkKPad b
  let walkA := tn * rowBytesOf (tkKPad a) (tkBFmt a) (tkBMx a)
  let walkB := tn * rowBytesOf dv (tkBFmt b) (tkBMx b)
  let states := 8 * tm * (if attMode a = attBwdKv then tkK a + tkN b else tkN b)
  rowsA + rowsB + walkA + walkB + (if fwd then 1 else 2) * (tm * packBytes tn pB) + states + 2 * attOuts a b

/-- Pool bytes that the largest tile of a task needs (R198, R236, R264). -/
def poolBytes (a b : List Byte) : Nat :=
  if tkOpcode a = opAttnA then attPool a b
  else
    let one (d : List Byte) : Nat := tileBytesA d + tileBytesB d + 2 * tileBytesD d
    if tkOpcode a = opDualA then max (one a) (one b) else one a

-- Tiles of a task (R141 to R147, R168, R265) -----------------------------------------------------------------------------

/-- Whether a tile position of an iteration is skipped (R143, R147). -/
def skipped (d : List Byte) (ext : Nat × Nat × Nat) (x y : Nat) : Bool :=
  emptyShape ext || decide (ext.1 ≤ y * tkTM d) || decide (ext.2.1 ≤ x * tkTN d)

/-- Columns of a slot's tile grid: an attention tile spans the whole walked extent (R232). -/
def gridCols (d : List Byte) : Nat := if tkOpcode d = opAttnA then 1 else tkGN d

/-- All tile positions of one iteration of a slot in order, with their position numbers. -/
def slotTiles (d : List Byte) (slot j : Nat) : List Tile :=
  let order := tileOrder (gridCols d) (tkGM d)
  (order.zipIdx).map fun p => { slot := slot, iter := j, x := p.1.1, y := p.1.2, pos := j * order.length + p.2 }

/-- Two lists taken in turn, the rest of the longer at the end (R265). -/
def alternate {α : Type} : List α → List α → List α
  | [], b => b
  | a, [] => a
  | x :: a, y :: b => x :: y :: alternate a b

/-- The tiles of a task in issue order: skipped positions keep their number and take no turn (R141 to R143, R265). -/
def taskTiles (a b : List Byte) (sa sb : List (Nat × Nat × Nat)) : List Tile :=
  ((List.range (tkIters a)).map fun j =>
    let ta := (slotTiles a 0 j).filter fun t => !skipped a (sa.getD j (0, 0, 0)) t.x t.y
    if tkOpcode a = opDualA then
      alternate ta ((slotTiles b 1 j).filter fun t => !skipped b (sb.getD j (0, 0, 0)) t.x t.y)
    else ta).flatten

/-- Tile positions of a slot over every iteration, skipped ones counted (R168). -/
def slotPositions (a d : List Byte) : Nat := tkIters a * (gridCols d * tkGM d)

end Sys2Proof.Machine
end

