-- ==== Sys2Proof/Machine/Tiles.lean ====
section
/-! DEFINITION. What one tile computes: its operands' values, its product, epilogue, outputs, partial statistics and fingerprint; attention tiles; ledgers (R109, R115, R119 to R123, R135 to R138, R154, R168, R232 to R259). -/

namespace Sys2Proof.Machine

/-- Why a run of a tile cannot go on: a page fault, or a STATUS and detail the task ends with. -/
inductive TileStop where
  | fault (addr cause : Nat)
  | ends (status detail : Nat)
  deriving DecidableEq, Repr

/-- A read of the module's data path, its faults as tile stops. -/
def State.tileRead (s : State) (ctx a n : Nat) : Except TileStop (List Byte) :=
  match s.tryRead ctx a n .module with
  | .ok b => .ok b
  | .error f => .error (.fault f.1 f.2)

-- Elements of rows (R135, R136, R168) ---------------------------------------------------------------------

/-- Byte offset and length of elements [c, c + n) of a packed row. -/
def spanOf (f c n : Nat) : Nat × Nat := (c * fmtBits f / 8, ((c + n) * fmtBits f + 7) / 8 - c * fmtBits f / 8)

/-- Elements [c, c + n) of a row from the bytes of their span and the scales from group c / 32 on. -/
def elemsOf (f : Nat) (mx : Bool) (c n : Nat) (bytes scales : List Byte) : List Num :=
  let b := fmtBits f
  let v := leNat bytes / 2 ^ (c * b % 8)
  (List.range n).map fun i =>
    let e := v / 2 ^ (b * i) % 2 ^ b
    if mx then (decodeMx f e).mul (scaleValue (fld scales ((c + i) / 32 - c / 32) 1)) else decodeElem f e

/-- A whole stored row: n elements and then its scales. -/
def wholeRow (f : Nat) (mx : Bool) (n : Nat) (bytes : List Byte) : List Num :=
  elemsOf f mx 0 n (bytes.take (packBytes n (fmtBits f))) (bytes.drop (packBytes n (fmtBits f)))

/-- Rows as columns: n columns. -/
def turned (n : Nat) (rows : List (List Num)) : List (List Num) := (List.range n).map fun i => rows.map fun r => r.getD i zero

/-- The stored rows that a tile's A or B needs: address and bytes of each, scales of a diagonal operand after all elements (R135, R136). -/
def operandSpans (h d : List Byte) (isB : Bool) (t : Tile) : List (Nat × Nat) :=
  let addr (r : Nat) : Nat := if isB then rowAddr h t.iter (refAddr (tkBRef d)) (tkBPitch d) (tkBS d) r else rowAddr h t.iter (refAddr (tkARef d)) (tkAPitch d) (tkAS d) r
  let f := if isB then tkBFmt d else tkAFmt d
  let part (r c n : Nat) : Nat × Nat := (addr r + (spanOf f c n).1, (spanOf f c n).2)
  let r0 := t.y * tkTM d
  let c0 := t.x * tkTN d
  if tkDiag d then
    let rows := if isB && tkBPitch d == 0 then [0] else (List.range (tkTM d)).map (r0 + ·)
    (rows.map fun r => part r c0 (tkTN d))
      ++ (if !isB && tkAMx d then rows.map fun r => (addr r + packBytes (tkNPad d) (fmtBits f) + c0 / 32, (c0 + tkTN d + 31) / 32 - c0 / 32) else [])
  else if isB then
    if tkBT d then (List.range (tkTN d)).map fun i => (addr (c0 + i), tkBRow d)
    else (List.range (tkKPad d)).map fun k => part k c0 (tkTN d)
  else if tkAT d then (List.range (tkKPad d)).map fun k => part k r0 (tkTM d)
  else (List.range (tkTM d)).map fun i => (addr (r0 + i), tkARow d)

/-- The rows of A or columns of B from the bytes of those spans. -/
def operandOf (d : List Byte) (isB : Bool) (t : Tile) (get : Nat → List Byte) : List (List Num) :=
  let f := if isB then tkBFmt d else tkAFmt d
  let r0 := t.y * tkTM d
  let c0 := t.x * tkTN d
  if tkDiag d then
    let n := if isB && tkBPitch d == 0 then 1 else tkTM d
    (List.range n).map fun i => elemsOf f (!isB && tkAMx d) c0 (tkTN d) (get i) (if isB then [] else get (n + i))
  else if isB then
    if tkBT d then (List.range (tkTN d)).map fun i => wholeRow f (tkBMx d) (tkKPad d) (get i)
    else turned (tkTN d) ((List.range (tkKPad d)).map fun k => elemsOf f false c0 (tkTN d) (get k) [])
  else if tkAT d then turned (tkTM d) ((List.range (tkKPad d)).map fun k => elemsOf f false r0 (tkTM d) (get k) [])
  else (List.range (tkTM d)).map fun i => wholeRow f (tkAMx d) (tkKPad d) (get i)

/-- Rows of a queued operand in its buffer, K-contiguous at a spacing of RB (R168): rows, elements of each. -/
def queuedOf (f : Nat) (mx : Bool) (rows n : Nat) (data : Memory) : List (List Num) :=
  let len := rowBytesOf n f mx
  (List.range rows).map fun i => wholeRow f mx n (memReadN data (i * padTo len 32) len)

/-- A queued A or B of a product tile (R168). -/
def queuedOperand (d : List Byte) (isB : Bool) (data : Memory) : List (List Num) :=
  let f := if isB then tkBFmt d else tkAFmt d
  let mx := if isB then tkBMx d else tkAMx d
  let n := if tkDiag d then tkTN d else tkKPad d
  queuedOf f mx (if !isB then tkTM d else if tkDiag d then 1 else tkTN d) n data

-- Reads of a run (R133, R142) ---------------------------------------------------------------------------------

/-- Elements [c, c + n) of a row in memory. -/
def State.readElems (s : State) (ctx a f c n : Nat) : Except TileStop (List Num) := do
  let sp := spanOf f c n
  let b ← s.tileRead ctx (a + sp.1) sp.2
  pure (elemsOf f false c n b [])

/-- Rows of C or Z of a tile. -/
def State.readRows (s : State) (ctx : Nat) (h : List Byte) (j ref f pitch : Nat) (st : Nat → Int) (r0 nr c0 nc : Nat) : Except TileStop (List (List Num)) :=
  (List.range nr).mapM fun i => s.readElems ctx (rowAddr h j (refAddr ref) pitch st (r0 + i)) f c0 nc

/-- A scalar or vector of the epilogue: element 0, N_PAD or M_PAD elements (R133). Every tile reads the whole padded vector; how much of it one tile reads, R133 leaves open (log entry 175). -/
def State.readVector (s : State) (ctx : Nat) (d : List Byte) (ref src : Nat) : Except TileStop (List Num) :=
  if src = 0 then pure []
  else s.readElems ctx (refAddr ref) (bits ref 63 60) 0 (if src = 1 then 1 else if src = 2 then tkNPad d else tkMPad d)

/-- The row statistics record of row m of iteration j (R142). -/
def State.readRec (s : State) (ctx base pad j m : Nat) : Except TileStop RowRec := do
  let b ← s.tileRead ctx (refAddr base + 48 * (j * pad + m)) 48
  pure (recOf b)

-- Outputs (R138, R154) ---------------------------------------------------------------------------------------------

/-- The bytes of a row that n codes of b bits from bit position `at_` fill: address, which bits, values. -/
def rowWrites (addr b at_ : Nat) (codes : List Nat) : List (Nat × Byte × Byte) :=
  let shift := at_ % 8
  let v := (codes.foldr (fun e acc => e % 2 ^ b + 2 ^ b * acc) 0) * 2 ^ shift
  let m := (2 ^ (codes.length * b) - 1) * 2 ^ shift
  (List.range ((codes.length * b + shift + 7) / 8)).map fun i =>
    (addr + at_ / 8 + i, BitVec.ofNat 8 (m / 2 ^ (8 * i)), BitVec.ofNat 8 (v / 2 ^ (8 * i)))

/-- A row of drained outputs at its destination, and its fingerprinted bytes. -/
structure OutRow where
  addr : Nat
  /-- first element of the row that is written, and elements of a stored row -/
  first : Nat
  elems : Nat
  codes : List Nat
  scales : List Nat
  deriving DecidableEq, Repr

/-- The writes of an output row: elements, then the scales after the row's elements (R135, R138). -/
def OutRow.writes (r : OutRow) (f : Nat) : List (Nat × Byte × Byte) :=
  rowWrites r.addr (fmtBits f) (r.first * fmtBits f) r.codes
    ++ (r.scales.zipIdx).map fun x => (r.addr + packBytes r.elems (fmtBits f) + r.first / 32 + x.2, 0xFF, BitVec.ofNat 8 x.1)

/-- The bytes of an output row that the fingerprint covers. -/
def OutRow.print (r : OutRow) (f : Nat) : List Byte := packElems (fmtBits f) r.codes ++ r.scales.map (BitVec.ofNat 8)

/-- Output codes with the bits a core got wrong inverted: output numbers count the tile's outputs in row order (R143, R155). -/
def flipCodes (wrong : List (Nat × BitVec 64)) (base : Nat) (rows : List OutRow) : List OutRow :=
  match rows with
  | [] => []
  | r :: rest =>
    let codes := (r.codes.zipIdx).map fun c => wrong.foldl (fun v w => if w.1 = base + c.2 then v ^^^ w.2.toNat else v) c.1
    { r with codes := codes } :: flipCodes wrong (base + r.codes.length) rest

/-- The fingerprint of one product's tile: its outputs, then its records, then the flags (R154). -/
def tilePrint (f : Nat) (rows : List OutRow) (records : List (List Byte)) (fl : BitVec 8) : BitVec 64 :=
  BitVec.ofNat 64 (crc64 ((rows.map fun r => r.print f).flatten ++ records.flatten ++ [fl]))

/-- The result of a run from the output rows of each of its products, by destination format, the records of the first and its flags: each product's tile has its own fingerprint, with the flags the tile set (R154; log entry 176). -/
def tileOut (outs : List (Nat × List OutRow)) (partials : List (Nat × Nat × Nat × List Byte)) (fl : BitVec 8) : TileOut :=
  { bytes := (outs.map fun o => (o.2.map fun r => r.writes o.1).flatten).flatten
    flags := fl
    partials := partials
    prints := (outs.zipIdx).map fun o => tilePrint o.1.1 o.1.2 (if o.2 = 0 then partials.map fun p => p.2.2.2 else []) fl }

-- Ledgers (R251 to R259) -------------------------------------------------------------------------------------------

/-- A ledger anchor (R251). -/
structure Anchor where
  addr : Nat
  root : Nat
  length : Nat
  rootSeq : Nat
  busy : Bool
  entries : Nat
  fmt : Nat
  heads : Nat
  width : Nat
  tpp : Nat
  legal : Bool
  deriving DecidableEq, Repr

/-- Bytes of one token's row in a plane. -/
def Anchor.row (x : Anchor) : Nat := packBytes x.width (fmtBits x.fmt)

/-- An anchor from its bytes, and whether it is legal (R252): ENTRIES is not in the list of what makes it so. -/
def anchorOf (a : Nat) (b : List Byte) : Anchor :=
  let f := fld b 0x14 1
  let h := fld b 0x15 1 + 1
  let w := fld b 0x16 2 + 1
  let row := packBytes w (fmtBits f)
  let n := fld b 0x10 4
  { addr := a, root := refAddr (fld b 0 8), length := fld b 8 4, rootSeq := fld b 12 2, busy := bit (fld b 8 8) 48,
    entries := n, fmt := f, heads := h, width := w, tpp := fld b 0x18 2
    legal := zeroAt b 0x1A 38 && bits (fld b 8 8) 63 49 == 0 && refHigh (fld b 0 8) == 0 && fld b 0 8 % 64 == 0
      && (f == 1 || f == 2 || f == 3 || f == 4 || f == 8) && decide (h ≤ 64) && decide (w ≤ 512) && w % 32 == 0
      && decide (2 * h * row ≤ 65536) && fld b 0x18 2 == 65536 / (2 * h * row) }

/-- Read an anchor. -/
def State.anchor (s : State) (ctx a : Nat) : Except TileStop Anchor := do
  let b ← s.tileRead ctx a 64
  pure (anchorOf a b)

/-- The page of an entry, if it is valid (R253). Bits [63:58] and bytes 10 to 15 are not looked at: R253 has them zero, and neither it nor R20 names an error for them (log entry 177). -/
def entryPage (e : List Byte) : Option Nat := if bit (fld e 0 8) 57 then some (refAddr (fld e 0 8)) else none

/-- The address of the row of a token in the plane kv of head h (R254). -/
def Anchor.rowAt (x : Anchor) (page token h kv : Nat) : Nat := page + (2 * h + kv) * x.tpp * x.row + token % x.tpp * x.row

/-- The anchor of a walking task's iteration (R258). -/
def walkAnchor (a : List Byte) (j : Nat) : Nat := refAddr (tkBRef a) + 64 * j

/-- The snapshot of a walking tile (R258): ROOT, LENGTH and ROOT_SEQ; no entry is read yet. -/
def State.takeWalk (s : State) (ctx : Nat) (a : List Byte) (j : Nat) : Except TileStop Walk := do
  let x ← s.anchor ctx (walkAnchor a j)
  if !x.legal then throw (.ends 2 0)
  else if tkN a < x.length then throw (.ends 3 0)
  else pure ⟨x.addr, x.root, x.length, x.rootSeq, x.tpp, []⟩

/-- Entries that cover the tokens below a snapshot's LENGTH (R253). -/
def Walk.count (w : Walk) : Nat := ups w.length w.tpp

/-- Read further entries of a snapshot for the first time, in order; a read that stops keeps those read before it (R258, R259). -/
def State.readEntries (s : State) (ctx : Nat) (w : Walk) : List Nat → Walk × Option TileStop
  | [] => (w, none)
  | e :: rest =>
    match s.tileRead ctx (w.root + 16 * e) 16 with
    | .error f => (w, some f)
    | .ok b =>
      if (entryPage b).isNone then (w, some (.fault (w.root + 16 * e) pfHole))
      else s.readEntries ctx { w with entries := w.entries ++ [(e, w.root + 16 * e, b)] } rest

/-- Read the entries of a snapshot that have not been read. -/
def State.fillWalk (s : State) (ctx : Nat) (w : Walk) : Walk × Option TileStop :=
  s.readEntries ctx w ((List.range w.count).drop w.entries.length)

/-- Addresses and bytes of the rows of the keys or values of a walked ledger (R254). The head is that of the middle loop level (log entry 30). -/
def Anchor.spans (x : Anchor) (a : List Byte) (j : Nat) (w : Walk) (kv : Nat) : List (Nat × Nat) :=
  (List.range w.length).map fun i =>
    (x.rowAt ((entryPage ((w.entries.getD (i / x.tpp) (0, 0, [])).2.2)).getD 0) i ((iterIdx a j).2.1 % x.heads) kv, x.row)

/-- The outputs of an append that tile t holds: row address by output column (R255). -/
def Anchor.place (x : Anchor) (page token n : Nat) : Nat × Nat :=
  let hw := x.heads * x.width
  (x.rowAt page token (n % hw / x.width) (n / hw), n % x.width)

-- Attention (R119 to R123, R232 to R244) --------------------------------------------------------------------------------

/-- Whether a score is masked: query position q, key k (R237). -/
def attMasked (a : List Byte) (off : Int) (q k : Nat) : Bool :=
  let dlt := off + (k : Int) - (q : Int)
  if attMask a = 1 then decide (0 < dlt) else if attMask a = 2 then decide (0 < dlt) || decide (dlt ≤ -((attWindow a : Int) + 1)) else false

/-- The scores of a walk block: product, scale, then the mask, which makes a score −infinity (R120, R237). -/
def attScores (a : List Byte) (scale : Num) (rows items : List (List Num)) (masked : Nat → Nat → Bool) : Fl (List (List Num)) := do
  let acc ← matProduct (effWidth (tkSerNcw a)) (effWidth (tkStaNcw a)) rows items []
  (acc.zipIdx).mapM fun r => (r.1.zipIdx).mapM fun c => do
    let v ← mul48 c.1 scale
    pure (if masked r.2 c.2 then Num.inf true else v)

/-- The online state of a row (R119): maximum, sum, partial output, and what its record notes. -/
structure Online where
  m : Num
  l : Num
  o : List Num
  count : Nat
  nan : Bool
  inf : Bool
  deriving DecidableEq, Repr

/-- A value drained into the P format and read back (R120). -/
def drainP (a : List Byte) (v : Num) : Fl Num := do
  let c ← drainElem (tkDFmt a) (dcwSat (tkDcw a)) v
  pure (decodeElem (tkDFmt a) c)

/-- One key block of one row before the value product: the rescaled state and p (R120 to R122). -/
def onlineRow (a : List Byte) (st : Online) (ss : List Num) : Fl (Online × List Num) := do
  let mNew := ss.foldl Num.max st.m
  let o ← st.o.mapM (raised st.m mNew)
  let l ← raised st.m mNew st.l
  let p ← if mNew = .inf true then pure (ss.map fun _ => zero) else ss.mapM fun v => do
    let e ← exp2 (v.add mNew.negate)
    drainP a e
  let sum ← r48 (p.foldl Num.add zero)
  let l' ← add48 l sum
  pure (⟨mNew, l', o, st.count + ss.length, st.nan || ss.any Num.isNan, st.inf || ss.any Num.isInf⟩, p)

/-- The rows of an attention tile after the product p × values; init holds the states (R73, R239). -/
def attAccumulate (b : List Byte) (staNcw : Nat) (p : List (List Num)) (items : List (List Num)) (cols : Nat) (init : List (List Num)) : Fl (List (List Num)) :=
  matProduct (effWidth (tkSerNcw b)) (effWidth staNcw) p (turned cols items) init

/-- Whether every score of a walk block is masked for every row (R238). -/
def wholeMasked (rows items : Nat) (masked : Nat → Nat → Bool) : Bool :=
  (List.range rows).all fun i => (List.range items).all fun k => masked i k

/-- The forward walk of a tile: blocks of TN items in ascending order (R239). -/
def attForward (a b : List Byte) (scale : Num) (rows : List (List Num)) (masked : Nat → Nat → Bool) : Nat → List (List (List Num) × List (List Num)) → List Online → Fl (List Online)
  | _, [], st => pure st
  | k0, (ks, vs) :: rest, st => do
    let mk := fun i k => masked i (k0 + k)
    if wholeMasked rows.length ks.length mk then
      attForward a b scale rows masked (k0 + ks.length) rest (st.map fun x => { x with count := x.count + ks.length, inf := true })
    else do
      let ss ← attScores a scale rows ks mk
      let ps ← (st.zip ss).mapM fun x => onlineRow a x.1 x.2
      let o ← attAccumulate b (tkStaNcw b) (ps.map Prod.snd) vs (tkN b) (ps.map fun x => x.1.o)
      attForward a b scale rows masked (k0 + ks.length) rest ((ps.zip o).map fun x => { x.1.1 with o := x.2 })

/-- p of the backward modes: exp2(s − m) × (1/ℓ), masked positions +0 (R243, R244). -/
def attP (a : List Byte) (s m l : Num) (isMasked : Bool) : Fl Num :=
  if isMasked then pure zero
  else do
    let e ← exp2 (s.add m.negate)
    let r ← recip l
    let v ← mul48 e r
    drainP a v

/-- ds of the backward modes, drained into the P format; +0 at a masked position (R243, R244). -/
def attDs (a : List Byte) (p g d : Num) (isMasked : Bool) : Fl Num :=
  if isMasked then pure zero
  else do
    let x ← sub48 g d
    let y ← mul48 p x
    drainP a y

/-- The statistics of a score's query: m, ℓ and D. -/
structure QueryStat where
  m : Num
  l : Num
  d : Num
  deriving DecidableEq, Repr

/-- The backward walk of a tile: for BWD_KV the states are dK and dV, for BWD_Q dQ, of `cols` columns, and none (R243, R244). -/
def attBackward (a b : List Byte) (scale : Num) (cols : Nat) (rows rowsB : List (List Num)) (masked : Nat → Nat → Bool) (stat : Nat → Nat → QueryStat) :
    Nat → List (List (List Num) × List (List Num)) → List (List Num) × List (List Num) → Fl (List (List Num) × List (List Num))
  | _, [], st => pure st
  | k0, (xs, ys) :: rest, st => do
    let mk := fun i k => masked i (k0 + k)
    if wholeMasked rows.length xs.length mk then attBackward a b scale cols rows rowsB masked stat (k0 + xs.length) rest st
    else do
      let ss ← attScores a scale rows xs mk
      let p ← (ss.zipIdx).mapM fun r => (r.1.zipIdx).mapM fun c =>
        attP a c.1 (stat r.2 (k0 + c.2)).m (stat r.2 (k0 + c.2)).l (mk r.2 c.2)
      let dv ← if attMode a = attBwdKv then attAccumulate b (tkStaNcw b) p ys (tkN b) st.2 else pure st.2
      let g ← matProduct (effWidth (tkSerNcw b)) (effWidth (tkStaNcw b)) rowsB ys []
      let ds ← (p.zipIdx).mapM fun r => (r.1.zipIdx).mapM fun c =>
        attDs a c.1 ((g.getD r.2 []).getD c.2 zero) (stat r.2 (k0 + c.2)).d (mk r.2 c.2)
      let dk ← attAccumulate b (tkStaNcw a) ds xs cols st.1
      attBackward a b scale cols rows rowsB masked stat (k0 + xs.length) rest (dk, dv)

/-- A scalar multiplied into every value, where one is named (R243, R244). -/
def scaleAll (c : Option Num) (rows : List (List Num)) : Fl (List (List Num)) :=
  match c with
  | none => pure rows
  | some v => rows.mapM fun r => r.mapM fun x => mul48 x v

/-- ATTN_B's OSCALE scalar multiplied into every value, where ATTN_B names one: the scalar, or with OSCALE_RECIP its reciprocal (R243, R244, R106). -/
def oscaleAll (b : List Byte) (c : Option Num) (rows : List (List Num)) : Fl (List (List Num)) :=
  match c with
  | none => pure rows
  | some v => rows.mapM fun r => r.mapM fun x => epiScaled (tkEpi b) v x

/-- The outputs of a forward row: O × (1/ℓ), +0 where every key was masked; or O as it stands; NaN where m is +infinity or NaN (R120, R122, R240). -/
def forwardRow (b : List Byte) (x : Online) : Fl (List Num) :=
  if x.m = .inf false || x.m.isNan then pure (x.o.map fun _ => .nan)
  else if epOscale (tkEpi b) = 0 then pure x.o
  else if x.l.isZero then pure (x.o.map fun _ => zero)
  else do
    let r ← recip x.l
    x.o.mapM fun v => mul48 v r

/-- The final record of a forward row: MEAN, M2 and VAR are +0 (R119, R240). -/
def onlineRec (x : Online) : RowRec := ⟨x.count, x.nan, x.inf, x.m, x.l, zero, zero, zero⟩

-- A run of a tile ----------------------------------------------------------------------------------------------------------

/-- Drained rows at their destinations. -/
def drainRows (h d : List Byte) (j r0 c0 elems : Nat) (vals : List (List Num)) : Fl (List OutRow) :=
  (vals.zipIdx).mapM fun r => do
    let c ← drainRow (tkDcw d) r.1
    pure ⟨rowAddr h j (refAddr (tkDRef d)) (tkDPitch d) (tkDS d) (r0 + r.2), c0, elems, c.1, c.2⟩

/-- The partial records of a row: one per output block of 32 columns of the tile (R115). -/
def rowPartials (j m x tn : Nat) (taps : List Num) : Fl (List (Nat × Nat × Nat × List Byte)) :=
  ((chunks 32 (taps.length / 32 + 1) taps).zipIdx).mapM fun c => do
    let r ← partialRec c.1
    pure (j, m, x * ((tn + 31) / 32) + c.2, recBytes r true)

/-- The partial record of a row of a tile in ONLINE mode: m and ℓ over its output blocks, from the MAX of a STAT_IN record where one is named; MEAN, M2 and VAR +0 (R119; log entry 171). -/
def onlinePartial (j m x tn : Nat) (start : Option Num) (taps ps : List Num) : Fl (List (Nat × Nat × Nat × List Byte)) := do
  let r ← onlineSums (start.getD (.inf true)) zero (chunks 32 (taps.length / 32 + 1) (taps.zip ps))
  pure [(j, m, x * ((tn + 31) / 32), recBytes ⟨taps.length, taps.any Num.isNan, taps.any Num.isInf, r.1, r.2, zero, zero, zero⟩ true)]

/-- The values of a product tile before the drain with the activated ones, and its tapped values, by row (R73, R87, R109). -/
def productValues (d : List Byte) (e : EpiIn) (t : Tile) (ext : Nat × Nat × Nat) (as bs pre : List (List Num)) : Fl (List (List (Num × Num) × List Num)) := do
  let r0 := t.y * tkTM d
  let c0 := t.x * tkTN d
  let nr := min (tkTM d) (ext.1 - r0)
  let nc := min (tkTN d) (ext.2.1 - c0)
  let p := effWidth (tkSerNcw d)
  let w := effWidth (tkStaNcw d)
  let acc ← if tkDiag d then diagProduct p w ((as.take nr).map fun r => r.take nc) bs pre
    else matProduct p w ((as.take nr).map fun r => r.take ext.2.2) ((bs.take nc).map fun c => c.take ext.2.2) pre
  (acc.zipIdx).mapM fun r => epilogueRow (tkEpi d) e r0 c0 r.2 r.1

/-- The epilogue operands of a tile (R133). -/
def State.epiIn (s : State) (ctx : Nat) (h d x : List Byte) (t : Tile) (nr : Nat) : Except TileStop EpiIn := do
  let e := tkEpi d
  let r0 := t.y * tkTM d
  let scale ← s.readVector ctx d (auxScale x) (epScale e)
  let bias ← s.readVector ctx d (auxBias x) (if epBias e then 2 else 0)
  let osc ← s.readVector ctx d (auxOscale x) (epOscale e)
  let z ← if epDeriv e then s.readRows ctx h t.iter (auxZ x) (bits (auxZ x) 63 60) (auxZPitch x) (auxZS x) r0 (tkTM d) (t.x * tkTN d) (tkTN d)
    else pure []
  let recs ← if epAct e == 7 && epStatIn e then (List.range nr).mapM fun i => s.readRec ctx (auxStatIn x) (tkMPad d) t.iter (r0 + i) else pure []
  pure ⟨scale, bias, osc, z, recs.map RowRec.max⟩

/-- The rows an append writes, one run of columns of one token and plane row each (R255). -/
def State.appendRows (s : State) (ctx : Nat) (d : List Byte) (t : Tile) (anchors : List (Nat × Nat × Nat × Nat)) (codes : List (List Nat)) : Except TileStop (List OutRow) := do
  let k := anchors.find? fun x => x.1 == t.iter
  let x ← s.anchor ctx (k.getD (0, 0, 0, 0)).2.1
  let l := (k.getD (0, 0, 0, 0)).2.2.1
  let rows ← (codes.zipIdx).mapM fun r => do
    let token := l + t.y * tkTM d + r.2
    let e ← s.tileRead ctx (x.root + 16 * (token / x.tpp)) 16
    let page := (entryPage e).getD 0
    pure ((r.1.zipIdx).map fun c =>
      let at_ := x.place page token (t.x * tkTN d + c.2)
      (⟨at_.1, at_.2, x.width, [c.1], []⟩ : OutRow))
  pure rows.flatten

/-- A run of a product tile (R109, R138, R154, R255). -/
def State.runProduct (s : State) (k : Task) (t : Tile) (as bs : List (List Num)) (wrong : List (Nat × BitVec 64)) : Except TileStop TileOut := do
  let h := k.a
  let d := if t.slot = 0 then k.a else k.b
  let x := if t.slot = 0 then k.auxA else k.auxB
  let ext := (if t.slot = 0 then k.shapesA else k.shapesB).getD t.iter (0, 0, 0)
  let r0 := t.y * tkTM d
  let nr := min (tkTM d) (ext.1 - r0)
  let pre ← if tkPreEn d then
      s.readRows k.ctx h t.iter (auxC x) (ncwFmt (tkPreNcw d)) (auxCPitch x) (auxCS x) r0 (tkTM d) (t.x * tkTN d) (tkTN d)
    else pure []
  let e ← s.epiIn k.ctx h d x t nr
  let (vals, f1) := (productValues d e t ext as bs pre).run 0
  let (rows, f2) := (drainRows h d t.iter r0 (t.x * tkTN d) (tkNPad d) (vals.map fun r => r.1.map Prod.fst)).run f1
  let (parts, f3) := (if epStatEn (tkEpi d) then (vals.zipIdx).mapM fun r =>
      if epOnline (tkEpi d) then onlinePartial t.iter (r0 + r.2) t.x (tkTN d) (e.offset[r.2]?) r.1.2 (r.1.1.map Prod.snd)
      else rowPartials t.iter (r0 + r.2) t.x (tkTN d) r.1.2
    else pure [] : Fl _).run f2
  let out := flipCodes wrong 0 rows
  let placed ← if tkAppends d then s.appendRows k.ctx d t k.appends (out.map OutRow.codes) else pure out
  pure (tileOut [(tkDFmt d, placed)] parts.flatten f3)

/-- How many items an attention tile walks: the snapshot's LENGTH, or the declared extent (R232, R258). -/
def walkItems (ext : Nat × Nat × Nat) (walk : Option Walk) : Nat :=
  match walk with
  | some w => w.length
  | none => ext.2.1

/-- Whether an attention tile masks the score of its row i and walked item c (R237). -/
def tileMasked (a : List Byte) (ext : Nat × Nat × Nat) (walk : Option Walk) (r0 i c : Nat) : Bool :=
  let off : Int := match walk with
    | some w => (ext.1 : Int) - w.length
    | none => attOffset a
  if attMode a = attBwdKv then attMasked a off c (r0 + i) else attMasked a off (r0 + i) c

/-- The stored items of a walked operand of an attention slot, and the elements of each: key rows or query rows as R234 stores them (log entry 178). -/
def walkedShape (a b : List Byte) (slotB : Bool) : Nat × Nat :=
  if !slotB then (tkNPad a, tkKPad a) else if attMode a = attFwd then (tkKPad b, tkNPad b) else (tkNPad a, tkKPad b)

/-- Addresses and bytes of items [i0, i0 + n) of a walked operand in iteration j (R135, R234). -/
def walkedSpans (a b : List Byte) (slotB : Bool) (j i0 n : Nat) : List (Nat × Nat) :=
  let d := if slotB then b else a
  (List.range n).map fun i =>
    (rowAddr a j (refAddr (tkBRef d)) (tkBPitch d) (tkBS d) (i0 + i), rowBytesOf (walkedShape a b slotB).2 (tkBFmt d) (tkBMx d))

/-- The rows of a walked operand from their bytes. -/
def walkedOf (a b : List Byte) (slotB : Bool) (get : Nat → List Byte) : List (List Num) :=
  let d := if slotB then b else a
  let sh := walkedShape a b slotB
  (List.range sh.1).map fun i => wholeRow (tkBFmt d) (tkBMx d) sh.2 (get i)

/-- The rows of a walked operand that a queue delivered (R168): those of FWD's V stand turned. -/
def queuedWalk (a b : List Byte) (slotB : Bool) (m : Memory) : List (List Num) :=
  let d := if slotB then b else a
  let sh := walkedShape a b slotB
  if slotB && attMode a == attFwd then turned sh.1 (queuedOf (tkBFmt d) (tkBMx d) sh.2 sh.1 m)
  else queuedOf (tkBFmt d) (tkBMx d) sh.1 sh.2 m

/-- The rows of a walked ledger from their bytes (R254). -/
def Anchor.rowsOf (x : Anchor) (n : Nat) (get : Nat → List Byte) : List (List Num) :=
  (List.range n).map fun i => elemsOf x.fmt false 0 x.width (get i) []

/-- Pair up the walk blocks of two walked operands. -/
def walkBlocks (tn items : Nat) (xs ys : List (List Num)) : List (List (List Num) × List (List Num)) :=
  (chunks tn (items / tn + 1) (xs.take items)).zip (chunks tn (items / tn + 1) (ys.take items))

/-- The operands of an attention tile as they stand in the loft: tile rows and walked items of ATTN_A and of ATTN_B. -/
structure AttIn where
  rowsA : List (List Num)
  itemsA : List (List Num)
  rowsB : List (List Num)
  itemsB : List (List Num)
  deriving DecidableEq, Repr

/-- The preload of an attention slot, `cols` columns of every row of the tile; none where the slot has none (R137, R138, R235). -/
def State.attPreload (s : State) (ctx : Nat) (a d x : List Byte) (t : Tile) (cols : Nat) : Except TileStop (Option (List (List Num))) :=
  if tkPreEn d then
    (s.readRows ctx a t.iter (auxC x) (ncwFmt (tkPreNcw d)) (auxCPitch x) (auxCS x) (t.y * tkTM a) (tkTM a) 0 cols).map some
  else pure none

/-- A scalar that an attention slot names. -/
def State.attScalar (s : State) (ctx : Nat) (d : List Byte) (ref : Nat) (named : Bool) : Except TileStop (Option Num) :=
  if named then (s.readVector ctx d ref 1).map fun v => some (v.getD 0 zero) else pure none

/-- The states of an attention tile before its first walk block: the preloaded ones, cut to the outputs inside the extent, or +0. -/
def startStates (pre : Option (List (List Num))) (nr cols : Nat) : List (List Num) :=
  match pre with
  | some p => (p.take nr).map fun r => r.take cols
  | none => List.replicate nr (List.replicate cols zero)

/-- A run of a forward attention tile (R239, R240): ATTN_A's outputs are its records. -/
def State.runForward (s : State) (k : Task) (t : Tile) (q : AttIn) (walk : Option Walk) (wrong : List (Nat × BitVec 64)) : Except TileStop TileOut := do
  let a := k.a
  let b := k.b
  let ext := k.shapesA.getD t.iter (0, 0, 0)
  let r0 := t.y * tkTM a
  let nr := min (tkTM a) (ext.1 - r0)
  let sc ← s.attScalar k.ctx a (auxScale k.auxA) true
  let preB ← s.attPreload k.ctx a b k.auxB t (tkNPad b)
  let recs ← if epStatIn (tkEpi a) then (List.range nr).mapM fun i => s.readRec k.ctx (auxStatIn k.auxA) (tkMPad a) t.iter (r0 + i) else pure []
  let start := ((startStates preB nr (tkN b)).zipIdx).map fun o =>
    let r := recs.getD o.2 emptyRec
    (⟨r.max, r.sum, o.1, r.count, r.nan, r.inf⟩ : Online)
  let blocks := walkBlocks (tkTN a) (walkItems ext walk) (q.itemsA.map fun r => r.take ext.2.2) q.itemsB
  let (st, f1) := (attForward a b (sc.getD zero) ((q.rowsA.take nr).map fun r => r.take ext.2.2) (tileMasked a ext walk r0) 0 blocks start).run 0
  let (vals, f2) := (st.mapM (forwardRow b)).run f1
  let (out, f3) := (drainRows a b t.iter r0 0 (tkNPad b) vals).run f2
  let parts := (st.zipIdx).map fun x => (t.iter, r0 + x.2, 0, recBytes (onlineRec x.1) false)
  pure (tileOut [(tkDFmt a, []), (tkDFmt b, flipCodes wrong 0 out)] parts f3)

/-- A run of a backward attention tile (R243, R244). -/
def State.runBackward (s : State) (k : Task) (t : Tile) (q : AttIn) (wrong : List (Nat × BitVec 64)) : Except TileStop TileOut := do
  let a := k.a
  let b := k.b
  let kv := attMode a == attBwdKv
  let ext := k.shapesA.getD t.iter (0, 0, 0)
  let r0 := t.y * tkTM a
  let nr := min (tkTM a) (ext.1 - r0)
  let sc ← s.attScalar k.ctx a (auxScale k.auxA) true
  let preA ← s.attPreload k.ctx a a k.auxA t (tkK a)
  let preB ← s.attPreload k.ctx a b k.auxB t (tkNPad b)
  let oscA ← s.attScalar k.ctx a (auxOscale k.auxA) (kv && auxOscale k.auxA != 0)
  let oscB ← s.attScalar k.ctx b (auxOscale k.auxB) (epOscale (tkEpi b) == 1)
  let stats (x : List Byte) : Except TileStop (List RowRec) :=
    if kv then (List.range ext.2.1).mapM fun n => s.readRec k.ctx (auxStatIn x) (tkNPad a) t.iter n
    else (List.range nr).mapM fun i => s.readRec k.ctx (auxStatIn x) (tkMPad a) t.iter (r0 + i)
  let recs ← stats k.auxA
  let recsD ← stats k.auxB
  let stat (i c : Nat) : QueryStat :=
    let r := recs.getD (if kv then c else i) emptyRec
    ⟨r.max, r.sum, (recsD.getD (if kv then c else i) emptyRec).sum⟩
  let cols := if kv then ext.2.2 else tkN b
  let blocks := walkBlocks (tkTN a) ext.2.1 (q.itemsA.map fun r => r.take ext.2.2) (q.itemsB.map fun r => r.take (tkK b))
  let start := if kv then (startStates preA nr cols, startStates preB nr (tkN b)) else (startStates preB nr cols, [])
  let (st, f1) := (attBackward a b (sc.getD zero) cols ((q.rowsA.take nr).map fun r => r.take ext.2.2) ((q.rowsB.take nr).map fun r => r.take (tkK b))
    (tileMasked a ext none r0) stat 0 blocks start).run 0
  let (vals, f2) := (oscaleAll b oscB (if kv then st.2 else st.1)).run f1
  let (dk, f3) := (if kv then scaleAll oscA st.1 else pure [] : Fl _).run f2
  let (outK, f4) := (drainRows a a t.iter r0 0 (tkK a) dk).run f3
  let (out, f5) := (drainRows a b t.iter r0 0 (tkNPad b) vals).run f4
  pure (tileOut [(tkDFmt a, flipCodes wrong 0 outK), (tkDFmt b, flipCodes wrong (outK.map fun r => r.codes.length).sum out)] [] f5)

/-- A run of an attention tile (R232). -/
def State.runAttention (s : State) (k : Task) (t : Tile) (q : AttIn) (walk : Option Walk) (wrong : List (Nat × BitVec 64)) : Except TileStop TileOut :=
  if attMode k.a = attFwd then s.runForward k t q walk wrong else s.runBackward k t q wrong

/-- The ranges of a tile's yard reads beside its operands: preload, Z, scale, bias and output scale, records, and the anchor and entries of its snapshot (R133, R137, R142, R208, R258). -/
def Task.readSpans (k : Task) (t : Tile) : List (Nat × Nat) :=
  let r0 := t.y * tkTM k.a
  let rows (ref f pitch : Nat) (st : Nat → Int) (c0 n : Nat) : List (Nat × Nat) :=
    (List.range (tkTM k.a)).map fun i => (rowAddr k.a t.iter (refAddr ref) pitch st (r0 + i) + (spanOf f c0 n).1, (spanOf f c0 n).2)
  let vector (d : List Byte) (ref src : Nat) : List (Nat × Nat) :=
    if src = 0 then [] else [(refAddr ref, packBytes (if src = 1 then 1 else if src = 2 then tkNPad d else tkMPad d) (fmtBits (bits ref 63 60)))]
  let slot (d x : List Byte) (c0 n : Nat) : List (Nat × Nat) :=
    (if tkPreEn d then rows (auxC x) (ncwFmt (tkPreNcw d)) (auxCPitch x) (auxCS x) c0 n else [])
      ++ (if epDeriv (tkEpi d) then rows (auxZ x) (bits (auxZ x) 63 60) (auxZPitch x) (auxZS x) c0 n else [])
      ++ vector d (auxScale x) (epScale (tkEpi d)) ++ vector d (auxBias x) (if epBias (tkEpi d) then 2 else 0) ++ vector d (auxOscale x) (epOscale (tkEpi d))
      ++ (if epStatIn (tkEpi d) then [(refAddr (auxStatIn x) + 48 * (t.iter * tkMPad d + r0), 48 * tkTM d)] else [])
  (if tkOpcode k.a = opAttnA then slot k.a k.auxA 0 (tkK k.a) ++ slot k.b k.auxB 0 (tkNPad k.b)
    else slot (if t.slot = 0 then k.a else k.b) (if t.slot = 0 then k.auxA else k.auxB) (t.x * tkTN (if t.slot = 0 then k.a else k.b)) (tkTN (if t.slot = 0 then k.a else k.b)))
    ++ (match t.walk with
        | some w => (w.anchor, 64) :: w.entries.map fun e => (e.2.1, 16)
        | none => [])

-- Nominal time (R86, R88, R113, R372) ------------------------------------------------------------------------------------------

/-- The CCLK a product tile takes alone. -/
def productTime (d : List Byte) (kExt : Nat) : Nat :=
  let nb := (kExt + 31) / 32
  let p := effWidth (tkSerNcw d)
  let w := effWidth (tkStaNcw d)
  ((blockRows (tkTM d)).map fun r => max (if tkDiag d then diagTime r p w else arrayTime r nb p w) (latheTime (tkEpi d) r)).sum * ((tkTN d + 31) / 32)

/-- Lathe time of r rows of a score block: ACT 7, and in the backward modes the reciprocals of the rows' or the columns' ℓ (R113, R235). -/
def scoreLathe (a : List Byte) (r : Nat) : Nat :=
  16 * r + (if attMode a = attBwdQ then r else if attMode a = attBwdKv then 32 else 0)

/-- Walk blocks of a tile whose products the core performs (R238). -/
def walkedBlocks (a : List Byte) (ext : Nat × Nat × Nat) (t : Tile) : Nat :=
  let r0 := t.y * tkTM a
  let items := walkItems ext t.walk
  ((List.range (ups items (tkTN a))).filter fun b =>
    !wholeMasked (min (tkTM a) (ext.1 - r0)) (min (tkTN a) (items - b * tkTN a))
      fun i c => tileMasked a ext t.walk r0 i (b * tkTN a + c)).length

/-- The CCLK an attention tile takes alone: its products by walk block (R86, R113, R232). -/
def attTime (a b : List Byte) (ext : Nat × Nat × Nat) (t : Tile) : Nat :=
  let wide := (tkTN a + 31) / 32
  let dv := if attMode a = attFwd then tkN b else tkK b
  let prod (nb cols x y : Nat) (lathe : Nat → Nat) : Nat :=
    ((blockRows (tkTM a)).map fun r => max (arrayTime r nb (effWidth x) (effWidth y)) (lathe r)).sum * cols
  let score := prod ((tkK a + 31) / 32) wide (tkSerNcw a) (tkStaNcw a) (scoreLathe a)
  let value := prod wide ((dv + 31) / 32) (tkSerNcw b) (tkStaNcw b) fun _ => 0
  let grad := prod ((dv + 31) / 32) wide (tkSerNcw b) (tkStaNcw b) fun _ => 0
  let last := prod wide ((tkK a + 31) / 32) (tkSerNcw b) (tkStaNcw a) fun _ => 0
  walkedBlocks a ext t * (if attMode a = attFwd then score + value else if attMode a = attBwdQ then score + grad + last else score + value + grad + last)

/-- The nominal time of a tile (R372). -/
def Task.nominal (k : Task) (t : Tile) : Nat :=
  if tkOpcode k.a = opAttnA then attTime k.a k.b (k.shapesA.getD t.iter (0, 0, 0)) t
  else if t.slot = 0 then productTime k.a (k.shapesA.getD t.iter (0, 0, 0)).2.2 else productTime k.b (k.shapesB.getD t.iter (0, 0, 0)).2.2

end Sys2Proof.Machine
end

