-- ==== Sys2Proof/Machine/Scribe.lean ====
section
/-! DEFINITION. The scribe's lists and tasks: reading descriptors, taking, waiting, starting, halting, completing; the commands LOAD_TASKS and LAUNCH (R124 to R152, R256, R364, R391). -/

namespace Sys2Proof.Machine

-- Lists and tasks by number --------------------------------------------------------------------------------

/-- The task list of a context on a bay. -/
def State.list? (s : State) (bay ctx : Nat) : Option TList := s.lists.find? fun l => l.bay == bay && l.ctx == ctx

/-- Replace a task list. -/
def State.setList (s : State) (y : TList) : State :=
  { s with lists := s.lists.map fun l => if l.bay == y.bay && l.ctx == y.ctx then y else l }

/-- A task by the index of its first descriptor. -/
def State.task? (s : State) (bay ctx idx : Nat) : Option Task :=
  match s.list? bay ctx with
  | some l => l.tasks.find? fun k => k.idx == idx
  | none => none

/-- Replace a task. -/
def State.setTask (s : State) (y : Task) : State :=
  match s.list? y.bay y.ctx with
  | some l => s.setList { l with tasks := l.tasks.map fun k => if k.idx == y.idx then y else k }
  | none => s

/-- Change a task. -/
def State.modTask (s : State) (bay ctx idx : Nat) (f : Task → Task) : State :=
  match s.task? bay ctx idx with
  | some k => s.setTask (f k)
  | none => s

/-- The half of a task. -/
def Task.half (k : Task) : Half := bayHalf k.bay

/-- Descriptors a task occupies (R131). -/
def Task.slots (k : Task) : Nat := if tkPair k.a then 2 else 1

/-- Whether one of a task's own reads or writes waits for the joiner. -/
def State.taskHeld (s : State) (k : Task) : Bool :=
  s.faults.any fun f => f.ctx == k.ctx && (f.who == .descriptor k.bay k.idx || f.who == .status 0 k.bay k.idx)

/-- A task's own read or write meets a fault that the joiner may resolve. -/
def State.holdTask (s : State) (k : Task) (addr cause : Nat) (write : Bool) : State :=
  (s.postFault k.ctx addr write cause (.descriptor k.bay k.idx) k.half).2

-- Halting and the end of a LAUNCH (R128, R391, R179) -----------------------------------------------------------

/-- Cancel the current passes of the LOAD streams of a context on a bay (R179). -/
def State.cancelPasses (s : State) (bay ctx : Nat) : State :=
  forAll (s.streams.filter fun x => x.bay == bay && x.ctx == ctx && hdrKind x.hdr == 0 && (x.state == 1 || x.state == 2) && !x.cancelling)
    (fun x t => match t.stream? x.bay x.slot with
      | some y => t.cancelStream y
      | none => t) s

/-- A LAUNCH ends: its completion carries the index and the tasks completed (R391). The list stays loaded. -/
def State.endLaunch (s : State) (l : TList) (status detail idx : Nat) : State :=
  let t := s.setList { l with launch := none, next := 0, fetchNext := 0, ahead := [], tasks := [], halt := none }
  match l.launch with
  | some c => t.complete c.1 c.2 status detail (idx + 65536 * l.completed) 0
  | none => t

/-- A halted list whose started tasks have all completed ends its LAUNCH (R128, R179). -/
def State.checkHalt (s : State) (bay ctx : Nat) : State :=
  match s.list? bay ctx with
  | none => s
  | some l =>
    match l.halt with
    | none => s
    | some h => if l.tasks.isEmpty && l.launch.isSome then (s.cancelPasses bay ctx).endLaunch l h.1 h.2.1 h.2.2 else s

/-- A list halts: nothing further starts, and a task that waits at step 3 stops waiting (R128). -/
def State.haltList (s : State) (bay ctx status detail idx : Nat) : State :=
  match s.list? bay ctx with
  | none => s
  | some l =>
    let t := { s with faults := s.faults.filter fun (f : PFault) => !(f.ctx == ctx && l.ahead.any fun a => f.who == Waiter.descriptor bay a.idx) }
    t.setList { l with halt := some (l.halt.getD (status, detail, idx)), ahead := [], tasks := l.tasks.filter fun (k : Task) => k.phase != TaskPhase.waiting }

-- LEDGER_SWAP that waits (R262) --------------------------------------------------------------------------------------------------------------------

/-- Whether a tile holds a snapshot of an anchor with a ROOT_SEQ. -/
def State.snapshot (s : State) (ctx anchor seq : Nat) : Bool :=
  let hit (w : Option Walk) : Bool := match w with
    | some x => x.anchor == anchor && x.rootSeq == seq
    | none => false
  s.scribe.runs.any (fun r => r.ctx == ctx && hit r.walk)
    || s.scribe.checks.any (fun c => c.ctx == ctx && hit c.tile.walk)
    || s.lists.any fun l => l.ctx == ctx && l.tasks.any fun k => k.todo.any fun t => hit t.walk

/-- Complete the LEDGER_SWAPs whose old snapshots have ended; `moved` holds the old ROOT_SEQ of one that has written its anchor. -/
def State.sweepSwaps (s : State) : State :=
  forAll (List.range 9) (fun n t =>
    forAll ((t.fn n).outstanding.filter fun c => c.opcode == 0x1B && c.phase == .running) (fun c u =>
      if u.snapshot c.ctx (refAddr (c.par 0x10 8)) c.moved then u else u.complete n c.slot stOk 0 ((c.moved + 1) % 65536) 0) t) s

-- Tiles' buffers (R168, R169) ------------------------------------------------------------------------------------

/-- The scribe fetches of a tile of a task. -/
def State.tileFetches (s : State) (k : Task) (t : Tile) : List Fetch :=
  s.fetches.filter fun f => f.bay == k.bay && f.ctx == k.ctx && f.task == k.idx && f.pos == t.pos && f.slot == t.slot

/-- A tile is done with its operands: its handles are returned and its fetched rows given up (R169). -/
def State.freeTile (s : State) (k : Task) (t : Tile) : State :=
  forAll t.handles (fun h x => x.returnBuf k.bay h.2.1 h.2.2) (forAll (s.tileFetches k t) (fun f x => x.dropFetch f.id) s)

/-- The operands of a tile that is no longer to run are returned; its fetches stay until its task completes (R169, R179). -/
def State.returnTile (s : State) (k : Task) (t : Tile) : State := forAll t.handles (fun h x => x.returnBuf k.bay h.2.1 h.2.2) s

/-- A task ends with a STATUS other than DONE and EMPTY: nothing further of it is issued, and its list halts (R128, R152). -/
def State.failTask (s : State) (bay ctx idx status detail : Nat) : State :=
  match s.task? bay ctx idx with
  | none => s
  | some k =>
    if k.status.isSome then s.sweepSwaps
    else
      let t := s.setTask { k with status := some (status, detail), phase := .finishing, todo := [], handleSince := none }
      let u := forAll k.todo (fun x y => y.returnTile k x) t
      (u.haltList bay ctx status detail idx).sweepSwaps

/-- A page fault of a task that stays unresolved ends it with STATUS 4 and is reported (R152, R398). -/
def State.failTaskFault (s : State) (bay ctx idx cause addr : Nat) : State :=
  match s.task? bay ctx idx with
  | none => s
  | some k => (s.failTask bay ctx idx stPageFault cause).faultEvent (ctx + 1) ctx k.half cause 0 (tkTag k.a) addr 0

/-- A task meets a page fault of its own: it waits for the joiner, or ends (R126, R187). -/
def State.taskFault (s : State) (k : Task) (addr cause : Nat) (write : Bool) : State :=
  if resolvable cause then s.holdTask k addr cause write else s.failTaskFault k.bay k.ctx k.idx cause addr

-- Reading and taking tasks (R126, R148) -----------------------------------------------------------------------------

/-- Read a descriptor: its bytes, or the fault it met. -/
def State.readAhead (s : State) (l : TList) (idx : Nat) : State × Ahead :=
  match s.tryRead l.ctx (l.list + 128 * idx) 128 .module with
  | .ok b => (s.countRange l.ctx (l.list + 128 * idx) 128 (bayHalf l.bay), ⟨idx, b, none, none⟩)
  | .error e =>
    if resolvable e.2 then
      let f := s.postFault l.ctx e.1 false e.2 (.descriptor l.bay idx) (bayHalf l.bay)
      (f.2, ⟨idx, [], some f.1, none⟩)
    else (s, ⟨idx, [], none, some e.2⟩)

/-- Whether the descriptor read last is the END. -/
def TList.atEnd (l : TList) : Bool :=
  match l.ahead.getLast? with
  | some h => h.fault.isNone && h.failed.isNone && tkOpcode h.bytes == opEnd
  | none => false

/-- Read the next descriptor, at most 8 ahead (R125, R126). -/
def State.fetchDescriptor (s : State) (bay ctx : Nat) : State :=
  match s.list? bay ctx with
  | none => s
  | some l =>
    if l.launch.isNone || l.halt.isSome || decide (8 ≤ l.ahead.length) || decide (65535 < l.fetchNext) || l.atEnd then s
    else
      let r := s.readAhead l l.fetchNext
      r.1.setList { l with fetchNext := l.fetchNext + 1, ahead := l.ahead ++ [r.2] }

def execDescriptorFetch (bay : Fin 64) (ctx : Fin 8) (s : State) : Result := .next (s.fetchDescriptor bay ctx)

/-- A task as it is taken. -/
def freshTask (l : TList) (idx : Nat) (a b : List Byte) (phase : TaskPhase) (since seq waitLog2 : Nat) (status : Option (Nat × Nat)) : Task :=
  { ctx := l.ctx, bay := l.bay, idx := idx, a := a, b := b, phase := phase, since := since, waitSeq := seq, waitLog2 := waitLog2
    auxA := [], auxB := [], shapesA := [], shapesB := [], todo := [], running := 0, flags := 0, tilesRun := 0, checked := 0, resolved := 0
    firstIssue := none, status := status, partials := [], handleSince := none, appends := [], nextPosA := 0, nextPosB := 0 }

/-- Take a task of n descriptors into the list (R148 steps 1 to 3); a refused one halts the list. -/
def State.enterTask (s : State) (l : TList) (k : Task) (n : Nat) : State :=
  let t := s.setList { l with next := l.next + n, ahead := l.ahead.drop n, tasks := l.tasks ++ [k] }
  match k.status with
  | some st => t.haltList l.bay l.ctx st.1 st.2 k.idx
  | none => t

/-- The task that a descriptor or a pair starts, checked (R148 step 2); a task without WAIT_SEM has started at once (R128). -/
def State.startTask (s : State) (l : TList) (idx : Nat) (a b : List Byte) : State :=
  let n := if tkPair a && decide (idx + 1 < 65535) then 2 else 1
  let now := s.now (bayHalf l.bay)
  if descBad a b idx then s.enterTask l (freshTask l idx a b .finishing now 0 0 (some (stDescInvalid, 0))) n
  else
    let q := s.newId
    let phase := if tkWaitSem a = 0xFF then .reading else .waiting
    q.2.enterTask l (freshTask l idx a b phase now q.1 (s.ctx l.ctx).waitLog2 none) n

/-- A descriptor of the next task could not be read: the task ends with PAGE_FAULT (R126). Its TASK_TAG is a free value (log entry 13). -/
def State.lostTask (s : State) (l : TList) (cause : Nat) : State :=
  let g := s.freeTag
  (g.2.enterTask l (freshTask l l.next (toLE 2 1 ++ toLE 2 g.1 ++ List.replicate 124 0) [] .finishing 0 0 0 (some (stPageFault, cause))) 1).faultEvent
    (l.ctx + 1) l.ctx (bayHalf l.bay) cause 0 g.1 (refAddr (l.list + 128 * l.next)) 0

/-- The _B slot of the next task could not be read: the task, whose _A slot governs it, ends with PAGE_FAULT (R126, R131). -/
def State.lostPair (s : State) (l : TList) (a : List Byte) (cause : Nat) : State :=
  (s.enterTask l (freshTask l l.next a [] .finishing 0 0 0 (some (stPageFault, cause))) 2).faultEvent
    (l.ctx + 1) l.ctx (bayHalf l.bay) cause 0 (tkTag a) (refAddr (l.list + 128 * (l.next + 1))) 0

/-- Whether the previous task lets the next be taken: its last tile issued, or, with DEP_PREV, complete (R148 step 1). -/
def TList.prevDone (l : TList) (dep : Bool) : Bool :=
  l.tasks.all fun k => (k.phase == .issuing || k.phase == .merging || k.phase == .finishing) && k.todo.isEmpty && !(dep && k.idx + k.slots == l.next)

/-- The scribe takes the next task, or, at END, ends the LAUNCH once every task has completed (R148, R391). -/
def State.takeTask (s : State) (bay ctx : Nat) : State :=
  match s.list? bay ctx with
  | none => s
  | some l =>
    if l.launch.isNone || l.halt.isSome then s
    else
      match l.ahead with
      | [] => s
      | h :: rest =>
        if h.fault.isSome then s
        else
          match h.failed with
          | some c => if l.prevDone false then s.lostTask l c else s
          | none =>
            let a := h.bytes
            if tkOpcode a == opEnd && !descBad a [] h.idx then (if l.tasks.isEmpty then s.endLaunch l stOk 0 h.idx else s)
            else if !l.prevDone (tkDepPrev a) then s
            else if tkPair a && decide (h.idx + 1 < 65535) then
              match rest with
              | [] => s
              | g :: _ =>
                if g.fault.isSome then s
                else
                  match g.failed with
                  | some c => s.lostPair l a c
                  | none => s.startTask l h.idx a g.bytes
            else s.startTask l h.idx a []

def execTaskTake (bay : Fin 64) (ctx : Fin 8) (s : State) : Result := .next (s.takeTask bay ctx)

-- Waiting (R148 step 3, R364, R365) --------------------------------------------------------------------------------------

/-- The task of a list that waits at step 3. -/
def State.waiting? (s : State) (bay ctx : Nat) : Option Task :=
  match s.list? bay ctx with
  | some l => l.tasks.find? fun k => k.phase == .waiting
  | none => none

/-- The deadline of a task's wait. -/
def Task.deadline (k : Task) : Option Nat := (logLen k.waitLog2).map fun n => k.since + n

/-- Whether the count a task waits for came by its deadline. -/
def State.inTime (s : State) (k : Task) : Bool :=
  match k.deadline with
  | some d => decide (tkWaitN k.a ≤ s.heldBefore k.ctx k.bay (tkWaitSem k.a) (d + 1))
  | none => true

/-- A waiting task takes its count; an add at the deadline tick wins and is a near-miss (R360, R365). -/
def State.takeWait (s : State) (bay ctx : Nat) : State :=
  match s.waiting? bay ctx with
  | none => s
  | some k =>
    let sem := tkWaitSem k.a
    if !s.mayTake ctx bay sem (tkWaitN k.a) k.waitSeq || !s.inTime k then s
    else
      let t := (s.semTake ctx bay sem (tkWaitN k.a)).setTask { k with phase := .reading }
      if k.deadline.any fun d => decide (s.heldBefore ctx bay sem d < tkWaitN k.a) then t.nearMiss ctx else t

def execTaskWaitTake (bay : Fin 64) (ctx : Fin 8) (s : State) : Result := .next (s.takeWait bay ctx)

/-- A task's wait has passed its deadline (R364). -/
def State.waitLate (s : State) (bay ctx : Nat) : State :=
  match s.waiting? bay ctx with
  | none => s
  | some k =>
    match k.deadline with
    | none => s
    | some d =>
      if s.now k.half ≤ d || (s.inTime k && s.mayTake ctx bay (tkWaitSem k.a) (tkWaitN k.a) k.waitSeq) then s
      else (s.setTask { k with phase := .reading }).failTask bay ctx k.idx stWaitTimeout 0

def execTaskWaitTimeout (bay : Fin 64) (ctx : Fin 8) (s : State) : Result := .next (s.waitLate bay ctx)

-- Fetching ahead (R160, R198) ----------------------------------------------------------------------------------------------

/-- The operands a tile of a task takes: number 2 × slot + (0: A; 1: B) and reference (R234). -/
def tileOperands (k : Task) (t : Tile) : List (Nat × Nat) :=
  if tkOpcode k.a = opAttnA then
    (0, tkARef k.a) :: (if attMode k.a = attFwd then [] else [(2, tkARef k.b)]) ++ (if attLedger k.a then [] else [(1, tkBRef k.a), (3, tkBRef k.b)])
  else
    let d := if t.slot = 0 then k.a else k.b
    [(2 * t.slot, tkARef d), (2 * t.slot + 1, tkBRef d)]

/-- The stored rows of an operand that the scribe asks for: of a product tile, all; of an attention tile, the tile rows, or the first walk block of the walked items; operands 5 and 7 are the further walk blocks (R160, R236). -/
def operandRows (k : Task) (t : Tile) (o : Nat) : List (Nat × Nat) :=
  if tkOpcode k.a = opAttnA then
    let slotB : Bool := o % 4 == 3
    let n := (walkedShape k.a k.b slotB).1
    if o % 2 = 0 then operandSpans k.a (if o = 0 then k.a else k.b) false t
    else if o < 4 then walkedSpans k.a k.b slotB t.iter 0 (min (tkTN k.a) n)
    else walkedSpans k.a k.b slotB t.iter (tkTN k.a) (n - tkTN k.a)
  else operandSpans k.a (if t.slot = 0 then k.a else k.b) (o % 2 == 1) t

/-- Bytes of a tile's outputs in their destination formats. -/
def Task.outBytes (k : Task) (t : Tile) : Nat :=
  if tkOpcode k.a = opAttnA then attOuts k.a k.b else tileBytesD (if t.slot = 0 then k.a else k.b)

/-- Bytes a context holds in a bay's operand pool: fetched rows, the walk blocks of an operand taking one another's place, and the two staged outputs of each checked tile (R198, R236). -/
def State.poolUsed (s : State) (bay ctx : Nat) : Nat :=
  ((s.fetches.filter fun f => f.bay == bay && f.ctx == ctx && decide (f.operand < 4)).map fun f => (f.rows.map Prod.snd).sum).sum
    + ((s.scribe.checks.filter fun c => c.bay == bay && c.ctx == ctx).map fun c =>
        match s.task? bay ctx c.task with
        | some k => 2 * k.outBytes c.tile
        | none => 0).sum

/-- A scribe fetch of some rows for a tile, unless it stands or has no row. -/
def State.addFetch (s : State) (k : Task) (t : Tile) (o : Nat) (rows : List (Nat × Nat)) : State :=
  if rows.isEmpty || (s.tileFetches k t).any (fun f => f.operand == o) then s
  else
    let q := s.newId
    { q.2 with fetches := q.2.fetches ++ [{ id := q.1, bay := k.bay, ctx := k.ctx, task := k.idx, pos := t.pos, slot := t.slot, operand := o, rows := rows }] }

/-- Ask the auger for one operand of a tile, if the pool has room; the first tile's always has (R198). -/
def State.fetchOperand (s : State) (k : Task) (t : Tile) (o : Nat) (first : Bool) : State :=
  let rows := operandRows k t o
  if !first && decide (4096 * (s.ctx k.ctx).res.oppool < s.poolUsed k.bay k.ctx + (rows.map Prod.snd).sum) then s else s.addFetch k t o rows

/-- Ask the auger for the operands of the next four tiles of a task (R160). -/
def State.fetchTiles (s : State) (bay ctx idx : Nat) : State :=
  match s.task? bay ctx idx with
  | none => s
  | some k =>
    forAll ((k.todo.take 4).zipIdx) (fun x y =>
      forAll ((tileOperands k x.1).filter fun o => refQueue o.2 == 0) (fun o z => z.fetchOperand k x.1 o.1 (x.2 == 0)) y) s

/-- Ask the auger for the further walk blocks of a running attention tile; of a ledger walk, for the rows its entries name, once all of them are read (R160, R236, R258). -/
def State.fetchWalk (s : State) (k : Task) (t : Tile) : State :=
  if tkOpcode k.a != opAttnA then s
  else if attLedger k.a then
    match t.walk with
    | none => s
    | some w =>
      match decide (w.entries.length = w.count), s.anchor k.ctx w.anchor with
      | true, .ok x => (s.addFetch k t 5 (x.spans k.a t.iter w 0)).addFetch k t 7 (x.spans k.a t.iter w 1)
      | _, _ => s
  else forAll ((tileOperands k t).filter fun o => o.1 % 2 == 1 && refQueue o.2 == 0) (fun o y => y.addFetch k t (o.1 + 4) (operandRows k t (o.1 + 4))) s

-- Starting (R148 steps 4 and 5, R146, R256) -----------------------------------------------------------------------------------

/-- An error of a task's start: a page fault, or the STATUS it ends with. -/
abbrev Start (α : Type) := Except TileStop α

/-- The auxiliary record of a slot. -/
def State.readAux (s : State) (ctx : Nat) (d : List Byte) : Start (List Byte) := if tkAux d = 0 then pure [] else s.tileRead ctx (tkAux d) 96

/-- The declared extents of a slot by iteration (R145, R146). -/
def State.readShapes (s : State) (ctx iters : Nat) (d x : List Byte) : Start (List (Nat × Nat × Nat)) :=
  match tkShapeMode d with
  | 0 => pure (List.replicate iters (tkM d, tkN d, tkK d))
  | m =>
    (List.range iters).mapM fun j => do
      let b ← s.tileRead ctx (refAddr (auxShape x) + (if m = 1 then 0 else 8 * j)) 8
      match shapeOf d (leNat b) with
      | some e => pure e
      | none => throw (.ends stShapeOver 0)

/-- What step 4 of R148 reads and checks, in its order. -/
def State.readStart (s : State) (k : Task) : Start Task := do
  let xa ← s.readAux k.ctx k.a
  let xb ← if tkPair k.a then s.readAux k.ctx k.b else pure []
  if auxesBad k.a k.b xa xb then throw (.ends stDescInvalid 0)
  let sa ← s.readShapes k.ctx (tkIters k.a) k.a xa
  let sb ← if tkPair k.a then s.readShapes k.ctx (tkIters k.a) k.b xb else pure []
  if 4096 * (s.ctx k.ctx).res.oppool < poolBytes k.a k.b then throw (.ends stDescInvalid 0)
  pure { k with auxA := xa, auxB := xb, shapesA := sa, shapesB := sb }

/-- A task reaches step 5: its tiles may be issued. -/
def State.openTask (s : State) (k : Task) : State :=
  (s.setTask { k with
    phase := .issuing, todo := taskTiles k.a k.b k.shapesA k.shapesB
    handleSince := some (s.now k.half, (s.ctx k.ctx).handleLog2) }).fetchTiles k.bay k.ctx k.idx

/-- The task of a list in a phase. -/
def State.inPhase? (s : State) (bay ctx : Nat) (p : TaskPhase) : Option Task :=
  match s.list? bay ctx with
  | some l => l.tasks.find? fun k => k.phase == p
  | none => none

/-- Iterations of an append that take part (R371): index and declared M. -/
def Task.appending (k : Task) : List (Nat × Nat) :=
  ((k.shapesA.zipIdx).filter fun e => !emptyShape e.1).map fun e => (e.2, e.1.1)

/-- The ranges that the start of a task reads: its auxiliary records and shape words (R133, R145, R208). -/
def Task.startSpans (k : Task) : List (Nat × Nat) :=
  let slot (d x : List Byte) : List (Nat × Nat) :=
    (if tkAux d = 0 then [] else [(tkAux d, 96)])
      ++ (match tkShapeMode d with
          | 0 => []
          | 1 => [(refAddr (auxShape x), 8)]
          | _ => [(refAddr (auxShape x), 8 * tkIters k.a)])
  slot k.a k.auxA ++ if tkPair k.a then slot k.b k.auxB else []

/-- Step 4 of R148: the auxiliary records, the shape words and the operand pool are checked. -/
def State.readTask (s : State) (bay ctx : Nat) : State :=
  match s.inPhase? bay ctx .reading with
  | none => s
  | some k =>
    if s.taskHeld k then s
    else if tkOpcode k.a = opNop then s.setTask { k with phase := .finishing, status := some (stOk, 0) }
    else
      match s.readStart k with
      | .error (.fault a c) => s.taskFault k a c false
      | .error (.ends st d) => s.failTask bay ctx k.idx st d
      | .ok y =>
        let t := s.countSpans k.ctx y.startSpans k.half
        if tkAppends k.a && !y.appending.isEmpty then t.setTask { y with phase := .locking } else t.openTask y

/-- Write the 16-byte unit of an anchor (R251). -/
def State.writeUnit (s : State) (ctx a root length seq : Nat) (busy : Bool) (h : Half) : Start State :=
  match s.tryWrite ctx a (toLE 8 root ++ toLE 8 (length + 2 ^ 32 * seq + 2 ^ 48 * b2n busy)) false false h .module with
  | .ok t => pure t
  | .error f => throw (.fault f.1 f.2)

/-- The anchor that an append names for an iteration (R255). -/
def Task.anchorAt (k : Task) (j : Nat) : Nat := refAddr (tkDRef k.a) + 64 * j

/-- The check of an append's anchor before any BUSY is set: it is legal and fits the task (R252, R255). -/
def State.checkAnchor (s : State) (k : Task) (e : Nat × Nat) : Start Unit := do
  let x ← s.anchor k.ctx (k.anchorAt e.1)
  if !x.legal || tkN k.a != 2 * x.heads * x.width || tkDFmt k.a != x.fmt then throw (.ends stDescInvalid 0)

/-- Step 1 of R256 for one iteration: BUSY is set, unless it is set already. -/
def State.lockAnchor (k : Task) (acc : State × List (Nat × Nat × Nat × Nat)) (e : Nat × Nat) : Start (State × List (Nat × Nat × Nat × Nat)) := do
  let a := k.anchorAt e.1
  let x ← acc.1.anchor k.ctx a
  if x.busy then throw (.ends stRace a)
  let t ← acc.1.writeUnit k.ctx a x.root x.length x.rootSeq true k.half
  pure (t, acc.2 ++ [(e.1, a, x.length, e.2)])

/-- Step 2 of R256: the array covers the new tokens with valid entries. -/
def State.roomAt (s : State) (k : Task) (e : Nat × Nat × Nat × Nat) : Start Unit := do
  let x ← s.anchor k.ctx e.2.1
  if x.entries * x.tpp < e.2.2.1 + e.2.2.2 then throw (.fault (x.root + 16 * (x.entries)) pfHole)
  let first := e.2.2.1 / x.tpp
  let last := (e.2.2.1 + e.2.2.2 - 1) / x.tpp
  let _ ← (List.range (last + 1 - first)).mapM fun i => do
    let b ← s.tileRead k.ctx (x.root + 16 * (first + i)) 16
    if (entryPage b).isNone then throw (.fault (x.root + 16 * (first + i)) pfHole) else pure ()
  pure ()

/-- The LEDGER_RACE event (R259, R398). -/
def State.raceEvent (s : State) (k : Task) (anchor entry was now : Nat) : State :=
  s.postCtx k.ctx 4 k.half (toLE 2 (tkTag k.a) ++ toLE 2 k.idx ++ toLE 8 anchor ++ toLE 4 entry ++ toLE 2 was ++ toLE 2 now)

/-- An append locks its anchors: all of them, or none (R256 steps 1 and 2). -/
def State.lockTask (s : State) (bay ctx : Nat) : State :=
  match s.inPhase? bay ctx .locking with
  | none => s
  | some k =>
    if s.taskHeld k then s
    else
      match (do
        let _ ← k.appending.mapM (s.checkAnchor k)
        let r ← k.appending.foldlM (State.lockAnchor k) (s, [])
        let _ ← r.2.mapM (r.1.roomAt k)
        pure r : Start (State × List (Nat × Nat × Nat × Nat))) with
      | .error (.fault a c) => s.taskFault k a c true
      | .error (.ends st d) => if st = stRace then (s.raceEvent k d max32 0 0).failTask bay ctx k.idx stRace 0 else s.failTask bay ctx k.idx st d
      | .ok r => r.1.openTask { k with appends := r.2 }

-- Commands (R391) -----------------------------------------------------------------------------------------------------------------

/-- LOAD_TASKS. -/
def State.loadTasks (s : State) (n : Nat) (c : Cmd) : State :=
  let bay := c.par 8 1
  let list := c.par 0x10 8
  let area := c.par 0x18 8
  if decide (63 < bay) || !s.inMask c.ctx bay || list % 128 != 0 || area % 16 != 0 || refHigh list != 0 || refHigh area != 0 then s.invalid n c 3
  else if s.lists.any fun l => l.bay == bay && l.ctx == c.ctx && l.launch.isSome then s.done n c.slot stListBusy 0
  else
    let l : TList := { bay := bay, ctx := c.ctx, list := list, status := area, launch := none, next := 0, fetchNext := 0, ahead := [], tasks := [], halt := none, completed := 0 }
    ({ s with lists := (s.lists.filter fun (y : TList) => !(y.bay == bay && y.ctx == c.ctx)) ++ [l] }).done n c.slot stOk 0

def execLoadTasks (fn : Fin 9) (slot : Fin 4096) (s : State) : Result := .next (s.begin fn slot 0x13 0 fun c t => t.loadTasks fn c)

/-- LAUNCH START: the loaded list runs from descriptor 0. -/
def State.launch (s : State) (n : Nat) (c : Cmd) : State :=
  let bay := c.par 8 1
  if 63 < bay then s.invalid n c 3
  else
    match s.list? bay c.ctx with
    | none => s.invalid n c 4
    | some l =>
      if l.launch.isSome then s.done n c.slot stListBusy 0
      else (s.setList { l with launch := some (n, c.slot), next := 0, fetchNext := 0, ahead := [], tasks := [], halt := none, completed := 0 }).setCmd n c.slot { c with phase := .running }

def execLaunchStart (fn : Fin 9) (slot : Fin 4096) (s : State) : Result := .next (s.begin fn slot 0x14 0 fun c t => t.launch fn c)

/-- The first task of a list that has not started (R391). -/
def TList.firstUnstarted (l : TList) : Nat :=
  match l.tasks.find? fun k => k.phase == .waiting with
  | some k => k.idx
  | none => l.next

/-- LAUNCH HALT: the list halts, and its LAUNCH completes with ABORTED once the started tasks have completed (R391). -/
def State.haltLaunch (s : State) (n : Nat) (c : Cmd) : State :=
  let bay := c.par 8 1
  if 63 < bay then s.invalid n c 3
  else
    match s.list? bay c.ctx with
    | none => s.invalid n c 4
    | some l =>
      if l.launch.isNone then s.invalid n c 4
      else ((s.haltList bay c.ctx stAborted 0 l.firstUnstarted).done n c.slot stOk 0).checkHalt bay c.ctx

def execLaunchHalt (fn : Fin 9) (slot : Fin 4096) (s : State) : Result := .next (s.begin fn slot 0x14 1 fun c t => t.haltLaunch fn c)

end Sys2Proof.Machine
end

