-- ==== Sys2Proof/Machine/Issue.lean ====
section
/-! DEFINITION. Tiles on cores: issue by class and turn, LC claims, abandonment, handles in order, runs and their ends, spot checks, ledger rechecks, merged row statistics, completion of tasks (R143, R150 to R157, R168, R195, R259, R349 to R354, R364, R372). -/

namespace Sys2Proof.Machine

-- Cores (R29, R143) ----------------------------------------------------------------------------------------------

/-- Whether a core's bench is mapped (R212). -/
def State.benchMapped (s : State) (core : Nat) : Bool :=
  s.pages.any fun p => p.mapped && attrTier p.attr == 1 && 416 * attrBay p.attr + attrCore p.attr == core

/-- Whether a core may take a tile now. -/
def State.coreFree (s : State) (core : Nat) : Bool :=
  s.coreGood core && !s.benchMapped core && !s.scribe.runs.any fun r => r.core == core

/-- The lowest free good core of a bay. -/
def State.freeCore (s : State) (bay : Nat) : Option Nat := ((List.range 416).map (416 * bay + ·)).find? s.coreFree

/-- Change the scribe-wide state. -/
def State.modScribe (s : State) (f : Scribe → Scribe) : State := { s with scribe := f s.scribe }

/-- The run on a core. -/
def State.run? (s : State) (core : Nat) : Option Run := s.scribe.runs.find? fun r => r.core == core

/-- A run leaves its core, with the faults it waits for. -/
def State.delRun (s : State) (core : Nat) : State :=
  { s with scribe := { s.scribe with runs := s.scribe.runs.filter fun r => r.core != core },
           faults := s.faults.filter fun f => f.who != .tile core }

/-- A check by its number. -/
def State.check? (s : State) (id : Nat) : Option Check := s.scribe.checks.find? fun c => c.id == id

/-- Replace a check. -/
def State.setCheck (s : State) (y : Check) : State :=
  s.modScribe fun x => { x with checks := x.checks.map fun c => if c.id == y.id then y else c }

/-- Drop a check with its runs. -/
def State.delCheck (s : State) (id : Nat) : State :=
  let t := forAll (s.scribe.runs.filter fun r => r.check == some id) (fun r x => x.delRun r.core) s
  { t with scribe := { t.scribe with checks := t.scribe.checks.filter fun c => c.id != id },
           faults := t.faults.filter fun f => f.who != .check id }

-- Handles in order (R168) -----------------------------------------------------------------------------------------------

/-- The handle queues a slot of a task takes from. -/
def Task.queues (k : Task) (sl : Nat) : List Nat :=
  (((tileOperands k { slot := sl, iter := 0, x := 0, y := 0, pos := 0 }).filter fun o => o.1 / 2 == sl).map fun o => refQueue o.2).filter (· != 0)

/-- Tile positions passed of a slot, and all of them. -/
def Task.posOf (k : Task) (sl : Nat) : Nat := if sl = 0 then k.nextPosA else k.nextPosB
def Task.positions (k : Task) (sl : Nat) : Nat := if sl = 0 then slotPositions k.a k.a else if tkPair k.a then slotPositions k.a k.b else 0
def Task.setPos (k : Task) (sl n : Nat) : Task := if sl = 0 then { k with nextPosA := n } else { k with nextPosB := n }

/-- Whether a tile counts for a slot's positions: an attention tile counts for both. -/
def Task.counts (k : Task) (t : Tile) (sl : Nat) : Bool := tkOpcode k.a == opAttnA || t.slot == sl

/-- The position up to which skipped ones are passed: that of the slot's next tile, or the end. -/
def Task.stopPos (k : Task) (sl : Nat) : Nat :=
  match k.todo.find? fun t => k.counts t sl && !t.issued with
  | some t => t.pos
  | none => k.positions sl

/-- Whether every tile position of a task has been passed. -/
def Task.posDone (k : Task) : Bool := decide (k.positions 0 ≤ k.nextPosA) && decide (k.positions 1 ≤ k.nextPosB)

/-- Whether an earlier task of the list has still to take from a queue of this one. -/
def State.behind (s : State) (k : Task) : Bool :=
  match s.list? k.bay k.ctx with
  | none => false
  | some l => l.tasks.any fun j =>
      decide (j.idx < k.idx) && j.status.isNone && !j.posDone
        && (k.queues 0 ++ k.queues 1).any fun q => (j.queues 0 ++ j.queues 1).contains q

/-- Take and return the handles of one skipped position; none while one is not delivered. -/
def State.passOne (s : State) (k : Task) (sl : Nat) : Option State :=
  (k.queues sl).foldlM (fun t q =>
    match t.headHandle k.bay k.ctx q with
    | some h => some ((t.popHandle h).returnBuf k.bay h.slot h.buf)
    | none => none) s

/-- Pass the skipped positions of a slot as far as handles are delivered; n bounds how many. -/
def State.passPos (s : State) (bay ctx idx sl : Nat) : Nat → State
  | 0 => s
  | n + 1 =>
    match s.task? bay ctx idx with
    | none => s
    | some k =>
      if k.phase != .issuing || k.stopPos sl ≤ k.posOf sl || s.behind k then s
      else if (k.queues sl).isEmpty then s.setTask (k.setPos sl (k.stopPos sl))
      else
        match s.passOne k sl with
        | none => s
        | some t => (t.modTask bay ctx idx fun j => j.setPos sl (k.posOf sl + 1)).passPos bay ctx idx sl n

/-- Pass the skipped positions of every task of a list (R143, R147). -/
def State.passList (s : State) (bay ctx : Nat) : State :=
  match s.list? bay ctx with
  | none => s
  | some l => forAll l.tasks (fun k t => (t.passPos bay ctx k.idx 0 (t.handles.length + 1)).passPos bay ctx k.idx 1 (t.handles.length + 1)) s

-- Readiness of a tile (R188, R351, R364) --------------------------------------------------------------------------------------

/-- What the operands of a tile stand at: delivered, with their handles and the tick of the last; not yet; or never, with the STATUS the task ends with, its cause and address. -/
inductive Ready where
  | now (handles : List (Nat × Nat × Nat)) (tick : Nat)
  | wait
  | ended (status cause : Nat) (addr : Option Nat)
  deriving DecidableEq, Repr

/-- The LOAD stream that feeds a queue. -/
def State.feeder (s : State) (bay ctx queue : Nat) : Option Stream :=
  s.streams.find? fun x => x.bay == bay && x.ctx == ctx && hdrKind x.hdr == 0 && hdrQueue x.hdr == queue

/-- Whether a handle's buffer stands full. -/
def State.bufFull (s : State) (h : Handle) : Bool :=
  match s.stream? h.bay h.slot with
  | some x =>
    match tfind x.bufs h.buf with
    | some b => b.use == 2
    | none => false
  | none => false

/-- Whether a handle's buffer is being fetched again: its consumer waits (R183, R200). -/
def State.bufAgain (s : State) (h : Handle) : Bool :=
  match s.stream? h.bay h.slot with
  | some x =>
    match tfind x.bufs h.buf with
    | some b => b.use == 4
    | none => false
  | none => false

/-- A queue has nothing for its consumer: it waits, unless the stream is FAULTED (R188). -/
def State.starved (s : State) (k : Task) (queue : Nat) : Ready :=
  match s.feeder k.bay k.ctx queue with
  | some x => if x.state == 3 then .ended x.code x.cause none else .wait
  | none => .wait

/-- The state of a tile's operands, taken in order. -/
def State.operandsReady (s : State) (k : Task) (t : Tile) : List (Nat × Nat) → List Handle → List (Nat × Nat × Nat) → Nat → Ready
  | [], _, got, tick => .now got tick
  | (o, ref) :: rest, hs, got, tick =>
    if refQueue ref = 0 then
      match (s.tileFetches k t).find? fun f => f.operand == o with
      | none => .wait
      | some f =>
        match f.failed, f.doneAt with
        | some x, _ => .ended x.1 x.2.1 (some x.2.2)
        | none, some d => if f.complete then s.operandsReady k t rest hs got (max tick d) else .wait
        | none, none => .wait
    else
      match hs.find? fun h => h.bay == k.bay && h.ctx == k.ctx && h.queue == refQueue ref with
      | some h =>
        if s.bufFull h then s.operandsReady k t rest (hs.erase h) (got ++ [(o, h.slot, h.buf)]) (max tick h.tick)
        else if s.bufAgain h then .wait else s.starved k (refQueue ref)
      | none => s.starved k (refQueue ref)

/-- The deadline of a task's handle wait (R364). -/
def Task.handleDeadline (k : Task) : Option Nat :=
  match k.handleSince with
  | some w => (logLen w.2).map fun n => w.1 + n
  | none => none

/-- Whether a tile may be issued: one issued before keeps its operands; buffers delivered after the deadline come too late (R354, R365). -/
def State.tileReady (s : State) (k : Task) (t : Tile) : Ready :=
  if t.issued then .now t.handles 0
  else if s.behind k || (List.range 2).any fun sl => k.counts t sl && decide (k.posOf sl < t.pos) then .wait
  else
    match s.operandsReady k t (tileOperands k t) s.handles [] 0 with
    | .now hs tick =>
      match k.handleDeadline with
      | some d => if d < tick then .wait else .now hs tick
      | none => .now hs tick
    | r => r

/-- The task of a context on a bay whose tile is next. -/
def State.issuing? (s : State) (bay ctx : Nat) : Option Task :=
  match s.list? bay ctx with
  | some l => l.tasks.find? fun k => k.phase == .issuing && k.status.isNone && !k.todo.isEmpty
  | none => none

/-- What a context may run next on a bay: a run of a check, or the next tile of its list. -/
inductive Cand where
  | check (c : Check) (role : Nat)
  | tile (k : Task) (t : Tile) (handles : List (Nat × Nat × Nat)) (tick : Nat)
  deriving DecidableEq, Repr

/-- A run of a check that waits for a core of a bay (R155). -/
def State.checkRun (s : State) (bay ctx : Nat) : Option (Check × Nat) :=
  (s.scribe.checks.filter fun c => c.ctx == ctx).findSome? fun c =>
    (c.bays.find? fun b => b.2 == bay && !(c.results.any fun r => r.1 == b.1)
      && !(s.scribe.runs.any fun r => r.check == some c.id && r.role == b.1)).map fun b => (c, b.1)

/-- The candidate of a context on a bay. -/
def State.cand (s : State) (bay ctx : Nat) : Option Cand :=
  match s.checkRun bay ctx with
  | some x => some (.check x.1 x.2)
  | none =>
    match s.issuing? bay ctx with
    | none => none
    | some k =>
      match k.todo with
      | [] => none
      | t :: _ =>
        match s.tileReady k t with
        | .now hs tick => some (.tile k t hs tick)
        | _ => none

-- LC claims and abandonment (R352 to R354) --------------------------------------------------------------------------------------------

/-- An LC claim ends when its context has no issuable tile left. -/
def State.endClaim (s : State) (bay : Nat) : State :=
  match (s.bay bay).claim with
  | some c => if (s.cand bay c.ctx).isNone then s.setBay bay { s.bay bay with claim := none } else s
  | none => s

/-- A run stops and its tile goes back to the head of its task's order, its operands kept; a run of a check is repeated (R195, R354). -/
def State.returnRun (s : State) (r : Run) : State :=
  let t := s.delRun r.core
  match r.check with
  | some id =>
    match t.check? id with
    | some c => t.setCheck { c with tile := { c.tile with walk := c.tile.walk.or r.walk } }
    | none => t
  | none =>
    match t.task? r.bay r.ctx r.task with
    | none => t
    | some k =>
      let x := { r.tile with walk := r.walk }
      if k.status.isSome then (t.freeTile k x).modTask r.bay r.ctx r.task fun j => { j with running := j.running - 1 }
      else t.setTask { k with todo := x :: k.todo, running := k.running - 1 }

/-- The BE run of a bay to abandon next: the unprotected one started last. -/
def State.victim (s : State) (bay : Nat) : Option Run :=
  (s.scribe.runs.filter fun r => coreBay r.core == bay && (s.ctx r.ctx).be && !r.isProtected).foldl (fun b r =>
    match b with
    | none => some r
    | some x => if x.seq < r.seq then some r else some x) none

/-- Abandon a BE run for a claim. -/
def State.abandon (s : State) (r : Run) : State :=
  (s.returnRun r).modCtx r.ctx fun c => { c with abandoned := satAdd max16 c.abandoned 1 }

/-- 500 ticks after a claim started, BE runs are abandoned for it (R352). -/
def State.forceClaim (s : State) (bay : Nat) : State :=
  match (s.bay bay).claim with
  | none => s
  | some c =>
    if c.forced || s.now (bayHalf bay) < c.since + 500 then s
    else
      let t := s.setBay bay { s.bay bay with claim := some { c with forced := true } }
      if (t.cand bay c.ctx).isNone || (t.freeCore bay).isSome then t
      else
        match t.victim bay with
        | some r => t.abandon r
        | none => t

def execLcClaimTimeout (bay : Fin 64) (s : State) : Result := .next (s.forceClaim bay)

-- Issue (R143, R153, R155, R351) -----------------------------------------------------------------------------------------------------------

/-- Whether a run of a tile is protected: its task's preload C coincides with D (R139, R353). -/
def Task.isProtected (k : Task) (t : Tile) : Bool :=
  let one (d x : List Byte) : Bool :=
    tkPreEn d && refAddr (auxC x) == refAddr (tkDRef d) && auxCPitch x == tkDPitch d && (List.range 3).all fun l => auxCS x l == tkDS d l
  if tkOpcode k.a = opAttnA then one k.a k.auxA || one k.b k.auxB
  else if t.slot = 0 then one k.a k.auxA else one k.b k.auxB

/-- The banks of a core as its tile starts: one takes the first output block, the others are idle; what follows lies within the one step that ends the tile (R58). -/
def startBanks (preload : Bool) : List BankState := [if preload then .preloading else .accumulating, .idle, .idle, .idle]

/-- A run starts on a core. -/
def State.addRun (s : State) (core : Nat) (k : Task) (t : Tile) (check : Option Nat) (role : Nat) : State :=
  let q := s.newId
  let r : Run := { core := core, bay := k.bay, ctx := k.ctx, task := k.idx, tile := t, check := check, role := role, seq := q.1
                   start := s.now (bayHalf (coreBay core)), isProtected := k.isProtected t, walk := t.walk, out := none
                   banks := startBanks (tkPreEn (if t.slot = 0 then k.a else k.b)) }
  q.2.modScribe fun x => { x with runs := x.runs ++ [r] }

/-- The next bay in rotation of a bay's half with a good core, other than some (R155). -/
def State.nextBay (s : State) (own last : Nat) (not_ : List Nat) : Option Nat :=
  ((List.range 32).map fun i => own / 32 * 32 + (last + 1 + i) % 32).find? fun b =>
    !not_.contains b && (List.range 416).any fun c => s.coreGood (416 * b + c)

/-- The bay of the next duplicate or third run of a bay's check, and the rotation moved on. -/
def State.dupBay (s : State) (own : Nat) (not_ : List Nat) : Option (Nat × State) :=
  (s.nextBay own ((s.bay own).lastDup) not_).map fun b => (b, s.setBay own { s.bay own with lastDup := b })

/-- The rate of R153 for a task: the smaller of SPOT and the context's. -/
def State.spotLog2 (s : State) (k : Task) : Nat :=
  let rate := tget s.scribe.rate k.ctx 10
  let n := bits (tkSpot k.a) 3 0
  if n = 0 then rate else min n rate

/-- Start a tile's run on a core of its bay, with a duplicate when it is drawn for a check (R153, R155). A tile that is issued again after it was abandoned unchecked is drawn anew, and one drawn while no other bay of the half has a good core runs unchecked: the rules say neither (log entries 172 and 173). -/
def State.startTile (s : State) (k : Task) (t : Tile) (core : Nat) : State :=
  let g := s.newId
  if Config.spotDraw g.1 k.bay (s.spotLog2 k) then
    match g.2.dupBay k.bay [k.bay] with
    | none => g.2.addRun core k t none 0
    | some d =>
      let q := d.2.newId
      let c : Check := { id := q.1, bay := k.bay, ctx := k.ctx, task := k.idx, tile := t, results := [], bays := [(0, k.bay), (1, d.1)] }
      let u := q.2.modScribe fun x => { x with checks := x.checks ++ [c], tiles := (x.tiles + 1) % 2 ^ 64 }
      (u.modTask k.bay k.ctx k.idx fun j => { j with checked := satAdd max16 j.checked 1 }).addRun core k t (some q.1) 0
  else g.2.addRun core k t none 0

/-- A stale buffer among the handles a tile would take (R183). -/
def State.staleHandle (s : State) (k : Task) (hs : List (Nat × Nat × Nat)) : Option (Stream × Nat × Buf × List (Nat × Nat)) :=
  hs.findSome? fun h =>
    match s.stream? k.bay h.2.1 with
    | none => none
    | some x =>
      match tfind x.bufs h.2.2 with
      | none => none
      | some b =>
        let v := s.staleGens k.ctx b
        if hdrCheckGen x.hdr && !v.isEmpty then some (x, h.2.2, b, v) else none

/-- Take the handles of a tile off their queues; their buffers are in use. -/
def State.takeHandles (s : State) (k : Task) (hs : List (Nat × Nat × Nat)) : State :=
  forAll hs (fun h t =>
    let u := { t with handles := t.handles.filter fun g => !(g.bay == k.bay && g.ctx == k.ctx && g.slot == h.2.1 && g.buf == h.2.2) }
    match u.stream? k.bay h.2.1 with
    | none => u
    | some x =>
      match tfind x.bufs h.2.2 with
      | none => u
      | some b => u.setStream { x with bufs := tset x.bufs h.2.2 { b with use := 3 } }) s

/-- The snapshot a tile takes at its start, with the entries that can be read then; where the anchor cannot be read, none yet (R258). -/
def State.startWalk (s : State) (k : Task) (t : Tile) : Except (Nat × Nat) (Option Walk) :=
  if !tkWalks k.a || t.walk.isSome then .ok t.walk
  else
    match s.takeWalk k.ctx k.a t.iter with
    | .ok w => .ok (some (s.fillWalk k.ctx w).1)
    | .error (.fault _ _) => .ok none
    | .error (.ends st d) => .error (st, d)

/-- The task after one of its tiles is issued. -/
def Task.afterIssue (k : Task) (t : Tile) (now handleLog2 : Nat) : Task :=
  { k with
    todo := k.todo.drop 1
    running := k.running + 1
    tilesRun := if t.issued then k.tilesRun else min max32 (k.tilesRun + 1)
    firstIssue := some (k.firstIssue.getD now)
    handleSince := some (now, handleLog2)
    nextPosA := if !t.issued && k.counts t 0 then k.nextPosA + 1 else k.nextPosA
    nextPosB := if !t.issued && tkPair k.a && k.counts t 1 then k.nextPosB + 1 else k.nextPosB }

/-- Issue a task's next tile to a core; a stale buffer is fetched again first (R143, R183). -/
def State.issueTile (s : State) (k : Task) (t : Tile) (hs : List (Nat × Nat × Nat)) (tick core : Nat) : State :=
  match (if t.issued then none else s.staleHandle k hs) with
  | some x => s.startRefetch x.1 x.2.1 x.2.2.1 x.2.2.2
  | none =>
    match s.startWalk k t with
    | .error e => s.failTask k.bay k.ctx k.idx e.1 e.2
    | .ok w =>
      let now := s.now k.half
      let u := if t.issued then s else s.takeHandles k hs
      let x := { t with handles := hs, walk := w, issued := true }
      let v := u.setTask (k.afterIssue t now (s.ctx k.ctx).handleLog2)
      let y := if !t.issued && k.handleDeadline == some tick && tick != 0 then v.nearMiss k.ctx else v
      ((y.startTile k x core).fetchWalk k x).fetchTiles k.bay k.ctx k.idx

/-- Run a candidate on a core. -/
def State.runCand (s : State) (c : Cand) (core : Nat) : State :=
  match c with
  | .check x role =>
    match s.task? x.bay x.ctx x.task with
    | some k => s.addRun core k x.tile (some x.id) role
    | none => s.delCheck x.id
  | .tile k t hs tick => s.issueTile k t hs tick core

/-- The first context of a class in turn with a candidate: its number and candidate (R351). -/
def State.turn (s : State) (bay last : Nat) (be : Bool) : Option (Nat × Cand) :=
  ((List.range 8).map fun i => (last + 1 + i) % 8).findSome? fun c =>
    if (s.ctx c).be == be then (s.cand bay c).map fun x => (c, x) else none

/-- Tasks whose next tile can never have its operands end (R152, R188). -/
def State.failStarved (s : State) (bay : Nat) : State :=
  forAll (List.range 8) (fun c t =>
    match t.issuing? bay c with
    | none => t
    | some k =>
      match k.todo with
      | [] => t
      | x :: _ =>
        match t.tileReady k x with
        | .ended st cause (some a) => if st = stPageFault then t.failTaskFault bay c k.idx cause a else t.failTask bay c k.idx st 0
        | .ended st cause none => t.failTask bay c k.idx st (if st = stPageFault then cause else 0)
        | _ => t) s

/-- An LC candidate finds a free core, or starts or presses a claim (R352). -/
def State.issueLc (s : State) (bay ctx : Nat) (c : Cand) : State :=
  let b := s.bay bay
  match s.freeCore bay with
  | some core => (s.setBay bay { b with lastLc := ctx }).runCand c core
  | none =>
    match b.claim with
    | none => s.setBay bay { b with claim := some ⟨ctx, s.now (bayHalf bay), false⟩ }
    | some k =>
      if !k.forced then s
      else
        match s.victim bay with
        | none => s
        | some r =>
          let t := s.abandon r
          match t.freeCore bay with
          | some core => (t.setBay bay { t.bay bay with lastLc := ctx }).runCand c core
          | none => t

/-- Issue one tile on a bay: an LC one if any is issuable, a BE one otherwise (R351). -/
def State.tileIssue (s : State) (bay : Nat) : State :=
  if !s.bayRuns bay then s
  else
    let t := (forAll (List.range 8) (fun c x => x.passList bay c) s).failStarved bay
    let b := t.bay bay
    (match t.turn bay b.lastLc false with
    | some x => t.issueLc bay x.1 x.2
    | none =>
      match t.turn bay b.lastBe true, t.freeCore bay with
      | some x, some core => if b.claim.isSome then t else (t.setBay bay { b with lastBe := x.1 }).runCand x.2 core
      | _, _ => t).endClaim bay

/-- An LC claim starts when an LC context has an issuable tile and no core of the bay is free (R352). -/
def State.noticeClaim (s : State) (bay : Nat) : State :=
  match (s.bay bay).claim, s.turn bay (s.bay bay).lastLc false with
  | none, some x => if !s.bayRuns bay || (s.freeCore bay).isSome then s else s.setBay bay { s.bay bay with claim := some ⟨x.1, s.now (bayHalf bay), false⟩ }
  | _, _ => s

def execTaskStartRead (bay : Fin 64) (ctx : Fin 8) (s : State) : Result := .next ((s.readTask bay ctx).noticeClaim bay)

def execLedgerAppendLock (bay : Fin 64) (ctx : Fin 8) (s : State) : Result := .next ((s.lockTask bay ctx).noticeClaim bay)

/-- The bay that a line request serves. -/
def State.reqBay (s : State) (id : Nat) : Nat :=
  match s.req? id with
  | some r => r.bay
  | none => 0

def execLineRequestComplete (request : Nat) (outcome : LineOutcome) (s : State) : Result :=
  .next ((s.completeReq request outcome).noticeClaim (s.reqBay request))

def execYardReadRetryDone (request : Nat) (outcome : LineOutcome) (s : State) : Result :=
  .next ((s.retryDone request outcome).noticeClaim (s.reqBay request))

def execTileIssue (bay : Fin 64) (s : State) : Result := .next ((s.tileIssue bay).noticeClaim bay)

/-- A task's next buffer has not been delivered by the deadline (R364). -/
def State.handleLate (s : State) (bay ctx idx : Nat) : State :=
  match s.task? bay ctx idx with
  | none => s
  | some k =>
    match k.todo, k.handleDeadline with
    | t :: _, some d =>
      if k.phase != .issuing || k.status.isSome || t.issued || s.now k.half ≤ d then s
      else
        match s.tileReady k t with
        | .wait => s.failTask bay ctx idx stWaitTimeout 0
        | _ => s
    | _, _ => s

def execHandleWaitTimeout (bay : Fin 64) (ctx : Fin 8) (index : Fin 65536) (s : State) : Result := .next (s.handleLate bay ctx index)

-- Writing outputs (R138) ----------------------------------------------------------------------------------------------------------------------

/-- Masked bytes joined by address. -/
def overlay (l : List (Nat × Byte × Byte)) : Table (Byte × Byte) :=
  l.foldl (fun t e =>
    let o := tget t e.1 (0, 0)
    tset t e.1 (o.1 ||| e.2.1, (o.2 &&& ~~~e.2.1) ||| (e.2.2 &&& e.2.1))) []

/-- Bytes at rising addresses joined into runs. -/
def joinRuns : List (Nat × Byte) → List (Nat × List Byte)
  | [] => []
  | (a, b) :: r =>
    match joinRuns r with
    | (c, bs) :: rest => if c = a + 1 then (a, b :: bs) :: rest else (a, [b]) :: (c, bs) :: rest
    | [] => [(a, [b])]

/-- Write a tile's outputs: all of them, or none and the first fault. -/
def State.writeOut (s : State) (ctx : Nat) (o : TileOut) (h : Half) : Except (Nat × Nat) State :=
  (joinRuns ((overlay o.bytes).map fun e => (e.1, (s.byteAt ctx e.1 &&& ~~~e.2.1) ||| (e.2.2 &&& e.2.1)))).foldlM
    (fun t r => t.tryWrite ctx r.1 r.2 false false h .module) s

/-- The slot of a key of partial records, its descriptor and its auxiliary record. -/
def Task.statSlot (k : Task) (key : Nat) : List Byte × List Byte := if key % 2 = 0 then (k.a, k.auxA) else (k.b, k.auxB)

/-- The scratch area of a slot's statistics: address and bytes (R142). -/
def Task.scratch (k : Task) (key : Nat) : Nat × Nat :=
  let d := (k.statSlot key).1
  let n := tkIters k.a * tkMPad d
  (refAddr (auxStatOut (k.statSlot key).2) + 48 * n, 48 * n * ((tkNPad d + 31) / 32))

/-- A task whose tiles keep partial records in the scratch area: an attention task's records are final as its tiles leave them (R115, R240). -/
def Task.keepsPartials (k : Task) : Bool := tkOpcode k.a != opAttnA

/-- The first fault of the scratch area of a slot, which partial records are written to and read back from (R115). -/
def State.scratchFault (s : State) (k : Task) (key : Nat) (write : Bool) : Option (Nat × Nat) :=
  if k.keepsPartials then s.rangeFault k.ctx (k.scratch key).1 (k.scratch key).2 write .module else none

/-- A tile's outputs are released: written, its peg raised, its flags and records kept, its handles returned, its time metered (R150, R151, R372). -/
def State.release (s : State) (k : Task) (t : Tile) (o : TileOut) : Except (Nat × Nat) State := do
  let full := if o.partials.isEmpty then none else s.scratchFault k t.slot true
  if let some f := full then throw f
  let u ← s.writeOut k.ctx o k.half
  let v := u.modTask k.bay k.ctx k.idx fun j =>
    { j with flags := j.flags ||| o.flags, running := j.running - 1
             partials := j.partials ++ o.partials.map fun p => (2 * p.1 + t.slot, p.2.1, p.2.2.1, p.2.2.2) }
  let q := v.newId
  let w := (q.2.freeTile k t).modCtx k.ctx fun c =>
    let m := c.meter.get k.half
    { c with meter := c.meter.set k.half (m.1 + k.nominal t, m.2.1 + Config.measuredCclk q.1, m.2.2 + 1) }
  let d := if t.slot = 0 then k.a else k.b
  pure (if tkPegTile k.a = 0xFFFF then w else w.raiseTile k.ctx (tkPegTile k.a) (t.iter * tkGM d + t.y))

/-- A tile of a task that ends writes nothing: its run or check is dropped and its operands are returned. -/
def State.dropTile (s : State) (r : Run) : State :=
  let t := match r.check with
    | some id => s.delCheck id
    | none => s.delRun r.core
  match t.task? r.bay r.ctx r.task with
  | none => t
  | some k => (t.freeTile k r.tile).modTask r.bay r.ctx r.task fun j => { j with running := j.running - 1 }

/-- A run meets a page fault: it waits for the joiner, or its task ends (R152). -/
def State.tileFault (s : State) (r : Run) (addr cause : Nat) (write : Bool) : State :=
  if resolvable cause then (s.postFault r.ctx addr write cause (.tile r.core) (bayHalf (coreBay r.core))).2
  else (s.dropTile r).failTaskFault r.bay r.ctx r.task cause addr

-- Ends of runs (R154, R155, R259) ------------------------------------------------------------------------------------------------------------------------

/-- The bytes of a queued operand's buffer. -/
def State.queuedData (s : State) (k : Task) (t : Tile) (o : Nat) : Option Memory :=
  match t.handles.find? fun h => h.1 == o with
  | none => none
  | some h =>
    match s.stream? k.bay h.2.1 with
    | none => none
    | some x => (tfind x.bufs h.2.2).map Buf.data

/-- The bytes of row i of a scribe fetch of a tile. -/
def State.fetchRow (s : State) (k : Task) (t : Tile) (o i : Nat) : List Byte :=
  match (s.tileFetches k t).find? fun f => f.operand == o with
  | some f => memReadN f.buf.raw (rawKey i 0) (f.rows.getD i (0, 0)).2
  | none => []

/-- The bytes of item i of a walked operand: its first walk block, then the further ones. -/
def State.walkRow (s : State) (k : Task) (t : Tile) (o i : Nat) : List Byte :=
  if i < tkTN k.a then s.fetchRow k t o i else s.fetchRow k t (o + 4) (i - tkTN k.a)

/-- A product operand of a tile, or the tile rows of an attention slot: from its handle's buffer, or from its scribe fetch. -/
def State.tileOperand (s : State) (k : Task) (t : Tile) (d : List Byte) (o : Nat) : List (List Num) :=
  match s.queuedData k t o with
  | some m => queuedOperand d (o % 2 == 1) m
  | none => operandOf d (o % 2 == 1) t (s.fetchRow k t o)

/-- The walked items of an attention slot: from its handle's buffer, or from its scribe fetches. -/
def State.walkedOperand (s : State) (k : Task) (t : Tile) (slotB : Bool) : List (List Num) :=
  let o := if slotB then 3 else 1
  match s.queuedData k t o with
  | some m => queuedWalk k.a k.b slotB m
  | none => walkedOf k.a k.b slotB (s.walkRow k t o)

/-- The operands of an attention tile. -/
def State.attIn (s : State) (k : Task) (t : Tile) (walk : Option Walk) : Except TileStop AttIn := do
  let rowsA := s.tileOperand k t k.a 0
  match walk with
  | some w => do
    let x ← s.anchor k.ctx w.anchor
    pure ⟨rowsA, x.rowsOf w.length (s.fetchRow k t 5), [], x.rowsOf w.length (s.fetchRow k t 7)⟩
  | none =>
    pure ⟨rowsA, s.walkedOperand k t false, if attMode k.a = attFwd then [] else s.tileOperand k t k.b 2, s.walkedOperand k t true⟩

/-- What a run of a tile computes, with the snapshot it walks. -/
def State.runTile (s : State) (k : Task) (t : Tile) (walk : Option Walk) (wrong : List (Nat × BitVec 64)) : Except TileStop TileOut := do
  if tkOpcode k.a = opAttnA then
    let q ← s.attIn k t walk
    s.runAttention k t q walk wrong
  else
    let d := if t.slot = 0 then k.a else k.b
    s.runProduct k t (s.tileOperand k t d (2 * t.slot)) (s.tileOperand k t d (2 * t.slot + 1)) wrong

/-- The snapshot of a walking run, taken if it is not, with its entries read as far as they can be (R258). -/
def State.runWalk (s : State) (k : Task) (r : Run) : Option Walk × Option TileStop :=
  if !tkWalks k.a then (r.walk, none)
  else
    match (match r.walk with
      | some w => pure w
      | none => s.takeWalk k.ctx k.a r.tile.iter : Except TileStop Walk) with
    | .error e => (none, some e)
    | .ok w => (some (s.fillWalk k.ctx w).1, (s.fillWalk k.ctx w).2)

/-- Replace a run. -/
def State.setRun (s : State) (y : Run) : State := s.modScribe fun x => { x with runs := x.runs.map fun r => if r.core == y.core then y else r }

/-- A core passes to an LC claim when a BE tile ends on it (R374). -/
def State.yieldCore (s : State) (r : Run) : State :=
  if (s.bay (coreBay r.core)).claim.isSome && (s.ctx r.ctx).be then s.modCtx r.ctx fun c => { c with yielded := satAdd max16 c.yielded 1 } else s

/-- A run has ended with its result: a checked one waits for the others, an unchecked one releases its outputs (R155). -/
def State.endRun (s : State) (k : Task) (r : Run) (o : TileOut) : State :=
  match r.check with
  | some id =>
    let t := (s.delRun r.core).yieldCore r
    match t.check? id with
    | some c => (t.setCheck { c with results := c.results ++ [(r.role, r.core, o)], tile := { c.tile with walk := c.tile.walk.or r.walk } }).endClaim (coreBay r.core)
    | none => t
  | none =>
    match s.release k { r.tile with walk := r.walk } o with
    | .error f => s.tileFault r f.1 f.2 true
    | .ok t =>
      (((t.delRun r.core).yieldCore r).modScribe fun x => { x with unchecked := tbump x.unchecked r.core max16 }).sweepSwaps.endClaim (coreBay r.core)

/-- A run cannot go on: it waits for the joiner, or its task ends (R152, R258). -/
def State.stopRun (s : State) (r : Run) : TileStop → State
  | .fault a c => s.tileFault r a c false
  | .ends st d => (s.dropTile r).failTask r.bay r.ctx r.task st d

/-- Whether a buffer that a tile holds is being fetched again after a loft error (R200). -/
def State.operandAgain (s : State) (k : Task) (t : Tile) : Bool :=
  t.handles.any fun h => match (s.stream? k.bay h.2.1).bind fun x => tfind x.bufs h.2.2 with
    | some b => b.use == 5
    | none => false

/-- Whether a buffer that a tile holds is gone: its loft error came again (R200). -/
def State.operandLost (s : State) (k : Task) (t : Tile) : Bool :=
  t.handles.any fun h => ((s.stream? k.bay h.2.1).bind fun x => tfind x.bufs h.2.2).isNone

/-- A core finishes the arithmetic of its tile once every walk block has been fetched; `wrong` inverts bits of its outputs, by output number. -/
def State.tileDone (s : State) (core : Nat) (wrong : List (Nat × BitVec 64)) : State :=
  match s.run? core with
  | none => s
  | some r =>
    match s.task? r.bay r.ctx r.task with
    | none => s.delRun core
    | some k =>
      if r.out.isSome || s.operandAgain k r.tile || s.faults.any fun f => f.who == .tile core then s
      else if s.operandLost k r.tile then (s.dropTile r).failTaskFault r.bay r.ctx r.task pfLoft 0
      else
        let w := s.runWalk k r
        let y := { r with walk := w.1 }
        let t := s.setRun y
        match w.2 with
        | some e => t.stopRun y e
        | none =>
          let u := t.fetchWalk k { r.tile with walk := w.1 }
          let fs := u.tileFetches k r.tile
          match fs.findSome? Fetch.failed with
          | some x => (u.dropTile y).failTaskFault r.bay r.ctx r.task x.2.1 x.2.2
          | none =>
            if !fs.all Fetch.complete then u
            else
              match u.runTile k r.tile w.1 wrong with
              | .error e => u.stopRun y e
              | .ok o =>
                let v := u.countSpans k.ctx (k.readSpans { r.tile with walk := w.1 }) k.half
                if tkWalks k.a then v.setRun { y with out := some o } else v.endRun k y o

def execTileDone (core : CoreId) (wrong : List (Nat × BitVec 64)) (s : State) : Result := .next ((s.tileDone core wrong).noticeClaim (coreBay core.val))

/-- The first recorded entry of a walk that a second read finds changed: its number, its ESEQ as recorded and now. -/
def State.walkChanged (s : State) (ctx : Nat) (w : Walk) : Except TileStop (Option (Nat × Nat × Nat)) :=
  w.entries.foldlM (fun r e =>
    match r with
    | some x => pure (some x)
    | none => do
      let b ← s.tileRead ctx e.2.1 16
      pure (if b.take 10 == e.2.2.take 10 then none else some (e.1, fld e.2.2 8 2, fld b 8 2))) none

/-- A walking tile has read its entries again: LEDGER_RACE, or its result stands (R259). -/
def State.recheck (s : State) (core : Nat) : State :=
  match s.run? core with
  | none => s
  | some r =>
    match r.out, r.walk, s.task? r.bay r.ctx r.task with
    | some o, some w, some k =>
      if s.faults.any fun f => f.who == .tile core then s
      else
        match s.walkChanged r.ctx w with
        | .error e => s.stopRun r e
        | .ok none => (s.countSpans k.ctx (w.entries.map fun e => (e.2.1, 16)) k.half).endRun k r o
        | .ok (some x) => ((s.raceEvent k w.anchor x.1 x.2.1 x.2.2).dropTile r).failTask r.bay r.ctx r.task stRace 0
    | _, _, _ => s

def execLedgerRecheckDone (core : CoreId) (s : State) : Result := .next ((s.recheck core).noticeClaim (coreBay core.val))

/-- A core's bench fails parity: its run is abandoned, its tile reissued, the core set aside (R195). -/
def State.parityFail (s : State) (core : Nat) : State :=
  match s.run? core with
  | none => s
  | some r => (s.returnRun r).modScribe fun x => { x with setAside := x.setAside ++ [core] }

def execBenchParityFail (core : CoreId) (s : State) : Result := .next (s.parityFail core)

-- Spot checks (R155 to R157) --------------------------------------------------------------------------------------------------------------------------------

/-- The result of a role. -/
def Check.role (c : Check) (n : Nat) : Option (Nat × TileOut) := (c.results.find? fun r => r.1 == n).map Prod.snd

/-- The SDC_DETECTED event, to the context's function and PF0 (R156, R398). -/
def State.sdcEvent (s : State) (k : Task) (c : Check) (resolved : Bool) (unchecked : Nat) : State :=
  let cores := ((List.range 3).map fun i => toLE 2 (((c.role i).map Prod.fst).getD 0xFFFF)).flatten
  let p := toLE 2 (tkTag k.a) ++ toLE 2 k.idx ++ toLE 2 c.tile.x ++ toLE 2 c.tile.y ++ toLE 4 c.tile.iter ++ cores ++ toLE 1 (b2n resolved) ++ toLE 2 unchecked
  (s.postCtx k.ctx 3 k.half p).postPf0 3 k.ctx k.half p

/-- A comparison has decided: the cores that agreed have no unchecked tiles left (R155, R156). -/
def State.agreed (s : State) (c : Check) (agree : List Nat) : State :=
  (s.setCheck { c with decided := true }).modScribe fun x => { x with unchecked := x.unchecked.filter fun e => !agree.contains e.1 }

/-- A check ends with nothing released: its operands are returned (R155, R157). -/
def State.dropCheck (s : State) (k : Task) (c : Check) : State :=
  ((s.delCheck c.id).freeTile k c.tile).modTask c.bay c.ctx c.task fun j => { j with running := j.running - 1 }

/-- Release the outputs of a checked tile. -/
def State.releaseCheck (s : State) (k : Task) (c : Check) (o : TileOut) : State :=
  match s.release k c.tile o with
  | .error f =>
    if resolvable f.2 then (s.postFault c.ctx f.1 true f.2 (.check c.id) k.half).2
    else (s.dropCheck k c).failTaskFault c.bay c.ctx c.task f.2 f.1
  | .ok t => (t.delCheck c.id).sweepSwaps

/-- Compare the two runs of a checked tile (R155 steps 2 and 3). Where they differ and no third bay of the half has a good core, the check waits for one: the rule does not say (log entry 172). -/
def State.spotCompare (s : State) (id : Nat) : State :=
  match s.check? id with
  | none => s
  | some c =>
    match s.task? c.bay c.ctx c.task, c.role 0, c.role 1 with
    | some k, some p, some d =>
      if c.bays.any (fun b => b.1 == 2) || s.faults.any fun f => f.who == .check id then s
      else if p.2.prints == d.2.prints then (if c.decided then s else s.agreed c [p.1, d.1]).releaseCheck k c p.2
      else
        match s.dupBay c.bay (c.bays.map Prod.snd) with
        | none => s
        | some b => b.2.setCheck { c with bays := c.bays ++ [(2, b.1)] }
    | _, _, _ => s

def execSpotCheckCompare (check : Nat) (s : State) : Result := .next (s.spotCompare check)

/-- UNCHECKED of a core that lost a majority: the tiles it completed since its last agreeing check, and the unchecked one it still holds (R156, R157). -/
def State.uncheckedOf (s : State) (core : Nat) : Nat :=
  satAdd max16 (tget s.scribe.unchecked core 0) (s.scribe.runs.filter fun r => r.core == core && r.check.isNone).length

/-- A majority stands against one core: the core is quarantined and the event raised at once, whatever becomes of the outputs (R155 step 4, R45). -/
def State.outvoted (s : State) (k : Task) (c : Check) (agree : List Nat) (bad : Nat) : State :=
  ((((s.agreed c agree).modTask c.bay c.ctx c.task fun j => { j with resolved := satAdd max16 j.resolved 1 }).modScribe fun x =>
    { x with sdcResolved := satAdd max16 x.sdcResolved 1 }).sdcEvent k c true (s.uncheckedOf bad)).retireCore bad 2

/-- The outputs of an agreeing pair are released after the core that disagreed is quarantined (R155 step 4). -/
def State.majority (s : State) (k : Task) (c : Check) (o : TileOut) (agree : List Nat) (bad : Nat) : State :=
  (if c.decided then s else s.outvoted k c agree bad).releaseCheck k c o

/-- The third run of a checked tile decides (R155 steps 4 and 5). -/
def State.thirdCompare (s : State) (id : Nat) : State :=
  match s.check? id with
  | none => s
  | some c =>
    match s.task? c.bay c.ctx c.task, c.role 0, c.role 1, c.role 2 with
    | some k, some p, some d, some x =>
      if s.faults.any fun f => f.who == .check id then s
      else if x.2.prints == p.2.prints then s.majority k c p.2 [p.1, x.1] d.1
      else if x.2.prints == d.2.prints then s.majority k c d.2 [d.1, x.1] p.1
      else
        (((s.dropCheck k c).modScribe fun y => { y with sdcUnresolved := satAdd max16 y.sdcUnresolved 1 }).sdcEvent k c false 0).failTask c.bay c.ctx c.task stSdc 0
    | _, _, _, _ => s

def execSpotCheckThirdCompare (check : Nat) (s : State) : Result := .next (s.thirdCompare check)

/-- A double-bit error in loft data: what a transfer fills or a page holds; the staged outputs of a checked tile, whose task ends with STATUS 4; a descriptor read ahead, whose task does when it is taken (R152, R200). -/
def State.loftHit (s : State) (target : LoftTarget) : State :=
  match target with
  | .staged id =>
    match s.check? id with
    | none => s
    | some c =>
      match s.task? c.bay c.ctx c.task with
      | some k => if c.results.isEmpty then s else (s.dropCheck k c).failTaskFault c.bay c.ctx c.task pfLoft 0
      | none => s
  | .descriptor bay ctx idx =>
    match s.list? bay ctx with
    | none => s
    | some l => s.setList { l with ahead := l.ahead.map fun a => if a.idx == idx.val && a.fault.isNone then { a with failed := some pfLoft } else a }
  | t => s.loftBad t

def execLoftUncorrectable (target : LoftTarget) (s : State) : Result := .next (s.loftHit target)

-- Row statistics (R115, R142) --------------------------------------------------------------------------------------------------------------------------------------

/-- The final record of one row: its address, bytes and flags. An attention row's record is final as its tile leaves it (R240). -/
def State.finalRow (s : State) (k : Task) (key m : Nat) : Start (Nat × List Byte × BitVec 8) := do
  let d := (k.statSlot key).1
  let x := (k.statSlot key).2
  let j := key / 2
  let at_ := refAddr (auxStatOut x) + 48 * (j * tkMPad d + m)
  let parts := ((k.partials.filter fun p => p.1 == key && p.2.1 == m).mergeSort fun a b => decide (a.2.2.1 ≤ b.2.2.1)).map fun p => p.2.2.2
  if tkOpcode k.a = opAttnA then pure (at_, parts.headD [], 0)
  else do
    let start ← if epStatIn (tkEpi d) then s.readRec k.ctx (auxStatIn x) (tkMPad d) j m else pure emptyRec
    let r := (if epOnline (tkEpi d) then mergeOnlines start (parts.map recOf) else do
      let a ← mergeRecs start (parts.map recOf)
      finalRec a : Fl RowRec).run 0
    pure (at_, recBytes r.1 false, r.2)

/-- Write the final records of a task; the scratch area holds what the device left there (R115; log entry 13). -/
def State.writeStats (s : State) (k : Task) : Start State := do
  let rows := (k.partials.map fun p => (p.1, p.2.1)).dedup
  let recs ← rows.mapM fun r => s.finalRow k r.1 r.2
  let q := s.newId
  let put (t : State) (a : Nat) (bs : List Byte) : Start State := match t.tryWrite k.ctx a bs false false k.half .module with
    | .ok u => pure u
    | .error f => throw (.fault f.1 f.2)
  let t ← (if k.keepsPartials then (rows.map fun r => r.1 % 2).dedup else []).foldlM (fun t key =>
    put t (k.scratch key).1 ((List.range (k.scratch key).2).map fun i => Config.freeByte q.1 (2 * i + key))) q.2
  let u ← recs.foldlM (fun t r => put t r.1 r.2.1) t
  pure (u.setTask { k with phase := .finishing, status := some (stOk, 0), partials := [], flags := recs.foldl (fun f r => f ||| r.2.2) k.flags })

/-- Whether every tile of a task is done and every position passed. -/
def Task.tilesDone (k : Task) : Bool := k.phase == .issuing && k.status.isNone && k.todo.isEmpty && k.running == 0 && k.posDone

/-- The partial records of a task are merged (R115). -/
def State.mergeStats (s : State) (bay ctx idx : Nat) : State :=
  let t := s.passList bay ctx
  match t.task? bay ctx idx with
  | none => t
  | some k =>
    if !k.tilesDone || k.partials.isEmpty || t.taskHeld k then t
    else
      match ((k.partials.map fun p => p.1 % 2).dedup).findSome? fun key => t.scratchFault k key false with
      | some f => t.taskFault k f.1 f.2 false
      | none => match t.writeStats k with
      | .error (.fault a c) => t.taskFault k a c true
      | .error (.ends st d) => t.failTask bay ctx idx st d
      | .ok u => u

def execRowStatsMergeDone (bay : Fin 64) (ctx : Fin 8) (index : Fin 65536) (s : State) : Result := .next (s.mergeStats bay ctx index)

-- Completion (R127, R128, R150, R480) ------------------------------------------------------------------------------------------------------------------------------------

/-- The status entry of a task (R127). -/
def Task.record (k : Task) (status now : Nat) : List Byte :=
  toLE 1 status ++ toLE 1 k.flags.toNat ++ toLE 2 (tkTag k.a) ++ toLE 4 k.tilesRun ++ toLE 2 k.checked ++ toLE 2 k.resolved
    ++ toLE 4 (match k.firstIssue with
      | some t => min max32 (now - t)
      | none => 0)

/-- Write STATE of the anchors an append holds: the new LENGTH where it succeeds, BUSY cleared (R256 step 4). -/
def State.unlock (s : State) (k : Task) (good : Bool) : Start State :=
  k.appends.foldlM (fun t e => do
    let x ← t.anchor k.ctx e.2.1
    t.writeUnit k.ctx e.2.1 x.root (if good then e.2.2.1 + e.2.2.2 else x.length) x.rootSeq false k.half) s

/-- A task leaves its list with the scribe fetches it has left (R179); a halted list that has no task left ends its LAUNCH. -/
def State.leaveTask (s : State) (bay ctx idx : Nat) (wrote : Bool) : State :=
  match s.list? bay ctx with
  | none => s
  | some l =>
    let t := forAll (s.fetches.filter fun f => f.bay == bay && f.ctx == ctx && f.task == idx) (fun f y => y.dropFetch f.id) s
    (t.setList { l with tasks := l.tasks.filter fun (k : Task) => k.idx != idx, completed := l.completed + b2n wrote }).checkHalt bay ctx

/-- TASK_DONE, where the task asks for it (R150 step 4). -/
def State.taskEvent (s : State) (k : Task) (status : Nat) : State :=
  if tkIrq k.a then s.postCtx k.ctx 1 k.half (toLE 2 (tkTag k.a) ++ toLE 2 k.idx ++ toLE 1 k.bay ++ toLE 1 status) else s

/-- The status entry could not be written: the task ends as STATUS 4 would end it, and the fault is reported (R480). -/
def State.endUnwritten (s : State) (k : Task) (addr cause : Nat) : State :=
  let t := s.haltList k.bay k.ctx stPageFault cause k.idx
  ((t.faultEvent (k.ctx + 1) k.ctx k.half cause 0 (tkTag k.a) addr 0).taskEvent k stPageFault).leaveTask k.bay k.ctx k.idx false

/-- After the status entry: PEG_DONE, POST and the event, in order; a failed task takes only the last (R150). -/
def State.afterRecord (s : State) (k : Task) (status : Nat) : State :=
  let t := if status ≤ 1 then
      let a := if tkPegTile k.a = 0xFFFF || tkOpcode k.a == opNop then s else s.tilesOver k.ctx (tkPegTile k.a)
      let b := if tkPegDone k.a = 0xFFFF then a else a.raisePeg k.ctx (tkPegDone k.a) 1
      if tkPostSem k.a = 0xFF then b else b.semAdd k.ctx k.bay (tkPostSem k.a) (tkPostN k.a)
    else s
  (t.taskEvent k status).leaveTask k.bay k.ctx k.idx true

/-- Write a task's status entry and act on it; a write that faults waits for the joiner (R150, R480). -/
def State.writeRecord (s : State) (k : Task) (status : Nat) : State :=
  match s.list? k.bay k.ctx with
  | none => s
  | some l =>
    match s.tryWrite k.ctx (l.status + 16 * k.idx) (k.record status (s.now k.half)) false false k.half .module with
    | .ok t => t.afterRecord k status
    | .error f => if resolvable f.2 then (s.postFault k.ctx f.1 true f.2 (.status 0 k.bay k.idx) k.half).2 else s.endUnwritten k f.1 f.2

/-- The STATUS and detail a task ends with, once it may end. -/
def Task.ending (k : Task) : Option (Nat × Nat) :=
  match k.status with
  | some st => if k.running = 0 then some st else none
  | none =>
    if k.tilesDone && k.partials.isEmpty then
      some (if (k.shapesA ++ (if tkOpcode k.a = opAttnA then [] else k.shapesB)).all emptyShape then stEmpty else stOk, 0)
    else none

/-- End a task: its anchors are released before its status entry is written. -/
def State.endTask (s : State) (k : Task) (st : Nat × Nat) : State :=
  match s.unlock k (decide (st.1 ≤ 1)) with
  | .ok t => (t.setTask { k with appends := [] }).writeRecord { k with appends := [] } st.1
  | .error (.fault a c) =>
    if resolvable c then s.holdTask k a c true
    else if st.1 ≤ 1 then (s.setTask { k with appends := [], status := none }).failTaskFault k.bay k.ctx k.idx c a
    else s.setTask { k with appends := [] }
  | .error (.ends _ _) => s.setTask { k with appends := [] }

/-- A task completes (R150). -/
def State.completeTask (s : State) (bay ctx idx : Nat) : State :=
  let t := s.passList bay ctx
  match t.task? bay ctx idx with
  | none => t
  | some k =>
    if t.taskHeld k then t
    else
      match k.ending with
      | some st => t.endTask k st
      | none => t

def execTaskComplete (bay : Fin 64) (ctx : Fin 8) (index : Fin 65536) (s : State) : Result := .next (s.completeTask bay ctx index)

end Sys2Proof.Machine
end

