-- ==== Sys2Proof/Machine/Plane.lean ====
section
/-! DEFINITION. The Plane unit: descriptors, the NORM and UPDATE passes, the step record, status records and release (R282 to R298, R392). -/

namespace Sys2Proof.Machine

-- Descriptors (R283 to R285) --------------------------------------------------------------------------

/-- Whether a needed base is absent, misaligned or has bits above an address. -/
def baseBad (r align : Nat) : Bool := r == 0 || r % align != 0 || refHigh r != 0

/-- Whether a header is refused (R285). -/
def plHeaderBad (h : List Byte) : Bool :=
  decide (1 < plKind h) || decide (1 < plOpt h) || (plKind h == 0 && plOpt h != 0) || decide (65536 < plEntries h)
    || baseBad (plStep h) 64 || baseBad (plStatus h) 16
    || (if plKind h = 0 then decide (256 < plScanCount h) || plScan h % 16 != 0 || refHigh (plScan h) != 0 else plScan h != 0 || plScanCount h != 0)
    || decide (63 < plBay h) || decide (63 < plWaitSem h) || plWaitN h == 0
    || (decide (63 < plPostSem h) && plPostSem h != 0xFF) || (plPostN h == 0 && plPostSem h != 0xFF)
    || fld h 0x1F 1 != 0 || !zeroAt h 0x28 24

/-- Whether an entry is refused (R284, R285): the alignment of an array is its elements' size, and 64 bytes for P. -/
def plEntryBad (h e : List Byte) : Bool :=
  let g := peGFmt e
  !(g == 0 || g == 1 || g == 2 || g == 10) || decide (1 < fld e 0xC 1) || !zeroAt e 0xD 3 || !zeroAt e 0x38 8
    || (if peRing e then decide (31 < peG e) else baseBad (peG e) (fmtBytes g))
    || (if plKind h = 0 then !zeroAt e 5 7 || !zeroAt e 0x18 32
        else
          decide (1 < pePFmt e) || decide (1 < peMvFmt e) || (decide (4 < peWFmt e) && peWFmt e != 0xFF)
            || baseBad (peP e) 64 || baseBad (peM e) (fmtBytes (peMvFmt e))
            || (if plOpt h = 0 then baseBad (peV e) (fmtBytes (peMvFmt e)) else peV e != 0)
            || (if peWFmt e = 0xFF then peW e != 0 else baseBad (peW e) (fmtBytes (peWFmt e))))

-- Records (R294) --------------------------------------------------------------------------------------------

/-- An armed Plane descriptor of a context. -/
def State.plane? (s : State) (ctx id : Nat) : Option Plane := tfind (s.ctx ctx).planes id

def State.setPlane (s : State) (ctx id : Nat) (p : Plane) : State := s.modCtx ctx fun c => { c with planes := tset c.planes id p }

/-- The half in which a Plane pass counts ticks and reports its faults: that of its semaphores' bay. -/
def Plane.half (p : Plane) : Half := bayHalf (plBay p.hdr)

/-- The status record (R294). -/
def Plane.record (p : Plane) : List Byte :=
  toLE 1 p.state ++ toLE 1 p.code ++ toLE 2 (plTag p.hdr) ++ toLE 4 p.passes ++ toLE 1 p.outcome ++ toLE 3 0 ++ toLE 4 p.unchanged

/-- Store a Plane descriptor and write its status record; a write that faults waits for the joiner (R294, R480). -/
def State.putPlane (s : State) (ctx id : Nat) (p : Plane) : State :=
  let t := s.setPlane ctx id p
  match t.tryWrite ctx (refAddr (plStatus p.hdr)) p.record false false p.half .module with
  | .ok u => u
  | .error f => (t.postFault ctx f.1 true f.2 (.status 2 0 id) p.half).2

/-- Disarm a Plane descriptor. -/
def State.freePlane (s : State) (ctx id : Nat) : State := s.modCtx ctx fun c => { c with planes := tdel c.planes id }

/-- A Plane descriptor is released: its record says so, and it is disarmed once that is written (R294, R392). -/
def State.releasePlane (s : State) (ctx id : Nat) (p : Plane) : State :=
  let t := s.putPlane ctx id { p with state := 4, release := none }
  let u := if t.planeHeld ctx id then t else t.freePlane ctx id
  match p.release with
  | some c => u.done c.1 c.2 stOk 0
  | none => u

/-- A descriptor as it stands after a pass: what the pass held is given up (R287). -/
def Plane.afterPass (p : Plane) : Plane := { p with step := [], gIn := [], ready := false, entries := [], pages := [] }

/-- What follows the status record of a pass's end: POST_SEM is posted, and a release that waited is made (R289 step 4, R392). -/
def State.planeEnded (s : State) (ctx id : Nat) : State :=
  match s.plane? ctx id with
  | none => s
  | some p =>
    let t := if p.posting && plPostSem p.hdr != 0xFF then s.semAdd ctx (plBay p.hdr) (plPostSem p.hdr) (plPostN p.hdr) else s
    let q := { p with posting := false }
    if p.release.isSome then t.releasePlane ctx id q else t.setPlane ctx id q

/-- A pass ends: its pages and requests are given up, the record is written, and what follows it waits for that (R287, R289, R480). -/
def State.endPlane (s : State) (ctx id : Nat) (p : Plane) (write : Bool) : State :=
  let q := p.afterPass
  let t := s.dropOwner fun x => match x with
    | .plane c i => c.val == ctx && i.val == id
    | .peg _ _ | .stream _ _ | .fetch _ => false
  let u := if write then t.putPlane ctx id q else t.setPlane ctx id q
  (if u.planeHeld ctx id then u else u.planeEnded ctx id).sweepPages

/-- A pass ends FAULTED (R287, R289, R480). -/
def State.failPlane (s : State) (ctx id : Nat) (p : Plane) (code : Nat) (write : Bool) : State :=
  s.endPlane ctx id { p with state := 2, code := code, posting := false } write

/-- A page fault of a pass that stays unresolved: FAULTED with code 4, reported (R287, R398). -/
def State.failPlaneFault (s : State) (ctx id cause addr : Nat) (write : Bool) : State :=
  match s.plane? ctx id with
  | none => s
  | some p => (s.failPlane ctx id p stPageFault write).faultEvent (ctx + 1) ctx p.half cause 2 (plTag p.hdr) addr 0

/-- A pass meets a page fault. -/
def State.planeMeets (s : State) (ctx id : Nat) (h : Half) (f : Nat × Nat × Bool) : State :=
  if resolvable f.2.1 then (s.postFault ctx f.1 f.2.2 f.2.1 (.plane id) h).2 else s.failPlaneFault ctx id f.2.1 f.1 true

-- The step record (R290, R296) ----------------------------------------------------------------------------------

/-- Whether an encoding lies in [0, 1). -/
def inUnit (a : Nat) : Bool := f32Le 0 a && f32Lt a f32One

/-- Whether an encoding lies in (0, 1]. -/
def inOpenUnit (a : Nat) : Bool := f32Lt 0 a && f32Le a f32One

def srScale (r : List Byte) : Nat := fld r 0 4
def srB1 (r : List Byte) : Nat := fld r 0x20 4
def srB2 (r : List Byte) : Nat := fld r 0x24 4
def srC1 (r : List Byte) : Nat := fld r 0x28 4
def srC2 (r : List Byte) : Nat := fld r 0x2C 4
def srEps (r : List Byte) : Nat := fld r 0x30 4
def srLr (r : List Byte) : Nat := fld r 0x34 4
def srClip (r : List Byte) : Nat := fld r 0x38 4
def srB1t (r : List Byte) : Nat := fld r 0x3C 4
def srB2t (r : List Byte) : Nat := fld r 0x40 4
def srNorm2 (r : List Byte) : Num := a48Decode (fld r 0x80 8)

/-- Whether a step record passes the checks of R296. -/
def stepOk (r : List Byte) : Bool :=
  f32PosNormal (srScale r) && !f32Lt (fld r 8 4) (fld r 4 4) && inUnit (srB1 r) && inUnit (srB2 r) && f32PosNormal (srEps r)
    && !(f32Val (srClip r)).isNeg && inOpenUnit (srB1t r) && inOpenUnit (srB2t r)

/-- Whether NORM2 tells of an overflow (R290). -/
def normOver (v : Num) : Bool := v.isNan || v.isInf || !v.lt (.fin 1 128)

/-- The clip factor c of R290. -/
def clipFactor (r : List Byte) : Nat :=
  if (f32Val (srClip r)).isZero then f32One
  else
    let un := f32Div (f32Sqrt (f32Round false (srNorm2 r))) (srScale r)
    if f32Le un (srClip r) then f32One else f32Div (srClip r) un

/-- gscale, b1t, b2t, bc1 and bc2 of R290. -/
structure StepVals where
  gscale : Nat
  b1t : Nat
  b2t : Nat
  bc1 : Nat
  bc2 : Nat
  deriving DecidableEq, Repr

def stepVals (r : List Byte) : StepVals :=
  let b1t := f32Mul (srB1t r) (srB1 r)
  let b2t := f32Mul (srB2t r) (srB2 r)
  ⟨f32Div (clipFactor r) (srScale r), b1t, b2t, f32Div f32One (f32Sub f32One b1t), f32Div f32One (f32Sub f32One b2t)⟩

/-- The fields an UPDATE pass writes to the step record (R290): offset and bytes. -/
def stepWrites (r : List Byte) : List (Nat × List Byte) :=
  let clean := (fld r 0x10 4 + 1) % 2 ^ 32
  let interval := fld r 0xC 4
  if normOver (srNorm2 r) then
    [(0, toLE 4 (f32Max (f32Mul (srScale r) f32Half) (fld r 4 4))), (0x10, toLE 4 0), (0x18, toLE 4 (fld r 0x18 4 + 1)), (0x1C, toLE 1 2)]
  else
    let v := stepVals r
    let grow := interval != 0 && decide (interval ≤ clean)
    [(0, toLE 4 (if grow then f32Min (f32Mul (srScale r) f32Two) (fld r 8 4) else srScale r)),
     (0x10, toLE 4 (if grow then 0 else clean)), (0x14, toLE 4 (fld r 0x14 4 + 1)), (0x1C, toLE 1 1),
     (0x3C, toLE 4 v.b1t ++ toLE 4 v.b2t ++ toLE 4 v.gscale)]

-- Elements (R291) --------------------------------------------------------------------------------------------------

/-- The bytes of element i of an entry's gradient: from the yard, or from the ring's bytes in order. -/
def State.gradAt (s : State) (ctx : Nat) (e ring : List Byte) (i : Nat) : Nat :=
  let n := fmtBytes (peGFmt e)
  if peRing e then fld ring (n * i) n else leNat (s.readVa ctx (refAddr (peG e) + n * i) n)

/-- New P, M and V of an element; `free` stands for u where c is NaN, which R291 does not state: it depends on the step record, the entry and the data alone (R292). -/
def updateElem (h r e : List Byte) (v : StepVals) (free g p m vv : Nat) : Nat × Nat × Nat :=
  let gs := f32Mul g v.gscale
  let step (u : Nat) : Nat := fromF32 (pePFmt e) (f32Sub p (f32Mul (srLr r) (f32Add u (f32Mul (peWd e) p))))
  if plOpt h = 0 then
    let m1 := fromF32 (peMvFmt e) (f32Add (f32Mul (srB1 r) m) (f32Mul (srC1 r) gs))
    let v1 := fromF32 (peMvFmt e) (f32Add (f32Mul (srB2 r) vv) (f32Mul (srC2 r) (f32Mul gs gs)))
    let mf := toF32 (peMvFmt e) m1
    let vf := toF32 (peMvFmt e) v1
    (step (f32Div (f32Mul mf v.bc1) (f32Add (f32Sqrt (f32Mul vf v.bc2)) (srEps r))), m1, v1)
  else
    let c := f32Add (f32Mul (srB1 r) m) (f32Mul (srC1 r) gs)
    let u := if f32Lt 0 c then f32One else if f32Lt c 0 then f32Neg f32One else if (f32Val c).isNan then free else 0
    (step u, fromF32 (peMvFmt e) (f32Add (f32Mul (srB2 r) m) (f32Mul (srC2 r) gs)), 0)

/-- Whether a line that holds element i of an entry is poisoned (R287). -/
def State.elemPoisoned (s : State) (ctx : Nat) (h e : List Byte) (i : Nat) : Bool :=
  let at_ (base f : Nat) : Bool := s.poisoned ctx (refAddr base + fmtBytes f * i) (fmtBytes f)
  (!peRing e && at_ (peG e) (peGFmt e))
    || (plKind h == 1 && (at_ (peP e) (pePFmt e) || at_ (peM e) (peMvFmt e) || (plOpt h == 0 && at_ (peV e) (peMvFmt e))))

/-- New P, M, V and working copy of element i of an entry (R291). -/
def State.newElem (s : State) (ctx : Nat) (h r e ring : List Byte) (v : StepVals) (i : Nat) : Nat × Nat × Nat × Nat :=
  let get (base f : Nat) : Nat := toF32 f (leNat (s.readVa ctx (refAddr base + fmtBytes f * i) (fmtBytes f)))
  let g := toF32 (peGFmt e) (s.gradAt ctx e ring i)
  let m := get (peM e) (peMvFmt e)
  let free := (Config.planeSign (r ++ e ++ toLE 4 i ++ toLE 4 g ++ toLE 4 m)).toNat
  let o := updateElem h r e v free g (get (peP e) (pePFmt e)) m (get (peV e) (peMvFmt e))
  (o.1, o.2.1, o.2.2, if peWFmt e = 0xFF then 0 else ((drainElem (peWFmt e) true (decodeElem (pePFmt e) o.1)).run 0).1)

/-- Writes that follow one another in memory are one (R172). -/
def joinWrites : List (Nat × List Byte) → List (Nat × List Byte)
  | [] => []
  | (a, bs) :: r =>
    match joinWrites r with
    | (b, cs) :: rest => if a + bs.length = b then (a, bs ++ cs) :: rest else (a, bs) :: (b, cs) :: rest
    | [] => [(a, bs)]

/-- The writes of an entry's elements: P, M, V and the working copy in turn (R291). -/
def elemWrites (h e : List Byte) (os : List (Nat × Nat × Nat × Nat × Nat)) : List (Nat × List Byte) :=
  let put (base f : Nat) (get : Nat × Nat × Nat × Nat → Nat) : List (Nat × List Byte) :=
    joinWrites (os.map fun o => (refAddr base + fmtBytes f * o.1, toLE (fmtBytes f) (get o.2)))
  put (peP e) (pePFmt e) (fun o => o.1) ++ put (peM e) (peMvFmt e) (fun o => o.2.1)
    ++ (if plOpt h = 0 then put (peV e) (peMvFmt e) (fun o => o.2.2.1) else [])
    ++ (if peWFmt e = 0xFF then [] else put (peW e) (peWFmt e) (fun o => o.2.2.2))

-- The NORM pass (R288) -------------------------------------------------------------------------------------------------

/-- One partial sum over a chunk's elements. -/
def normPart (gs : List Num) : Num := gs.foldl (fun p g => ((r48 (p.add (g.mul g))).run 0).1) zero

/-- The chip's sum of squares. -/
def State.localNorm (s : State) (ctx : Nat) (l : List (List Byte × List Byte)) : Num :=
  l.foldl (fun acc x =>
    let n := peCount x.1
    (List.range (ups n 65536)).foldl (fun a c =>
      let k := min 65536 (n - 65536 * c)
      ((r48 (a.add (normPart ((List.range k).map fun i => f32Val (toF32 (peGFmt x.1) (s.gradAt ctx x.1 x.2 (65536 * c + i))))))).run 0).1) acc) zero

/-- Whether a scanned status entry tells of a failure or an overflow. -/
def scanBad (b : List Byte) : Bool := decide (1 < fld b 0 1) || bit (fld b 1 1) flOvf || bit (fld b 1 1) flNanOut

/-- The scan of R288; bytes 12 to 15 of a pair are ignored (log entry 177). -/
def State.scan (s : State) (ctx : Nat) (h : List Byte) : Except (Nat × Nat) Bool :=
  if plScan h = 0 then .ok false
  else
    (List.range (plScanCount h)).foldlM (fun bad i => do
      let p ← s.tryRead ctx (refAddr (plScan h) + 16 * i) 16 .module
      let n := fld p 8 4
      let es ← s.tryRead ctx (refAddr (fld p 0 8)) (16 * n) .module
      pure (bad || (List.range n).any fun k => scanBad (cut es (16 * k) 16))) false

-- Passes (R286, R287, R289) -----------------------------------------------------------------------------------------------

/-- The arrays of an entry: base, bytes of an element, and whether they are read and written. -/
def planeArrays (h e : List Byte) : List (Nat × Nat × Bool × Bool) :=
  (if peRing e then [] else [(refAddr (peG e), fmtBytes (peGFmt e), true, false)])
    ++ (if plKind h = 0 then []
        else [(refAddr (peP e), fmtBytes (pePFmt e), true, true), (refAddr (peM e), fmtBytes (peMvFmt e), true, true)]
          ++ (if plOpt h = 0 then [(refAddr (peV e), fmtBytes (peMvFmt e), true, true)] else [])
          ++ (if peWFmt e = 0xFF then [] else [(refAddr (peW e), fmtBytes (peWFmt e), false, true)]))

/-- The first array of a pass that does not translate: address, cause, and whether for a write (R287). -/
def State.arraysFault (s : State) (ctx : Nat) (h : List Byte) (es : List (List Byte)) : Option (Nat × Nat × Bool) :=
  (es.map fun e => (planeArrays h e).map fun a => (a.1, a.2.1 * peCount e, a.2.2)).flatten.findSome? fun a =>
    ((if a.2.2.1 then (s.rangeFault ctx a.1 a.2.1 false .module).map fun f => (f.1, f.2, false) else none).or
      (if a.2.2.2 then (s.rangeFault ctx a.1 a.2.1 true .module).map fun f => (f.1, f.2, true) else none))

/-- The pages that a pass has translated: those of its arrays and of the step record (R287). -/
def State.passPages (s : State) (ctx : Nat) (h : List Byte) (es : List (List Byte)) : List Nat :=
  (s.pagesOf ctx (refAddr (plStep h)) 192 ++ (es.map fun e => ((planeArrays h e).map fun a => s.pagesOf ctx a.1 (a.2.1 * peCount e)).flatten).flatten).dedup

/-- The elements of an entry that one unit processes, with its half: first element and number. An UPDATE element belongs to the site that holds it in P at pass start, a NORM chunk to the site that holds its first G byte (R286, R288). -/
def State.unitParts (s : State) (ctx : Nat) (h e : List Byte) : List (Nat × Nat × Half) :=
  let half (a : Nat) : Half := match s.page? ctx a with
    | some p => p.half
    | none => .h0
  if plKind h = 0 then
    (List.range (ups (peCount e) 65536)).map fun c =>
      (65536 * c, min 65536 (peCount e - 65536 * c), half (refAddr (peG e) + fmtBytes (peGFmt e) * (65536 * c)))
  else
    let z := fmtBytes (pePFmt e)
    let a := refAddr (peP e)
    (List.range (ups (a % 65536 + z * peCount e) 65536)).map fun i =>
      let lo := if i = 0 then 0 else (65536 * i - a % 65536) / z
      (lo, min ((65536 * (i + 1) - a % 65536) / z) (peCount e) - lo, half (a + z * lo))

/-- The line requests of a pass: every unit reads and writes what its elements need (R282, R286). -/
def State.passRequests (s : State) (ctx id : Nat) (h : List Byte) (es : List (List Byte)) : State :=
  let x : XferId := .plane (Fin.ofNat 8 ctx) (Fin.ofNat 4 id)
  forAll es (fun e t =>
    forAll (s.unitParts ctx h e) (fun u t =>
      forAll (planeArrays h e) (fun a t =>
        let r := if a.2.2.1 then t.issueEngine x ctx u.2.2 false (a.1 + a.2.1 * u.1) (a.2.1 * u.2.1) else t
        if a.2.2.2 then r.issueEngine x ctx u.2.2 true (a.1 + a.2.1 * u.1) (a.2.1 * u.2.1) else r) t) t) s

/-- The entries of an armed descriptor, its step record, and its translations: what a pass needs before it starts. -/
def State.planePrepare (s : State) (ctx : Nat) (p : Plane) : Except (Nat × Nat × Bool) (List Byte × List (List Byte)) := do
  let rd (a n : Nat) : Except (Nat × Nat × Bool) (List Byte) := match s.tryRead ctx a n .module with
    | .ok b => .ok b
    | .error f => .error (f.1, f.2, false)
  let step ← if p.step.isEmpty then rd (refAddr (plStep p.hdr)) 192 else pure p.step
  match s.rangeFault ctx (refAddr (plStep p.hdr)) 192 true .module with
  | some f => throw (f.1, f.2, true)
  | none =>
    let es ← rd (p.desc + 64) (64 * plEntries p.hdr)
    let l := (List.range (plEntries p.hdr)).map fun i => cut es (64 * i) 64
    match s.arraysFault ctx p.hdr l with
    | some f => throw f
    | none => pure (step, l)

/-- A pass begins: the step record is read once and checked, every page translated, and the units make their requests; or it waits for a page, or ends FAULTED (R287, R289 steps 1 and 2). -/
def State.planeBegin (s : State) (ctx id : Nat) (p : Plane) : State :=
  match s.planePrepare ctx p with
  | .error f => s.planeMeets ctx id p.half f
  | .ok x =>
    let t := s.countSpans ctx [(refAddr (plStep p.hdr), 192), (p.desc + 64, 64 * plEntries p.hdr)] p.half
    if plKind p.hdr = 1 && !stepOk x.1 then t.failPlane ctx id p stStepInvalid true
    else
      let u := t.setPlane ctx id { p with step := x.1, ready := true, entries := x.2, pages := s.passPages ctx p.hdr x.2 }
      if plKind p.hdr = 1 && normOver (srNorm2 x.1) then u else u.passRequests ctx id p.hdr x.2

/-- What follows the status record of a descriptor once it is written: a released one is disarmed, a pass that starts begins, one that ends is posted (R289, R480). -/
def State.planeWritten (s : State) (ctx id : Nat) : State :=
  match s.plane? ctx id with
  | none => s
  | some p =>
    if p.state = 4 then s.freePlane ctx id
    else if p.state = 1 then (if p.ready then s else s.planeBegin ctx id p)
    else s.planeEnded ctx id

/-- An armed descriptor's wait semaphore holds its count: a pass starts (R287, R289 steps 1 and 2). -/
def State.startPlane (s : State) (ctx id : Nat) : State :=
  match s.plane? ctx id with
  | none => s
  | some p =>
    if p.state != 0 || s.planeHeld ctx id || !s.mayTake ctx (plBay p.hdr) (plWaitSem p.hdr) (plWaitN p.hdr) p.waitSeq then s
    else
      let t := (s.semTake ctx (plBay p.hdr) (plWaitSem p.hdr) (plWaitN p.hdr)).putPlane ctx id { p.afterPass with state := 1, code := 0 }
      if t.planeHeld ctx id then t else t.planeWritten ctx id

def execPlanePassStart (ctx : Fin 8) (id : Fin 4) (s : State) : Result := .next (s.startPlane ctx id)

/-- A context's memory as a pass translated it at its start: its pages stand, whatever has been unmapped or mapped over them since (R205, R287). -/
def State.asPass (s : State) (ctx : Nat) (ids : List Nat) : State :=
  { s with pages := s.pages.map fun q =>
      if q.ctx != ctx then q
      else if ids.contains q.id then { q with mapped := true }
      else if s.pages.any fun p => ids.contains p.id && decide (p.va < q.va + q.bytes) && decide (q.va < p.va + p.bytes) then { q with mapped := false }
      else q }

/-- The pages mapped as another state has them. -/
def State.mappedAs (t s : State) : State :=
  { t with pages := t.pages.map fun q => match s.pageById q.id with
      | some o => { q with mapped := o.mapped }
      | none => q }

/-- Write a pass's results through its translations, all or none: only want of PACK lines can stop them (R229, R287). -/
def State.passWrite (s : State) (ctx id : Nat) (p : Plane) (l : List (Nat × List Byte)) (k : State → State) : State :=
  match (s.asPass ctx p.pages).commitAll ctx l false false with
  | .error f => s.planeMeets ctx id p.half (f.1, f.2, true)
  | .ok t => k (t.mappedAs s)

/-- The end of a pass: the status record, then the post (R289 step 4). -/
def State.finishPlane (s : State) (ctx id : Nat) (p : Plane) (outcome unchanged : Nat) : State :=
  let q := s.newId
  q.2.endPlane ctx id { p with state := 0, code := 0, passes := (p.passes + 1) % 2 ^ 32, outcome := outcome, unchanged := min max32 unchanged
                               posting := true, waitSeq := q.1 } true

/-- Elements of the entries that poisoned lines leave unchanged. -/
def State.poisonedElems (s : State) (ctx : Nat) (h : List Byte) (l : List (List Byte)) : Nat :=
  (l.map fun e => ((List.range (peCount e)).filter fun i => s.elemPoisoned ctx h e i).length).sum

/-- A NORM pass: LOCAL2 is written; where a gradient's line is poisoned its value is not stated (log entry 13). -/
def State.normPass (s : State) (ctx id : Nat) (p : Plane) (l : List (List Byte × List Byte)) : State :=
  match s.scan ctx p.hdr with
  | .error f => s.planeMeets ctx id p.half (f.1, f.2, false)
  | .ok bad =>
    let v := s.asPass ctx p.pages
    let lost := v.poisonedElems ctx p.hdr (l.map Prod.fst)
    let q := s.newId
    let sum := if bad then toLE 8 (a48Encode (.inf false))
      else if lost != 0 then (List.range 8).map (Config.freeByte q.1) else toLE 8 (a48Encode (v.localNorm ctx l))
    let a := refAddr (plStep p.hdr) + 0x60
    q.2.passWrite ctx id p [(a, sum ++ List.replicate 24 0)] fun t =>
      (t.countRange ctx a 32 p.half).finishPlane ctx id p (if lost = 0 then 0 else 3) lost

/-- Count an UPDATE pass (R295). -/
def State.countPlane (s : State) (skipped : Bool) (elems : Nat) : State :=
  let c := s.ctxRegs
  { s with ctxRegs := if skipped then { c with skipped := satAdd max16 c.skipped 1 }
                      else { c with applied := satAdd max16 c.applied 1, elems := satAdd (2 ^ 64 - 1) c.elems elems } }

/-- An UPDATE pass: every element, then the step record (R289 steps 3 and 4). -/
def State.updatePass (s : State) (ctx id : Nat) (p : Plane) (l : List (List Byte × List Byte)) : State :=
  let ov := normOver (srNorm2 p.step)
  let w := s.asPass ctx p.pages
  let lost := if ov then 0 else w.poisonedElems ctx p.hdr (l.map Prod.fst)
  let total := (l.map fun x => peCount x.1).sum
  let v := stepVals p.step
  let elems := if ov then [] else
    (l.map fun x => elemWrites p.hdr x.1 (((List.range (peCount x.1)).filter fun i => !w.elemPoisoned ctx p.hdr x.1 i).map fun i =>
      (i, w.newElem ctx p.hdr p.step x.1 x.2 v i))).flatten
  let fields := (stepWrites p.step).map fun f => (refAddr (plStep p.hdr) + f.1, f.2)
  s.passWrite ctx id p (elems ++ fields) fun t =>
    ((t.countRange ctx (refAddr (plStep p.hdr)) 192 p.half).countPlane ov (total - lost)).finishPlane ctx id p (if ov then 2 else if lost = 0 then 1 else 3) lost

/-- Whether line requests of a pass are not complete. -/
def State.passWaits (s : State) (ctx id : Nat) : Bool :=
  s.reqs.any fun r => match r.owner with
    | .plane c i => c.val == ctx && i.val == id && !r.dropped
    | .peg _ _ | .stream _ _ | .fetch _ => false

/-- Every Plane unit is done: its requests are complete and the rings have given their gradients (R289 steps 3 and 4). -/
def State.endPass (s : State) (ctx id : Nat) : State :=
  match s.plane? ctx id with
  | none => s
  | some p =>
    if p.state != 1 || !p.ready || s.planeHeld ctx id || s.passWaits ctx id then s
    else
      let l := ringParts p.gIn p.entries
      if !ringsFull l then s else if plKind p.hdr = 0 then s.normPass ctx id p l else s.updatePass ctx id p l

def execPlanePassEnd (ctx : Fin 8) (id : Fin 4) (s : State) : Result := .next (s.endPass ctx id)

-- Commands (R285, R392) --------------------------------------------------------------------------------------------------

/-- PLANE_ARM ARM. -/
def State.planeArm (s : State) (n : Nat) (c : Cmd) : State :=
  let a := c.par 0x10 8
  if a % 64 != 0 || refHigh a != 0 then s.invalid n c 3
  else s.cmdRead n c a 64 fun h s =>
    if plHeaderBad h || !s.inMask c.ctx (plBay h) then s.done n c.slot stDescInvalid 0
    else s.cmdRead n c (a + 64) (64 * plEntries h) fun es s =>
      if (List.range (plEntries h)).any fun i => plEntryBad h (cut es (64 * i) 64) then s.done n c.slot stDescInvalid 0
      else
        match (List.range 4).find? fun id => (s.plane? c.ctx id).isNone with
        | none => s.done n c.slot stStreamNoResource 0
        | some id =>
          let q := s.newId
          let p : Plane := { hdr := h, desc := a, state := 0, code := 0, passes := 0, outcome := 0, unchanged := 0, step := [], waitSeq := q.1, release := none, gIn := [] }
          (q.2.putPlane c.ctx id p).complete n c.slot stOk 0 id 0

def execPlaneArm (fn : Fin 9) (slot : Fin 4096) (s : State) : Result := .next (s.begin fn slot 0x17 0 fun c t => t.planeArm fn c)

/-- PLANE_ARM RELEASE: a RUNNING descriptor is released after its pass. -/
def State.planeRelease (s : State) (n : Nat) (c : Cmd) : State :=
  let id := c.par 9 1
  if 3 < id then s.invalid n c 3
  else
    match s.plane? c.ctx id with
    | none => s.invalid n c 4
    | some p =>
      if p.state == 4 || p.release.isSome then s.invalid n c 4
      else
        let q := { p with release := some (n, c.slot) }
        let t := s.setCmd n c.slot { c with phase := .running }
        if p.state == 1 then t.setPlane c.ctx id q else t.releasePlane c.ctx id q

def execPlaneArmRelease (fn : Fin 9) (slot : Fin 4096) (s : State) : Result := .next (s.begin fn slot 0x17 1 fun c t => t.planeRelease fn c)

end Sys2Proof.Machine
end

