-- ==== Sys2Proof/Machine/Host.lean ====
section
/-! DEFINITION. The yard aperture BAR4 and XFER (R182, R184, R212, R222, R378, R395). -/

namespace Sys2Proof.Machine

-- BAR4 (R378) --------------------------------------------------------------------------------------------------

/-- The answer of a BAR4 read: bytes or Unsupported Request, and whether poisoned. -/
def State.bar4Answer (s : State) (r : Option (List Byte) × Bool) : State :=
  { s with hif := { s.hif with out := { s.hif.out with bar4 := some r } } }

/-- A BAR4 request that cannot be served: a read completes with Unsupported Request, a write is discarded. -/
def State.bar4Refuse (s : State) (q : Bar4Req) : State := if q.bytes.isSome then s else s.bar4Answer (none, false)

/-- A BAR4 request whose fault stays unresolved: BAR4_FAULT, and PAGE_FAULT with source 5 to PF0. Its TAG is a free value (log entry 13). -/
def State.bar4Lost (s : State) (q : Bar4Req) (cause addr : Nat) (h : Half) : State :=
  let t := s.bar4Refuse q
  let u := (t.setFn 0 (fnErr (t.fn 0) errBar4)).freeTag
  u.2.faultEvent 0 q.ctx h cause 5 u.1 addr 0

/-- Whether the BAR4 request at the head waits for the joiner. -/
def State.bar4Held (s : State) : Bool := s.faults.any fun f => f.who == .bar4

/-- A BAR4 fault: the joiner may resolve it, or the request is lost. The answer says whether the request is done. -/
def State.bar4Fault (s : State) (q : Bar4Req) (f : Nat × Nat) (write : Bool) : State × Bool :=
  if resolvable f.2 then ((s.postFault q.ctx f.1 write f.2 .bar4 .h0).2, false) else (s.bar4Lost q f.2 f.1 .h0, true)

/-- Serve one BAR4 request, if it can be served now. -/
def State.bar4Serve (s : State) (q : Bar4Req) : State × Bool :=
  let c := q.ctx
  let a := q.base + q.offset
  if !q.valid || !s.admitted c || (s.ctx c).clearing then (s.bar4Refuse q, true)
  else if s.bar4Held then (s, false)
  else
    match q.bytes with
    | some bs =>
      if s.writesHeld c a bs.length then (s, false)
      else
        match s.tryWrite c a bs true q.poisoned .h0 .bar4 with
        | .ok t => (t, true)
        | .error f => s.bar4Fault q f true
    | none =>
      if s.cuttingOver c a q.len then (s, false)
      else
        match s.rangeFault c a q.len false .bar4 with
        | some f => s.bar4Fault q f false
        | none =>
          match s.tryRead c a q.len .bar4 with
          | .ok bs => ((s.countRange c a q.len .h0).bar4Answer (some bs, false), true)
          | .error f => if f.2 = pfLoft then s.bar4Fault q f false else ((s.countRange c a q.len .h0).bar4Answer (some (s.readVa c a q.len), true), true)

/-- Serve the BAR4 requests in arrival order, as far as they can be served; n bounds how many. -/
def State.bar4Pump (s : State) : Nat → State
  | 0 => s
  | n + 1 =>
    match s.hif.bar4Q with
    | [] => s
    | q :: rest =>
      let r := s.bar4Serve q
      if r.2 then ({ r.1 with hif := { r.1.hif with bar4Q := rest } }).bar4Pump n else r.1

/-- Serve every BAR4 request that can be served. -/
def State.bar4Run (s : State) : State := s.bar4Pump s.hif.bar4Q.length

/-- A BAR4 request arrives over the link, inside the aperture; it is served with HIF_BAR4_CTX and HIF_BAR4_BASE as they stand now (R378, R403). -/
def State.bar4Take (s : State) (offset len : Nat) (bytes : Option (List Byte)) (poisoned : Bool) : State :=
  if !s.reaches 0 || decide (2 ^ s.hif.bar4Log2 < offset + len) || len == 0 then s
  else
    let q : Bar4Req := ⟨s.hif.bar4Valid, s.hif.bar4Ctx, s.hif.bar4Base.toNat, offset, len, bytes, poisoned⟩
    ({ s with hif := { s.hif with bar4Q := s.hif.bar4Q ++ [q] } }).bar4Run

def execBar4Read (offset len : Nat) (s : State) : Result := .next (s.bar4Take offset len none false)

def execBar4Write (offset : Nat) (bytes : List Byte) (poisoned : Bool) (s : State) : Result :=
  .next (s.bar4Take offset bytes.length (some bytes) poisoned)

/-- What a step on an empty queue does: one AON tick, and BAR4 requests whose hold has ended are served (R184, R362; log entry 6). -/
def State.idleAll (s : State) : State := s.idle.bar4Run

-- XFER (R395) ------------------------------------------------------------------------------------------------------

def Cmd.xferHost (c : Cmd) : Nat := c.par 0x10 8
def Cmd.xferVa (c : Cmd) : Nat := c.par 0x18 8
def Cmd.xferBytes (c : Cmd) : Nat := c.par 0x20 8

/-- Whether an XFER's parameters are out of range. -/
def Cmd.xferBad (c : Cmd) : Bool :=
  decide (1 < c.par 8 1) || c.xferHost % 32 != 0 || c.xferVa % 32 != 0 || c.xferBytes % 32 != 0
    || decide (2 ^ 57 < c.xferVa + c.xferBytes) || decide (2 ^ 64 < c.xferHost + c.xferBytes)

/-- The PAGE_FAULT event of an XFER (R398). Its TAG is a free value (log entry 13). -/
def State.xferEvent (s : State) (c : Cmd) (cause addr : Nat) : State :=
  let g := s.freeTag
  g.2.faultEvent (c.ctx + 1) c.ctx .h0 cause 5 g.1 addr 0

/-- The start of the first poisoned line of a range: an offset from its beginning. -/
def State.firstPoison (s : State) (ctx a n : Nat) : Option Nat :=
  ((List.range (ups n 256 + 1)).map fun i => if i = 0 then 0 else 256 * i - a % 256).find? fun o =>
    decide (o < n) && s.poisoned ctx (a + o) (min (n - o) (256 - (a + o) % 256))

/-- Bytes that a device-to-host XFER writes to host memory. -/
def State.hostStore (s : State) (a : Nat) (bs : List Byte) : State := { s with hif := { s.hif with host := memWriteN s.hif.host a bs } }

/-- XFER to the host: all of it, or up to the first poisoned line. -/
def State.xferOut (s : State) (n : Nat) (c : Cmd) : State :=
  let a := c.xferVa
  if s.cuttingOver c.ctx a c.xferBytes then s.await n c
  else
    match s.firstPoison c.ctx a c.xferBytes with
    | none => ((s.countRange c.ctx a c.xferBytes .h0).hostStore c.xferHost (s.readVa c.ctx a c.xferBytes)).complete n c.slot stOk 0 c.xferBytes 0
    | some o =>
      let cause := match s.page? c.ctx (a + o) with
        | some p => if attrTier p.attr == 2 then pfLoft else pfYard
        | none => pfYard
      ((((s.countRange c.ctx a o .h0).hostStore c.xferHost (s.readVa c.ctx a o)).xferEvent c cause (a + o)).complete n c.slot stPageFault cause o 0)

/-- XFER: every page of the device range is translated before a byte moves. -/
def State.xferStart (s : State) (n : Nat) (c : Cmd) : State :=
  let toDevice := c.par 8 1 == 0
  if c.xferBad then s.invalid n c 3
  else
    match s.rangeFault c.ctx c.xferVa c.xferBytes toDevice .module with
    | some f => s.cmdFault n c f.1 f.2 toDevice
    | none =>
      if !toDevice then s.xferOut n c
      else if c.xferBytes ≤ c.moved then s.complete n c.slot stOk 0 c.moved 0
      else s.setCmd n c.slot { c with phase := .running }

def execXfer (fn : Fin 9) (slot : Fin 4096) (s : State) : Result := .next (s.begin fn slot 0x12 0 fun c t => t.xferStart fn c)

/-- A chunk of an XFER's host data arrives and is written into the device; a failed read ends the command (R182, R395). -/
def State.hostData (s : State) (n slot : Nat) (d : HostData) : State :=
  match s.cmd? n slot with
  | none => s
  | some c =>
    if c.opcode != 0x12 || c.phase != .running then s
    else
      match d with
      | .failed why => (s.logRead n why).complete n slot stHostError 0 c.moved 0
      | .data bs =>
        let part := bs.take (c.xferBytes - c.moved)
        let a := c.xferVa + c.moved
        if part.isEmpty || s.writesHeld c.ctx a part.length then s
        else
          match s.tryWrite c.ctx a part true false .h0 .module with
          | .error f => s.cmdFault n c f.1 f.2 true
          | .ok t =>
            let m := c.moved + part.length
            if c.xferBytes ≤ m then t.complete n slot stOk 0 m 0 else t.setCmd n slot { c with moved := m }

def execHostReadCompletion (fn : Fin 9) (slot : Fin 4096) (data : HostData) (s : State) : Result := .next (s.hostData fn slot data)

end Sys2Proof.Machine
end

