-- ==== Sys2Proof/Machine/Faults.lean ====
section
/-! DEFINITION. What follows a page fault in a joiner's hands: its resolution, or its end unresolved, for every unit that can wait for one (R126, R152, R187, R188, R279, R318, R378, R480, R481); the stash status record (R281). -/

namespace Sys2Proof.Machine

-- The stash descriptor and its status record (R274, R275, R281) -----------------------------------------------------

def sdPolicy (h : List Byte) : Nat := fld h 0 1
def sdLayers (h : List Byte) : Nat := fld h 2 2 + 1
def sdScratch (h : List Byte) : Nat := fld h 4 4
def sdWindow (h : List Byte) : Nat := fld h 8 8
def sdSpan (h : List Byte) : Nat := fld h 0x10 8
def sdStatus (h : List Byte) : Nat := fld h 0x18 8
def sdTag (h : List Byte) : Nat := fld h 0x20 2

def leSlot (e : List Byte) : Nat := fld e 0 8
def leSlotFrames (e : List Byte) : Nat := fld e 8 4
def leFixed (e : List Byte) : Nat := fld e 0xC 4
def leRowBytes (e : List Byte) : Nat := fld e 0x10 4
def leDroppable (e : List Byte) : Bool := bit (fld e 0x14 1) 0
def leState (e : List Byte) : Nat := fld e 0x15 1
def leCount (e : List Byte) : Nat := fld e 0x16 2
def leShape (e : List Byte) : Nat := fld e 0x18 8
def leSrc (e : List Byte) : Nat := fld e 0x20 8
def leDst (e : List Byte) : Nat := fld e 0x28 8

/-- The address of layer entry i. -/
def Stash.entryAt (st : Stash) (i : Nat) : Nat := st.desc + 64 + 64 * i

/-- The stash reservation of a half. -/
def State.stashCap (s : State) (ctx : Nat) (h : Half) : Nat :=
  match h with
  | .h0 => (s.ctx ctx).res.stashH0
  | .h1 => (s.ctx ctx).res.stashH1

/-- Whether a page is charged to a kept slot. -/
def Page.kept (p : Page) : Bool :=
  match p.charge with
  | .stash _ => true
  | _ => false

/-- Free stash frames of a half, scratch excluded. -/
def State.stashFree (s : State) (ctx : Nat) (st : Stash) (h : Half) : Nat :=
  s.stashCap ctx h - 2 * sdScratch st.hdr - (s.pages.filter fun p => p.mapped && p.ctx == ctx && p.half == h && p.kept).length

/-- Slots in a STATE. -/
def State.slotsIn (s : State) (ctx : Nat) (st : Stash) (n : Nat) : Nat :=
  ((List.range (sdLayers st.hdr)).filter fun i => (s.byteAt ctx (st.entryAt i + 0x15)).toNat == n).length

/-- The stash status record (R281). -/
def State.stashRecord (s : State) (ctx : Nat) (st : Stash) : List Byte :=
  toLE 4 (s.stashFree ctx st .h0) ++ toLE 4 (s.stashFree ctx st .h1) ++ toLE 2 (s.slotsIn ctx st 1) ++ toLE 2 (s.slotsIn ctx st 2)
    ++ toLE 1 st.nextSet ++ toLE 1 st.code ++ toLE 2 0

/-- Whether a stash waits for a page fault of its status record (R480). -/
def State.stashHeld (s : State) (ctx : Nat) : Bool :=
  s.faults.any fun f => f.ctx == ctx && match f.who with
    | .status kind _ _ => kind == 4
    | _ => false

/-- Write the stash status record; a write that faults waits for the joiner (R281, R480). -/
def State.writeStash (s : State) (ctx : Nat) : State :=
  match (s.ctx ctx).stash with
  | none => s
  | some st =>
    match s.tryWrite ctx (refAddr (sdStatus st.hdr)) (s.stashRecord ctx st) false false s.kingHalf .module with
    | .ok t => t
    | .error f => (s.postFault ctx f.1 true f.2 (.status 4 0 0) s.kingHalf).2

-- Resolved (R187 step 4) ----------------------------------------------------------------------------------------------------

/-- A list's read-ahead that waits for a fault. -/
def TList.aheadOf (l : TList) (fault : Nat) : Option Ahead := l.ahead.find? fun a => a.fault == some fault

/-- Replace a read-ahead descriptor. -/
def TList.setAhead (l : TList) (y : Ahead) : TList := { l with ahead := l.ahead.map fun a => if a.idx == y.idx then y else a }

/-- A stream goes on after its fault: the auger resumes at the block, or fetches a delivered buffer's block again, or the status record is written again and what waited for it follows. It is RUNNING again once neither its pass nor a refetch is held. -/
def State.resumeStream (s : State) (x : Stream) (record : Bool) (id : Nat) : State :=
  let back (z : Stream) : Stream := { z with state := if z.state = 2 && z.stop.isNone && z.reStop.isNone then 1 else z.state }
  let y := if record then { x with fault := none }
    else if x.reFault = some id then back { x with reStop := none, reFault := none }
    else back { x with stop := none, fault := none }
  let t := if !record && y.state = x.state then s.setStream y else s.putStream y
  match t.stream? x.bay x.slot with
  | none => t
  | some z => if z.recordHeld then t else if z.state == 4 then t.freeStream z else t.settleStream x.bay x.slot

/-- The unit that waited for a fault goes on. One that repeats its own command, as a task, a tile, a check, a Plane pass's end or a received WRITE does, only loses the fault. -/
def State.resume (s : State) (f : PFault) : State :=
  match f.who with
  | .xfer (.stream b l) _ =>
    match s.stream? b l with
    | some x => s.resumeStream x false f.id
    | none => s
  | .xfer (.fetch id) _ =>
    match s.fetch? id with
    | some g => s.setFetch { g with stop := none, fault := none }
    | none => s
  | .command n slot =>
    match s.cmd? n slot with
    | some c => s.await n c
    | none => s
  | .status 1 bay slot =>
    match s.stream? bay slot with
    | some x => s.resumeStream x true f.id
    | none => s
  | .status 2 _ id =>
    match s.plane? f.ctx id with
    | some p =>
      let t := s.putPlane f.ctx id p
      if t.planeHeld f.ctx id then t else t.planeWritten f.ctx id
    | none => s
  | .status 3 _ k => s.pegResume f.ctx k true
  | .status 4 _ _ => s.writeStash f.ctx
  | .status _ _ _ => s
  | .descriptor bay _ =>
    match s.list? bay f.ctx with
    | none => s
    | some l =>
      match l.aheadOf f.id with
      | none => s
      | some a =>
        let r := s.readAhead l a.idx
        r.1.setList (l.setAhead r.2)
  | .peg k => s.pegResume f.ctx k false
  | .bar4 => s.bar4Run
  | .plane id =>
    match s.plane? f.ctx id with
    | some p => if p.state = 1 && !p.ready then s.planeBegin f.ctx id p else s
    | none => s
  | .tile _ | .check _ | .remote _ _ | .xfer (.plane _ _) _ | .xfer (.peg _ _) _ => s

/-- The joiner of the fault's half maps or migrates the page within its limit; at the deadline tick the resolution still wins, and while that complex does not run its faults wait (R187, R365, R406, R409). -/
def State.resolveFault (s : State) (id : Nat) : State :=
  match s.fault? id with
  | none => s
  | some f =>
    if !(s.aon.joiners.get f.half).running || !s.resolvesNow f || expired (s.now f.half) f.since 12500 then s
    else
      let t := if s.now f.half = f.since + 12500 then s.nearMissDev else s
      ((t.dropFault id).countResolved).resume f

def execJoinerFaultResolve (fault : Nat) (s : State) : Result := .next (s.resolveFault fault)

-- Unresolved (R187 step 5) ---------------------------------------------------------------------------------------------------------

/-- A stream whose status record cannot be written ends FAULTED with code PAGE_FAULT, or is released, without it (R480). -/
def State.streamUnwritten (s : State) (x : Stream) (cause addr : Nat) : State :=
  let t := s.faultEvent (x.ctx + 1) x.ctx x.half cause 1 (hdrTag x.hdr) addr 0
  if x.state = 4 then t.freeStream x
  else
    let y := x.faulted stPageFault cause x.watermark
    (((t.ringBack x 0 x.order.length).dropReqs x fun r => (tfind y.bufs r.buf).isNone).setStream y).countUnresolved

/-- A task whose own read or write stays unresolved: it ends; one that ends already gives up the anchors it could not release. -/
def State.taskUnresolved (s : State) (k : Task) (status cause addr : Nat) : State :=
  match k.status with
  | some st =>
    if 1 < st.1 then s.setTask { k with appends := [] }
    else (s.setTask { k with status := none }).failTaskFault k.bay k.ctx k.idx cause addr
  | none => if status = stPageFault then s.failTaskFault k.bay k.ctx k.idx cause addr else s.failTask k.bay k.ctx k.idx status 0

/-- The task of a tile ends with the status of its fault; the tile writes nothing (R152, R279). -/
def State.tileUnresolved (s : State) (bay ctx idx status cause addr : Nat) : State :=
  if status = stPageFault then s.failTaskFault bay ctx idx cause addr else s.failTask bay ctx idx status 0

/-- A command whose fault stays unresolved ends with PAGE_FAULT, the cause in DETAIL (R395, R481). -/
def State.cmdUnresolved (s : State) (n : Nat) (c : Cmd) (cause addr : Nat) : State :=
  let t := if c.opcode = 0x12 then s.xferEvent c cause addr else s
  t.complete n c.slot stPageFault cause (if c.opcode = 0x12 then c.moved else 0) 0

/-- The first waiting packet of a sub-class of a port. -/
def State.heldPacket (s : State) (n cls : Nat) : Option Packet := (tget (s.port n).commit (cls / 2) []).find? fun p => p.cls == cls

/-- The unit that waited for a fault ends as the spec states for it; status is PAGE_FAULT, or STASH_FULL of a claim. -/
def State.giveUp (s : State) (f : PFault) (status cause : Nat) : State :=
  match f.who with
  | .xfer (.stream b l) k =>
    match s.stream? b l with
    | some x =>
      if x.reFault = some f.id then s.failRefetch x ⟨k, f.addr, cause, status, false⟩
      else s.faultStream x status cause f.addr (if x.state = 0 || x.ended then x.watermark else k)
    | none => s
  | .xfer (.fetch id) _ =>
    match s.fetch? id with
    | some g => (s.setFetch { g with stop := none, fault := none, failed := some (status, cause, f.addr) }).countUnresolved
    | none => s
  | .command n slot =>
    match s.cmd? n slot with
    | some c => s.cmdUnresolved n c cause f.addr
    | none => s
  | .status 0 bay idx =>
    match s.task? bay f.ctx idx with
    | some k => s.endUnwritten k f.addr cause
    | none => s
  | .status 1 bay slot =>
    match s.stream? bay slot with
    | some x => s.streamUnwritten x cause f.addr
    | none => s
  | .status 2 _ id =>
    match s.plane? f.ctx id with
    | some p =>
      if p.state == 4 then (s.faultEvent (f.ctx + 1) f.ctx p.half cause 2 (plTag p.hdr) f.addr 0).freePlane f.ctx id
      else s.failPlaneFault f.ctx id cause f.addr false
    | none => s
  | .status 3 _ k => s.pegPageFault f.ctx k cause f.addr false
  | .status _ _ _ | .xfer (.plane _ _) _ | .xfer (.peg _ _) _ => s
  | .descriptor bay idx =>
    match s.list? bay f.ctx with
    | none => s
    | some l =>
      match l.aheadOf f.id with
      | some a => s.setList (l.setAhead { a with fault := none, failed := some cause })
      | none =>
        match s.task? bay f.ctx idx with
        | some k => s.taskUnresolved k status cause f.addr
        | none => s
  | .tile core =>
    match s.run? core with
    | some r => (s.dropTile r).tileUnresolved r.bay r.ctx r.task status cause f.addr
    | none => s
  | .check id =>
    match s.check? id with
    | none => s
    | some c =>
      let u := match s.task? c.bay c.ctx c.task with
        | some k => s.dropCheck k c
        | none => s.delCheck id
      u.tileUnresolved c.bay c.ctx c.task status cause f.addr
  | .plane id =>
    if status = stPageFault then s.failPlaneFault f.ctx id cause f.addr true
    else
      match s.plane? f.ctx id with
      | some p => s.failPlane f.ctx id p stPageFault true
      | none => s
  | .peg k => s.pegPageFault f.ctx k cause f.addr true
  | .remote n cls =>
    match s.heldPacket n cls with
    | some p => s.discardRemote n p f.addr
    | none => s
  | .bar4 =>
    match s.hif.bar4Q with
    | [] => s
    | q :: rest => (({ s with hif := { s.hif with bar4Q := rest } }).bar4Lost q cause f.addr f.half).bar4Run

/-- Whether the joiner, which must run (R409), finds at once that it cannot resolve a fault: the access meets a BENCH page (R212), which only BAR4 reaches. -/
def State.hopeless (s : State) (f : PFault) : Bool :=
  (s.aon.joiners.get f.half).running && f.who != .bar4 && match s.page? f.ctx f.addr with
    | some p => attrTier p.attr == 1
    | none => false

/-- Whether a fault waits for a claim that has not started, or for one that started before it: its limit does not run (R277). Where no half manages the module no claim comes, and the limit runs from the posting (R412). -/
def State.awaitsClaim (s : State) (f : PFault) : Bool :=
  s.managed && f.cause == pfStash && s.inStash f.ctx f.addr && !s.resolvesNow f && match (s.ctx f.ctx).stash with
    | some st => st.jobs.all fun j => !j.faults.contains f.id
    | none => false

/-- The joiner's limit has passed, or it cannot resolve the fault: it ends unresolved. -/
def State.faultLate (s : State) (id : Nat) : State :=
  match s.fault? id with
  | none => s
  | some f =>
    if (!expired (s.now f.half) f.since 12500 || s.awaitsClaim f) && !s.hopeless f then s
    else (s.dropFault id).giveUp f stPageFault f.cause

def execFaultResolveTimeout (fault : Nat) (s : State) : Result := .next (s.faultLate fault)

end Sys2Proof.Machine
end

