-- ==== Sys2Proof/Machine/Stash.lean ====
section
/-! DEFINITION. Pages that come and go, and the stash: arming, claims, drops, resets and releases (R204, R205, R273 to R281, R392). -/

namespace Sys2Proof.Machine

-- Pages (R204, R205, R207) ------------------------------------------------------------------------------------------

/-- A new page in a frame of a site; it reads zero (R204). -/
def State.addPage (s : State) (ctx va : Nat) (attr : BitVec 32) (charge : Charge) (half : Half) (site frame part : Nat) : State :=
  let q := s.newId
  let p : Page := { id := q.1, ctx := ctx, va := va, big := attrBig attr, attr := attr, charge := charge, half := half, site := site, frame := frame
                    part := part, gen := 0, poison := [], stored := [], counts := ⟨0, 0⟩, mig := none, holders := [], mapped := true }
  { q.2 with pages := q.2.pages ++ [p] }

/-- Unmap the pages that meet a condition; their frames are freed once no request holds them (R205). -/
def State.unmapWhere (s : State) (f : Page → Bool) : State :=
  ({ s with pages := s.pages.map fun (p : Page) => if p.mapped && f p then { p with mapped := false } else p }).sweepPages

/-- Bytes of a 2 MiB frame. -/
def bigFrame : Nat := 2097152

-- Checks of STASH_ARM (R274 to R276) ------------------------------------------------------------------------------------

def sdHeaderBad (h : List Byte) : Bool :=
  decide (1 < sdPolicy h) || fld h 1 1 != 0 || decide (4095 < fld h 2 2) || !zeroAt h 0x22 30
    || refHigh (sdWindow h) != 0 || sdWindow h % bigFrame != 0 || sdSpan h % bigFrame != 0 || decide (2 ^ 57 < sdWindow h + sdSpan h)
    || refHigh (sdStatus h) != 0 || sdStatus h % 16 != 0 || sdStatus h == 0
    || (sdPolicy h == 1 && sdScratch h != 0)

/-- Whether a layer entry is refused. -/
def leBad (h e : List Byte) : Bool :=
  leSlot e % bigFrame != 0 || decide (sdSpan h < leSlot e + bigFrame * leSlotFrames e)
    || bits (fld e 0x14 1) 7 1 != 0 || decide (4096 < leCount e) || !zeroAt e 0x34 12
    || refHigh (leShape e) != 0 || leShape e % 8 != 0 || refHigh (leSrc e) != 0 || leSrc e % 8 != 0 || refHigh (leDst e) != 0 || leDst e % 8 != 0

/-- Whether neighbours in slot order overlap. -/
def slotsOverlap : List (Nat × Nat) → Bool
  | a :: b :: r => decide (b.1 < a.1 + a.2) || slotsOverlap (b :: r)
  | _ => false

/-- Whether slots overlap. -/
def slotsClash (es : List (List Byte)) : Bool :=
  slotsOverlap (((es.filter fun e => leSlotFrames e != 0).map fun e => (leSlot e, bigFrame * leSlotFrames e)).mergeSort fun a b => decide (a.1 ≤ b.1))

/-- The entries of a layer array. -/
def layersOf (h bs : List Byte) : List (List Byte) := (List.range (sdLayers h)).map fun i => cut bs (64 * i) 64

/-- Whether a range overlaps a mapped page of a context. -/
def State.overlaps (s : State) (ctx a n : Nat) : Bool :=
  s.pages.any fun p => p.mapped && p.ctx == ctx && decide (p.va < a + n) && decide (a < p.va + p.bytes)

/-- Every STATE is EMPTY and every gate word zero (R276). -/
def State.clearLayers (s : State) (ctx desc : Nat) (es : List (List Byte)) (h : Half) : Except (Nat × Nat) State :=
  (es.zipIdx).foldlM (fun t e => do
    let u ← t.tryWrite ctx (desc + 64 + 64 * e.2 + 0x15) [0] false false h .module
    u.tryWrite ctx (refAddr (leDst e.1)) (List.replicate (8 * leCount e.1) 0) false false h .module) s

/-- STASH_ARM ARM. -/
def State.stashArm (s : State) (n : Nat) (c : Cmd) : State :=
  let a := c.par 0x10 8
  if a % 64 != 0 || refHigh a != 0 then s.invalid n c 3
  else if (s.ctx c.ctx).explicit || (s.ctx c.ctx).stash.isSome then s.done n c.slot stStashInvalid 0
  else s.cmdRead n c a 64 fun h s =>
    if sdHeaderBad h then s.done n c.slot stDescInvalid 0
    else s.cmdRead n c (a + 64) (64 * sdLayers h) fun bs s =>
      let es := layersOf h bs
      if es.any (leBad h) || slotsClash es || s.overlaps c.ctx (sdWindow h) (sdSpan h) then s.done n c.slot stDescInvalid 0
      else if (sdPolicy h == 0 && sdScratch h == 0) || decide (s.stashCap c.ctx .h0 < 2 * sdScratch h)
          || decide (s.stashCap c.ctx .h1 < 2 * sdScratch h) then s.done n c.slot stStashNoResource 0
      else
        match s.clearLayers c.ctx a es s.kingHalf with
        | .error f => s.cmdFault n c f.1 f.2 true
        | .ok t =>
          let st : Stash := { hdr := h, desc := a, nextSet := 0, setOwner := [], copied := [], code := 0, jobs := [] }
          ((t.modCtx c.ctx fun x => { x with stash := some st }).writeStash c.ctx).done n c.slot stOk 0

def execStashArm (fn : Fin 9) (slot : Fin 4096) (s : State) : Result := .next (s.begin fn slot 0x16 0 fun c t => t.stashArm fn c)

/-- Whether a page lies in the window of a stash. -/
def Stash.owns (st : Stash) (ctx : Nat) (p : Page) : Bool :=
  p.ctx == ctx && decide (sdWindow st.hdr ≤ p.va) && decide (p.va < sdWindow st.hdr + sdSpan st.hdr)

/-- STASH_ARM RESET (R276): every slot is unmapped; scratch sets stay set aside. -/
def State.stashReset (s : State) (n : Nat) (c : Cmd) : State :=
  match (s.ctx c.ctx).stash with
  | none => s.done n c.slot stStashInvalid 0
  | some st => if s.stashHeld c.ctx || st.releasing then s.await n c else s.cmdRead n c (st.desc + 64) (64 * sdLayers st.hdr) fun bs s =>
    match s.clearLayers c.ctx st.desc (layersOf st.hdr bs) s.kingHalf with
    | .error f => s.cmdFault n c f.1 f.2 true
    | .ok t =>
      let u := (t.unmapWhere (st.owns c.ctx)).modCtx c.ctx fun x => { x with stash := some { st with setOwner := [], copied := [], code := 0, jobs := [] } }
      (u.writeStash c.ctx).done n c.slot stOk 0

def execStashArmReset (fn : Fin 9) (slot : Fin 4096) (s : State) : Result := .next (s.begin fn slot 0x16 1 fun c t => t.stashReset fn c)

/-- STASH_ARM RELEASE (R392): every page of the window is unmapped and every frame returned; it completes once the status record is written (R480). -/
def State.stashRelease (s : State) (n : Nat) (c : Cmd) : State :=
  match (s.ctx c.ctx).stash with
  | none => s.done n c.slot stStashInvalid 0
  | some st =>
    if s.stashHeld c.ctx then s.await n c
    else
      let t := if st.releasing then s
        else ((s.unmapWhere (st.owns c.ctx)).modCtx c.ctx fun x => { x with stash := some { st with releasing := true, setOwner := [], jobs := [] } }).writeStash c.ctx
      if t.stashHeld c.ctx then t.await n c else (t.modCtx c.ctx fun x => { x with stash := none }).done n c.slot stOk 0

def execStashArmRelease (fn : Fin 9) (slot : Fin 4096) (s : State) : Result := .next (s.begin fn slot 0x16 2 fun c t => t.stashRelease fn c)

-- Claims (R277 to R279) ---------------------------------------------------------------------------------------------------------

/-- The layer whose slot holds an address, from the entries as they stand. -/
def State.layerAt (s : State) (ctx a : Nat) (st : Stash) : Option Nat :=
  (List.range (sdLayers st.hdr)).find? fun i =>
    let e := s.readVa ctx (st.entryAt i) 16
    let lo := sdWindow st.hdr + leSlot e
    decide (lo ≤ a) && decide (a < lo + bigFrame * leSlotFrames e)

/-- The faults that wait for a claim, in arrival order, over all contexts. -/
def State.claimable (s : State) : List PFault := s.faults.filter fun f => f.cause == pfStash && s.inStash f.ctx f.addr

/-- Whether a claim is in progress. -/
def State.claiming (s : State) : Bool := (List.range 8).any fun c => match (s.ctx c).stash with
  | some st => !st.jobs.isEmpty
  | none => false

/-- The number of slot pages 0 to n − 1 that fall to a half: those at an even page index of the window to H0 (R273). -/
def slotShare (e : List Byte) (n : Nat) (h : Half) : Nat :=
  let first := leSlot e / bigFrame
  let even := (n + 1 - first % 2) / 2
  match h with
  | .h0 => even
  | .h1 => n - even

/-- F of a layer (R275); none when its entry or shape word cannot be read. -/
def State.claimFrames (s : State) (ctx : Nat) (e : List Byte) : Option Nat :=
  let f (m : Nat) : Nat := leFixed e + (m * leRowBytes e + bigFrame - 1) / bigFrame
  if leShape e = 0 then some (f 0)
  else
    match s.tryRead ctx (leShape e) 8 .module with
    | .ok b => some (f (bits (leNat b) 19 0))
    | .error _ => none

/-- The faults of a slot end unresolved. -/
def State.slotGivesUp (s : State) (ctx : Nat) (st : Stash) (layer : Nat) (status : Nat) : State :=
  forAll (s.claimable.filter fun f => f.ctx == ctx && s.layerAt ctx f.addr st == some layer) (fun f t => (t.dropFault f.id).giveUp f status pfStash) s

/-- The time limit of the faults of a slot counts from the start of their claim (R277). -/
def State.claimStarts (s : State) (ctx : Nat) (st : Stash) (layer : Nat) : State :=
  let ids := (s.claimable.filter fun f => f.ctx == ctx && s.layerAt ctx f.addr st == some layer).map PFault.id
  { s with faults := s.faults.map fun f => if ids.contains f.id then { f with since := s.now f.half } else f }

/-- A claim ends STASH_FULL: counted, recorded, reported (R277 step 4, R279). -/
def State.claimFull (s : State) (ctx : Nat) (st : Stash) (layer frames : Nat) : State :=
  let y := { st with code := stStashFull }
  let t := (s.modCtx ctx fun x => { x with stash := some y }).writeStash ctx
  let u := { t with ctxRegs := { t.ctxRegs with stashFull := satAdd max16 t.ctxRegs.stashFull 1 } }
  (u.postCtx ctx 6 u.kingHalf (toLE 2 (sdTag st.hdr) ++ toLE 2 layer ++ toLE 4 frames ++ toLE 4 (u.stashFree ctx st .h0) ++ toLE 4 (u.stashFree ctx st .h1))).slotGivesUp
    ctx y layer stStashFull

/-- A claim has been sized: it maps kept frames, ends, or drops (R277 steps 2 to 5); a slot that was dropped before is dropped again. -/
def State.claimSized (s : State) (ctx : Nat) (st : Stash) (layer : Nat) (e : List Byte) (frames : Nat) : State :=
  let fits (h : Half) : Bool := decide (slotShare e frames h ≤ s.stashFree ctx st h)
  let scratch (h : Half) : Bool := decide (slotShare e frames h ≤ sdScratch st.hdr)
  let start (step : Nat) : State :=
    let t := s.claimStarts ctx st layer
    let ids := (t.claimable.filter fun f => f.ctx == ctx && t.layerAt ctx f.addr st == some layer).map PFault.id
    t.modCtx ctx fun x => { x with stash := some { st with jobs := [⟨ids, layer, frames, step⟩] } }
  if leSlotFrames e < frames then s.slotGivesUp ctx st layer stPageFault
  else if leState e == 0 && fits .h0 && fits .h1 then start 1
  else if sdPolicy st.hdr == 1 || !leDroppable e || !scratch .h0 || !scratch .h1 then s.claimFull ctx st layer frames
  else start 2

/-- The joiner of the half that holds the king post starts the claim of the oldest fault that waits for one (R277). -/
def State.stashClaim (s : State) (ctx : Nat) : State :=
  match s.claimable, (s.ctx ctx).stash with
  | f :: _, some st =>
    if f.ctx != ctx || !s.managing || s.claiming || s.stashHeld ctx || st.releasing then s
    else if s.resolvesNow f then ((s.dropFault f.id).countResolved).resume f
    else
      match s.layerAt ctx f.addr st with
      | none => (s.dropFault f.id).giveUp f stPageFault pfStash
      | some i =>
        match s.tryRead ctx (st.entryAt i) 64 .module with
        | .error _ => s.slotGivesUp ctx st i stPageFault
        | .ok e =>
          if leState e != 0 && leState e != 2 then s.slotGivesUp ctx st i stPageFault
          else
            match s.claimFrames ctx e with
            | none => s.slotGivesUp ctx st i stPageFault
            | some n => (s.countSpans ctx [(st.entryAt i, 64), (leShape e, if leShape e = 0 then 0 else 8)] s.kingHalf).claimSized ctx st i e n
  | _, _ => s

def execStashClaim (ctx : Fin 8) (s : State) : Result := .next (s.stashClaim ctx)

/-- The attribute word of a stash page: 2 MiB, READ and WRITE, KERF 0, home by PLACE (R273). -/
def stashAttr (h : Half) : BitVec 32 := BitVec.ofNat 32 (0xC0000001 + 16 * h.num)

/-- Map slot pages 0 to n − 1, each in its half on the site of R207. -/
def State.mapSlot (s : State) (ctx : Nat) (st : Stash) (e : List Byte) (n : Nat) (charge : Charge) : State :=
  forAll (List.range n) (fun j t =>
    let h := if (leSlot e / bigFrame + j) % 2 = 0 then Half.h0 else Half.h1
    let va := sdWindow st.hdr + leSlot e + bigFrame * j
    match t.bestSite (halfSites h) true with
    | none => t
    | some m =>
      match t.place m true with
      | none => t
      | some f => t.addPage ctx va (stashAttr h) charge h m f.1 f.2) s

/-- Write bytes of a context by the king's joiner; where they do not translate nothing changes. -/
def State.writeOr (s : State) (ctx a : Nat) (bs : List Byte) : State :=
  match s.tryWrite ctx a bs false false s.kingHalf .module with
  | .ok t => t
  | .error _ => s

/-- Write STATE and FRAMES of a layer entry. -/
def State.writeLayer (s : State) (ctx at_ state : Nat) (frames : Option Nat) : State :=
  let t := s.writeOr ctx (at_ + 0x15) (toLE 1 state)
  match frames with
  | some f => t.writeOr ctx (at_ + 0x30) (toLE 4 f)
  | none => t

/-- The requesters of a claim that has mapped their pages resume. -/
def State.claimResumes (s : State) : State :=
  forAll (s.claimable.filter s.resolvesNow) (fun f t => ((t.dropFault f.id).countResolved).resume f) s

/-- The job in progress of a context's stash. -/
def State.stashJob (s : State) (ctx step : Nat) : Option (Stash × StashJob) :=
  match (s.ctx ctx).stash with
  | none => none
  | some st => (st.jobs.find? fun j => j.step == step).map fun j => (st, j)

/-- A claim's frames are mapped, STATE 1 written, and the requesters resume (R277 step 3). -/
def State.claimMapped (s : State) (ctx : Nat) : State :=
  match s.stashJob ctx 1 with
  | none => s
  | some (st, j) =>
    if !s.managing then s
    else
      let e := s.readVa ctx (st.entryAt j.layer) 64
      let t := s.modCtx ctx fun x => { x with stash := some { st with jobs := [] } }
      let u := (t.mapSlot ctx st e j.frames (.stash j.layer)).writeLayer ctx (st.entryAt j.layer) 1 (some j.frames)
      (u.writeStash ctx).claimResumes

def execStashClaimMapped (ctx : Fin 8) (s : State) : Result := .next (s.claimMapped ctx)

/-- The shape words of a drop are copied to its gate words (R278). -/
def State.copyShapes (s : State) (ctx : Nat) (e : List Byte) : State :=
  match s.tryRead ctx (refAddr (leSrc e)) (8 * leCount e) .module with
  | .error _ => s
  | .ok bs =>
    match s.tryWrite ctx (refAddr (leDst e)) bs false false s.kingHalf .module with
    | .ok t => t
    | .error _ => s

/-- Whether a page lies in a range of a context. -/
def Page.inside (p : Page) (ctx a n : Nat) : Bool := p.ctx == ctx && decide (a ≤ p.va) && decide (p.va + p.bytes ≤ a + n)

/-- A drop is made: the set passes from the slot that held it to this one, the shape words are copied at the first drop, STATE 2 is written, NEXT_SET toggles, and the requesters resume (R278). -/
def State.dropDone (s : State) (ctx : Nat) : State :=
  match s.stashJob ctx 2 with
  | none => s
  | some (st, j) =>
    if !s.managing then s
    else
      let e := s.readVa ctx (st.entryAt j.layer) 64
      let old (p : Page) : Bool := p.ctx == ctx && match p.charge with
        | .scratch k l => k == st.nextSet || l == j.layer
        | _ => false
      let y := { st with
        jobs := [], nextSet := 1 - st.nextSet, setOwner := tset (st.setOwner.filter fun o => o.2 != j.layer) st.nextSet j.layer
        copied := if st.copied.contains j.layer then st.copied else st.copied ++ [j.layer] }
      let t := ((s.unmapWhere old).modCtx ctx fun x => { x with stash := some y }).mapSlot ctx st e j.frames (.scratch st.nextSet j.layer)
      let u := if st.copied.contains j.layer then t else t.copyShapes ctx e
      let v := u.writeLayer ctx (st.entryAt j.layer) 2 (some j.frames)
      (({ v with ctxRegs := { v.ctxRegs with stashDrops := satAdd max16 v.ctxRegs.stashDrops 1 } }).writeStash ctx).claimResumes

def execStashDropDone (ctx : Fin 8) (s : State) : Result := .next (s.dropDone ctx)

/-- UNMAP of exactly one slot's range: its kept frames return and STATE becomes 3 (R280). -/
def State.slotRelease (s : State) (ctx : Nat) (st : Stash) (layer : Nat) : State :=
  let e := s.readVa ctx (st.entryAt layer) 64
  let lo := sdWindow st.hdr + leSlot e
  ((s.unmapWhere fun p => p.inside ctx lo (bigFrame * leSlotFrames e)).writeLayer ctx (st.entryAt layer) 3 none).writeStash ctx

/-- The layer whose slot is exactly a range. -/
def State.slotOf (s : State) (ctx : Nat) (st : Stash) (a n : Nat) : Option Nat :=
  (List.range (sdLayers st.hdr)).find? fun i =>
    let e := s.readVa ctx (st.entryAt i) 16
    sdWindow st.hdr + leSlot e == a && bigFrame * leSlotFrames e == n

end Sys2Proof.Machine
end

