-- ==== Sys2Proof/Machine/Contexts.lean ====
section
/-! DEFINITION. Contexts: admission and its sums, MAP and UNMAP, release and the context switch (R197, R201 to R215, R348, R355, R356, R389, R397, R479). -/

namespace Sys2Proof.Machine

-- Granules of a loft (R196, R197) ----------------------------------------------------------------------------------

/-- What used runs, in rising order, leave free between two granules: runs of start and length. -/
def gaps : List (Nat × Nat) → Nat → Nat → List (Nat × Nat)
  | [], lo, hi => if lo < hi then [(lo, hi - lo)] else []
  | (a, n) :: r, lo, hi => (if lo < min a hi then [(lo, min a hi - lo)] else []) ++ gaps r (max lo (a + n)) hi

/-- Runs in rising order. -/
def inOrder (l : List (Nat × Nat)) : List (Nat × Nat) := l.mergeSort fun a b => decide (a.1 ≤ b.1)

/-- The first n granules of a list of runs. -/
def takeGran : Nat → List (Nat × Nat) → List (Nat × Nat)
  | _, [] => []
  | n, (a, k) :: r => if n = 0 then [] else if n ≤ k then [(a, n)] else (a, k) :: takeGran (n - k) r

/-- What follows the first n granules. -/
def dropGran : Nat → List (Nat × Nat) → List (Nat × Nat)
  | _, [] => []
  | n, (a, k) :: r => if n < k then (a + n, k - n) :: r else dropGran (n - k) r

/-- The granules of a bay that a new context gets: the lowest free ones of granules 512 to 8,191. -/
def State.loftGrant (s : State) (bay n : Nat) : List (Nat × Nat) :=
  takeGran n (gaps (inOrder ((List.range 8).map fun c => tget (s.ctx c).loft bay []).flatten) 512 8192)

/-- The unallotted granules of a context's reservation in a bay: its operand pool is the first OPPOOL of them. -/
def State.freeGran (s : State) (ctx bay : Nat) : List (Nat × Nat) :=
  let used := inOrder ((s.loft.filter fun r => r.bay == bay && r.ctx == ctx).map fun r => (r.start, r.len))
  ((dropGran (s.ctx ctx).res.oppool (tget (s.ctx ctx).loft bay [])).map fun g => gaps used g.1 (g.1 + g.2)).flatten

/-- The first contiguous run of n unallotted granules of a bay. -/
def State.findRun (s : State) (ctx bay n : Nat) : Option Nat := ((s.freeGran ctx bay).find? fun g => decide (n ≤ g.2)).map Prod.fst

-- Admission (R213, R214, R389) ------------------------------------------------------------------------------------------

/-- The reservation of a CTX_ADMIT (R389). -/
def Cmd.reservation (c : Cmd) : Reservation :=
  { yardH0 := c.par 0x18 4, yardH1 := c.par 0x1C 4, stashH0 := c.par 0x20 4, stashH1 := c.par 0x24 4, packH0 := c.par 0x28 4, packH1 := c.par 0x2C 4
    bayMask := BitVec.ofNat 64 (c.par 0x10 8), loftGran := c.par 0xA 2, oppool := c.par 0xC 2, seq := c.par 0xE 2 }

/-- Frames of a half that a reservation takes, in units of 1/512 frame. -/
def Reservation.frames512 (r : Reservation) (h : Half) : Nat :=
  match h with
  | .h0 => 512 * (r.yardH0 + r.stashH0) + r.packH0
  | .h1 => 512 * (r.yardH1 + r.stashH1) + r.packH1

/-- Whether a half lacks the frames for one more reservation (R214). -/
def State.halfShort (s : State) (r : Reservation) (h : Half) : Bool :=
  let sum := (((List.range 8).filter s.admitted).map fun c => (s.ctx c).res.frames512 h).sum
  decide (512 * siteFrames * ((halfSites h).filter s.siteUp).length < sum + r.frames512 h)

/-- Whether some bay of a mask lacks the granules (R214). -/
def State.loftShort (s : State) (r : Reservation) : Bool :=
  (List.range 64).any fun b => r.bayMask.getLsbD b
    && decide (7680 < (((List.range 8).filter fun c => s.admitted c && s.inMask c b).map fun c => (s.ctx c).res.loftGran).sum + r.loftGran)

/-- The first cause that refuses a CTX_ADMIT (R389). -/
def State.admitRefused (s : State) (c : Cmd) : Option Nat :=
  let r := c.reservation
  let cls := c.par 8 1
  let mode := c.par 9 1
  if !s.flash.variant.sigOk then some 1
  else if s.plan.state == 1 && mode == 0 then some 2
  else if s.admitted c.ctx then some 3
  else if decide (1 < cls) || decide (1 < mode) || r.bayMask == 0 || decide (7680 < r.loftGran) || decide (r.loftGran < r.oppool) || decide (4096 < r.seq)
      || r.loftGran == 0 then some 4
  else if cls == 1 && r.seq != 0 then some 5
  else if s.halfShort r .h0 then some 6
  else if s.halfShort r .h1 then some 7
  else if s.loftShort r then some 8
  else none

/-- A context is admitted: its reservation is granted and its tenancy counted. -/
def State.admitCtx (s : State) (c : Cmd) : State :=
  let r := c.reservation
  let grants := ((List.range 64).filter fun b => r.bayMask.getLsbD b).map fun b => (b, s.loftGrant b r.loftGran)
  s.modCtx c.ctx fun x => { x with
    admitted := true, be := c.par 8 1 == 1, explicit := c.par 9 1 == 1, tenancy := (x.tenancy + 1) % 65536, res := r, loft := grants }

/-- CTX_ADMIT: it waits while the context is being cleared. -/
def State.ctxAdmit (s : State) (n : Nat) (c : Cmd) : State :=
  if (s.ctx c.ctx).clearing then s.await n c
  else
    match s.admitRefused c with
    | some d => s.done n c.slot stCtxRefused d
    | none => (s.admitCtx c).done n c.slot stOk 0

def execCtxAdmit (fn : Fin 9) (slot : Fin 4096) (s : State) : Result := .next (s.begin fn slot 6 0 fun c t => t.ctxAdmit fn c)

-- MAP (R201 to R204, R207, R211, R215) -------------------------------------------------------------------------------------

/-- The half that a pinned tier requires: that of REF_HALF for TIER 3, the other for TIER 4. -/
def attrHalf (a : BitVec 32) : Half := if attrTier a = 3 then halfOf (attrRef a) else (halfOf (attrRef a)).other

/-- Whether an attribute word is refused for a context (R203, R211). -/
def State.attrBad (s : State) (ctx : Nat) (a : BitVec 32) : Bool :=
  let t := attrTier a
  let explicit := (s.ctx ctx).explicit
  a.getLsbD 29 || decide (4 < t) || attrKerf a == 3
    || (t == 1 && decide (415 < attrCore a))
    || (decide (3 ≤ t) && attrSite a != 15 && (decide (11 < attrSite a) || !s.siteUp (attrSite a) || siteHalf (attrSite a) != attrHalf a))
    || (if explicit then t == 0 || attrPlace a != 0 else t == 1 || decide (3 ≤ t))
    || ((t == 1 || t == 2) && (attrBig a || attrKerf a != 0))
    || (attrKerf a == 2 && (t != 0 || decide (2 ≤ attrPlace a)))
    || (t == 2 && !s.inMask ctx (attrBay a))

/-- Whether a range touches the window of a context's armed stash (R273). -/
def State.touchesStash (s : State) (ctx a n : Nat) : Bool :=
  match (s.ctx ctx).stash with
  | none => false
  | some st => decide (sdWindow st.hdr < a + n) && decide (a < sdWindow st.hdr + sdSpan st.hdr)

/-- Whether a MAP's range is refused. -/
def State.mapRangeBad (s : State) (ctx a n : Nat) (attr : BitVec 32) : Bool :=
  let k := pageBytes (attrBig attr)
  a % k != 0 || n % k != 0 || n == 0 || a == 0 || decide (2 ^ 57 < a + n) || s.overlaps ctx a n || s.touchesStash ctx a n

/-- The home half of each page of a range in turn, and the units of 64 KiB then used in each half (R207): PLACE 3 takes the half with more unused reservation. -/
def homes (cap0 cap1 unit : Nat) (attr : BitVec 32) : List Nat → Nat → Nat → List (Nat × Half) × Nat × Nat
  | [], u0, u1 => ([], u0, u1)
  | va :: r, u0, u1 =>
    let h : Half :=
      if 3 ≤ attrTier attr then attrHalf attr
      else match attrPlace attr with
        | 0 => .h0
        | 1 => .h1
        | 2 => halfOf (va / pageBytes (attrBig attr) % 2)
        | _ => if cap0 - u0 < cap1 - u1 then .h1 else .h0
    let x := homes cap0 cap1 unit attr r (if h = .h0 then u0 + unit else u0) (if h = .h1 then u1 + unit else u1)
    ((va, h) :: x.1, x.2)

/-- Place the pages of a yard MAP, each on its site; none where a site lacks the space. -/
def State.placePages (s : State) (ctx : Nat) (attr : BitVec 32) (site : Option Nat) : List (Nat × Half) → Option State
  | [] => some s
  | (va, h) :: r =>
    let kerf := attrKerf attr == 2
    match site.or (s.bestSite (halfSites h) (attrBig attr)) with
    | none => none
    | some m =>
      if kerf then (s.addPage ctx va attr .pack h m siteFrames 0).placePages ctx attr site r
      else
        match s.place m (attrBig attr) with
        | none => none
        | some f => (s.addPage ctx va attr .yard h m f.1 f.2).placePages ctx attr site r

/-- MAP of yard pages: the reservation is checked before the sites' space (R215). -/
def State.mapYard (s : State) (ctx : Nat) (attr : BitVec 32) (vas : List Nat) : Except Nat State :=
  let unit := if attrKerf attr = 2 then 0 else if attrBig attr then 32 else 1
  let x := homes (s.yardCap ctx .h0) (s.yardCap ctx .h1) unit attr vas (s.yardUnits ctx .h0) (s.yardUnits ctx .h1)
  if decide (s.yardCap ctx .h0 < x.2.1 && unit != 0) || decide (s.yardCap ctx .h1 < x.2.2 && unit != 0) then .error 0
  else
    let site := if 3 ≤ attrTier attr then (if attrSite attr = 15 then s.bestSite (halfSites (attrHalf attr)) (attrBig attr) else some (attrSite attr)) else none
    match s.placePages ctx attr site x.1 with
    | some t => .ok t
    | none => .error 1

/-- MAP of loft pages: 16 contiguous granules of the bay each (R197). -/
def State.mapLoft (s : State) (ctx : Nat) (attr : BitVec 32) : List Nat → Except Nat State
  | [] => .ok s
  | va :: r =>
    let bay := attrBay attr
    match s.findRun ctx bay 16 with
    | none => .error 0
    | some g =>
      let t := s.addPage ctx va attr .loft (bayHalf bay) 12 g 0
      let u : State := { t with loft := t.loft ++ [{ bay := bay, ctx := ctx, start := g, len := 16 }] }
      u.mapLoft ctx attr r

/-- A core's bench starts at zero for a new mapping, in every page that maps it (R204, R212). -/
def State.mapBench (s : State) (ctx : Nat) (attr : BitVec 32) (va : Nat) : State :=
  let same := s.pages.filter fun q => attrTier q.attr == 1 && attrBay q.attr == attrBay attr && attrCore q.attr == attrCore attr
  let t : State := { s with mem := same.foldl (fun (m : Memory) (q : Page) => memZero m (cellAddr q.id 0) 32768) s.mem }
  t.addPage ctx va attr .bench (bayHalf (attrBay attr)) 13 0 0

/-- MAP. -/
def State.mapCmd (s : State) (n : Nat) (c : Cmd) : State :=
  let a := c.par 8 8
  let len := c.par 0x10 8
  let attr := BitVec.ofNat 32 (c.par 0x18 4)
  if s.attrBad c.ctx attr || s.mapRangeBad c.ctx a len attr then s.done n c.slot stMapInvalid 0
  else
    let k := pageBytes (attrBig attr)
    let vas := (List.range (len / k)).map fun i => a + k * i
    match (if attrTier attr = 1 then .ok (vas.foldl (fun t v => t.mapBench c.ctx attr v) s)
           else if attrTier attr = 2 then s.mapLoft c.ctx attr vas else s.mapYard c.ctx attr vas) with
    | .ok t => t.done n c.slot stOk 0
    | .error d => s.done n c.slot stReservation d

def execMap (fn : Fin 9) (slot : Fin 4096) (s : State) : Result := .next (s.begin fn slot 0x10 0 fun c t => t.mapCmd fn c)

-- UNMAP (R205, R273, R280, R479) ----------------------------------------------------------------------------------------------

/-- Whether a mapped page lies partly inside a range. -/
def State.cutsPage (s : State) (ctx a n : Nat) : Bool :=
  s.pages.any fun p => p.mapped && p.ctx == ctx && decide (p.va < a + n) && decide (a < p.va + p.bytes) && !p.inside ctx a n

/-- Loft granules of unmapped loft pages return (R197). -/
def State.freeLoft (s : State) (gone : List Page) : State :=
  { s with loft := s.loft.filter fun r => !gone.any fun p => attrTier p.attr == 2 && attrBay p.attr == r.bay && p.ctx == r.ctx && p.frame == r.start }

/-- Unmap every page inside a range. -/
def State.unmapRange (s : State) (ctx a n : Nat) : State :=
  let gone := s.pages.filter fun p => p.mapped && p.inside ctx a n
  ((s.unmapWhere fun p => p.inside ctx a n).freeLoft gone).packChecks ctx

/-- UNMAP. -/
def State.unmapCmd (s : State) (n : Nat) (c : Cmd) : State :=
  let a := c.par 8 8
  let len := c.par 0x10 8
  if a % 65536 != 0 || len % 65536 != 0 || len == 0 || decide (2 ^ 57 < a + len) || s.cutsPage c.ctx a len then s.done n c.slot stMapInvalid 0
  else if !s.touchesStash c.ctx a len then (s.unmapRange c.ctx a len).done n c.slot stOk 0
  else
    match (s.ctx c.ctx).stash with
    | none => s.done n c.slot stMapInvalid 0
    | some st =>
      match s.slotOf c.ctx st a len with
      | none => s.done n c.slot stMapInvalid 0
      | some i =>
        if s.stashHeld c.ctx || st.releasing then s.await n c
        else
        let t := s.modCtx c.ctx fun x => { x with stash := some { st with jobs := st.jobs.filter fun j => j.layer != i } }
        (t.slotRelease c.ctx st i).done n c.slot stOk 0

def execUnmap (fn : Fin 9) (slot : Fin 4096) (s : State) : Result := .next (s.begin fn slot 0x11 0 fun c t => t.unmapCmd fn c)

-- The context switch (R356, R397, R400) -------------------------------------------------------------------------------------------

/-- Runs of a context are abandoned, protected ones included; ABANDONED counts those of R352 only (R356, R374). -/
def State.dropRuns (s : State) (ctx : Nat) : State :=
  let gone := s.scribe.runs.filter fun r => r.ctx == ctx
  let t := forAll gone (fun r x => x.delRun r.core) s
  { t with scribe := { t.scribe with checks := t.scribe.checks.filter fun c => c.ctx != ctx } }

/-- LC claims of a context end. -/
def State.dropClaims (s : State) (ctx : Nat) : State :=
  { s with bays := s.bays.map fun (b : Nat × Bay) => (b.1, match b.2.claim with
      | some c => if c.ctx == ctx then { b.2 with claim := none } else b.2
      | none => b.2) }

/-- A stream of a context that ends is cancelled and released (R179, R180); no command waits on it any more. -/
def State.endStream (s : State) (bay slot : Nat) : State :=
  match s.stream? bay slot with
  | none => s
  | some x =>
    let y := { x with waiters := [], releasing := true, bufs := x.bufs.filter fun e => !e.2.taken }
    if x.state = 4 then s.freeStream y
    else if x.cancelling then (s.setStream y).settleStream bay slot
    else s.cancelStream y

/-- Steps 1 and 2 of R356: lists halt, runs are abandoned, streams and fetches cancelled, pegs and other engines stop. -/
def State.startSwitch (s : State) (ctx : Nat) (rel : Option (Nat × Nat)) (byReset : Bool) : State :=
  let a := (s.modCtx ctx fun c => { c with clearing := true, release := rel, byReset := byReset }).dropRuns ctx
  let b := { a with lists := a.lists.filter fun l => l.ctx != ctx, faults := a.faults.filter fun f => f.ctx != ctx }
  let c := forAll (b.fetches.filter fun f => f.ctx == ctx) (fun f x => x.cancelFetch f.id) (b.dropClaims ctx)
  let d := (c.dropEngines ctx).modCtx ctx fun x => { x with pegs := [], planes := [], seq := {}, stash := x.stash.map fun st => { st with jobs := [] } }
  forAll (d.streams.filter fun x => x.ctx == ctx) (fun x t => t.endStream x.bay x.slot) d

/-- CTX_RELEASE. -/
def State.ctxRelease (s : State) (n : Nat) (c : Cmd) : State :=
  (s.setCmd n c.slot { c with phase := .running }).startSwitch c.ctx (some (n, c.slot)) false

def execCtxRelease (fn : Fin 9) (slot : Fin 4096) (s : State) : Result := .next (s.begin fn slot 7 0 fun c t => t.ctxRelease fn c)

/-- What a context number keeps over a tenancy: its count, its class and mode as last shown, its timeouts and its counters (R374). -/
def Ctx.cleared (c : Ctx) : Ctx :=
  { ({} : Ctx) with
    be := c.be, explicit := c.explicit, tenancy := c.tenancy, waitLog2 := c.waitLog2, handleLog2 := c.handleLog2, nearmiss := c.nearmiss
    abandoned := c.abandoned, yielded := c.yielded, saturated := c.saturated, stray := c.stray, meter := c.meter, imeter := c.imeter }

/-- The commands of a context that its release aborts: every outstanding one but the release itself and a CTX_ADMIT that waits. -/
def State.abortCmds (s : State) (ctx : Nat) (rel : Option (Nat × Nat)) : State :=
  forAll (List.range 9) (fun n t =>
    forAll ((t.fn n).outstanding.filter fun c => ctxCommand c.opcode && c.opcode != 6 && c.ctx == ctx && rel != some (n, c.slot))
      (fun c u => u.done n c.slot stAborted 0) t) s

/-- Steps 3 and 4 of R356 and the rest of R397: pages are unmapped and zeroed, everything returns to its state before admission, commands end, the release last. -/
def State.clearCtx (s : State) (ctx : Nat) : State :=
  let x := s.ctx ctx
  if !x.clearing || s.streams.any (fun y => y.ctx == ctx) || s.reqs.any (fun r => r.ctx == ctx) then s
  else
    let a := ({ s with
      pages := s.pages.map fun (p : Page) => if p.ctx == ctx then { p with mapped := false, mig := none } else p
      loft := s.loft.filter fun r => r.ctx != ctx
      handles := s.handles.filter fun h => h.ctx != ctx
      faults := s.faults.filter fun f => f.ctx != ctx
      yard := { s.yard with packLow := s.yard.packLow.filter fun k => k / 2 != ctx } }).sweepPages
    let b := (a.setCtx ctx x.cleared).abortCmds ctx x.release
    match x.release with
    | some c => b.done c.1 c.2 stOk 0
    | none => b

def execContextStateClear (ctx : Fin 8) (s : State) : Result := .next (s.clearCtx ctx)

end Sys2Proof.Machine
end

