-- ==== Sys2Proof/Machine/Arms.lean ====
section
/-! DEFINITION. STREAM_ARM and its further operations, the rollout sequence table and its builds, LEDGER_SWAP (R163, R165, R170, R176, R177, R262, R367 to R370, R392, R394). -/

namespace Sys2Proof.Machine

-- STREAM_ARM (R163, R165, R170, R197) ------------------------------------------------------------------------------------

/-- Whether another armed stream of a context on a bay uses the queue or the semaphore pair (R163). -/
def State.queueTaken (s : State) (ctx bay : Nat) (h : List Byte) : Bool :=
  s.streams.any fun x => x.ctx == ctx && x.bay == bay && (hdrKind x.hdr == 0) == (hdrKind h == 0) && hdrQueue x.hdr == hdrQueue h

/-- The bay and first granule of a stream's buffers: the lowest-numbered bay of its half in the mask whose reservation holds them (R197). -/
def State.streamRun (s : State) (ctx bay n : Nat) : Option (Nat × Nat) :=
  ((List.range 64).filter fun b => b / 32 == bay / 32 && s.inMask ctx b).findSome? fun b => (s.findRun ctx b n).map fun g => (b, g)

/-- The lowest free stream slot of a bay. -/
def State.freeSlot (s : State) (bay : Nat) : Option Nat := (List.range 64).find? fun i => (s.stream? bay i).isNone

/-- A stream is armed: ARMED, its first pass due; a ring's pair starts with every buffer free (R170, R175, R176). -/
def State.armStream (s : State) (n : Nat) (c : Cmd) (desc bay slot : Nat) (h : List Byte) (run : Nat × Nat) : State :=
  let q := s.newId
  let ring := hdrKind h != 0
  let base := if ring then run.1 * 8192 + run.2 else 0
  let len := hdrDepth h * (hdrBufGran h + 1)
  let x : Stream := { bay := bay, slot := slot, ctx := c.ctx, hdr := h, desc := desc, bases := (List.range 4).map (hdrBase h), ringBase := base
                      granule := run.2, loftBay := run.1, waitSeq := q.1 }
  let t : State := { q.2 with streams := q.2.streams ++ [x], loft := q.2.loft ++ [{ bay := run.1, ctx := c.ctx, start := run.2, len := len }] }
  let u := if ring then
      t.modCtx c.ctx fun y => { y with pairs := tset y.pairs (32 * bay + hdrQueue h) { full := 0, free := hdrDepth h } }
    else t
  (u.putStream x).complete n c.slot stOk 0 (slot + 2 ^ 32 * base) 0

/-- STREAM_ARM ARM. -/
def State.streamArm (s : State) (n : Nat) (c : Cmd) : State :=
  let bay := c.par 9 1
  let a := c.par 0x10 8
  if decide (63 < bay) || !s.inMask c.ctx bay || a % 64 != 0 || refHigh a != 0 then s.invalid n c 3
  else s.cmdRead n c a 64 fun h s =>
    if hdrBad h then s.done n c.slot stDescInvalid 0
    else
      match s.freeSlot bay, s.streamRun c.ctx bay (hdrDepth h * (hdrBufGran h + 1)) with
      | some slot, some run => if s.queueTaken c.ctx bay h then s.done n c.slot stStreamBusy 0 else s.armStream n c a bay slot h run
      | _, _ => s.done n c.slot stStreamNoResource 0

def execStreamArm (fn : Fin 9) (slot : Fin 4096) (s : State) : Result := .next (s.begin fn slot 0x15 0 fun c t => t.streamArm fn c)

/-- The stream that an OP 1 to 4 names, or the refusal (R392). -/
def State.namedStream (s : State) (n : Nat) (c : Cmd) (k : Stream → State) : State :=
  let bay := c.par 9 1
  let slot := c.par 0xA 1
  if decide (63 < bay) || decide (63 < slot) then s.invalid n c 3
  else
    match s.stream? bay slot with
    | some x => if x.ctx == c.ctx then k x else s.invalid n c 4
    | none => s.invalid n c 4

/-- The same, where a stream that is RELEASED already, its record still to be written, is no armed stream any more. -/
def State.armedStream (s : State) (n : Nat) (c : Cmd) (k : Stream → State) : State :=
  s.namedStream n c fun x => if x.state = 4 then s.invalid n c 4 else k x

/-- STREAM_ARM REARM (R177). -/
def State.streamRearm (s : State) (n : Nat) (c : Cmd) : State :=
  let bases := (List.range 4).map fun i => c.par (0x18 + 8 * i) 8
  if bases.any fun b => refHigh b != 0 then s.invalid n c 2
  else s.namedStream n c fun x =>
    if !hdrPersist x.hdr then s.invalid n c 4
    else if x.state = 3 || x.state = 4 || x.heldBases.isSome then s.done n c.slot stStreamBusy 0
    else if x.state = 0 && !x.due then
      let q := s.newId
      (q.2.setStream { x with bases := bases, due := true, waitSeq := q.1 }).done n c.slot stOk 0
    else (s.setStream { x with heldBases := some bases }).done n c.slot stOk 0

def execStreamArmRearm (fn : Fin 9) (slot : Fin 4096) (s : State) : Result := .next (s.begin fn slot 0x15 1 fun c t => t.streamRearm fn c)

/-- STREAM_ARM CANCEL (R180, R392). -/
def State.streamCancel (s : State) (n : Nat) (c : Cmd) : State :=
  s.armedStream n c fun x =>
    if x.state = 0 || x.state = 3 then s.done n c.slot stOk 0
    else
      let y := { x with waiters := x.waiters ++ [(n, c.slot)] }
      let t := s.setCmd n c.slot { c with phase := .running }
      if x.cancelling then t.setStream y else t.cancelStream y

def execStreamArmCancel (fn : Fin 9) (slot : Fin 4096) (s : State) : Result := .next (s.begin fn slot 0x15 2 fun c t => t.streamCancel fn c)

/-- STREAM_ARM RESTART (R176, R392). -/
def State.streamRestart (s : State) (n : Nat) (c : Cmd) : State :=
  s.armedStream n c fun x =>
    if x.state != 3 || x.cancelling then s.done n c.slot stStreamBusy 0
    else
      let q := s.newId
      let again := !hdrPersist x.hdr
      (q.2.putStream { x with
        state := 0, code := 0, cause := 0, watermark := 0, next := 0, ended := false, waitSeq := q.1, due := again || x.heldBases.isSome
        bases := x.heldBases.getD x.bases, heldBases := none }).done n c.slot stOk 0

def execStreamArmRestart (fn : Fin 9) (slot : Fin 4096) (s : State) : Result := .next (s.begin fn slot 0x15 3 fun c t => t.streamRestart fn c)

/-- STREAM_ARM RELEASE (R392). -/
def State.streamRelease (s : State) (n : Nat) (c : Cmd) : State :=
  s.armedStream n c fun x =>
    let y := { x with waiters := x.waiters ++ [(n, c.slot)], releasing := true }
    let t := s.setCmd n c.slot { c with phase := .running }
    if x.cancelling then (t.setStream y).settleStream x.bay x.slot else t.cancelStream y

def execStreamArmRelease (fn : Fin 9) (slot : Fin 4096) (s : State) : Result := .next (s.begin fn slot 0x15 4 fun c t => t.streamRelease fn c)

-- The sequence table (R367, R368, R394) -----------------------------------------------------------------------------------

def scShape (r : List Byte) : Nat := fld r 0 8
def scTemplate (r : List Byte) : Nat := fld r 8 8
def scCount (r : List Byte) : Nat := fld r 0x10 8
def scBay (r : List Byte) : Nat := fld r 0x18 1
def scBuildSem (r : List Byte) : Nat := fld r 0x19 1
def scReadySem (r : List Byte) : Nat := fld r 0x1A 1
def scReadyPeg (r : List Byte) : Nat := fld r 0x1C 2

/-- Whether a control record is refused (R367). -/
def State.controlBad (s : State) (ctx : Nat) (r : List Byte) : Bool :=
  let addr (v : Nat) : Bool := v == 0 || v % 8 != 0 || refHigh v != 0
  addr (scShape r) || addr (scCount r) || bits (scTemplate r) 19 0 != 0 || bits (scTemplate r) 63 60 != 0
    || decide (63 < scBay r) || !s.inMask ctx (scBay r) || decide (63 < scBuildSem r) || (decide (63 < scReadySem r) && scReadySem r != 0xFF)
    || fld r 0x1B 1 != 0 || !zeroAt r 0x1E 34

/-- An entry as SEQ_TABLE_EDIT READ copies it (R368). -/
def seqBytes (e : SeqEntry) : List Byte :=
  toLE 1 e.state ++ toLE 1 e.cause ++ toLE 2 0 ++ toLE 4 e.tag.toNat ++ toLE 4 e.stepsDone ++ toLE 4 e.stepLimit ++ toLE 8 e.stopRef ++ toLE 8 0

/-- Whether an entry to be written is refused. -/
def seqBad (b : List Byte) : Bool :=
  decide (2 < fld b 0 1) || !zeroAt b 2 2 || !zeroAt b 0x18 8 || refHigh (fld b 0x10 8) != 0 || fld b 0x10 8 % 4 != 0

/-- An entry after an edit: a changed STATE sets CAUSE, and STEPS_DONE restarts from FREE to DECODE (R368, R394). -/
def seqEdit (e : SeqEntry) (b : List Byte) : SeqEntry :=
  let st := fld b 0 1
  { state := st
    cause := if st = e.state then e.cause else if st = 1 then 0 else 3
    tag := BitVec.ofNat 32 (fld b 4 4)
    stepsDone := if e.state = 0 && st == 1 then 0 else e.stepsDone
    stepLimit := fld b 0xC 4
    stopRef := fld b 0x10 8 }

/-- An edit waits for a build that runs, and a context without a table refuses it (R370, R394). -/
def State.seqCmd (s : State) (n : Nat) (c : Cmd) (k : Nat → State) : State :=
  let x := s.ctx c.ctx
  let a := c.par 0x10 8
  if x.seq.building then s.await n c
  else if refHigh a != 0 then s.invalid n c 3
  else if x.res.seq = 0 then s.done n c.slot stDescInvalid 0
  else k a

/-- SEQ_TABLE_EDIT CONTROL. -/
def State.seqControl (s : State) (n : Nat) (c : Cmd) : State :=
  s.seqCmd n c fun a => s.cmdRead n c a 64 fun r s =>
    if s.controlBad c.ctx r then s.done n c.slot stDescInvalid 0
    else
      let q := s.newId
      (q.2.modCtx c.ctx fun x => { x with seq := { x.seq with control := some r, build := 0, waitSeq := q.1 } }).done n c.slot stOk 0

def execSeqTableEditControl (fn : Fin 9) (slot : Fin 4096) (s : State) : Result := .next (s.begin fn slot 0x1A 0 fun c t => t.seqControl fn c)

/-- FIRST and COUNT of an edit. -/
def Cmd.seqFirst (c : Cmd) : Nat := c.par 0xA 2
def Cmd.seqCount (c : Cmd) : Nat := c.par 0xC 2 + 1

/-- Whether an edit's range goes beyond SEQ. -/
def State.seqBeyond (s : State) (c : Cmd) : Bool := decide ((s.ctx c.ctx).res.seq < c.seqFirst + c.seqCount)

/-- SEQ_TABLE_EDIT WRITE. -/
def State.seqWrite (s : State) (n : Nat) (c : Cmd) : State :=
  s.seqCmd n c fun a =>
    if s.seqBeyond c then s.done n c.slot stDescInvalid 0
    else s.cmdRead n c a (32 * c.seqCount) fun bs s =>
      let es := (List.range c.seqCount).map fun i => cut bs (32 * i) 32
      if es.any seqBad then s.done n c.slot stDescInvalid 0
      else
        (s.modCtx c.ctx fun x => { x with seq := { x.seq with
          entries := (es.zipIdx).foldl (fun t e => tset t (c.seqFirst + e.2) (seqEdit (tget t (c.seqFirst + e.2) {}) e.1)) x.seq.entries } }).done n c.slot stOk 0

def execSeqTableEditWrite (fn : Fin 9) (slot : Fin 4096) (s : State) : Result := .next (s.begin fn slot 0x1A 1 fun c t => t.seqWrite fn c)

/-- SEQ_TABLE_EDIT READ. -/
def State.seqRead (s : State) (n : Nat) (c : Cmd) : State :=
  s.seqCmd n c fun a =>
    if s.seqBeyond c then s.done n c.slot stDescInvalid 0
    else
      let x := (s.ctx c.ctx).seq
      let bs := ((List.range c.seqCount).map fun i => seqBytes (tget x.entries (c.seqFirst + i) {})).flatten
      match s.tryWrite c.ctx a bs false false .h0 .module with
      | .error f => s.cmdFault n c f.1 f.2 true
      | .ok t => t.complete n c.slot stOk 0 x.build 0

def execSeqTableEditRead (fn : Fin 9) (slot : Fin 4096) (s : State) : Result := .next (s.begin fn slot 0x1A 2 fun c t => t.seqRead fn c)

-- Builds (R369) -------------------------------------------------------------------------------------------------------------

/-- Whether an edit of a context's table has begun and not ended, as one that a page fault holds (R370). -/
def State.editing (s : State) (ctx : Nat) : Bool :=
  (List.range 9).any fun n => (s.fn n).outstanding.any fun c => c.opcode == 0x1A && c.ctx == ctx && c.phase != .fetched

/-- A build starts: one count of BUILD_SEM is taken; it waits for an edit's end (R360, R369, R370). -/
def State.buildStart (s : State) (ctx : Nat) : State :=
  let x := (s.ctx ctx).seq
  match x.control with
  | none => s
  | some r =>
    if x.building || s.editing ctx || !s.mayTake ctx (scBay r) (scBuildSem r) 1 x.waitSeq then s
    else (s.semTake ctx (scBay r) (scBuildSem r) 1).modCtx ctx fun c => { c with seq := { c.seq with building := true } }

def execSeqBuildStart (ctx : Fin 8) (s : State) : Result := .next (s.buildStart ctx)

/-- One slot of a build: its entry after it, its shape word, and whether it was included or paused (R369). -/
def State.buildSlot (s : State) (ctx : Nat) (r : List Byte) (e : SeqEntry) : Except (Nat × Nat) (SeqEntry × Nat × Bool × Bool) := do
  if e.state != 1 then return (e, 0, false, false)
  let stop ← if e.stopRef = 0 then pure 0 else (fun b => leNat b) <$> s.tryRead ctx (refAddr e.stopRef) 4 .module
  if stop != 0 then return ({ e with state := 2, cause := 1 }, 0, false, true)
  else if e.stepLimit != 0 && e.stepsDone == e.stepLimit then return ({ e with state := 2, cause := 2 }, 0, false, true)
  else return ({ e with stepsDone := (e.stepsDone + 1) % 2 ^ 32 }, scTemplate r + 1, true, false)

/-- What a build writes: the table's new entries, the state with every word written, and how many slots were paused. -/
def State.buildAll (s : State) (ctx : Nat) (r : List Byte) (number : Nat) : Except (Nat × Nat) (State × Table SeqEntry × Nat) := do
  let x := s.ctx ctx
  let slots ← (List.range x.res.seq).mapM fun i => s.buildSlot ctx r (tget x.seq.entries i {})
  let words := (slots.map fun o => toLE 8 o.2.1).flatten
  let count := (slots.filter fun o => o.2.2.1).length
  let h := bayHalf (scBay r)
  let t ← s.tryWrite ctx (refAddr (scShape r)) words false false h .module
  let u ← t.tryWrite ctx (refAddr (scCount r)) (toLE 8 (count + 2 ^ 32 * number)) false false h .module
  let stops := ((List.range x.res.seq).filter fun i => (tget x.seq.entries i {}).state == 1 && (tget x.seq.entries i {}).stopRef != 0).map fun i => (refAddr (tget x.seq.entries i {}).stopRef, 4)
  pure (u.countSpans ctx stops h, (slots.zipIdx).map fun o => (o.2, o.1.1), (slots.filter fun o => o.2.2.2).length)

/-- A build ends: the work list and the count word are written, READY_SEM is posted, READY_PEG fired, and SEQ_PAUSED posted if a slot paused. While one of its words does not translate the build waits (log entry 61). -/
def State.buildDone (s : State) (ctx : Nat) : State :=
  let x := (s.ctx ctx).seq
  match x.control with
  | none => s
  | some r =>
    let number := (x.build + 1) % 2 ^ 32
    if !x.building then s
    else
      match s.buildAll ctx r number with
      | .error _ => s
      | .ok (t, es, paused) =>
        let q := t.newId
        let u := q.2.modCtx ctx fun c => { c with seq := { c.seq with entries := es, build := number, building := false, waitSeq := q.1 } }
        let v := if scReadySem r = 0xFF then u else u.semAdd ctx (scBay r) (scReadySem r) 1
        let w := if scReadyPeg r = 0xFFFF then v else v.raisePeg ctx (scReadyPeg r) 1
        if paused = 0 then w else w.postCtx ctx 11 (bayHalf (scBay r)) (toLE 4 number ++ toLE 2 paused)

def execSeqBuildDone (ctx : Fin 8) (s : State) : Result := .next (s.buildDone ctx)

-- LEDGER_SWAP (R252, R262) -----------------------------------------------------------------------------------------------------

/-- The writes of a swap: ENTRIES, then ROOT and STATE in one unit. -/
def State.swapWrites (s : State) (c : Cmd) (a : Nat) (x : Anchor) : Except (Nat × Nat) State := do
  let t ← s.tryWrite c.ctx (a + 0x10) (toLE 4 (c.par 0x20 4)) false false .h0 .module
  t.tryWrite c.ctx a (toLE 8 (c.par 0x18 8) ++ toLE 8 (c.par 0x24 4 + 2 ^ 32 * ((x.rootSeq + 1) % 65536))) false false .h0 .module

/-- LEDGER_SWAP: the anchor is rewritten, and the command completes once no tile holds a snapshot with the old ROOT_SEQ. -/
def State.ledgerSwap (s : State) (n : Nat) (c : Cmd) : State :=
  let a := c.par 0x10 8
  let root := c.par 0x18 8
  if a % 64 != 0 || refHigh a != 0 || root % 64 != 0 || refHigh root != 0 || c.par 0x20 4 == 0 || decide (1048576 < c.par 0x20 4) then s.invalid n c 3
  else s.cmdRead n c a 64 fun b s =>
    let x := anchorOf a b
    if !x.legal then s.done n c.slot stDescInvalid 0
    else if x.busy then s.done n c.slot stLedgerBusy 0
    else
      match s.swapWrites c a x with
      | .error f => s.cmdFault n c f.1 f.2 true
      | .ok t => (t.setCmd n c.slot { c with phase := .running, moved := x.rootSeq }).sweepSwaps

def execLedgerSwap (fn : Fin 9) (slot : Fin 4096) (s : State) : Result := .next (s.begin fn slot 0x1B 0 fun c t => t.ledgerSwap fn c)

end Sys2Proof.Machine
end

