-- ==== Sys2Proof/Machine/SillOps.lean ====
section
/-! DEFINITION. Resets of functions, configuration requests, and the device commands: FLOORPLAN_GET, TOPO_GET, ATTEST, POWER_LIMIT, FW_UPDATE, with the SPDM endpoint and Sill's operations (R43, R388, R390, R400 to R402, R427, R437, R445 to R449, R464). -/

namespace Sys2Proof.Machine

-- Function resets (R400 to R402) -----------------------------------------------------------------------------------------

/-- A function's registers and rings return to their reset state; the signals it has made stand. -/
def State.resetFn (s : State) (n : Nat) : State := s.setFn n { ({} : Fn) with signals := (s.fn n).signals }

/-- Clear bits of the programmed IDE streams. -/
def State.ideClear (s : State) (m : Nat) : State := s.modSill fun x => { x with ide := x.ide &&& ~~~(BitVec.ofNat 10 m) }

/-- The requests of a function, and the faults its commands wait for, end with it. -/
def State.dropRequests (s : State) (n : Nat) : State :=
  let mine (j : SillJob) : Bool := match j with
    | .spdm fn _ => fn == n
    | .attest fn _ => fn == n
    | .fwUpdate fn _ => fn == n
    | .signPlan | .verifyJoiner _ => false
  let t := s.sillDrop mine
  { t with faults := t.faults.filter fun f => match f.who with
      | .command fn _ => fn != n
      | _ => true }

/-- Function Level Reset of VFn: its commands end without entries, and its context is released (R400). -/
def State.flrVf (s : State) (n : Nat) : State :=
  let t := ((s.dropRequests n).resetFn n).ideClear (2 ^ n)
  let c := n - 1
  let x := t.ctx c
  if x.clearing then
    (match x.release with
     | some r => if r.1 = n then t.modCtx c fun y => { y with release := none, byReset := true } else t
     | none => t)
  else if x.admitted then t.startSwitch c none true
  else t

/-- Commands of PF0 that other parts will complete are forgotten: their place becomes one of no function. -/
def forgotten (c : Nat × Nat) : Nat × Nat := if c.1 = 0 then (9, c.2) else c

/-- Nothing will complete a command of PF0 any more. -/
def State.forgetPf0 (s : State) : State :=
  let t := { s with
    lists := s.lists.map fun (l : TList) => { l with launch := l.launch.map forgotten }
    streams := s.streams.map fun (x : Stream) => { x with waiters := x.waiters.map forgotten }
    ctxs := s.ctxs.map fun (e : Nat × Ctx) => (e.1, { e.2 with
      release := e.2.release.map forgotten
      planes := e.2.planes.map fun (p : Nat × Plane) => (p.1, { p.2 with release := p.2.release.map forgotten }) }) }
  t.modPower fun p => { p with limitCmds := p.limitCmds.filter fun c => c.1 != 0 }

/-- Function Level Reset of PF0: a FW_UPDATE is abandoned, the BAR4 registers return to reset, contexts and VF rings stay (R401). -/
def State.flrPf0 (s : State) : State :=
  let t := ((((s.forgetPf0).dropRequests 0).resetFn 0).ideClear 513).modSill fun x => { x with update := none }
  { t with hif := { t.hif with bar4Valid := false, bar4Ctx := 0, bar4Base := 0, bar4Q := [] }, faults := t.faults.filter fun f => f.who != .bar4 }

/-- Every VF is reset. -/
def State.flrVfs (s : State) : State := forAll [1, 2, 3, 4, 5, 6, 7, 8] (fun n t => t.flrVf n) s

def execFunctionLevelResetVf (vf : Fin 8) (s : State) : Result :=
  .next (if s.present (vf.val + 1) then s.flrVf (vf.val + 1) else s)

def execFunctionLevelResetPf0 (s : State) : Result := .next (if s.present 0 then s.flrPf0 else s)

/-- The host clears VF Enable: every VF is reset (R400). -/
def State.vfOff (s : State) : State :=
  if !s.hif.linkUp || !s.hif.vfEnable then s
  else
    let t := s.flrVfs
    { t with hif := { t.hif with vfEnable := false } }

def execVfEnableClear (s : State) : Result := .next s.vfOff

/-- A conventional reset (R402): every VF, then PF0. The link is down until PERST# is deasserted; a hot reset leaves it up. -/
def State.conventional (s : State) (k : ResetKind) : State :=
  let t := if s.aon.pwrOk then s.flrVfs.flrPf0 else s
  match k with
  | .perst => { t with hif := { t.hif with perst := true, linkUp := false } }
  | .linkDisable => { t with hif := { t.hif with linkUp := false } }
  | .hotReset => t

def execPerstAssert (kind : ResetKind) (s : State) : Result := .next (s.conventional kind)

/-- The link trains to a width and a speed, as R404 numbers them (R375). -/
def State.linkTrained (s : State) (width speed : Nat) : State := { s with hif := { s.hif with linkWidth := width, linkSpeed := speed } }

/-- PERST# is deasserted, or a disabled link enabled: the link trains, to a width and a speed that the host's end decides as well (R375, R464 step 4; log entry 49). -/
def execPerstDeassert (s : State) : Result :=
  let q := s.newId
  let w := Config.linkTrains q.1
  .next ({ q.2 with hif := { s.hif with perst := false, linkUp := s.aon.pwrOk } }.linkTrained (w.1.val + 1) (w.2.val + 1))

/-- What a configuration request does when it completes normally (R375, R376, R400, R404); BAR4, VF Enable and the link are PF0's. -/
def State.access (s : State) (n : Nat) (a : ConfigAccess) : State :=
  match a with
  | .plain => s
  | .bar4Size k => if n = 0 then { s with hif := { s.hif with bar4Log2 := 30 + k.val } } else s
  | .power d => ((s.setFn n { s.fn n with d3hot := d }).flushCpl n).evqResume n
  | .vfEnableSet => if n = 0 then { s with hif := { s.hif with vfEnable := true } } else s
  | .ecrc g c => s.setFn n { s.fn n with ecrcGen := g, ecrcCheck := c }
  | .aerClear m => s.setFn n { s.fn n with aer := (s.fn n).aer &&& ~~~m }
  | .retrain w v =>
    if n = 0 then ({ s with hif := { s.hif with retrains := satAdd max16 s.hif.retrains 1 } }).linkTrained (w.val + 1) (v.val + 1) else s

/-- A configuration request: Request Retry Status until step 4 of R416 is done, then a normal completion (R464). -/
def State.configure (s : State) (n : Nat) (a : ConfigAccess) : State :=
  if !s.present n then s
  else
    let ok := decide (4 ≤ s.aon.boot.stage) || s.sill.recovery
    let t := { s with hif := { s.hif with out := { s.hif.out with config := some ok } } }
    if ok then t.access n a else t

def execConfigRequest (request : ConfigRequest) (s : State) : Result := .next (s.configure request.fn request.access)

-- FLOORPLAN_GET and TOPO_GET (R43, R388, R390) --------------------------------------------------------------------------------

/-- A command's record is written to host memory and the command ends with its result, or with HOST_ERROR (R388). -/
def State.giveHost (s : State) (n : Nat) (c : Cmd) (a : Nat) (bs : List Byte) (result : Nat) : State :=
  let r := s.hostPut a bs
  if r.2 then r.1.complete n c.slot stOk 0 result 0 else r.1.done n c.slot stHostError 0

/-- FLOORPLAN_GET writes one generation whole. Where no live floor plan was built (R34), it gives the plan as it stands from the factory copy (log entry 42). -/
def State.floorplanGet (s : State) (n : Nat) (c : Cmd) : State :=
  let out := c.par 8 8
  if out % 64 != 0 || decide (1 < c.par 0x10 1) then s.invalid n c 3
  else
    let factory := c.par 0x10 1 == 1
    let p := if factory then s.flash.factory else s.plan
    s.giveHost n c out (planImage p s.flash.variant factory) (p.generation + 2 ^ 32 * p.state)

def execFloorplanGet (fn : Fin 9) (slot : Fin 4096) (s : State) : Result := .next (s.begin fn slot 1 0 fun c t => t.floorplanGet fn c)

/-- The 64-byte record of TOPO_GET (R390). -/
def State.topo (s : State) : List Byte :=
  let p := s.plan
  cut (toLE 6 s.aon.coord.toNat ++ toLE 6 s.aon.axisLen.toNat ++ toLE 1 (b2n s.aon.coordValid) ++ toLE 1 p.portUp.toNat ++ toLE 1 p.portHalf.toNat
    ++ toLE 1 s.kingHalf.num ++ toLE 2 s.links.routeGen ++ toLE 2 p.siteMask.toNat ++ toLE 4 p.goodCores ++ toLE 4 p.generation ++ toLE 1 p.part
    ++ toLE 1 p.stepping.toNat ++ toLE 2 0 ++ toLE 8 p.serial.toNat) 0 64

/-- TOPO_GET. -/
def State.topoGet (s : State) (n : Nat) (c : Cmd) : State :=
  let out := c.par 8 8
  if out % 64 != 0 then s.invalid n c 3 else s.giveHost n c out s.topo s.links.routeGen

def execTopoGet (fn : Fin 9) (slot : Fin 4096) (s : State) : Result := .next (s.begin fn slot 2 0 fun c t => t.topoGet fn c)

-- POWER_LIMIT (R427) --------------------------------------------------------------------------------------------------------------

/-- POWER_LIMIT: the limit is set, and the command completes when its operating point is reached. -/
def State.powerLimit (s : State) (n : Nat) (c : Cmd) : State :=
  let w := c.par 8 2
  let p := s.aon.power
  if w = 0 then s.complete n c.slot stOk 0 (p.requested + 65536 * p.inEffect) 0
  else if w < 1400 || decide (2400 < w) then s.done n c.slot stPowerRange 0
  else
    let t := (s.modPower fun q => { q with requested := w, limitCmds := q.limitCmds ++ [(n, c.slot)] }).setCmd n c.slot { c with phase := .running }
    (if t.aon.power.inEffect = p.inEffect then t else t.postPower 0 0xFF).limitReached

def execPowerLimit (fn : Fin 9) (slot : Fin 4096) (s : State) : Result := .next (s.begin fn slot 4 0 fun c t => t.powerLimit fn c)

-- Measurements and ATTEST (R447 to R449) -----------------------------------------------------------------------------------------------

/-- A digest of SHA3-512 as 64 bytes. -/
def measured (bs : List Byte) : List Byte := toLE 64 (Config.sha3 bs).toNat

/-- The bytes of the running image's component of a type. -/
def State.runningPart (s : State) (type : Nat) : List Byte :=
  match (imgComponents s.runningImage).find? fun c => c.1 == type with
  | some c => cut s.runningImage c.2.1 c.2.2.1
  | none => []

/-- Block 8: the firmware configuration. -/
def State.block8 (s : State) : List Byte :=
  toLE 8 (s.flash.minSvn + 256 * imgSvn s.runningImage + 65536 * (s.flash.active % 2) + 2 ^ 17 * b2n s.flash.pending + 2 ^ 18 * b2n s.flash.fallback
    + 2 ^ 19 * b2n s.sill.recovery + 2 ^ 20 * b2n s.aon.king.conflict + 2 ^ 21 * holderNum s.holder)

/-- The measurement blocks of R448, index and bytes; in recovery 1, 2, 6 and 8. -/
def State.measurements (s : State) : List (Nat × List Byte) :=
  let all := [(1, Config.romDigest 1), (2, Config.romDigest 2), (3, measured (s.runningPart 1)), (4, measured (s.runningPart 2)),
    (5, measured (cut s.runningImage 0 0xD60)), (6, measured (variantBytes s.flash.variant)), (7, measured (planImage s.plan s.flash.variant false)),
    (8, s.block8), (9, Config.recordPublic)]
  if s.sill.recovery then all.filter fun b => b.1 == 1 || b.1 == 2 || b.1 == 6 || b.1 == 8 else all

/-- The report of R449 for a nonce. -/
def State.report (s : State) (nonce : List Byte) : List Byte :=
  let blocks := (s.measurements.map fun b => toLE 1 b.1 ++ toLE 2 b.2.length ++ b.2).flatten
  let body := Config.attestBody nonce blocks
  let lens := Config.attestLens body
  toLE 4 0x54414C43 ++ toLE 2 1 ++ toLE 2 32 ++ ((List.range 4).map fun i => toLE 4 (lens.getD i 0)).flatten ++ toLE 8 0 ++ body

/-- ATTEST waits for Sill in arrival order. -/
def State.attest (s : State) (n : Nat) (c : Cmd) : State :=
  (s.setCmd n c.slot { c with phase := .running }).sillLow (.attest n c.slot)

def execAttest (fn : Fin 9) (slot : Fin 4096) (s : State) : Result := .next (s.begin fn slot 3 0 fun c t => t.attest fn c)

/-- A signature given. -/
def State.countSignature (s : State) : State := s.modSill fun x => { x with signatures := satAdd max16 x.signatures 1 }

/-- The report is formed, signed and written, or does not fit (R449). -/
def State.attestDone (s : State) (n slot : Nat) : State :=
  match s.cmd? n slot with
  | none => s
  | some c =>
    let r := s.report (cut c.bytes 0x18 32)
    if c.par 0x10 4 < r.length then s.complete n slot stCmdInvalid 3 r.length 0
    else s.countSignature.giveHost n c (c.par 8 8) r r.length

def execSpdmRequest (fn : Fin 9) (request : SpdmRequest) (s : State) : Result :=
  .next (if s.present fn && s.sill.state == 1 then s.sillLow (.spdm fn.val request) else s)

/-- Whether a function has an open SPDM session. -/
def State.session (s : State) (n : Nat) : Bool := s.sill.open_.getLsbD n

/-- The last step of an SPDM request: its response, and what it changes (R447, R453). -/
def State.spdmDone (s : State) (n : Nat) (r : SpdmRequest) : State :=
  let t := s.modSill fun x => { x with responses := tset x.responses n (tget x.responses n 0 + 1) }
  match r with
  | .certificate | .unsupported => t
  | .challenge => t.countSignature
  | .measurements signed => if signed then t.countSignature else t
  | .keyExchange =>
    let u := t.countSignature
    if s.session n then u
    else u.modSill fun x => { x with open_ := x.open_ ||| BitVec.ofNat 9 (2 ^ n), sessions := satAdd max16 x.sessions 1 }
  | .endSession => t.modSill fun x => { x with open_ := x.open_ &&& ~~~(BitVec.ofNat 9 (2 ^ n)) }
  | .ideKm k =>
    let own := if n = 0 then k.val == 0 || k.val == 9 else k.val == n
    if s.session n && own then t.modSill fun x => { x with ide := x.ide ||| BitVec.ofNat 10 (2 ^ k.val) } else t

/-- Sill ends one operation of an SPDM request, an ATTEST or a FW_UPDATE; other requests end with commands of their own (R437). -/
def State.sillOp (s : State) (last : Bool) : State :=
  if s.sill.state != 1 then s
  else
    match s.sill.cur with
    | none => s
    | some j =>
      match j with
      | .signPlan | .verifyJoiner _ => s
      | .spdm n r => if last then (s.sillNext).spdmDone n r else s.sillAgain
      | .attest n slot => if last then (s.sillNext).attestDone n slot else s.sillAgain
      | .fwUpdate _ _ => if last then s else s.sillAgain

def execSillOperationDone (last : Bool) (s : State) : Result := .next (s.sillOp last)

-- FW_UPDATE (R445) -----------------------------------------------------------------------------------------------------------------------

/-- The slot an update writes: the one that is not running; slot 0 when none runs. -/
def State.updateSlot (s : State) : Nat :=
  match s.sill.running with
  | some n => 1 - n
  | none => 0

/-- FW_UPDATE, step 1. -/
def State.fwUpdate (s : State) (n : Nat) (c : Cmd) : State :=
  let len := c.par 0x10 4
  if s.sill.update.isSome then s.invalid n c 4
  else if len < 3424 || decide (33554432 < len) then s.done n c.slot stFwRejected 3
  else
    let t := (s.setCmd n c.slot { c with phase := .running }).modSill fun x => { x with update := some ⟨n, c.slot, false, []⟩ }
    t.sillLow (.fwUpdate n c.slot)

def execFwUpdate (fn : Fin 9) (slot : Fin 4096) (s : State) : Result := .next (s.begin fn slot 5 0 fun c t => t.fwUpdate fn c)

/-- The digests of the 16 microcode chunks of 4 KiB (R419, R440). -/
def chunksOk (m : List Byte) : Bool :=
  match (imgComponents m).find? fun c => c.1 == 2 with
  | none => false
  | some c => (List.range 16).all fun i => (Config.shake256 (cut m (c.2.1 + 4096 * i) 4096)).toNat == fld m (0x4D0 + 64 * i) 64

/-- Why an image is rejected, in the order of steps 2 and 3. -/
def State.imageRejected (s : State) (m : List Byte) (len : Nat) : Option Nat :=
  if !imgSigned m then some 1
  else if !imgForPart m s.flash.variant then some 4
  else if imgSvn m < s.flash.minSvn then some 2
  else if imgBytes m != len then some 3
  else if (imgComponents m).any (fun c => !digestOk m c) || !chunksOk m then some 1
  else none

/-- The update ends: Sill takes its next request. -/
def State.updateEnds (s : State) : State := (s.modSill fun x => { x with update := none }).sillNext

/-- The update that Sill serves now, and its command. -/
def State.updateNow (s : State) (writing : Bool) : Option (FwUpdate × Cmd) :=
  match s.sill.update with
  | none => none
  | some u =>
    if s.sill.state != 1 || s.sill.cur != some (.fwUpdate u.fn u.slot) || u.writing != writing then none
    else (s.cmd? u.fn u.slot).map fun c => (u, c)

/-- Steps 2 and 3: the image is read and checked; a good one invalidates the target slot, and its writing starts. -/
def State.imageChecked (s : State) (image : HostData) : State :=
  match s.updateNow false with
  | none => s
  | some (u, c) =>
    match image with
    | .failed why => (s.updateEnds.logRead u.fn why).done u.fn u.slot stHostError 0
    | .data bs =>
      let len := c.par 0x10 4
      let m := cut bs 0 len
      match s.imageRejected m len with
      | some d => s.updateEnds.done u.fn u.slot stFwRejected d
      | none =>
        let t := s.modSill fun x => { x with update := some { u with writing := true, image := m } }
        { t with flash := { t.flash with images := tset t.flash.images t.updateSlot [] } }

def execFwUpdateImageChecked (image : HostData) (s : State) : Result := .next (s.imageChecked image)

/-- Steps 4 and 5: the image is in flash and read back; a slot that passes R441 becomes the pending one. -/
def State.imageWritten (s : State) (readback : Bool) : State :=
  match s.updateNow true with
  | none => s
  | some (u, _) =>
    if !readback || !imgUsable u.image s.flash then s.updateEnds.done u.fn u.slot stCmdInvalid 4
    else
      let t := s.updateEnds
      let f := { t.flash with images := tset t.flash.images t.updateSlot u.image, pending := true, pendingSlot := t.updateSlot, tried := false, fallback := false }
      ({ t with flash := f }).complete u.fn u.slot stOk 0 (imgVersion u.image) 0

def execFwUpdateImageWritten (readback : Bool) (s : State) : Result := .next (s.imageWritten readback)

end Sys2Proof.Machine
end

