-- ==== Sys2Proof/Machine/Dispatch.lean ====
section
/-! DEFINITION. One arm for each command of the opcode table. -/

namespace Sys2Proof.Machine

/-- The effect of a command on everything but the queue. -/
def exec (i : Instr) (s : State) : Host.Outcome State Fault Refusal :=
  match i with
  | .aonPwrgdAssert sbMode sbAddr => Sys2Proof.Machine.execAonPwrgdAssert sbMode sbAddr s
  | .aonPwrgdDeassert => Sys2Proof.Machine.execAonPwrgdDeassert s
  | .railPowerGood rail => Sys2Proof.Machine.execRailPowerGood rail s
  | .railStartTimeout rail answers => Sys2Proof.Machine.execRailStartTimeout rail answers s
  | .sillBootVerifyDone failing => Sys2Proof.Machine.execSillBootVerifyDone failing s
  | .halfSelftestDone half passed => Sys2Proof.Machine.execHalfSelftestDone half passed s
  | .kingPostGrant claimH0 claimH1 seenH0 seenH1 => Sys2Proof.Machine.execKingPostGrant claimH0 claimH1 seenH0 seenH1 s
  | .floorplanBuildDone => Sys2Proof.Machine.execFloorplanBuildDone s
  | .yardInitDone site listed => Sys2Proof.Machine.execYardInitDone site listed s
  | .yardTrainingRoundDone site failed => Sys2Proof.Machine.execYardTrainingRoundDone site failed s
  | .bayWaveStart => Sys2Proof.Machine.execBayWaveStart s
  | .microcodeBroadcastDone half missing => Sys2Proof.Machine.execMicrocodeBroadcastDone half missing s
  | .microcodeRepairDone half missing => Sys2Proof.Machine.execMicrocodeRepairDone half missing s
  | .coreSelftestDone core crc => Sys2Proof.Machine.execCoreSelftestDone core crc s
  | .coreSelftestTimeout core => Sys2Proof.Machine.execCoreSelftestTimeout core s
  | .perstAssert kind => Sys2Proof.Machine.execPerstAssert kind s
  | .perstDeassert => Sys2Proof.Machine.execPerstDeassert s
  | .configRequest request => Sys2Proof.Machine.execConfigRequest request s
  | .vfEnableClear => Sys2Proof.Machine.execVfEnableClear s
  | .functionLevelResetVf vf => Sys2Proof.Machine.execFunctionLevelResetVf vf s
  | .functionLevelResetPf0 => Sys2Proof.Machine.execFunctionLevelResetPf0 s
  | .hifDbCmdWrite fn value => Sys2Proof.Machine.execHifDbCmdWrite fn value s
  | .commandFetch fn entry => Sys2Proof.Machine.execCommandFetch fn entry s
  | .hifDbCplWrite fn value => Sys2Proof.Machine.execHifDbCplWrite fn value s
  | .msixDelayExpiry fn => Sys2Proof.Machine.execMsixDelayExpiry fn s
  | .hifDbEvqWrite fn value => Sys2Proof.Machine.execHifDbEvqWrite fn value s
  | .hifFnCtlWrite fn value => Sys2Proof.Machine.execHifFnCtlWrite fn value s
  | .hifErrStatusWrite fn value => Sys2Proof.Machine.execHifErrStatusWrite fn value s
  | .registerWrite port offset bytes => Sys2Proof.Machine.execRegisterWrite port offset bytes s
  | .bar4Read offset len => Sys2Proof.Machine.execBar4Read offset len s
  | .bar4Write offset bytes poisoned => Sys2Proof.Machine.execBar4Write offset bytes poisoned s
  | .spdmRequest fn request => Sys2Proof.Machine.execSpdmRequest fn request s
  | .floorplanGet fn slot => Sys2Proof.Machine.execFloorplanGet fn slot s
  | .topoGet fn slot => Sys2Proof.Machine.execTopoGet fn slot s
  | .attest fn slot => Sys2Proof.Machine.execAttest fn slot s
  | .powerLimit fn slot => Sys2Proof.Machine.execPowerLimit fn slot s
  | .fwUpdate fn slot => Sys2Proof.Machine.execFwUpdate fn slot s
  | .fwUpdateImageChecked image => Sys2Proof.Machine.execFwUpdateImageChecked image s
  | .fwUpdateImageWritten readback => Sys2Proof.Machine.execFwUpdateImageWritten readback s
  | .ctxAdmit fn slot => Sys2Proof.Machine.execCtxAdmit fn slot s
  | .ctxRelease fn slot => Sys2Proof.Machine.execCtxRelease fn slot s
  | .contextStateClear ctx => Sys2Proof.Machine.execContextStateClear ctx s
  | .map fn slot => Sys2Proof.Machine.execMap fn slot s
  | .unmap fn slot => Sys2Proof.Machine.execUnmap fn slot s
  | .xfer fn slot => Sys2Proof.Machine.execXfer fn slot s
  | .loadTasks fn slot => Sys2Proof.Machine.execLoadTasks fn slot s
  | .launchStart fn slot => Sys2Proof.Machine.execLaunchStart fn slot s
  | .launchHalt fn slot => Sys2Proof.Machine.execLaunchHalt fn slot s
  | .streamArm fn slot => Sys2Proof.Machine.execStreamArm fn slot s
  | .streamArmRearm fn slot => Sys2Proof.Machine.execStreamArmRearm fn slot s
  | .streamArmCancel fn slot => Sys2Proof.Machine.execStreamArmCancel fn slot s
  | .streamArmRestart fn slot => Sys2Proof.Machine.execStreamArmRestart fn slot s
  | .streamArmRelease fn slot => Sys2Proof.Machine.execStreamArmRelease fn slot s
  | .stashArm fn slot => Sys2Proof.Machine.execStashArm fn slot s
  | .stashArmReset fn slot => Sys2Proof.Machine.execStashArmReset fn slot s
  | .stashArmRelease fn slot => Sys2Proof.Machine.execStashArmRelease fn slot s
  | .planeArm fn slot => Sys2Proof.Machine.execPlaneArm fn slot s
  | .planeArmRelease fn slot => Sys2Proof.Machine.execPlaneArmRelease fn slot s
  | .groupDefine fn slot => Sys2Proof.Machine.execGroupDefine fn slot s
  | .pegLoad fn slot => Sys2Proof.Machine.execPegLoad fn slot s
  | .pegLoadRearm fn slot => Sys2Proof.Machine.execPegLoadRearm fn slot s
  | .pegLoadUnload fn slot => Sys2Proof.Machine.execPegLoadUnload fn slot s
  | .seqTableEditControl fn slot => Sys2Proof.Machine.execSeqTableEditControl fn slot s
  | .seqTableEditWrite fn slot => Sys2Proof.Machine.execSeqTableEditWrite fn slot s
  | .seqTableEditRead fn slot => Sys2Proof.Machine.execSeqTableEditRead fn slot s
  | .ledgerSwap fn slot => Sys2Proof.Machine.execLedgerSwap fn slot s
  | .descriptorFetch bay ctx => Sys2Proof.Machine.execDescriptorFetch bay ctx s
  | .taskTake bay ctx => Sys2Proof.Machine.execTaskTake bay ctx s
  | .taskWaitTake bay ctx => Sys2Proof.Machine.execTaskWaitTake bay ctx s
  | .taskWaitTimeout bay ctx => Sys2Proof.Machine.execTaskWaitTimeout bay ctx s
  | .taskStartRead bay ctx => Sys2Proof.Machine.execTaskStartRead bay ctx s
  | .lcClaimTimeout bay => Sys2Proof.Machine.execLcClaimTimeout bay s
  | .ledgerAppendLock bay ctx => Sys2Proof.Machine.execLedgerAppendLock bay ctx s
  | .tileIssue bay => Sys2Proof.Machine.execTileIssue bay s
  | .handleWaitTimeout bay ctx index => Sys2Proof.Machine.execHandleWaitTimeout bay ctx index s
  | .tileDone core wrong => Sys2Proof.Machine.execTileDone core wrong s
  | .ledgerRecheckDone core => Sys2Proof.Machine.execLedgerRecheckDone core s
  | .benchParityFail core => Sys2Proof.Machine.execBenchParityFail core s
  | .spotCheckCompare check => Sys2Proof.Machine.execSpotCheckCompare check s
  | .spotCheckThirdCompare check => Sys2Proof.Machine.execSpotCheckThirdCompare check s
  | .serviceWriteSigned => Sys2Proof.Machine.execServiceWriteSigned s
  | .serviceWriteFlashed => Sys2Proof.Machine.execServiceWriteFlashed s
  | .rowStatsMergeDone bay ctx index => Sys2Proof.Machine.execRowStatsMergeDone bay ctx index s
  | .taskComplete bay ctx index => Sys2Proof.Machine.execTaskComplete bay ctx index s
  | .streamPassStart bay slot => Sys2Proof.Machine.execStreamPassStart bay slot s
  | .blockTranslate x => Sys2Proof.Machine.execBlockTranslate x s
  | .slotGrant site => Sys2Proof.Machine.execSlotGrant site s
  | .lineRequestComplete request outcome => Sys2Proof.Machine.execLineRequestComplete request outcome s
  | .semPairAugerTake bay slot => Sys2Proof.Machine.execSemPairAugerTake bay slot s
  | .semPairAgentTake agent bay slot fill => Sys2Proof.Machine.execSemPairAgentTake agent bay slot fill s
  | .joinerFaultResolve fault => Sys2Proof.Machine.execJoinerFaultResolve fault s
  | .faultResolveTimeout fault => Sys2Proof.Machine.execFaultResolveTimeout fault s
  | .stashClaim ctx => Sys2Proof.Machine.execStashClaim ctx s
  | .stashClaimMapped ctx => Sys2Proof.Machine.execStashClaimMapped ctx s
  | .stashDropDone ctx => Sys2Proof.Machine.execStashDropDone ctx s
  | .yardReadRetryDone request outcome => Sys2Proof.Machine.execYardReadRetryDone request outcome s
  | .laneSpareSwitched site sub => Sys2Proof.Machine.execLaneSpareSwitched site sub s
  | .laneSparingWindowEnd site => Sys2Proof.Machine.execLaneSparingWindowEnd site s
  | .yardPatrolRead half site outcome retry => Sys2Proof.Machine.execYardPatrolRead half site outcome retry s
  | .loftPatrolRead bay singleBit => Sys2Proof.Machine.execLoftPatrolRead bay singleBit s
  | .loftUncorrectable target => Sys2Proof.Machine.execLoftUncorrectable target s
  | .migrationEpochEnd half => Sys2Proof.Machine.execMigrationEpochEnd half s
  | .migrationCopyDone page => Sys2Proof.Machine.execMigrationCopyDone page s
  | .migrationRecopyDone page => Sys2Proof.Machine.execMigrationRecopyDone page s
  | .migrationCutoverDone page => Sys2Proof.Machine.execMigrationCutoverDone page s
  | .planePassStart ctx id => Sys2Proof.Machine.execPlanePassStart ctx id s
  | .planePassEnd ctx id => Sys2Proof.Machine.execPlanePassEnd ctx id s
  | .seqBuildStart ctx => Sys2Proof.Machine.execSeqBuildStart ctx s
  | .seqBuildDone ctx => Sys2Proof.Machine.execSeqBuildDone ctx s
  | .remoteWriteCommit port vc => Sys2Proof.Machine.execRemoteWriteCommit port vc s
  | .remoteSignalCommit port vc => Sys2Proof.Machine.execRemoteSignalCommit port vc s
  | .pegOpenReceived ctx peg inst rank signature => Sys2Proof.Machine.execPegOpenReceived ctx peg inst rank signature s
  | .pegGoReceived ctx peg inst => Sys2Proof.Machine.execPegGoReceived ctx peg inst s
  | .pegAbortReceived ctx peg inst code badRank => Sys2Proof.Machine.execPegAbortReceived ctx peg inst code badRank s
  | .pegGrantReceived ctx peg => Sys2Proof.Machine.execPegGrantReceived ctx peg s
  | .pegDataReceived ctx peg arrival first bytes => Sys2Proof.Machine.execPegDataReceived ctx peg arrival first bytes s
  | .pegComplete ctx peg => Sys2Proof.Machine.execPegComplete ctx peg s
  | .pegTimeoutExpiry ctx peg => Sys2Proof.Machine.execPegTimeoutExpiry ctx peg s
  | .packetStart port => Sys2Proof.Machine.execPacketStart port s
  | .framePeriod port => Sys2Proof.Machine.execFramePeriod port s
  | .frameReceive port bytes fec => Sys2Proof.Machine.execFrameReceive port bytes fec s
  | .replayTimeoutExpiry port => Sys2Proof.Machine.execReplayTimeoutExpiry port s
  | .linkLaneErrorWindowEnd port => Sys2Proof.Machine.execLinkLaneErrorWindowEnd port s
  | .linkMarkerLockLost port lane => Sys2Proof.Machine.execLinkMarkerLockLost port lane s
  | .linkSignalDetected port => Sys2Proof.Machine.execLinkSignalDetected port s
  | .linkPmdTrainingDone port passed => Sys2Proof.Machine.execLinkPmdTrainingDone port passed s
  | .linkMaskExchangeDone port partner => Sys2Proof.Machine.execLinkMaskExchangeDone port partner s
  | .linkLockDone port credits => Sys2Proof.Machine.execLinkLockDone port credits s
  | .linkIdentityReceived port coord partnerPort serial => Sys2Proof.Machine.execLinkIdentityReceived port coord partnerPort serial s
  | .linkRetrainDone port lanes credits => Sys2Proof.Machine.execLinkRetrainDone port lanes credits s
  | .lnkCoordWrite port reg value => Sys2Proof.Machine.execLnkCoordWrite port reg value s
  | .lnkRouteCtlRecompute value => Sys2Proof.Machine.execLnkRouteCtlRecompute value s
  | .routeBuildDone breaks => Sys2Proof.Machine.execRouteBuildDone breaks s
  | .bridgeFlitReceive dir bytes => Sys2Proof.Machine.execBridgeFlitReceive dir bytes s
  | .bridgeRetrainDone => Sys2Proof.Machine.execBridgeRetrainDone s
  | .bridgeRetrainTimeout => Sys2Proof.Machine.execBridgeRetrainTimeout s
  | .joinerHeartbeat half claim seen => Sys2Proof.Machine.execJoinerHeartbeat half claim seen s
  | .joinerHeartbeatTimeout half => Sys2Proof.Machine.execJoinerHeartbeatTimeout half s
  | .joinerRestartDone half => Sys2Proof.Machine.execJoinerRestartDone half s
  | .sillHealthTestFail => Sys2Proof.Machine.execSillHealthTestFail s
  | .budgetEvaluation moduleW uncoreW temps => Sys2Proof.Machine.execBudgetEvaluation moduleW uncoreW temps s
  | .opVcoreSettled => Sys2Proof.Machine.execOpVcoreSettled s
  | .stagePoll readings => Sys2Proof.Machine.execStagePoll readings s
  | .vrAlertAssert => Sys2Proof.Machine.execVrAlertAssert s
  | .vcoreCurrentLimit half => Sys2Proof.Machine.execVcoreCurrentLimit half s
  | .bayIdleGate bay => Sys2Proof.Machine.execBayIdleGate bay s
  | .bayUngate bay => Sys2Proof.Machine.execBayUngate bay s
  | .thermalTrip sensor temp => Sys2Proof.Machine.execThermalTrip sensor temp s
  | .thermtripShutdown => Sys2Proof.Machine.execThermtripShutdown s
  | .siteOverTemperature site temp => Sys2Proof.Machine.execSiteOverTemperature site temp s
  | .pwrBoardMaxWrite value => Sys2Proof.Machine.execPwrBoardMaxWrite value s
  | .sbStatusWrite value => Sys2Proof.Machine.execSbStatusWrite value s
  | .registerRead port offset len => Sys2Proof.Machine.execRegisterRead port offset len s
  | .interferenceMeterWindowEnd half => Sys2Proof.Machine.execInterferenceMeterWindowEnd half s
  | .linkLaneResetDone port signal => Sys2Proof.Machine.execLinkLaneResetDone port signal s
  | .sillOperationDone last => Sys2Proof.Machine.execSillOperationDone last s
  | .hostReadCompletion fn slot data => Sys2Proof.Machine.execHostReadCompletion fn slot data s
  | .railBelowTenPercent rail => Sys2Proof.Machine.execRailBelowTenPercent rail s

end Sys2Proof.Machine
end

