-- ==== Sys2Proof/Safety.lean ====
section
/-! DEFINITION. What counts as a safe run, and the terms the statements use: the records that no step rewrites, the canonical form of memory, equal bytes, and when a fetched command starts. -/

namespace Sys2Proof.Machine

/-- What no command may change: the variant record and the factory floor plan in flash (R31, R35). -/
structure Fixed (s t : State) : Prop where
  /-- R31: the variant record is never rewritten in service. -/
  variant : t.flash.variant = s.flash.variant
  /-- The factory copy of the floor plan. -/
  factory : t.flash.factory = s.flash.factory
  /-- The queue of waiting commands: a meaning acts on everything but the queue. -/
  pending : t.pending = s.pending

/-- Device memory and host memory are in canonical form. -/
abbrev State.memoryOk (s : State) : Prop := memWf s.mem = true ∧ memWf s.hif.host = true

/-- Every byte of device memory and of host memory reads as before. -/
def sameBytes (s t : State) : Prop :=
  (∀ a, memRead t.mem a = memRead s.mem a) ∧ ∀ a, memRead t.hif.host a = memRead s.hif.host a

/-- The step from a state answers a next state. -/
def State.safe (s : State) : Prop := ∃ t, step s = .next t

/-- A run of k steps from a state meets no fault and no refusal. -/
def State.safeFor (s : State) : Nat → Prop
  | 0 => True
  | k + 1 => ∃ t, step s = .next t ∧ t.safeFor k

/-- A command entry c stands fetched in a ring slot of a function, has this opcode (and OP where the opcode has operations), and is started or may start: no earlier command holds it by the fetch order or by ORDER, no joiner that keeps the duties restarts, a joiner manages what a joiner carries out, and a context command's context is admitted (R381, R386, R409, R412). -/
abbrev State.starts (s : State) (fn slot opcode op : Nat) (c : Cmd) : Prop :=
  s.cmd? fn slot = some c ∧ c.slot = slot ∧ c.opcode = opcode ∧ (0x14 ≤ opcode → opcode ≠ 0x18 → opcode ≠ 0x1B → c.op = op) ∧ (c.phase = .started ∨ (c.phase = .fetched ∧ s.mayStart fn c = true))
    ∧ s.holderRestarts = false
    ∧ (management c = true → s.sill.recovery = true ∨ (s.managed = true ∧ s.managing = true))
    ∧ (ctxCommand opcode = true → opcode ≠ 6 → s.admitted c.ctx = true ∧ (s.ctx c.ctx).clearing = false)

end Sys2Proof.Machine
end

