-- ==== Sys2Proof/Certificates/Slice0/Obligations.lean ====
section
/-! DEFINITION. The statements for the provers, group by group in the order of the opcode table. -/

open Sys2Proof Sys2Proof.Machine

-- The queue -------------------------------------------------------------------------------------------

/-- A step takes the command at the front of the queue and runs it with the rest of the queue (the model's choice, log entry 6), and the module stops nowhere: every step answers a next state. -/
def Obligations.StepRunsTheFrontCommand : Prop :=
  (∀ (c : Instr) (s : State), step { s with pending := c :: s.pending } = exec c s)
  ∧ (∀ s : State, ∃ t, step s = .next t)

/-- On an empty queue one AON tick passes in each half whose counter runs, and no byte of memory changes (the model's choice, log entry 6; the counters are R362's). -/
def Obligations.EmptyQueueIsOneTick : Prop :=
  ∀ (s : State) (h : Half), s.pending = [] → s.hif.bar4Q = [] → ∃ t, step s = .next t ∧ sameBytes s t ∧ t.plan = s.plan ∧ t.ctxs = s.ctxs
    ∧ t.now h = (if s.aon.powered = true ∧ s.aon.lag.get h = 0 then (s.now h + 1) % 2 ^ 64 else if s.aon.powered = true then s.now h % 2 ^ 64 else s.now h)

/-- No step changes the variant record or the factory floor plan, whatever the state: the spec says that the variant record is never rewritten in service. -/
def Obligations.StepKeepsFactoryRecords : Prop :=
  ∀ s t : State, step s = .next t → t.flash.variant = s.flash.variant ∧ t.flash.factory = s.flash.factory

/-- From every state whose device memory and host memory are in canonical form (addresses strictly rising, no listed byte 0), every step leads to such a state (the model's data form, log entry 5). -/
def Obligations.StepKeepsMemoryForm : Prop :=
  ∀ s t : State, s.memoryOk → step s = .next t → t.memoryOk

/-- A command acts on everything but the queue: the commands that wait stay as they stand. -/
def Obligations.CommandsLeaveTheQueue : Prop :=
  ∀ (c : Instr) (s t : State), exec c s = .next t → t.pending = s.pending

-- Power and rails (R416 step 1, R422, R429, R460, R461, R463 to R465) ---------------------------------

/-- AON_PWRGD: the straps are sampled, STAGE is 1, the first rail is enabled and no other, the counters start at 0, and the flash is as before. When it falls all state of the island is lost, PWR_OK falls, every page is lost, and the flash is as before. -/
def Obligations.IslandPower : Prop :=
  (∀ (mode : Bool) (addr : BitVec 3) (s : State), s.aon.powered = false →
    ∃ t, exec (.aonPwrgdAssert mode addr) s = .next t ∧ t.aon.powered = true ∧ t.aon.sb.mode = mode ∧ t.aon.sb.addr = addr ∧ t.aon.boot.stage = 1
      ∧ t.rail 7 = .enabling ∧ (∀ n, n ≠ 7 → t.rail n = .off) ∧ t.aon.pwrOk = false ∧ t.now .h0 = 0 ∧ t.now .h1 = 0 ∧ t.flash = s.flash
      ∧ t.pages = [] ∧ t.mem = [] ∧ t.pending = s.pending)
  ∧ (∀ s : State, s.aon.powered = true →
    ∃ t, exec .aonPwrgdDeassert s = .next t ∧ t.aon.powered = false ∧ t.aon.pwrOk = false ∧ t.aon.boot = {} ∧ t.aon.king = {} ∧ t.aon.power = {}
      ∧ t.aon.thermal = {} ∧ t.aon.sb = {} ∧ t.aon.ticks = ⟨0, 0⟩ ∧ t.pages = [] ∧ t.ctxs = [] ∧ t.flash = s.flash ∧ t.pending = s.pending)

/-- A rail that is being enabled reports POWER_GOOD: it is good. A site's rail that misses its bound while its stage does not answer is left unpowered. A rail that falls below 10 % is off. Any other missed bound is a rail fault: FAULT# is asserted, PWR_OK falls, cause and rail are recorded, all pages are lost, the flash stays. A poll records what the stages answered; a stage that reports a fault is a rail fault too. -/
def Obligations.RailsAndStages : Prop :=
  (∀ (rail : Rail) (s : State), s.rail (railNum rail) = .enabling → s.aon.turningOff = false →
    ∃ t, exec (.railPowerGood rail) s = .next t ∧ t.rail (railNum rail) = .good ∧ sameBytes s t ∧ t.plan = s.plan ∧ t.ctxs = s.ctxs)
  ∧ (∀ (m : Fin 12) (s : State), s.rail (railNum (.site m)) = .enabling → s.aon.turningOff = false →
    ∃ t, exec (.railStartTimeout (.site m) false) s = .next t ∧ t.rail (railNum (.site m)) = .absent ∧ sameBytes s t ∧ t.plan = s.plan ∧ t.ctxs = s.ctxs)
  ∧ (∀ (rail : Rail) (s : State), s.rail (railNum rail) = .fallingOff →
    ∃ t, exec (.railBelowTenPercent rail) s = .next t ∧ t.rail (railNum rail) = .off ∧ sameBytes s t ∧ t.plan = s.plan ∧ t.flash = s.flash)
  ∧ (∀ (rail : Rail) (answers : Bool) (s : State), s.rail (railNum rail) = .enabling → s.aon.turningOff = false → (railNum rail < 8 ∨ answers = true) →
    ∃ t, exec (.railStartTimeout rail answers) s = .next t ∧ t.aon.faultPin = true ∧ t.aon.pwrOk = false ∧ t.aon.thermal.tripCause = 2
      ∧ t.aon.thermal.tripRail = (if railNum rail < 8 then railNum rail else 0xFF) ∧ t.pages = [] ∧ t.flash = s.flash)
  ∧ (∀ (mv cur : List Nat) (s : State), s.aon.pwrOk = true → periodEarly s.aon.power.polled (s.now .h0) = false →
    exec (.stagePoll ⟨mv, cur, [], [], [], []⟩) s = .next { s with aon := { s.aon with power := { s.aon.power with
      polled := some (s.now .h0), railMv := listed mv, railCurrent := listed cur, missed := [] } } })
  ∧ (∀ (n : Fin 8) (mv cur : List Nat) (s : State), s.aon.pwrOk = true → periodEarly s.aon.power.polled (s.now .h0) = false → s.rail n = .good →
    ∃ t, exec (.stagePoll ⟨mv, cur, [n], [], [], []⟩) s = .next t ∧ t.aon.faultPin = true ∧ t.aon.pwrOk = false ∧ t.aon.thermal.tripCause = 2
      ∧ t.aon.thermal.tripRail = n.val ∧ t.pages = [] ∧ t.flash = s.flash)

-- Boot (R416 to R420, R436, R441, R442) ---------------------------------------------------------------

/-- Sill's self-test fails: Sill's error state, the failing test shown, FAIL 1. Else Sill boots the first usable slot of its order; with none usable the recovery loader runs and FAIL is 1. -/
def Obligations.SillBoots : Prop :=
  (∀ (failing : Fin 7) (s : State), s.aon.pwrOk = true → s.aon.boot.stage = 2 → s.sill.state = 0 → failing.val ≠ 0 →
    exec (.sillBootVerifyDone failing) s = .next { s with
      aon := { s.aon with boot := { s.aon.boot with fail := 1 } }, sill := { s.sill with state := 2, selftest := failing.val } })
  ∧ (∀ s : State, s.aon.pwrOk = true → s.aon.boot.stage = 2 → s.sill.state = 0 →
    exec (.sillBootVerifyDone 0) s = .next
      (match (bootOrder s.flash).1.find? (fun k => imgUsable ((bootOrder s.flash).2.image k) (bootOrder s.flash).2) with
      | some n => { s with
          flash := (bootOrder s.flash).2, sill := { s.sill with state := 1, running := some n },
          aon := { s.aon with boot := { s.aon.boot with stage := 3, stageTick := s.now .h0 } } }
      | none => { s with
          flash := (bootOrder s.flash).2, sill := { s.sill with state := 1, recovery := true },
          aon := { s.aon with boot := { s.aon.boot with fail := 1 } } }))

/-- A half's self-test result is recorded in HALF_OK, its complex runs if it passed, and the second result ends step 4. The king post goes to H0 when H0 passed, else to H1, and FAIL shows which half failed; with neither the recovery loader runs. -/
def Obligations.HalvesAndKingPost : Prop :=
  (∀ (h : Half) (passed : Bool) (s : State), s.booting = true → s.aon.boot.stage = 3 → s.aon.king.resultIn.get h = false →
    ∃ t, exec (.halfSelftestDone h passed) s = .next t ∧ t.aon.king.halfOk.get h = passed ∧ t.aon.king.halfOk.get h.other = s.aon.king.halfOk.get h.other
      ∧ (t.aon.joiners.get h).running = passed ∧ t.aon.boot.stage = (if s.aon.king.resultIn.get h.other = true then 4 else 3)
      ∧ t.flash = s.flash ∧ t.sill = s.sill ∧ t.hif = s.hif ∧ t.plan = s.plan ∧ sameBytes s t)
  ∧ (∀ (c0 c1 : Claim) (seen0 seen1 : BitVec 2) (s : State), s.booting = true → s.aon.boot.stage = 4 →
    ∃ t, exec (.kingPostGrant c0 c1 seen0 seen1) s = .next t ∧ t.aon.boot.fail = halfFail s.aon.king.halfOk
      ∧ t.holder = (if s.aon.king.halfOk.h0 = true then some .h0 else if s.aon.king.halfOk.h1 = true then some .h1 else none)
      ∧ (t.holder = none → t.sill.recovery = true) ∧ (t.holder ≠ none → t.aon.boot.stage = 5)
      ∧ (∀ a, memRead t.mem a = memRead s.mem a) ∧ t.flash.variant = s.flash.variant)

/-- The live floor plan takes the variant record's serial number and minima and this power-on's count; an unsigned variant record ends the boot with FAIL 5. -/
def Obligations.LiveFloorPlanIsBuilt : Prop :=
  (∀ s : State, s.booting = true → s.aon.boot.stage = 5 → s.flash.variant.sigOk = true →
    ∃ t, exec .floorplanBuildDone s = .next t ∧ t.planBuilt = true ∧ t.plan.serial = s.flash.variant.serial ∧ t.plan.minCores = s.flash.variant.minCores
      ∧ t.plan.minPerBay = s.flash.variant.minPerBay ∧ t.plan.bootSerial = s.flash.bootSerial ∧ t.plan.siteMask = 0 ∧ t.plan.portUp = 0
      ∧ 6 ≤ t.aon.boot.stage ∧ t.flash = s.flash ∧ sameBytes s t)
  ∧ (∀ s : State, s.booting = true → s.aon.boot.stage = 5 → s.flash.variant.sigOk = false →
    exec .floorplanBuildDone s = .next { s with aon := { s.aon with boot := { s.aon.boot with fail := 5 } } })

/-- A site that a listed package answers from, with its rails good, is ready to train; else its training has failed: SITE_STATE 2, and the part is in recovery service. A training round with two failed lanes in a sub-channel is repeated at the next lower rate, or at the lowest rate the site fails; a round without failed lanes puts the site in service at its rate. -/
def Obligations.SitesTrain : Prop :=
  (∀ (m : Fin 12) (s : State), s.booting = true → s.aon.boot.stage = 6 → (s.site m).trial ≠ none → (s.site m).initDone = false → (s.site m).trained = false →
    s.rail (8 + m) = .good → exec (.yardInitDone m true) s = .next (s.setSite m { s.site m with initDone := true }))
  ∧ (∀ (m : Fin 12) (s : State), s.booting = true → s.aon.boot.stage = 6 → (s.site m).trial ≠ none → (s.site m).initDone = false → (s.site m).trained = false →
    ∃ t, exec (.yardInitDone m false) s = .next t ∧ (t.site m).trained = true ∧ (t.plan.site m).state = 2 ∧ t.plan.state = 1 ∧ t.flash = s.flash ∧ sameBytes s t)
  ∧ (∀ (m : Fin 12) (sub : Fin 32) (lanes : BitVec 13) (r : Nat) (s : State), s.booting = true → s.aon.boot.stage = 6 → (s.site m).trial = some (r + 1) →
    (s.site m).initDone = true → (s.site m).trained = false → 2 ≤ popCount 13 lanes.toNat →
    exec (.yardTrainingRoundDone m [(sub, lanes)]) s = .next (s.setSite m { s.site m with trial := some r }))
  ∧ (∀ (m : Fin 12) (sub : Fin 32) (lanes : BitVec 13) (s : State), s.booting = true → s.aon.boot.stage = 6 → (s.site m).trial = some 0 →
    (s.site m).initDone = true → (s.site m).trained = false → 2 ≤ popCount 13 lanes.toNat →
    ∃ t, exec (.yardTrainingRoundDone m [(sub, lanes)]) s = .next t ∧ (t.site m).trained = true ∧ (t.plan.site m).state = 2 ∧ t.plan.state = 1)
  ∧ (∀ (m : Fin 12) (r : Nat) (s : State), s.booting = true → s.aon.boot.stage = 6 → (s.site m).trial = some r → (s.site m).initDone = true →
    (s.site m).trained = false →
    ∃ t, exec (.yardTrainingRoundDone m []) s = .next t ∧ (t.site m).rate = r ∧ (t.site m).trained = true ∧ (t.plan.site m).state = 0
      ∧ t.plan.siteMask.getLsbD m = true ∧ t.flash = s.flash ∧ sameBytes s t)

/-- A wave starts the bays of R417 in every present half, no earlier than 250 ticks after the wave before; the eighth ends step 9. The broadcast of a half is recorded with what each core still lacks, and a repair round counts and clears the chunks it delivered. A core whose self-test CRC is the expected one is tested; one with another CRC, or silent for 5 ms, takes no tile any more. -/
def Obligations.BaysAndCoresStart : Prop :=
  (∀ s : State, s.booting = true → s.aon.boot.stage = 8 → (∀ w, s.aon.boot.waveTick = some w → w + 250 ≤ s.now .h0) →
    ∃ t, exec .bayWaveStart s = .next t ∧ (∀ n, n ∈ waveBays s.aon.boot.wave → s.halfIn (bayHalf n) = true → (t.bay n).on = true)
      ∧ (∀ n, n ∉ waveBays s.aon.boot.wave → t.bay n = s.bay n) ∧ t.aon.boot.wave = s.aon.boot.wave + 1 ∧ t.aon.power.clocksOn = true
      ∧ t.aon.boot.stage = (if s.aon.boot.wave = 7 then 9 else 8) ∧ t.hif = s.hif ∧ sameBytes s t)
  ∧ (∀ (h : Half) (core : CoreId) (m : BitVec 16) (s : State), s.booting = true → s.aon.boot.stage = 9 → s.halfIn h = true →
    s.aon.boot.broadcast.get h = false → bayHalf (coreBay core) = h → s.coreGood core = true → m ≠ 0 →
    ∃ t, exec (.microcodeBroadcastDone h [(core, m)]) s = .next t ∧ t.aon.boot.broadcast.get h = true ∧ tget t.aon.boot.missing core 0 = m
      ∧ t.aon.boot.stage = 9 ∧ t.plan = s.plan ∧ sameBytes s t)
  ∧ (∀ (h : Half) (s : State), s.booting = true → s.aon.boot.stage = 9 → s.aon.boot.broadcast.get h = true → s.aon.boot.repairs.get h < 2 →
    (∃ e ∈ s.aon.boot.missing, bayHalf (coreBay e.1) = h) →
    exec (.microcodeRepairDone h []) s = .next (State.bootCores { s with aon := { s.aon with boot := { s.aon.boot with
      missing := s.aon.boot.missing.filter fun e => bayHalf (coreBay e.1) != h && e.2 != 0,
      repairs := s.aon.boot.repairs.set h (s.aon.boot.repairs.get h + 1) } } }))
  ∧ (∀ (core : CoreId) (crc : BitVec 64) (s : State), s.booting = true → s.aon.boot.stage = 10 → s.halfIn (bayHalf (coreBay core)) = true →
    s.coreGood core = true → (tget s.aon.boot.tested (coreBay core) 0).getLsbD (core % 416) = false → crc.toNat = imgSelftestCrc s.runningImage →
    exec (.coreSelftestDone core crc) s = .next (State.bootCores { s with aon := { s.aon with boot := { s.aon.boot with
      tested := tset s.aon.boot.tested (coreBay core) (tget s.aon.boot.tested (coreBay core) 0 ||| BitVec.ofNat 416 (2 ^ (core.val % 416))) } } }))
  ∧ (∀ (core : CoreId) (crc : BitVec 64) (s : State), s.booting = true → s.aon.boot.stage = 10 → s.halfIn (bayHalf (coreBay core)) = true →
    s.coreGood core = true → (tget s.aon.boot.tested (coreBay core) 0).getLsbD (core % 416) = false → crc.toNat ≠ imgSelftestCrc s.runningImage →
    s.aon.boot.ready = false → s.svc = none →
    ∃ t, exec (.coreSelftestDone core crc) s = .next t ∧ t.coreGood core = false ∧ t.flash.variant = s.flash.variant ∧ sameBytes s t)
  ∧ (∀ (core : CoreId) (s : State), s.booting = true → s.aon.boot.stage = 10 → s.aon.boot.stageTick + 62500 ≤ s.now .h0 →
    s.halfIn (bayHalf (coreBay core)) = true → s.coreGood core = true → (tget s.aon.boot.tested (coreBay core) 0).getLsbD (core % 416) = false →
    s.aon.boot.ready = false → s.svc = none →
    ∃ t, exec (.coreSelftestTimeout core) s = .next t ∧ t.coreGood core = false ∧ t.flash.variant = s.flash.variant ∧ sameBytes s t)

/-- A service write: Sill's signature makes the next generation live and starts the flash write; the written image enters its slot with a good signature (R45). -/
def Obligations.ServiceWritesTakeEffect : Prop :=
  (∀ (v : Svc) (s : State), s.svc = some v → v.stage = .signing → s.sill.cur = some .signPlan → s.sill.state = 1 →
    ∃ t, exec .serviceWriteSigned s = .next t ∧ t.plan.generation = (s.plan.generation + 1) % 2 ^ 32 ∧ t.plan.goodMap = v.draft.goodMap
      ∧ t.plan.retireLog = v.draft.retireLog ∧ t.svc = some { v with stage := .flashing, draft := t.plan } ∧ t.flash.variant = s.flash.variant
      ∧ t.flash.factory = s.flash.factory ∧ t.hif = s.hif ∧ sameBytes s t)
  ∧ (∀ (v : Svc) (s : State), s.svc = some v → v.stage = .flashing → v.boot = false →
    ∃ t, exec .serviceWriteFlashed s = .next t ∧ t.flash = s.flash.setSlot s.flash.freeSlot ⟨v.draft, true⟩ ∧ t.plan = s.plan
      ∧ ∀ a, memRead t.mem a = memRead s.mem a)

-- Resets and the link (R400 to R402, R464) ------------------------------------------------------------

/-- PERST# deasserted brings the link up while the rails are good, at the width and speed it trains to; PERST# and link disable take it down and reset PF0's registers and rings; a hot reset leaves it up (the model's choice, log entry 17). A configuration request completes normally once step 4 is done or the recovery loader runs (the model's choice, log entry 22), and with Request Retry Status before, when it changes nothing; a completed one may set VF Enable, resize BAR4 or retrain the link, which counts a retrain. -/
def Obligations.ConventionalResets : Prop :=
  (∀ s : State, ∃ (width : Fin 5) (speed : Fin 7), exec .perstDeassert s = .next { s with fresh := s.fresh + 1, hif := { s.hif with
    perst := false, linkUp := s.aon.pwrOk, linkWidth := width.val + 1, linkSpeed := speed.val + 1 } })
  ∧ (∀ s : State, s.aon.pwrOk = true → ∃ t, exec (.perstAssert .perst) s = .next t ∧ t.hif.perst = true ∧ t.hif.linkUp = false
      ∧ (t.fn 0).enable = false ∧ (t.fn 0).cmdTail = 0 ∧ (t.fn 0).outstanding = [] ∧ t.flash = s.flash)
  ∧ (∀ s : State, s.aon.pwrOk = true → ∃ t, exec (.perstAssert .linkDisable) s = .next t ∧ t.hif.linkUp = false ∧ (t.fn 0).enable = false)
  ∧ (∀ (fn : Fin 9) (a : ConfigAccess) (s : State), s.present fn = true → s.aon.boot.stage < 4 → s.sill.recovery = false →
    exec (.configRequest ⟨fn, a⟩) s = .next { s with hif := { s.hif with out := { s.hif.out with config := some false } } })
  ∧ (∀ (fn : Fin 9) (a : ConfigAccess) (s : State), s.present fn = true → (4 ≤ s.aon.boot.stage ∨ s.sill.recovery = true) →
    exec (.configRequest ⟨fn, a⟩) s = .next (State.access { s with hif := { s.hif with out := { s.hif.out with config := some true } } } fn a))
  ∧ (∀ s : State, (∀ n, s.access n .plain = s) ∧ (s.access 0 .vfEnableSet).hif.vfEnable = true
    ∧ (∀ k : Fin 12, (s.access 0 (.bar4Size k)).hif.bar4Log2 = 30 + k.val)
    ∧ (∀ (w : Fin 5) (v : Fin 7), (s.access 0 (.retrain w v)).hif.retrains = min 65535 (s.hif.retrains + 1)
      ∧ (s.access 0 (.retrain w v)).hif.linkWidth = w.val + 1 ∧ (s.access 0 (.retrain w v)).hif.linkSpeed = v.val + 1))

/-- The function's registers and rings return to reset (its count of signals sent, the model's own output, stands), and a VF's context that is not admitted is left alone; VF Enable cleared resets every VF. -/
def Obligations.FunctionLevelResets : Prop :=
  (∀ (vf : Fin 8) (s : State), s.present (vf + 1) = true → (s.ctx vf).admitted = false → (s.ctx vf).clearing = false →
    ∃ t, exec (.functionLevelResetVf vf) s = .next t ∧ t.fn (vf + 1) = { ({} : Fn) with signals := (s.fn (vf + 1)).signals }
      ∧ (∀ n, n ≠ vf.val + 1 → t.fn n = s.fn n) ∧ t.ctxs = s.ctxs ∧ sameBytes s t)
  ∧ (∀ s : State, s.present 0 = true →
    ∃ t, exec .functionLevelResetPf0 s = .next t ∧ t.fn 0 = { ({} : Fn) with signals := (s.fn 0).signals } ∧ t.sill.update = none
      ∧ t.hif.bar4Valid = false ∧ t.hif.bar4Base = 0 ∧ (∀ n, n ≠ 0 → t.fn n = s.fn n) ∧ t.pages = s.pages ∧ sameBytes s t)
  ∧ (∀ s : State, s.hif.linkUp = true → s.hif.vfEnable = true → (∀ n, (s.ctx n).admitted = false ∧ (s.ctx n).clearing = false) →
    ∃ t, exec .vfEnableClear s = .next t ∧ t.hif.vfEnable = false ∧ (∀ n, 1 ≤ n → n ≤ 8 → (t.fn n).enable = false ∧ (t.fn n).outstanding = [])
      ∧ t.fn 0 = s.fn 0 ∧ t.ctxs = s.ctxs ∧ sameBytes s t)

-- Host interface (R16 to R19, R379 to R387, R399, R403) -----------------------------------------------

/-- The doorbells of a function that is reached: the command ring's tail, the completion ring's head and the event ring's head take the value's low bits, and what then has a place is written. The delayed signal: DELAY ticks after the first unsignalled completion vector 0 is signalled once, and the count starts again. -/
def Obligations.DoorbellsAndSignals : Prop :=
  (∀ (fn : Fin 9) (v : Word) (s : State), s.reaches fn = true →
    exec (.hifDbCmdWrite fn v) s = .next (s.setFn fn { s.fn fn with cmdTail := v.toNat % 4096 }))
  ∧ (∀ (fn : Fin 9) (v : Word) (s : State), s.reaches fn = true →
    exec (.hifDbCplWrite fn v) s = .next (State.flushCpl (s.setFn fn { s.fn fn with cplHead := v.toNat % 4096 }) fn))
  ∧ (∀ (fn : Fin 9) (v : Word) (s : State), s.reaches fn = true → (s.fn fn).lostSince = 0 → (s.fn fn).evWait = [] → (fn = 0 → s.aon.thermal.tripEvent = none) →
    exec (.hifDbEvqWrite fn v) s = .next (s.setFn fn { s.fn fn with evqHead := v.toNat % 1024 }))
  ∧ (∀ (fn : Fin 9) (t0 : Nat) (s : State), (s.fn fn).irqFirst = some t0 → (s.fn fn).irqDelay ≠ 0 → t0 + (s.fn fn).irqDelay ≤ s.now .h0 →
    exec (.msixDelayExpiry fn) s = .next (s.setFn fn (fnSignal { s.fn fn with irqPending := 0, irqFirst := none } 0)))

/-- A command entry is fetched: HIF_CMD_HEAD advances and the command is outstanding; a refused one completes at once; a failed read sets CMD_READ_ERR and consumes nothing; AER logs a timeout or a poisoned completion (the model's choice of bits, log entry 167). -/
def Obligations.CommandsAreFetched : Prop :=
  (∀ (fn : Fin 9) (bs : List Byte) (s : State), s.mayFetch fn = true →
    refusal s.sill.recovery fn ⟨(s.fn fn).cmdHead, cut bs 0 64, .fetched, 0⟩ = none →
    exec (.commandFetch fn (.data bs)) s = .next (s.setFn fn { s.fn fn with
      cmdHead := ((s.fn fn).cmdHead + 1) % 4096, outstanding := (s.fn fn).outstanding ++ [⟨(s.fn fn).cmdHead, cut bs 0 64, .fetched, 0⟩] }))
  ∧ (∀ (fn : Fin 9) (bs : List Byte) (status detail : Nat) (s : State), s.mayFetch fn = true →
    refusal s.sill.recovery fn ⟨(s.fn fn).cmdHead, cut bs 0 64, .fetched, 0⟩ = some (status, detail) →
    exec (.commandFetch fn (.data bs)) s = .next (State.done (s.setFn fn { s.fn fn with
      cmdHead := ((s.fn fn).cmdHead + 1) % 4096, outstanding := (s.fn fn).outstanding ++ [⟨(s.fn fn).cmdHead, cut bs 0 64, .fetched, 0⟩] })
      fn (s.fn fn).cmdHead status detail))
  ∧ (∀ (fn : Fin 9) (why : HostFail) (s : State), s.mayFetch fn = true →
    exec (.commandFetch fn (.failed why)) s = .next (State.logRead (s.setFn fn (fnErr (s.fn fn) errCmdRead)) fn why))
  ∧ (∀ (n : Nat) (why : HostFail) (s : State), s.logRead n why = match why with
      | .error => s
      | .timeout => s.setFn n { s.fn n with aer := (s.fn n).aer ||| BitVec.ofNat 32 (2 ^ 14) }
      | .poisoned => s.setFn n { s.fn n with aer := (s.fn n).aer ||| BitVec.ofNat 32 (2 ^ 12) })

/-- R387: a VF's command marked PF0 (POWER_LIMIT, FW_UPDATE, CTX_ADMIT), and a context command of VFn whose CTX is not n − 1, completes with NOT_PERMITTED and has no other effect; PF0 is never refused so. -/
def Obligations.CommandsNotPermitted : Prop :=
  (∀ (fn : Fin 9) (bs : List Byte) (s : State), s.mayFetch fn = true → fn ≠ 0 →
    ((fld bs 0 1 = 4 ∨ fld bs 0 1 = 5 ∨ fld bs 0 1 = 6)
      ∨ ((fld bs 0 1 = 7 ∨ (0x10 ≤ fld bs 0 1 ∧ fld bs 0 1 ≤ 0x1B)) ∧ fld bs 4 1 ≠ fn.val - 1)) → bs.length = 64 →
    exec (.commandFetch fn (.data bs)) s = .next (State.done (s.setFn fn { s.fn fn with
      cmdHead := ((s.fn fn).cmdHead + 1) % 4096, outstanding := (s.fn fn).outstanding ++ [⟨(s.fn fn).cmdHead, bs, .fetched, 0⟩] })
      fn (s.fn fn).cmdHead 31 0))
  ∧ (∀ (recovery : Bool) (c : Cmd) (status detail : Nat), refusal recovery 0 c = some (status, detail) → status ≠ 31)

/-- HIF_FN_CTL: setting ENABLE returns every ring index to 0 and both phases to 1; a change of ENABLE while a command is outstanding is discarded and sets HIF_ACCESS_ERR. HIF_ERR_STATUS: each bit written 1 is cleared; with no entry waiting nothing else happens. A PCIe write that is not one whole aligned register is discarded and sets HIF_ACCESS_ERR; a field of AON_THERM_CFG takes a value in its range and keeps its own otherwise. Register reads: a read over a register boundary is discarded and sets HIF_ACCESS_ERR; AON_BOOT_STATUS reads READY, FAIL and STAGE; the _LO half of a tick count latches its _HI half, which the next read of _HI returns. -/
def Obligations.FunctionRegisters : Prop :=
  (∀ (fn : Fin 9) (v : Word) (s : State), s.reaches fn = true → v.getLsbD 0 = true → v.getLsbD 1 = false → (s.fn fn).enable = false →
    (s.fn fn).busy = false → (s.fn fn).lostSince = 0 → (s.fn fn).evWait = [] → (fn = 0 → s.aon.thermal.tripEvent = none) →
    exec (.hifFnCtlWrite fn v) s = .next (s.setFn fn { s.fn fn with
      enable := true, evqEn := false, cmdHead := 0, cmdTail := 0, cplHead := 0, cplTail := 0, cplPhase := true, evqHead := 0, evqTail := 0, evqPhase := true }))
  ∧ (∀ (fn : Fin 9) (v : Word) (s : State), s.reaches fn = true → v.getLsbD 0 ≠ (s.fn fn).enable → (s.fn fn).busy = true →
    exec (.hifFnCtlWrite fn v) s = .next (s.accessErr fn))
  ∧ (∀ (fn : Fin 9) (v : Word) (s : State), s.reaches fn = true → (s.fn fn).cplWait = [] → (s.fn fn).lostSince = 0 → (s.fn fn).evWait = [] →
    (fn = 0 → s.aon.thermal.tripEvent = none) →
    exec (.hifErrStatusWrite fn v) s = .next (s.setFn fn { s.fn fn with err := (s.fn fn).err &&& ~~~(BitVec.ofNat 5 v.toNat) }))
  ∧ (∀ (fn : Fin 9) (off : Nat) (bs : List Byte) (s : State), s.reaches fn = true → (off % 4 ≠ 0 ∨ bs.length ≠ 4) →
    exec (.registerWrite (.bar2 fn) off bs) s = .next (s.accessErr fn))
  ∧ (∀ (w : Word) (s : State), s.reaches 0 = true →
    exec (.registerWrite .bar0 0x10010 (toLE 4 w.toNat)) s = .next { s with aon := { s.aon with thermal := { s.aon.thermal with
      throttleC := if 85 ≤ w.toNat % 256 ∧ w.toNat % 256 ≤ 105 then w.toNat % 256 else s.aon.thermal.throttleC } } })
  ∧ (∀ (off len : Nat) (s : State), s.reaches 0 = true → (len = 0 ∨ 4 < off % 65536 % 4 + len) →
    exec (.registerRead .bar0 off len) s = .next ((s.accessErr 0).answer 0))
  ∧ (∀ s : State, s.reaches 0 = true → ∃ t, exec (.registerRead .bar0 0x10004 4) s = .next t
    ∧ t.hif.out.regRead = some (BitVec.ofNat 32 (b2n s.aon.boot.ready * 2 ^ 31 + s.aon.boot.fail * 65536 + s.aon.boot.stage))
    ∧ t.aon = s.aon ∧ t.plan = s.plan ∧ sameBytes s t)
  ∧ (∀ s : State, s.reaches 0 = true → ∃ t, exec (.registerRead .bar0 0x180008 4) s = .next t ∧ t.hif.out.regRead = some (BitVec.ofNat 32 s.aon.ticks.h0)
    ∧ t.aon = s.aon ∧ ∀ later : State, later.reaches 0 = true → (later.fn 0).shadow = (t.fn 0).shadow →
      ∃ u, exec (.registerRead .bar0 0x18000C 4) later = .next u ∧ u.hif.out.regRead = some (BitVec.ofNat 32 (s.aon.ticks.h0 / 2 ^ 32)))

/-- BAR4 with VALID 0, or for a context that is not admitted: a read completes with Unsupported Request and a write is discarded. BAR4 in an admitted context: a read answers the bytes its translation finds, and a write, queued while it is served, stores its bytes through it. -/
def Obligations.ApertureRequests : Prop :=
  (∀ (off len : Nat) (s : State), s.reaches 0 = true → s.hif.bar4Q = [] → off + len ≤ 2 ^ s.hif.bar4Log2 → len ≠ 0 →
    (s.hif.bar4Valid = false ∨ s.admitted s.hif.bar4Ctx = false) →
    exec (.bar4Read off len) s = .next { s with hif := { s.hif with out := { s.hif.out with bar4 := some (none, false) } } })
  ∧ (∀ (off : Nat) (bs : List Byte) (p : Bool) (s : State), s.reaches 0 = true → s.hif.bar4Q = [] → off + bs.length ≤ 2 ^ s.hif.bar4Log2 →
    (s.hif.bar4Valid = false ∨ s.admitted s.hif.bar4Ctx = false) → exec (.bar4Write off bs p) s = .next s)
  ∧ (∀ (off len : Nat) (bs : List Byte) (s : State), s.reaches 0 = true → s.hif.bar4Q = [] → off + len ≤ 2 ^ s.hif.bar4Log2 → len ≠ 0 →
    s.hif.bar4Valid = true → s.admitted s.hif.bar4Ctx = true → (s.ctx s.hif.bar4Ctx).clearing = false → s.bar4Held = false →
    s.cuttingOver s.hif.bar4Ctx (s.hif.bar4Base.toNat + off) len = false →
    s.rangeFault s.hif.bar4Ctx (s.hif.bar4Base.toNat + off) len false .bar4 = none →
    s.tryRead s.hif.bar4Ctx (s.hif.bar4Base.toNat + off) len .bar4 = .ok bs →
    exec (.bar4Read off len) s = .next (State.bar4Answer (s.countRange s.hif.bar4Ctx (s.hif.bar4Base.toNat + off) len .h0) (some bs, false)))
  ∧ (∀ (off : Nat) (bs : List Byte) (p : Bool) (s q t : State), s.reaches 0 = true → s.hif.bar4Q = [] → off + bs.length ≤ 2 ^ s.hif.bar4Log2 → bs ≠ [] →
    s.hif.bar4Valid = true → s.admitted s.hif.bar4Ctx = true → (s.ctx s.hif.bar4Ctx).clearing = false → s.bar4Held = false →
    s.writesHeld s.hif.bar4Ctx (s.hif.bar4Base.toNat + off) bs.length = false →
    q = { s with hif := { s.hif with bar4Q := [⟨true, s.hif.bar4Ctx, s.hif.bar4Base.toNat, off, bs.length, some bs, p⟩] } } →
    q.tryWrite s.hif.bar4Ctx (s.hif.bar4Base.toNat + off) bs true p .h0 .bar4 = .ok t →
    exec (.bar4Write off bs p) s = .next { t with hif := { t.hif with bar4Q := [] } })

/-- A completed command leaves the outstanding ones; its entry, with TAG, index, STATUS, DETAIL and results, is written at the completion ring's tail, which advances with the phase; where the host does not take the write (log entry 14), CPL_WRITE_ERR is set and the entry waits. The ring had a free place and no entry waited. -/
def Obligations.CompletionEntryIsWritten : Prop :=
  ∀ (fn slot status detail r0 r1 : Nat) (c : Cmd) (s : State), s.cmd? fn slot = some c → (s.fn fn).cplWait = [] → cplFree (s.fn fn) = true →
    memWf s.hif.host = true →
    ∃ t, s.complete fn slot status detail r0 r1 = t ∧ t.cmd? fn slot = none ∧ (∀ a, memRead t.mem a = memRead s.mem a) ∧ t.ctxs = s.ctxs ∧ t.plan = s.plan
      ∧ (if Config.hostWriteOk s.hif.writes = true then
          (t.fn fn).cplTail = ((s.fn fn).cplTail + 1) % 4096
          ∧ (t.fn fn).cplPhase = (if (s.fn fn).cplTail = 4095 then !(s.fn fn).cplPhase else (s.fn fn).cplPhase)
          ∧ (∀ i, i < 32 → memRead t.hif.host ((s.fn fn).cplBase.toNat + 32 * (s.fn fn).cplTail + i)
            = (cplBytes (s.fn fn) ⟨BitVec.ofNat 16 (fld c.bytes 2 2), slot, status, detail, BitVec.ofNat 64 r0, BitVec.ofNat 64 r1, BitVec.ofNat 8 c.opcode,
                c.irq⟩).getD i 0)
          ∧ (∀ a, (a < (s.fn fn).cplBase.toNat + 32 * (s.fn fn).cplTail ∨ (s.fn fn).cplBase.toNat + 32 * (s.fn fn).cplTail + 32 ≤ a) →
            memRead t.hif.host a = memRead s.hif.host a)
        else (t.fn fn).err.getLsbD 2 = true ∧ (t.fn fn).cplTail = (s.fn fn).cplTail ∧ (t.fn fn).cplWait.length = 1 ∧ t.hif.host = s.hif.host)

/-- A full ring keeps the entry: nothing is written, the command counts as outstanding until it is. An event with no free place, or with EVQ_EN 0, is discarded and counted: HIF_EVQ_LOST, EVQ_LOST of HIF_ERR_STATUS, and nothing in host memory. A masked vector sets its pending bit and is not signalled. -/
def Obligations.RingsWithoutPlace : Prop :=
  (∀ (fn slot status detail r0 r1 : Nat) (c : Cmd) (s : State), s.cmd? fn slot = some c → cplFree (s.fn fn) = false →
    ∃ t, s.complete fn slot status detail r0 r1 = t ∧ t.cmd? fn slot = none ∧ (t.fn fn).cplWait.length = (s.fn fn).cplWait.length + 1
      ∧ (t.fn fn).cplTail = (s.fn fn).cplTail ∧ t.hif.host = s.hif.host ∧ t.mem = s.mem)
  ∧ (∀ (fn code ctx : Nat) (h : Half) (payload : List Byte) (s : State), evFree (s.fn fn) = false → (s.fn fn).evqLost < max32 →
    ((s.post fn code ctx h payload).fn fn).evqLost = (s.fn fn).evqLost + 1 ∧ ((s.post fn code ctx h payload).fn fn).err.getLsbD 4 = true
      ∧ (s.post fn code ctx h payload).hif.host = s.hif.host ∧ (s.post fn code ctx h payload).mem = s.mem
      ∧ ∀ n, n ≠ fn → (s.post fn code ctx h payload).fn n = s.fn n)
  ∧ (∀ (f : Fn) (v : Fin 3), (tget f.msixTable (4 * v.val + 3) 0).getLsbD 0 = true →
    (fnSignal f v).pba.getLsbD v = true ∧ (fnSignal f v).signals = f.signals)

-- Device commands (R388, R390, R427, R437, R445, R447 to R449) ----------------------------------------

/-- FLOORPLAN_GET writes the live plan, or the factory copy, to host memory and completes with GENERATION and STATE; TOPO_GET writes its record and completes with ROUTE_GEN; where the host does not take the write (log entry 14) the command ends with HOST_ERROR. -/
def Obligations.PlanAndTopologyAreWritten : Prop :=
  (∀ (fn : Fin 9) (slot : Fin 4096) (c : Cmd) (s : State), s.starts fn slot 1 0 c → c.par 8 8 % 64 = 0 → c.par 0x10 1 = 0 →
    exec (.floorplanGet fn slot) s = .next (if Config.hostWriteOk s.hif.writes = true
      then State.complete { s with hif := { s.hif with writes := s.hif.writes + 1, host := memWriteN s.hif.host (c.par 8 8) (planImage s.plan s.flash.variant false) } } fn slot 0 0 (s.plan.generation + 2 ^ 32 * s.plan.state) 0
      else State.done { s with hif := { s.hif with writes := s.hif.writes + 1 } } fn slot 35 0))
  ∧ (∀ (fn : Fin 9) (slot : Fin 4096) (c : Cmd) (s : State), s.starts fn slot 1 0 c → c.par 8 8 % 64 = 0 → c.par 0x10 1 = 1 →
    exec (.floorplanGet fn slot) s = .next (if Config.hostWriteOk s.hif.writes = true
      then State.complete { s with hif := { s.hif with writes := s.hif.writes + 1, host := memWriteN s.hif.host (c.par 8 8) (planImage s.flash.factory s.flash.variant true) } } fn slot 0 0 (s.flash.factory.generation + 2 ^ 32 * s.flash.factory.state) 0
      else State.done { s with hif := { s.hif with writes := s.hif.writes + 1 } } fn slot 35 0))
  ∧ (∀ (fn : Fin 9) (slot : Fin 4096) (c : Cmd) (s : State), s.starts fn slot 2 0 c → c.par 8 8 % 64 = 0 →
    exec (.topoGet fn slot) s = .next (if Config.hostWriteOk s.hif.writes = true
      then State.complete { s with hif := { s.hif with writes := s.hif.writes + 1, host := memWriteN s.hif.host (c.par 8 8) s.topo } } fn slot 0 0 s.links.routeGen 0
      else State.done { s with hif := { s.hif with writes := s.hif.writes + 1 } } fn slot 35 0))
  ∧ (∀ s : State, s.topo.length = 64)

/-- POWER_LIMIT: 0 W reads the limit; a value outside 1,400 to 2,400 is POWER_RANGE; a legal one becomes REQUESTED. -/
def Obligations.PowerLimitCommand : Prop :=
  (∀ (fn : Fin 9) (slot : Fin 4096) (c : Cmd) (s : State), s.starts fn slot 4 0 c → c.par 8 2 = 0 →
    exec (.powerLimit fn slot) s = .next (s.complete fn slot 0 0 (s.aon.power.requested + 65536 * min s.aon.power.requested s.aon.power.boardMax) 0))
  ∧ (∀ (fn : Fin 9) (slot : Fin 4096) (c : Cmd) (s : State), s.starts fn slot 4 0 c → c.par 8 2 ≠ 0 → (c.par 8 2 < 1400 ∨ 2400 < c.par 8 2) →
    exec (.powerLimit fn slot) s = .next (s.done fn slot 34 0))
  ∧ (∀ (fn : Fin 9) (slot : Fin 4096) (c : Cmd) (s : State), s.starts fn slot 4 0 c → 1400 ≤ c.par 8 2 → c.par 8 2 ≤ 2400 →
    ∃ t, exec (.powerLimit fn slot) s = .next t ∧ t.aon.power.requested = c.par 8 2 ∧ t.aon.power.boardMax = s.aon.power.boardMax
      ∧ t.aon.power.op = s.aon.power.op ∧ t.plan = s.plan ∧ t.ctxs = s.ctxs ∧ ∀ a, memRead t.mem a = memRead s.mem a)

/-- ATTEST and FW_UPDATE wait for Sill; a second FW_UPDATE is CMD_INVALID 4; an SPDM request of a function that is present waits likewise. An operation that is not the last puts its request back; the last of a session request opens the session and counts it with its signature. -/
def Obligations.SillRequests : Prop :=
  (∀ (fn : Fin 9) (slot : Fin 4096) (c : Cmd) (s : State), s.starts fn slot 3 0 c → s.sill.cur = none →
    exec (.attest fn slot) s = .next { s.setCmd fn slot { c with phase := .running } with sill := { s.sill with cur := some (.attest fn slot) } })
  ∧ (∀ (fn : Fin 9) (slot : Fin 4096) (c : Cmd) (s : State), s.starts fn slot 5 0 c → s.sill.update = none → s.sill.cur = none →
    3424 ≤ c.par 0x10 4 → c.par 0x10 4 ≤ 33554432 →
    exec (.fwUpdate fn slot) s = .next { s.setCmd fn slot { c with phase := .running } with
      sill := { s.sill with cur := some (.fwUpdate fn slot), update := some ⟨fn, slot, false, []⟩ } })
  ∧ (∀ (fn : Fin 9) (slot : Fin 4096) (c : Cmd) (s : State), s.starts fn slot 5 0 c → s.sill.update ≠ none →
    exec (.fwUpdate fn slot) s = .next (s.done fn slot 16 4))
  ∧ (∀ (fn : Fin 9) (r : SpdmRequest) (s : State), s.present fn = true → s.sill.state = 1 → s.sill.cur ≠ none →
    exec (.spdmRequest fn r) s = .next { s with sill := { s.sill with low := s.sill.low ++ [.spdm fn r] } })
  ∧ (∀ (fn slot : Nat) (s : State), s.sill.state = 1 → s.sill.cur = some (.attest fn slot) →
    exec (.sillOperationDone false) s = .next { s with sill := sillPick { s.sill with low := .attest fn slot :: s.sill.low } })
  ∧ (∀ (fn : Fin 9) (s : State), s.sill.state = 1 → s.sill.cur = some (.spdm fn .keyExchange) → s.session fn = false → s.sill.high = [] → s.sill.low = [] →
    ∃ t, exec (.sillOperationDone true) s = .next t ∧ t.session fn = true ∧ t.sill.sessions = min 65535 (s.sill.sessions + 1)
      ∧ t.sill.signatures = min 65535 (s.sill.signatures + 1) ∧ t.sill.cur = none ∧ t.aon = s.aon ∧ t.hif = s.hif ∧ sameBytes s t)

/-- A checked image that nothing rejects invalidates the slot that is not running and its writing starts; a rejected one completes with FW_REJECTED and its cause. A written image that is usable becomes the pending one. A failed host read ends the update with HOST_ERROR. -/
def Obligations.FirmwareUpdate : Prop :=
  (∀ (bs : List Byte) (u : FwUpdate) (c : Cmd) (s : State), s.updateNow false = some (u, c) →
    exec (.fwUpdateImageChecked (.data bs)) s = .next (match s.imageRejected (cut bs 0 (c.par 0x10 4)) (c.par 0x10 4) with
      | none => { s with
          sill := { s.sill with update := some { u with writing := true, image := cut bs 0 (c.par 0x10 4) } },
          flash := { s.flash with images := tset s.flash.images s.updateSlot [] } }
      | some d => s.updateEnds.done u.fn u.slot 33 d))
  ∧ (∀ (u : FwUpdate) (c : Cmd) (s : State), s.updateNow true = some (u, c) →
    ∃ t, exec (.fwUpdateImageWritten true) s = .next t ∧ t.sill.update = none ∧ t.flash.variant = s.flash.variant ∧ t.flash.factory = s.flash.factory
      ∧ (∀ a, memRead t.mem a = memRead s.mem a)
      ∧ (if imgUsable u.image s.flash = true then t.flash.pending = true ∧ t.flash.tried = false ∧ t.flash.fallback = false
          ∧ t.flash.pendingSlot = s.updateSlot ∧ t.flash.image s.updateSlot = u.image ∧ t.flash.minSvn = s.flash.minSvn
        else t.flash = s.flash))
  ∧ (∀ (why : HostFail) (u : FwUpdate) (c : Cmd) (s : State), s.updateNow false = some (u, c) →
    exec (.fwUpdateImageChecked (.failed why)) s = .next ((s.updateEnds.logRead u.fn why).done u.fn u.slot 35 0))

-- Contexts and memory by command (R197 to R215, R273 to R281, R355, R356, R388 to R397) ---------------

/-- CTX_ADMIT that nothing refuses admits the context: its class, mode and reservation, its tenancy one more; the first cause that refuses is the DETAIL of CTX_REFUSED. CTX_RELEASE starts the context switch: the context clears, its lists, fetches, pegs and Plane descriptors go, and the command waits for the end of the switch. The switch ends once no stream and no line request of the context is left: it is not admitted, no page of it is mapped, its semaphores, groups and pegs are cleared, and its tenancy count stays. -/
def Obligations.ContextsComeAndGo : Prop :=
  (∀ (fn : Fin 9) (slot : Fin 4096) (c : Cmd) (s : State), s.starts fn slot 6 0 c → (s.ctx c.ctx).clearing = false → s.admitRefused c = none →
    ∃ t, exec (.ctxAdmit fn slot) s = .next t ∧ (t.ctx c.ctx).admitted = true ∧ (t.ctx c.ctx).be = (c.par 8 1 == 1) ∧ (t.ctx c.ctx).explicit = (c.par 9 1 == 1)
      ∧ (t.ctx c.ctx).tenancy = ((s.ctx c.ctx).tenancy + 1) % 65536 ∧ (t.ctx c.ctx).res = c.reservation ∧ (∀ n, n ≠ c.ctx → t.ctx n = s.ctx n)
      ∧ t.plan = s.plan ∧ t.pages = s.pages ∧ ∀ a, memRead t.mem a = memRead s.mem a)
  ∧ (∀ (fn : Fin 9) (slot : Fin 4096) (c : Cmd) (d : Nat) (s : State), s.starts fn slot 6 0 c → (s.ctx c.ctx).clearing = false → s.admitRefused c = some d →
    exec (.ctxAdmit fn slot) s = .next (s.done fn slot 17 d))
  ∧ (∀ (fn : Fin 9) (slot : Fin 4096) (c : Cmd) (s : State), s.starts fn slot 7 0 c → (∀ x ∈ s.streams, x.ctx ≠ c.ctx) →
    ∃ t, exec (.ctxRelease fn slot) s = .next t ∧ (t.ctx c.ctx).clearing = true ∧ (t.ctx c.ctx).release = some (fn.val, slot.val) ∧ (t.ctx c.ctx).pegs = []
      ∧ (t.ctx c.ctx).planes = [] ∧ (∀ l ∈ t.lists, l.ctx ≠ c.ctx) ∧ (∀ r ∈ t.scribe.runs, r.ctx ≠ c.ctx) ∧ (∀ n, n ≠ c.ctx → t.ctx n = s.ctx n)
      ∧ t.plan = s.plan ∧ ∀ a, memRead t.mem a = memRead s.mem a)
  ∧ (∀ (ctx : Fin 8) (s : State), (s.ctx ctx).clearing = true → (∀ x ∈ s.streams, x.ctx ≠ ctx.val) → (∀ r ∈ s.reqs, r.ctx ≠ ctx.val) →
    ∃ t, exec (.contextStateClear ctx) s = .next t ∧ (t.ctx ctx).admitted = false ∧ (t.ctx ctx).clearing = false ∧ (t.ctx ctx).tenancy = (s.ctx ctx).tenancy
      ∧ (t.ctx ctx).sems = [] ∧ (t.ctx ctx).pairs = [] ∧ (t.ctx ctx).groups = [] ∧ (t.ctx ctx).pegs = [] ∧ (∀ p ∈ t.pages, p.mapped = true → p.ctx ≠ ctx.val)
      ∧ (∀ n, n ≠ ctx.val → t.ctx n = s.ctx n) ∧ t.plan = s.plan)

/-- MAP: a bad attribute word or range is MAP_INVALID; else the pages are placed and the command completes, or RESERVATION says whether the reservation or a site's space is short. A BENCH page is always there. UNMAP of a range that cuts no page and touches no armed stash leaves no mapped page inside it; a misaligned or cutting range is MAP_INVALID. -/
def Obligations.MapAndUnmap : Prop :=
  (∀ (fn : Fin 9) (slot : Fin 4096) (c : Cmd) (s : State), s.starts fn slot 0x10 0 c →
    (s.attrBad c.ctx (BitVec.ofNat 32 (c.par 0x18 4)) = true ∨ s.mapRangeBad c.ctx (c.par 8 8) (c.par 0x10 8) (BitVec.ofNat 32 (c.par 0x18 4)) = true) →
    exec (.map fn slot) s = .next (s.done fn slot 19 0))
  ∧ (∀ (fn : Fin 9) (slot : Fin 4096) (c : Cmd) (s : State), s.starts fn slot 0x10 0 c →
    s.attrBad c.ctx (BitVec.ofNat 32 (c.par 0x18 4)) = false → s.mapRangeBad c.ctx (c.par 8 8) 65536 (BitVec.ofNat 32 (c.par 0x18 4)) = false →
    c.par 0x10 8 = 65536 → attrTier (BitVec.ofNat 32 (c.par 0x18 4)) = 1 →
    exec (.map fn slot) s = .next (State.done (s.mapBench c.ctx (BitVec.ofNat 32 (c.par 0x18 4)) (c.par 8 8)) fn slot 0 0))
  ∧ (∀ (fn : Fin 9) (slot : Fin 4096) (c : Cmd) (s : State), s.starts fn slot 0x10 0 c →
    s.attrBad c.ctx (BitVec.ofNat 32 (c.par 0x18 4)) = false → s.mapRangeBad c.ctx (c.par 8 8) (c.par 0x10 8) (BitVec.ofNat 32 (c.par 0x18 4)) = false →
    attrTier (BitVec.ofNat 32 (c.par 0x18 4)) ≠ 1 → attrTier (BitVec.ofNat 32 (c.par 0x18 4)) ≠ 2 → ∀ (vas : List Nat),
    vas = (List.range (c.par 0x10 8 / pageBytes (attrBig (BitVec.ofNat 32 (c.par 0x18 4))))).map
      (fun i => c.par 8 8 + pageBytes (attrBig (BitVec.ofNat 32 (c.par 0x18 4))) * i) →
    (∀ t, s.mapYard c.ctx (BitVec.ofNat 32 (c.par 0x18 4)) vas = .ok t → exec (.map fn slot) s = .next (t.done fn slot 0 0))
    ∧ ∀ d, s.mapYard c.ctx (BitVec.ofNat 32 (c.par 0x18 4)) vas = .error d → exec (.map fn slot) s = .next (s.done fn slot 20 d))
  ∧ (∀ (fn : Fin 9) (slot : Fin 4096) (c : Cmd) (s : State), s.starts fn slot 0x11 0 c → c.par 8 8 % 65536 = 0 → c.par 0x10 8 % 65536 = 0 → c.par 0x10 8 ≠ 0 →
    c.par 8 8 + c.par 0x10 8 ≤ 2 ^ 57 → s.cutsPage c.ctx (c.par 8 8) (c.par 0x10 8) = false → s.touchesStash c.ctx (c.par 8 8) (c.par 0x10 8) = false →
    ∃ t, exec (.unmap fn slot) s = .next t ∧ (∀ p ∈ t.pages, p.inside c.ctx (c.par 8 8) (c.par 0x10 8) = true → p.mapped = false) ∧ t.plan = s.plan
      ∧ t.streams = s.streams)
  ∧ (∀ (fn : Fin 9) (slot : Fin 4096) (c : Cmd) (s : State), s.starts fn slot 0x11 0 c →
    (c.par 8 8 % 65536 ≠ 0 ∨ c.par 0x10 8 % 65536 ≠ 0 ∨ s.cutsPage c.ctx (c.par 8 8) (c.par 0x10 8) = true) →
    exec (.unmap fn slot) s = .next (s.done fn slot 19 0))

/-- A page that MAP adds where none is mapped is found at its address, with its attribute word, generation count 0, no poisoned line and every byte zero; other pages stay. -/
def Obligations.NewPagesReadZero : Prop :=
  ∀ (ctx va : Nat) (attr : BitVec 32) (charge : Charge) (half : Half) (site frame part : Nat) (s : State),
    (∀ p ∈ s.pages, p.mapped = true → p.ctx = ctx → (va + pageBytes (attrBig attr) ≤ p.va ∨ p.va + p.bytes ≤ va)) → (∀ e ∈ s.mem, e.1 < 2 ^ 21 * s.fresh) →
    ∃ p, (s.addPage ctx va attr charge half site frame part).page? ctx va = some p ∧ p.va = va ∧ p.attr = attr ∧ p.gen = 0 ∧ p.poison = []
      ∧ (∀ o, memRead (s.addPage ctx va attr charge half site frame part).mem (cellAddr p.id o) = 0)
      ∧ (∀ q ∈ s.pages, q ∈ (s.addPage ctx va attr charge half site frame part).pages)

/-- XFER: to the host the whole range is written to host memory and completes with its length; to the device the command waits for its host data, whose bytes are written as they arrive, and a failed host read ends it with HOST_ERROR and the bytes moved. -/
def Obligations.TransfersMoveBytes : Prop :=
  (∀ (fn : Fin 9) (slot : Fin 4096) (c : Cmd) (s : State), s.starts fn slot 0x12 0 c → c.xferBad = false → c.par 8 1 = 1 →
    s.rangeFault c.ctx c.xferVa c.xferBytes false .module = none → s.cuttingOver c.ctx c.xferVa c.xferBytes = false →
    s.firstPoison c.ctx c.xferVa c.xferBytes = none →
    exec (.xfer fn slot) s = .next (State.complete ((s.countRange c.ctx c.xferVa c.xferBytes .h0).hostStore c.xferHost
      (s.readVa c.ctx c.xferVa c.xferBytes)) fn slot 0 0 c.xferBytes 0))
  ∧ (∀ (fn : Fin 9) (slot : Fin 4096) (c : Cmd) (s : State), s.starts fn slot 0x12 0 c → c.xferBad = false → c.par 8 1 = 0 →
    s.rangeFault c.ctx c.xferVa c.xferBytes true .module = none → c.moved < c.xferBytes →
    exec (.xfer fn slot) s = .next (s.setCmd fn slot { c with phase := .running }))
  ∧ (∀ (fn : Fin 9) (slot : Fin 4096) (c : Cmd) (bs : List Byte) (s t : State), s.cmd? fn slot = some c → c.opcode = 0x12 → c.phase = .running →
    bs ≠ [] → c.moved + bs.length < c.xferBytes → s.writesHeld c.ctx (c.xferVa + c.moved) bs.length = false →
    s.tryWrite c.ctx (c.xferVa + c.moved) bs true false .h0 .module = .ok t →
    exec (.hostReadCompletion fn slot (.data bs)) s = .next (t.setCmd fn slot { c with moved := c.moved + bs.length }))
  ∧ (∀ (fn : Fin 9) (slot : Fin 4096) (c : Cmd) (why : HostFail) (s : State), s.cmd? fn slot = some c → c.opcode = 0x12 → c.phase = .running →
    exec (.hostReadCompletion fn slot (.failed why)) s = .next ((s.logRead fn why).complete fn slot 35 0 c.moved 0))

/-- STREAM_ARM ARM of a good header with a free slot, room and a free queue puts an armed stream in the slot; a queue in use is STREAM_BUSY, no slot or room STREAM_NO_RESOURCE. The operations on an armed stream: REARM of an idle persistent stream takes the bases and makes a pass due; CANCEL of an ARMED one completes at once; RESTART of a FAULTED one returns it to ARMED; a second REARM, and one of a FAULTED or RELEASED stream, is STREAM_BUSY. -/
def Obligations.StreamsByCommand : Prop :=
  (∀ (fn : Fin 9) (slot : Fin 4096) (c : Cmd) (h : List Byte) (i : Nat) (run : Nat × Nat) (s : State), s.starts fn slot 0x15 0 c → c.par 9 1 ≤ 63 →
    s.inMask c.ctx (c.par 9 1) = true → c.par 0x10 8 % 64 = 0 → refHigh (c.par 0x10 8) = 0 → s.tryRead c.ctx (c.par 0x10 8) 64 .module = .ok h →
    hdrBad h = false → s.freeSlot (c.par 9 1) = some i → s.streamRun c.ctx (c.par 9 1) (hdrDepth h * (hdrBufGran h + 1)) = some run →
    s.queueTaken c.ctx (c.par 9 1) h = false →
    exec (.streamArm fn slot) s = .next (State.armStream (s.countRange c.ctx (c.par 0x10 8) 64 .h0) fn c (c.par 0x10 8) (c.par 9 1) i h run))
  ∧ (∀ (fn : Fin 9) (slot : Fin 4096) (c : Cmd) (h : List Byte) (s : State), s.starts fn slot 0x15 0 c → c.par 9 1 ≤ 63 →
    s.inMask c.ctx (c.par 9 1) = true → c.par 0x10 8 % 64 = 0 → refHigh (c.par 0x10 8) = 0 → s.tryRead c.ctx (c.par 0x10 8) 64 .module = .ok h →
    hdrBad h = false → s.freeSlot (c.par 9 1) = none →
    exec (.streamArm fn slot) s = .next (State.done (s.countRange c.ctx (c.par 0x10 8) 64 .h0) fn slot 21 0))
  ∧ (∀ (fn : Fin 9) (slot : Fin 4096) (c : Cmd) (x : Stream) (s : State), s.starts fn slot 0x15 1 c → c.par 9 1 ≤ 63 → c.par 0xA 1 ≤ 63 →
    s.stream? (c.par 9 1) (c.par 0xA 1) = some x → x.ctx = c.ctx → hdrPersist x.hdr = true → x.state = 0 → x.due = false → x.heldBases = none →
    (∀ i, i < 4 → refHigh (c.par (0x18 + 8 * i) 8) = 0) →
    exec (.streamArmRearm fn slot) s = .next (State.done (State.setStream { s with fresh := s.fresh + 1 }
      { x with bases := (List.range 4).map (fun i => c.par (0x18 + 8 * i) 8), due := true, waitSeq := s.fresh }) fn slot 0 0))
  ∧ (∀ (fn : Fin 9) (slot : Fin 4096) (c : Cmd) (x : Stream) (s : State), s.starts fn slot 0x15 1 c → c.par 9 1 ≤ 63 → c.par 0xA 1 ≤ 63 →
    s.stream? (c.par 9 1) (c.par 0xA 1) = some x → x.ctx = c.ctx → hdrPersist x.hdr = true → (x.state = 3 ∨ x.state = 4 ∨ x.heldBases ≠ none) →
    (∀ i, i < 4 → refHigh (c.par (0x18 + 8 * i) 8) = 0) → exec (.streamArmRearm fn slot) s = .next (s.done fn slot 22 0))
  ∧ (∀ (fn : Fin 9) (slot : Fin 4096) (c : Cmd) (x : Stream) (s : State), s.starts fn slot 0x15 2 c → c.par 9 1 ≤ 63 → c.par 0xA 1 ≤ 63 →
    s.stream? (c.par 9 1) (c.par 0xA 1) = some x → x.ctx = c.ctx → (x.state = 0 ∨ x.state = 3) →
    exec (.streamArmCancel fn slot) s = .next (s.done fn slot 0 0))
  ∧ (∀ (fn : Fin 9) (slot : Fin 4096) (c : Cmd) (x : Stream) (s : State), s.starts fn slot 0x15 3 c → c.par 9 1 ≤ 63 → c.par 0xA 1 ≤ 63 →
    s.stream? (c.par 9 1) (c.par 0xA 1) = some x → x.ctx = c.ctx → x.state = 3 → x.cancelling = false →
    exec (.streamArmRestart fn slot) s = .next (State.done (State.putStream { s with fresh := s.fresh + 1 } { x with
      state := 0, code := 0, cause := 0, watermark := 0, next := 0, ended := false, waitSeq := s.fresh,
      due := !hdrPersist x.hdr || x.heldBases.isSome, bases := x.heldBases.getD x.bases, heldBases := none }) fn slot 0 0))
  ∧ (∀ (fn : Fin 9) (slot : Fin 4096) (c : Cmd) (x : Stream) (s : State), s.starts fn slot 0x15 4 c → c.par 9 1 ≤ 63 → c.par 0xA 1 ≤ 63 →
    s.stream? (c.par 9 1) (c.par 0xA 1) = some x → x.ctx = c.ctx → x.state ≠ 4 → x.cancelling = false →
    exec (.streamArmRelease fn slot) s = .next (State.cancelStream (s.setCmd fn slot { c with phase := .running })
      { x with waiters := x.waiters ++ [(fn.val, slot.val)], releasing := true }))

/-- STASH_ARM: ARM of a good descriptor clears its layers, arms the stash and writes its record; RESET unmaps every slot; RELEASE unmaps the window and disarms, at once where its last status record is written, and else once it is; without an armed stash RESET and RELEASE are STASH_INVALID. -/
def Obligations.StashByCommand : Prop :=
  (∀ (fn : Fin 9) (slot : Fin 4096) (c : Cmd) (h bs : List Byte) (s u v t : State), s.starts fn slot 0x16 0 c → c.par 0x10 8 % 64 = 0 → refHigh (c.par 0x10 8) = 0 →
    (s.ctx c.ctx).explicit = false → (s.ctx c.ctx).stash = none → s.tryRead c.ctx (c.par 0x10 8) 64 .module = .ok h → sdHeaderBad h = false →
    u = s.countRange c.ctx (c.par 0x10 8) 64 .h0 → u.tryRead c.ctx (c.par 0x10 8 + 64) (64 * sdLayers h) .module = .ok bs →
    v = u.countRange c.ctx (c.par 0x10 8 + 64) (64 * sdLayers h) .h0 → (layersOf h bs).any (leBad h) = false → slotsClash (layersOf h bs) = false →
    v.overlaps c.ctx (sdWindow h) (sdSpan h) = false → ¬(sdPolicy h = 0 ∧ sdScratch h = 0) → 2 * sdScratch h ≤ v.stashCap c.ctx .h0 →
    2 * sdScratch h ≤ v.stashCap c.ctx .h1 → v.clearLayers c.ctx (c.par 0x10 8) (layersOf h bs) v.kingHalf = .ok t →
    exec (.stashArm fn slot) s = .next (State.done (State.writeStash (t.modCtx c.ctx fun x => { x with
      stash := some { hdr := h, desc := c.par 0x10 8, nextSet := 0, setOwner := [], copied := [], code := 0, jobs := [] } }) c.ctx) fn slot 0 0))
  ∧ (∀ (fn : Fin 9) (slot : Fin 4096) (c : Cmd) (st : Stash) (bs : List Byte) (s u t : State), s.starts fn slot 0x16 1 c → (s.ctx c.ctx).stash = some st →
    s.stashHeld c.ctx = false → st.releasing = false → s.tryRead c.ctx (st.desc + 64) (64 * sdLayers st.hdr) .module = .ok bs →
    u = s.countRange c.ctx (st.desc + 64) (64 * sdLayers st.hdr) .h0 → u.clearLayers c.ctx st.desc (layersOf st.hdr bs) u.kingHalf = .ok t →
    exec (.stashArmReset fn slot) s = .next (State.done (State.writeStash ((t.unmapWhere (st.owns c.ctx)).modCtx c.ctx fun x => { x with
      stash := some { st with setOwner := [], copied := [], code := 0, jobs := [] } }) c.ctx) fn slot 0 0))
  ∧ (∀ (fn : Fin 9) (slot : Fin 4096) (c : Cmd) (st : Stash) (s u : State), s.starts fn slot 0x16 2 c → (s.ctx c.ctx).stash = some st →
    s.stashHeld c.ctx = false → st.releasing = false → u = State.writeStash ((s.unmapWhere (st.owns c.ctx)).modCtx c.ctx fun x => { x with
      stash := some { st with releasing := true, setOwner := [], jobs := [] } }) c.ctx →
    (u.stashHeld c.ctx = false → ∃ t, exec (.stashArmRelease fn slot) s = .next t ∧ (t.ctx c.ctx).stash = none
      ∧ (∀ p ∈ t.pages, st.owns c.ctx p = true → p.mapped = false) ∧ t.plan = s.plan)
    ∧ (u.stashHeld c.ctx = true → exec (.stashArmRelease fn slot) s = .next (u.setCmd fn slot { c with phase := .started })))
  ∧ (∀ (fn : Fin 9) (slot : Fin 4096) (c : Cmd) (s : State), s.starts fn slot 0x16 2 c → (s.ctx c.ctx).stash = none →
    exec (.stashArmRelease fn slot) s = .next (s.done fn slot 23 0))

/-- SEQ_TABLE_EDIT while no build runs: CONTROL stores the record and restarts the build number; WRITE edits the entries of its range; READ writes its entries to memory and completes with the build number; a range beyond SEQ is DESC_INVALID. A build takes one count of BUILD_SEM when it is served next and no edit has begun and not ended, and its end writes the work list and the count word, numbers the build and posts READY_SEM. What a build makes of one slot: a slot not in DECODE gives a zero word; one whose stop word is set pauses with CAUSE 1, one at its step limit with CAUSE 2; any other counts a step and gives the template's word. LEDGER_SWAP rewrites a legal anchor that no append holds, and runs until no tile holds a snapshot of the old root; a busy anchor is LEDGER_BUSY. -/
def Obligations.SequenceAndLedger : Prop :=
  (∀ (fn : Fin 9) (slot : Fin 4096) (c : Cmd) (r : List Byte) (s : State), s.starts fn slot 0x1A 0 c → (s.ctx c.ctx).seq.building = false →
    refHigh (c.par 0x10 8) = 0 → (s.ctx c.ctx).res.seq ≠ 0 → s.tryRead c.ctx (c.par 0x10 8) 64 .module = .ok r → s.controlBad c.ctx r = false →
    exec (.seqTableEditControl fn slot) s = .next (State.done (State.modCtx { s.countRange c.ctx (c.par 0x10 8) 64 .h0 with fresh := s.fresh + 1 } c.ctx
      fun x => { x with seq := { x.seq with control := some r, build := 0, waitSeq := s.fresh } }) fn slot 0 0))
  ∧ (∀ (fn : Fin 9) (slot : Fin 4096) (c : Cmd) (b : List Byte) (s : State), s.starts fn slot 0x1A 1 c → (s.ctx c.ctx).seq.building = false →
    refHigh (c.par 0x10 8) = 0 → (s.ctx c.ctx).res.seq ≠ 0 → s.seqBeyond c = false → c.seqCount = 1 → b.length = 32 → seqBad b = false →
    s.tryRead c.ctx (c.par 0x10 8) 32 .module = .ok b →
    exec (.seqTableEditWrite fn slot) s = .next (State.done (State.modCtx (s.countRange c.ctx (c.par 0x10 8) 32 .h0) c.ctx fun x => { x with seq := { x.seq with
      entries := tset x.seq.entries c.seqFirst (seqEdit (tget x.seq.entries c.seqFirst {}) b) } }) fn slot 0 0))
  ∧ (∀ (fn : Fin 9) (slot : Fin 4096) (c : Cmd) (s t : State), s.starts fn slot 0x1A 2 c → (s.ctx c.ctx).seq.building = false →
    refHigh (c.par 0x10 8) = 0 → (s.ctx c.ctx).res.seq ≠ 0 → s.seqBeyond c = false →
    s.tryWrite c.ctx (c.par 0x10 8) ((List.range c.seqCount).map fun i => seqBytes (tget (s.ctx c.ctx).seq.entries (c.seqFirst + i) {})).flatten false false .h0
      .module = .ok t → exec (.seqTableEditRead fn slot) s = .next (t.complete fn slot 0 0 (s.ctx c.ctx).seq.build 0))
  ∧ (∀ (fn : Fin 9) (slot : Fin 4096) (c : Cmd) (s : State), s.starts fn slot 0x1A 1 c → (s.ctx c.ctx).seq.building = false →
    refHigh (c.par 0x10 8) = 0 → (s.ctx c.ctx).res.seq ≠ 0 → s.seqBeyond c = true →
    exec (.seqTableEditWrite fn slot) s = .next (s.done fn slot 2 0))
  ∧ (∀ (ctx : Fin 8) (r : List Byte) (s : State), (s.ctx ctx).seq.control = some r → (s.ctx ctx).seq.building = false → s.editing ctx = false →
    s.mayTake ctx (scBay r) (scBuildSem r) 1 (s.ctx ctx).seq.waitSeq = true →
    exec (.seqBuildStart ctx) s = .next (State.modCtx (s.semTake ctx (scBay r) (scBuildSem r) 1) ctx fun c => { c with seq := { c.seq with building := true } }))
  ∧ (∀ (ctx : Fin 8) (r : List Byte) (t : State) (es : Table SeqEntry) (s : State), (s.ctx ctx).seq.control = some r → (s.ctx ctx).seq.building = true →
    s.buildAll ctx r (((s.ctx ctx).seq.build + 1) % 2 ^ 32) = .ok (t, es, 0) → scReadySem r ≠ 0xFF → scReadyPeg r = 0xFFFF →
    exec (.seqBuildDone ctx) s = .next (State.semAdd (State.modCtx { t with fresh := t.fresh + 1 } ctx fun c => { c with seq := { c.seq with
      entries := es, build := ((s.ctx ctx).seq.build + 1) % 2 ^ 32, building := false, waitSeq := t.fresh } }) ctx (scBay r) (scReadySem r) 1))
  ∧ (∀ (ctx : Nat) (r : List Byte) (e : SeqEntry) (s : State), (e.state ≠ 1 → s.buildSlot ctx r e = .ok (e, 0, false, false))
    ∧ (e.state = 1 → e.stopRef = 0 → e.stepLimit ≠ 0 → e.stepsDone = e.stepLimit → s.buildSlot ctx r e = .ok ({ e with state := 2, cause := 2 }, 0, false, true))
    ∧ (e.state = 1 → e.stopRef = 0 → e.stepLimit = 0 →
        s.buildSlot ctx r e = .ok ({ e with stepsDone := (e.stepsDone + 1) % 2 ^ 32 }, scTemplate r + 1, true, false))
    ∧ (∀ b, e.state = 1 → e.stopRef ≠ 0 → s.tryRead ctx (refAddr e.stopRef) 4 .module = .ok b → leNat b ≠ 0 →
        s.buildSlot ctx r e = .ok ({ e with state := 2, cause := 1 }, 0, false, true)))
  ∧ (∀ (fn : Fin 9) (slot : Fin 4096) (c : Cmd) (b : List Byte) (s u t : State), s.starts fn slot 0x1B 0 c → c.par 0x10 8 % 64 = 0 → refHigh (c.par 0x10 8) = 0 →
    c.par 0x18 8 % 64 = 0 → refHigh (c.par 0x18 8) = 0 → c.par 0x20 4 ≠ 0 → c.par 0x20 4 ≤ 1048576 → s.tryRead c.ctx (c.par 0x10 8) 64 .module = .ok b →
    (anchorOf (c.par 0x10 8) b).legal = true → (anchorOf (c.par 0x10 8) b).busy = false → u = s.countRange c.ctx (c.par 0x10 8) 64 .h0 →
    u.swapWrites c (c.par 0x10 8) (anchorOf (c.par 0x10 8) b) = .ok t →
    exec (.ledgerSwap fn slot) s = .next (State.sweepSwaps (t.setCmd fn slot { c with phase := .running, moved := (anchorOf (c.par 0x10 8) b).rootSeq })))
  ∧ (∀ (fn : Fin 9) (slot : Fin 4096) (c : Cmd) (b : List Byte) (s : State), s.starts fn slot 0x1B 0 c → c.par 0x10 8 % 64 = 0 → refHigh (c.par 0x10 8) = 0 →
    c.par 0x18 8 % 64 = 0 → refHigh (c.par 0x18 8) = 0 → c.par 0x20 4 ≠ 0 → c.par 0x20 4 ≤ 1048576 → s.tryRead c.ctx (c.par 0x10 8) 64 .module = .ok b →
    (anchorOf (c.par 0x10 8) b).legal = true → (anchorOf (c.par 0x10 8) b).busy = true →
    exec (.ledgerSwap fn slot) s = .next (State.done (s.countRange c.ctx (c.par 0x10 8) 64 .h0) fn slot 29 0))

-- Faults and stash claims (R187, R273 to R281, R365, R480, R481) --------------------------------------

/-- A fault that the joiner of its half can resolve within 12,500 ticks is dropped, counted and what waited goes on; one resolved at the deadline tick is also a near-miss; a command that waited is taken up again. While that complex does not run the fault waits. A fault past its limit, which does not run while the fault waits for a stash claim, ends unresolved: a command that waited completes with PAGE_FAULT and the cause in DETAIL. The causes have the numbers of R396. -/
def Obligations.FaultsEnd : Prop :=
  (∀ (id : Nat) (f : PFault) (s : State), s.fault? id = some f → (s.aon.joiners.get f.half).running = true → s.resolvesNow f = true →
    s.now f.half < f.since + 12500 →
    exec (.joinerFaultResolve id) s = .next (((s.dropFault id).countResolved).resume f))
  ∧ (∀ (id : Nat) (f : PFault) (s : State), s.fault? id = some f → (s.aon.joiners.get f.half).running = false →
    exec (.joinerFaultResolve id) s = .next s)
  ∧ (∀ (id : Nat) (f : PFault) (s : State), s.fault? id = some f → (s.aon.joiners.get f.half).running = true → s.resolvesNow f = true →
    s.now f.half = f.since + 12500 →
    exec (.joinerFaultResolve id) s = .next ((((s.nearMissDev).dropFault id).countResolved).resume f))
  ∧ (∀ (f : PFault) (fn slot : Nat) (c : Cmd) (s : State), f.who = .command fn slot → s.cmd? fn slot = some c →
    s.resume f = s.setCmd fn c.slot { c with phase := .started })
  ∧ (∀ (id : Nat) (f : PFault) (fn slot : Nat) (c : Cmd) (s : State), s.fault? id = some f → f.since + 12500 < s.now f.half → s.awaitsClaim f = false → f.who = .command fn slot →
    s.cmd? fn slot = some c → c.opcode ≠ 0x12 → c.slot = slot →
    exec (.faultResolveTimeout id) s = .next (State.complete (s.dropFault id) fn slot 4 f.cause 0 0))
  ∧ (∀ (id : Nat) (f : PFault) (bay idx : Nat) (k : Task) (s : State), s.fault? id = some f → f.since + 12500 < s.now f.half → s.awaitsClaim f = false → f.who = .status 0 bay idx →
    s.task? bay f.ctx idx = some k → exec (.faultResolveTimeout id) s = .next (State.endUnwritten (s.dropFault id) k f.addr f.cause))
  ∧ (pfUnmapped = 0 ∧ pfRight = 1 ∧ pfLoft = 2 ∧ pfYard = 3 ∧ pfPackFull = 4 ∧ pfHole = 5 ∧ pfStash = 6 ∧ pfRemote = 7)

/-- A claim: the oldest stash fault whose slot is EMPTY and fits its half frames starts a claim that keeps them; once mapped, STATE 1 is written and the requesters resume; a drop takes the next scratch set, writes STATE 2 and counts. -/
def Obligations.StashClaims : Prop :=
  (∀ (ctx : Fin 8) (f : PFault) (rest : List PFault) (st : Stash) (i n : Nat) (e : List Byte) (s : State), s.claimable = f :: rest → f.ctx = ctx →
    (s.ctx ctx).stash = some st → s.managing = true → s.claiming = false → s.stashHeld ctx = false → st.releasing = false → s.resolvesNow f = false → s.layerAt ctx f.addr st = some i →
    s.tryRead ctx (st.entryAt i) 64 .module = .ok e → leState e = 0 → s.claimFrames ctx e = some n → n ≤ leSlotFrames e →
    slotShare e n .h0 ≤ s.stashFree ctx st .h0 → slotShare e n .h1 ≤ s.stashFree ctx st .h1 →
    ∃ t ids, exec (.stashClaim ctx) s = .next t ∧ (t.ctx ctx).stash = some { st with jobs := [⟨ids, i, n, 1⟩] } ∧ t.pages.length = s.pages.length
      ∧ (∀ p ∈ t.pages, ∃ q ∈ s.pages, p = { q with counts := p.counts }) ∧ t.plan = s.plan ∧ sameBytes s t)
  ∧ (∀ (ctx : Fin 8) (st : Stash) (j : StashJob) (s : State), s.stashJob ctx 1 = some (st, j) → s.managing = true →
    exec (.stashClaimMapped ctx) s = .next (State.claimResumes (State.writeStash (State.writeLayer (State.mapSlot
      (s.modCtx ctx fun x => { x with stash := some { st with jobs := [] } }) ctx st (s.readVa ctx (st.entryAt j.layer) 64) j.frames (.stash j.layer))
      ctx (st.entryAt j.layer) 1 (some j.frames)) ctx)))
  ∧ (∀ (ctx : Fin 8) (st : Stash) (j : StashJob) (s : State), s.stashJob ctx 2 = some (st, j) → s.managing = true → st.copied.contains j.layer = true →
    ∃ u, exec (.stashDropDone ctx) s = .next (State.claimResumes (State.writeStash { u with ctxRegs := { u.ctxRegs with
        stashDrops := min 65535 (u.ctxRegs.stashDrops + 1) } } ctx))
      ∧ u = State.writeLayer (State.mapSlot ((s.unmapWhere fun p => p.ctx == ctx && match p.charge with
          | .scratch k l => k == st.nextSet || l == j.layer
          | _ => false).modCtx ctx fun x => { x with stash := some { st with
            jobs := [], nextSet := 1 - st.nextSet, setOwner := tset (st.setOwner.filter fun o => o.2 != j.layer) st.nextSet j.layer } })
          ctx st (s.readVa ctx (st.entryAt j.layer) 64) j.frames (.scratch st.nextSet j.layer)) ctx (st.entryAt j.layer) 2 (some j.frames))

-- The auger's own steps and upkeep (R164, R170, R172, R176, R183, R186 to R190, R200, R208, R209, R223, R225) ---

/-- A due pass of an armed stream starts once its semaphore holds WAIT_N for the waiter served next: the count is taken in full and the stream is RUNNING from block 0 with watermark 0. Semaphore pairs: the auger takes a free ring buffer to fill, or a full one to write back; an agent takes a full one, which empties it and gives FREE one back, or a free one, which it fills; under CHECK_GEN a stale buffer is fetched again first. -/
def Obligations.PassesAndPairs : Prop :=
  (∀ (bay slot : Fin 64) (x : Stream) (s : State), s.stream? bay slot = some x → x.state = 0 → x.due = true → x.fault = none → x.stop = none → x.reStop = none → x.cancelling = false →
    hdrWaitSem x.hdr = 0xFF →
    exec (.streamPassStart bay slot) s = .next (s.putStream { x with state := 1, due := false, ended := false, next := 0, watermark := 0, cur := none, order := [], stop := none }))
  ∧ (∀ (bay slot : Fin 64) (x : Stream) (s : State), s.stream? bay slot = some x → x.state = 0 → x.due = true → x.fault = none → x.stop = none → x.reStop = none → x.cancelling = false →
    hdrWaitSem x.hdr ≠ 0xFF → s.mayTake x.ctx bay (hdrWaitSem x.hdr) (hdrWaitN x.hdr) x.waitSeq = true →
    exec (.streamPassStart bay slot) s = .next (State.putStream (s.semTake x.ctx bay (hdrWaitSem x.hdr) (hdrWaitN x.hdr))
      { x with state := 1, due := false, ended := false, next := 0, watermark := 0, cur := none, order := [], stop := none }))
  ∧ (∀ (bay slot : Fin 64) (x : Stream) (s : State), s.stream? bay slot = some x → x.state = 1 → x.cancelling = false → x.cur = none → x.stop = none → x.reStop = none → x.fault = none →
    x.next ≤ hdrEntries x.hdr → hdrKind x.hdr = 1 → 0 < (s.pair x.ctx bay (hdrQueue x.hdr)).free → tfind x.bufs x.ringPos = none →
    exec (.semPairAugerTake bay slot) s = .next (State.setStream (s.pairTake x.ctx bay (hdrQueue x.hdr) false)
      { x with cur := some x.ringPos, order := x.order ++ [x.ringPos], ringPos := (x.ringPos + 1) % hdrDepth x.hdr, bufs := tset x.bufs x.ringPos {} }))
  ∧ (∀ (agent : PairAgent) (bay slot : Fin 64) (x : Stream) (b : Buf) (fill : List Byte) (s : State), s.stream? bay slot = some x → hdrKind x.hdr = 1 →
    0 < (s.pair x.ctx bay (hdrQueue x.hdr)).full → tfind x.bufs x.agentPos = some b → b.use = 2 → (hdrCheckGen x.hdr = false ∨ s.staleGens x.ctx b = []) →
    exec (.semPairAgentTake agent bay slot fill) s = .next (State.settleStream (State.pairAdd (State.setStream (State.pairTake
      (if agent = .plane then s.planeGets x.ctx bay (hdrQueue x.hdr) (memReadN b.data 0 (hdrBufBytes x.hdr)) else s) x.ctx bay (hdrQueue x.hdr) true)
      { x with bufs := tdel x.bufs x.agentPos, agentPos := (x.agentPos + 1) % hdrDepth x.hdr }) x.ctx bay (hdrQueue x.hdr) false 1) bay slot))
  ∧ (∀ (agent : PairAgent) (bay slot : Fin 64) (x : Stream) (b : Buf) (fill : List Byte) (s : State), s.stream? bay slot = some x → hdrKind x.hdr = 1 →
    0 < (s.pair x.ctx bay (hdrQueue x.hdr)).full → tfind x.bufs x.agentPos = some b → b.use = 2 → hdrCheckGen x.hdr = true → s.staleGens x.ctx b ≠ [] →
    exec (.semPairAgentTake agent bay slot fill) s = .next (s.startRefetch x x.agentPos b (s.staleGens x.ctx b)))
  ∧ (∀ (bay slot : Fin 64) (x : Stream) (s : State), s.stream? bay slot = some x → x.state = 1 → x.cancelling = false → x.cur = none → x.stop = none → x.reStop = none → x.fault = none →
    x.next ≤ hdrEntries x.hdr → hdrKind x.hdr = 2 → 0 < (s.pair x.ctx bay (hdrQueue x.hdr)).full →
    exec (.semPairAugerTake bay slot) s = .next (State.setStream (s.pairTake x.ctx bay (hdrQueue x.hdr) true)
      { x with cur := some x.ringPos, order := x.order ++ [x.ringPos], ringPos := (x.ringPos + 1) % hdrDepth x.hdr,
               bufs := tset x.bufs x.ringPos { data := (tget x.bufs x.ringPos {}).data } }))
  ∧ (∀ (agent : PairAgent) (bay slot : Fin 64) (x : Stream) (fill : List Byte) (s : State), s.stream? bay slot = some x → hdrKind x.hdr = 2 →
    0 < (s.pair x.ctx bay (hdrQueue x.hdr)).free →
    exec (.semPairAgentTake agent bay slot fill) s = .next (State.pairAdd (State.setStream (s.pairTake x.ctx bay (hdrQueue x.hdr) false)
      { x with bufs := tset x.bufs x.agentPos { data := memWriteN [] 0 (fill.take (hdrBufBytes x.hdr)), use := 2 }, agentPos := (x.agentPos + 1) % hdrDepth x.hdr })
      x.ctx bay (hdrQueue x.hdr) true 1))

/-- A wait takes its count in full, never part of it, and only the waiter that came first takes. -/
def Obligations.SemaphoresAreTakenInFull : Prop :=
  (∀ (ctx bay sem n seq : Nat) (s : State), s.mayTake ctx bay sem n seq = true → n ≤ s.semCount ctx bay sem ∧ ∀ q ∈ s.waiters ctx bay sem, seq ≤ q)
  ∧ (∀ (ctx bay sem n : Nat) (s : State), n ≤ s.semCount ctx bay sem → (s.semTake ctx bay sem n).semCount ctx bay sem + n = s.semCount ctx bay sem)
  ∧ (∀ (ctx bay sem n : Nat) (s : State), (s.semAdd ctx bay sem n).semCount ctx bay sem = min 65535 (s.semCount ctx bay sem + n)
      ∧ ((s.semAdd ctx bay sem n).ctx ctx).saturated = (if 65535 < s.semCount ctx bay sem + n then min 65535 ((s.ctx ctx).saturated + 1) else (s.ctx ctx).saturated))
  ∧ (∀ (ctx bay sem n b k : Nat) (s : State), 64 * b + k ≠ 64 * bay + sem → (s.semAdd ctx bay sem n).semCount ctx b k = s.semCount ctx b k)

/-- The auger translates the next row of a scribe fetch: its stored lines are requested and the fetch goes on to the next row; a row that does not translate stops it before that row. Of a stream it reads the next block entry: an entry that is not legal stops the stream with DESC_INVALID, and the lines of one that is and that translates are requested. -/
def Obligations.BlocksAreTranslated : Prop :=
  (∀ (id a n : Nat) (f : Fetch) (s : State), s.fetch? id = some f → f.stop = none → f.fault = none → f.failed = none → f.buf.refetch = [] →
    f.rows[f.next]? = some (a, n) → s.cuttingOver f.ctx a n = false → s.rangeFault f.ctx a n false .module = none →
    exec (.blockTranslate (.fetch id)) s = .next (State.settleFetch (State.issue (s.setFetch { f with
      next := f.next + 1, buf := { f.buf with
        raw := s.fillUnstored f.next (mergeLines (s.rowPieces f.ctx a n 0)) f.buf.raw
        outstanding := f.buf.outstanding + (s.storedLines (mergeLines (s.rowPieces f.ctx a n 0))).length, refetch := [] } })
      (.fetch id) f.ctx f.bay (bayHalf f.bay) 0 f.next false false (s.storedLines (mergeLines (s.rowPieces f.ctx a n 0)))) id))
  ∧ (∀ (id a n v c : Nat) (f : Fetch) (s : State), s.fetch? id = some f → f.stop = none → f.fault = none → f.failed = none → f.buf.refetch = [] →
    f.rows[f.next]? = some (a, n) → s.cuttingOver f.ctx a n = false → s.rangeFault f.ctx a n false .module = some (v, c) →
    exec (.blockTranslate (.fetch id)) s = .next (State.settleFetch (s.setFetch { f with stop := some ⟨f.next, v, c, 4, resolvable c⟩ }) id))
  ∧ (∀ (bay slot : Fin 64) (x : Stream) (e : List Byte) (i : Nat) (b : Buf) (s : State), s.stream? bay slot = some x → x.state = 1 → x.cancelling = false → x.stop = none →
    x.reStop = none → x.fault = none → (∀ y ∈ x.bufs, y.2.refetch = []) → x.next ≤ hdrEntries x.hdr → x.cur = some i → tfind x.bufs i = some b →
    s.tryRead x.ctx (x.desc + 64 + 32 * x.next) 32 .module = .ok e → entBad e (hdrBufBytes x.hdr) = true →
    exec (.blockTranslate (.stream bay slot)) s = .next (State.stopStream (s.countRange x.ctx (x.desc + 64 + 32 * x.next) 32 x.half) x ⟨x.next, 0, 0, 2, false⟩))
  ∧ (∀ (bay slot : Fin 64) (x : Stream) (e : List Byte) (i : Nat) (b : Buf) (s : State), s.stream? bay slot = some x → x.state = 1 → x.cancelling = false → x.stop = none →
    x.reStop = none → x.fault = none → (∀ y ∈ x.bufs, y.2.refetch = []) → x.next ≤ hdrEntries x.hdr → x.cur = some i → tfind x.bufs i = some b →
    s.tryRead x.ctx (x.desc + 64 + 32 * x.next) 32 .module = .ok e → entBad e (hdrBufBytes x.hdr) = false →
    (entRowAddrs e (refAddr (x.bases.getD (entSel e) 0))).any (fun a => (s.countRange x.ctx (x.desc + 64 + 32 * x.next) 32 x.half).cuttingOver x.ctx a (entRowBytes e)) = false →
    (s.countRange x.ctx (x.desc + 64 + 32 * x.next) 32 x.half).rowsFault x.ctx (entRowAddrs e (refAddr (x.bases.getD (entSel e) 0))) (entRowBytes e) (hdrKind x.hdr == 2) = none →
    exec (.blockTranslate (.stream bay slot)) s
      = .next (State.issueBlock (s.countRange x.ctx (x.desc + 64 + 32 * x.next) 32 x.half) x i b x.next (refAddr (x.bases.getD (entSel e) 0)) e false))

/-- A site's slot goes first to the oldest bank-blocked request that may have one, else to the first request in turn of the bay next in turn that may have it, which then holds it. A granted read of a clean line is served; a corrected line is counted for its lane first; an uncorrectable one is retried, and poisons its line when the retry fails too. A request behind an earlier one of its granule, or across a bridge that retrains, waits. -/
def Obligations.RequestsAreServed : Prop :=
  (∀ (site : Fin 12) (bay : Nat) (r : Req) (rest : List Req) (s : State), (∀ q ∈ s.reqs, q.site = site.val → s.unblocks q = false) →
    bay = ((s.site site).lastBay + 1) % 65 → s.inTurn site bay = r :: rest → s.bankBlocked site bay < 64 → s.grantable r = true → s.bankSlots site r.bank < s.aug.bankCap →
    ∃ t, exec (.slotGrant site) s = .next t
      ∧ t = State.setSite (s.grantReq r.id) site { s.site site with lastBay := bay, lastXfer := tset (s.site site).lastXfer bay r.turn }
      ∧ (∀ q ∈ t.reqs, q.id = r.id → q.state = .granted) ∧ (∀ q ∈ s.reqs, q.id ≠ r.id → q ∈ t.reqs)
      ∧ (∀ n, n ≠ site.val → t.site n = s.site n) ∧ t.streams = s.streams ∧ t.aug = s.aug ∧ sameBytes s t)
  ∧ (∀ (site : Fin 12) (q : Req) (s : State), s.reqs.find? (fun q => q.site == site.val && s.unblocks q) = some q →
    exec (.slotGrant site) s = .next (s.grantReq q.id))
  ∧ (∀ (id : Nat) (r : Req) (p : Page) (o : LineOutcome) (s : State), s.req? id = some r → r.state = .granted → s.pageById r.page = some p → r.site < 12 →
    s.bridgeWaits r.half r.site = false → s.behindReq r = false → p.badFor r = false → p.badUnder r = false → r.fullLine = false →
    exec (.lineRequestComplete id o) s = .next (State.noticeClaim (match (s.site r.site).sees (r.bank / 16) o with
      | .clean => State.serve (s.countLines r.page 1 r.half) r
      | .corrected l => State.serve (State.lineCorrected (s.countLines r.page 1 r.half) r.site (r.bank / 16) (some l)) r
      | .uncorrectable => State.setReq (s.countLines r.page 1 r.half) id .retrying) r.bay))
  ∧ (∀ (id : Nat) (r : Req) (p : Page) (o : LineOutcome) (s : State), s.req? id = some r → r.state = .granted → s.pageById r.page = some p →
    s.bridgeWaits r.half r.site = false → s.behindReq r = false → p.badFor r = false → (12 ≤ r.site ∨ r.fullLine = true ∨ p.badUnder r = true) →
    exec (.lineRequestComplete id o) s = .next (State.noticeClaim (State.serve (s.countLines r.page 1 r.half) r) r.bay))
  ∧ (∀ (id : Nat) (r : Req) (p : Page) (o : LineOutcome) (s : State), s.req? id = some r → r.state = .granted → s.pageById r.page = some p →
    s.bridgeWaits r.half r.site = false → s.behindReq r = false → p.badFor r = true →
    exec (.lineRequestComplete id o) s = .next (State.noticeClaim (State.servePoisoned (s.countLines r.page 1 r.half) r (if r.site < 12 then 3 else 2)) r.bay))
  ∧ (∀ (x : Site) (sub : Nat), x.sees sub .clean = .clean ∧ x.sees sub .uncorrectable = .uncorrectable ∧ ∀ l : Fin 12,
    ((∀ k ∈ x.erased, k / 16 ≠ sub) → x.sees sub (.corrected l) = .corrected l)
    ∧ (sub * 16 + l.val ∈ x.erased → x.sees sub (.corrected l) = .clean)
    ∧ (sub * 16 + l.val ∉ x.erased → (∃ k ∈ x.erased, k / 16 = sub) → x.sees sub (.corrected l) = .uncorrectable))
  ∧ (∀ (id : Nat) (r : Req) (o : LineOutcome) (s : State), s.req? id = some r → r.state = .granted → (s.bridgeWaits r.half r.site = true ∨ s.behindReq r = true) →
    exec (.lineRequestComplete id o) s = .next (s.noticeClaim r.bay))
  ∧ (∀ (id : Nat) (r : Req) (p : Page) (o : LineOutcome) (s : State), s.req? id = some r → r.state = .retrying → s.pageById r.page = some p →
    exec (.yardReadRetryDone id o) s = .next (State.noticeClaim (match (s.site r.site).sees (r.bank / 16) o with
      | .clean => State.serve (s.lineCorrected r.site (r.bank / 16) none) r
      | .corrected l => State.serve (s.lineCorrected r.site (r.bank / 16) (some l)) r
      | .uncorrectable => State.servePoisoned (State.logUe (s.poisonLine r.page r.line) p.site p.frame (p.granule r.line) (if r.write = true then 3 else 1)) r 3) r.bay))

/-- A spare whose sub-channel has drained is switched in: SPARE_USED and SPARE_FOR of the site change, requests go on, LANE_SPARED is posted, and a lane that reached THRESH meanwhile is taken up; a window's end clears the lanes' counts. The patrols take the next line of the site, or word of the loft: an uncorrectable line, read twice, is poisoned where a page holds it and logged, a corrected one is counted for its lane, and a loft single-bit error is counted. A double-bit error in a LOAD buffer has every block of the buffer fetched again, once; the second faults the stream with LOFT_UNCORRECTABLE. -/
def Obligations.UpkeepOfMemory : Prop :=
  (∀ (site : Fin 12) (sub : Fin 32) (lane : Nat) (s : State), tfind (s.site site).sparing sub = some lane →
    (∀ r ∈ s.reqs, r.site = site.val → r.bank / 16 = sub.val → r.inFlight = false) →
    ∃ t, exec (.laneSpareSwitched site sub) s = .next t ∧ (t.plan.site site).spareUsed = ((s.plan.site site).spareUsed ||| BitVec.ofNat 32 (2 ^ sub.val))
      ∧ (t.site site).sparing = tdel (s.site site).sparing sub ∧ (∀ n, n ≠ site.val → t.site n = s.site n) ∧ t.plan.goodMap = s.plan.goodMap ∧ t.pages = s.pages ∧ ∀ a, memRead t.mem a = memRead s.mem a)
  ∧ (∀ (site : Fin 12) (s : State), windowEnd (s.now (siteHalf site)) s.yard.spareWindow (s.site site).spareEnded = true →
    exec (.laneSparingWindowEnd site) s = .next (s.setSite site { s.site site with laneCe := [], spareEnded := s.now (siteHalf site) }))
  ∧ (∀ (h : Half) (m : Fin 6) (site : Nat) (o retry : LineOutcome) (n : Nat) (x : Site) (t : State) (s : State), site = 6 * h.num + m → x = s.site site →
    n = (if s.now (siteHalf site) / 2 ^ s.yard.scrubPeriod = x.patrolWin then x.patrolNext else 0) → s.yard.scrubEnable = true → s.siteUp site = true →
    n < siteLines → (∀ r ∈ s.reqs, r.site = site → r.state ≠ .waiting ∧ r.state ≠ .bankBlocked) →
    t = s.setSite site { x with patrolNext := n + 1, patrolWin := s.now (siteHalf site) / 2 ^ s.yard.scrubPeriod } →
    exec (.yardPatrolRead h m o retry) s = .next (match x.sees (granuleBank site (n / 8192) (n % 8192 / 16)).1 o with
      | .clean => t
      | .corrected l => t.lineCorrected site (granuleBank site (n / 8192) (n % 8192 / 16)).1 (some l)
      | .uncorrectable => match x.sees (granuleBank site (n / 8192) (n % 8192 / 16)).1 retry with
        | .clean => t.lineCorrected site (granuleBank site (n / 8192) (n % 8192 / 16)).1 none
        | .corrected l => t.lineCorrected site (granuleBank site (n / 8192) (n % 8192 / 16)).1 (some l)
        | .uncorrectable => t.patrolLost site n))
  ∧ (∀ (bay : Fin 64) (single : Bool) (n : Nat) (s : State), n = (if s.now (bayHalf bay) / 2 ^ 24 = (s.bay bay).loftWin then (s.bay bay).loftNext else 0) → n < loftWords →
    ∃ t, exec (.loftPatrolRead bay single) s = .next t ∧ t.bay bay = { s.bay bay with loftNext := n + 1, loftWin := s.now (bayHalf bay) / 2 ^ 24 }
      ∧ t.yard.loftCe = (if single = true then min max32 (s.yard.loftCe + 1) else s.yard.loftCe) ∧ (∀ k, k ≠ bay.val → t.bay k = s.bay k) ∧ t.streams = s.streams
      ∧ sameBytes s t)
  ∧ (∀ (bay slot : Fin 64) (x : Stream) (i : Nat) (b : Buf) (s : State), s.stream? bay slot = some x → tfind x.bufs i = some b → hdrKind x.hdr = 0 → b.loftRetry = false →
    exec (.loftUncorrectable (.buffer (.stream bay slot) i)) s = .next (s.setStream { x with bufs := tset x.bufs i { b with
      loftRetry := true, refetch := b.blocks.map Prod.fst, counted := false, use := if b.use = 1 then 1 else if b.taken = true then 5 else 4, gens := [] } }))
  ∧ (∀ (bay slot : Fin 64) (x : Stream) (i : Nat) (b : Buf) (s : State), s.stream? bay slot = some x → tfind x.bufs i = some b → hdrKind x.hdr = 0 → b.loftRetry = true →
    exec (.loftUncorrectable (.buffer (.stream bay slot) i)) s = .next (s.faultStream { x with bufs := tdel x.bufs i } 4 2 0 (s.watermarkOf x)))

/-- Migration completes step by step. MIGRATION_EPOCH_END at the end of a window of 2^20 ticks: every page of the half that qualifies starts its migration, in order of far count, while management is enabled, and the half's far counts are cleared. MIGRATION_COPY_DONE and MIGRATION_RECOPY_DONE: a copied page with at most 8 dirty granules, or after its third round, goes to its cutover, another is copied again. MIGRATION_CUTOVER_DONE moves the page's home to the new frame, leaves the old one draining, and counts it; a page that its requests keep stays at its address. -/
def Obligations.PagesMigrate : Prop :=
  (∀ (h : Half) (s : State), windowEnd (s.now h) 20 (s.epochEnded.get h) = true →
    ∃ t u, exec (.migrationEpochEnd h) s = .next t ∧ t = { u with pages := u.pages.map fun p => if p.half == h then { p with counts := ⟨0, 0⟩ } else p }
      ∧ u = (if s.yard.migEnable = true ∧ s.managing = true
          then forAll (s.migrants h) (fun p y => y.startMig h p) { s with migSpent := s.migSpent.set h 0, epochEnded := s.epochEnded.set h (s.now h) }
          else { s with migSpent := s.migSpent.set h 0, epochEnded := s.epochEnded.set h (s.now h) })
      ∧ t.migSpent.get h ≤ s.yard.migBudget ∧ (∀ p ∈ t.pages, p.half = h → p.counts = ⟨0, 0⟩)
      ∧ t.epochEnded.get h = s.now h ∧ t.yard = s.yard ∧ t.plan = s.plan ∧ t.streams = s.streams ∧ ∀ a, memRead t.mem a = memRead s.mem a)
  ∧ (∀ (h : Half) (s : State), windowEnd (s.now h) 20 (s.epochEnded.get h) = false → exec (.migrationEpochEnd h) s = .next s)
  ∧ (∀ (page : Nat) (p : Page) (m : Mig) (s : State), s.pageById page = some p → p.mig = some m → p.mapped = true → m.step = .copying →
    exec (.migrationCopyDone page) s = .next (s.setMig page (if m.dirty.length ≤ 8 ∨ 3 ≤ m.rounds then { m with step := .cutover } else { m with step := .recopying, dirty := [] })))
  ∧ (∀ (page : Nat) (p : Page) (m : Mig) (s : State), s.pageById page = some p → p.mig = some m → p.mapped = true → m.step = .recopying →
    exec (.migrationRecopyDone page) s = .next (s.setMig page
      (if m.dirty.length ≤ 8 ∨ 3 ≤ m.rounds + 1 then { m with step := .cutover, rounds := m.rounds + 1 } else { m with step := .recopying, dirty := [], rounds := m.rounds + 1 })))
  ∧ (∀ (page : Nat) (p : Page) (m : Mig) (s : State), s.pageById page = some p → p.mig = some m → p.mapped = true → m.step = .cutover →
    ∃ t, exec (.migrationCutoverDone page) s = .next t ∧ t.yard.migCount = min (2 ^ 64 - 1) (s.yard.migCount + 1) ∧ t.plan = s.plan ∧ t.reqs = s.reqs
      ∧ t = State.sweepPages { s with
          pages := s.pages.map (fun q => if q.id == page then { q with
            half := m.half, site := m.site, frame := m.frame, part := m.part, mig := some ⟨.draining, p.half, p.site, p.frame, p.part, [], 0⟩ } else q)
          yard := { s.yard with migCount := min (2 ^ 64 - 1) (s.yard.migCount + 1) } }
      ∧ (∃ q, t.pageById page = some q ∧ q.half = m.half ∧ q.site = m.site ∧ q.frame = m.frame ∧ q.part = m.part ∧ q.va = p.va ∧ q.gen = p.gen
        ∧ (q.mig = none ∨ ∃ r ∈ s.reqs, r.page = page ∧ r.site = p.site)))

-- Task lists and tiles (R125, R126, R142 to R157, R352 to R354, R360, R364, R391) ---------------------

/-- LOAD_TASKS binds a list that is not running to its bay; LAUNCH START runs it from descriptor 0; HALT of a running list stops what has not started and completes; a running list refuses LOAD_TASKS and START with LIST_BUSY. -/
def Obligations.TaskListsByCommand : Prop :=
  (∀ (fn : Fin 9) (slot : Fin 4096) (c : Cmd) (s : State), s.starts fn slot 0x13 0 c → c.par 8 1 ≤ 63 → s.inMask c.ctx (c.par 8 1) = true →
    c.par 0x10 8 % 128 = 0 → c.par 0x18 8 % 16 = 0 → refHigh (c.par 0x10 8) = 0 → refHigh (c.par 0x18 8) = 0 →
    (∀ l ∈ s.lists, l.bay = c.par 8 1 → l.ctx = c.ctx → l.launch = none) →
    exec (.loadTasks fn slot) s = .next (State.done { s with lists := (s.lists.filter fun y => !(y.bay == c.par 8 1 && y.ctx == c.ctx)) ++
      [{ bay := c.par 8 1, ctx := c.ctx, list := c.par 0x10 8, status := c.par 0x18 8, launch := none, next := 0, fetchNext := 0, ahead := [], tasks := [],
         halt := none, completed := 0 }] } fn slot 0 0))
  ∧ (∀ (fn : Fin 9) (slot : Fin 4096) (c : Cmd) (l : TList) (s : State), s.starts fn slot 0x14 0 c → c.par 8 1 ≤ 63 → s.list? (c.par 8 1) c.ctx = some l →
    (l.launch = none → exec (.launchStart fn slot) s = .next (State.setCmd (s.setList { l with
      launch := some (fn.val, slot.val), next := 0, fetchNext := 0, ahead := [], tasks := [], halt := none, completed := 0 }) fn slot { c with phase := .running }))
    ∧ (l.launch ≠ none → exec (.launchStart fn slot) s = .next (s.done fn slot 30 0)))
  ∧ (∀ (fn : Fin 9) (slot : Fin 4096) (c : Cmd) (l : TList) (s : State), s.starts fn slot 0x14 1 c → c.par 8 1 ≤ 63 → s.list? (c.par 8 1) c.ctx = some l →
    l.launch ≠ none →
    exec (.launchHalt fn slot) s = .next (State.checkHalt (State.done (s.haltList (c.par 8 1) c.ctx 32 0 l.firstUnstarted) fn slot 0 0) (c.par 8 1) c.ctx))

/-- A scribe reads the next descriptor, at most eight ahead, and takes the next task once the previous one lets it; a task without WAIT_SEM goes on to its start at once, one with it waits. END ends the LAUNCH. A task that waits takes its count in full and goes on; a count that came by its deadline tick is in time, and one that came at it is a near-miss; past its deadline without the count it ends with WAIT_TIMEOUT. Step 4 of R148: a NOP task has nothing to read and ends; a task whose records and shapes are good opens its tiles; an append locks its anchors first, and all of them locked opens its tiles; an anchor that is BUSY ends it with LEDGER_RACE. -/
def Obligations.TasksAreTaken : Prop :=
  (∀ (bay : Fin 64) (ctx : Fin 8) (l : TList) (b : List Byte) (s : State), s.list? bay ctx = some l → l.launch ≠ none → l.halt = none → l.ahead.length < 8 →
    l.fetchNext ≤ 65535 → l.atEnd = false → s.tryRead l.ctx (l.list + 128 * l.fetchNext) 128 .module = .ok b →
    exec (.descriptorFetch bay ctx) s = .next (State.setList (s.countRange l.ctx (l.list + 128 * l.fetchNext) 128 (bayHalf l.bay))
      { l with fetchNext := l.fetchNext + 1, ahead := l.ahead ++ [⟨l.fetchNext, b, none, none⟩] }))
  ∧ (∀ (bay : Fin 64) (ctx : Fin 8) (l : TList) (h : Ahead) (rest : List Ahead) (s : State), s.list? bay ctx = some l → l.launch ≠ none → l.halt = none →
    l.ahead = h :: rest → h.fault = none → h.failed = none → tkOpcode h.bytes ≠ opEnd → l.prevDone (tkDepPrev h.bytes) = true → tkPair h.bytes = false →
    exec (.taskTake bay ctx) s = .next (s.startTask l h.idx h.bytes []))
  ∧ (∀ (bay : Fin 64) (ctx : Fin 8) (l : TList) (h : Ahead) (rest : List Ahead) (s : State), s.list? bay ctx = some l → l.launch ≠ none → l.halt = none →
    l.ahead = h :: rest → h.fault = none → h.failed = none → tkOpcode h.bytes = opEnd → descBad h.bytes [] h.idx = false → l.tasks = [] →
    exec (.taskTake bay ctx) s = .next (s.endLaunch l 0 0 h.idx))
  ∧ (∀ (bay : Fin 64) (ctx : Fin 8) (k : Task) (s : State), s.waiting? bay ctx = some k → k.deadline = none → s.mayTake ctx bay (tkWaitSem k.a) (tkWaitN k.a) k.waitSeq = true →
    exec (.taskWaitTake bay ctx) s = .next (State.setTask (s.semTake ctx bay (tkWaitSem k.a) (tkWaitN k.a)) { k with phase := .reading }))
  ∧ (∀ (bay : Fin 64) (ctx : Fin 8) (k : Task) (d : Nat) (s : State), s.waiting? bay ctx = some k → k.deadline = some d → k.ctx = ctx.val → k.bay = bay.val →
    s.mayTake ctx bay (tkWaitSem k.a) (tkWaitN k.a) k.waitSeq = true → tkWaitN k.a ≤ s.heldBefore ctx bay (tkWaitSem k.a) (d + 1) →
    exec (.taskWaitTake bay ctx) s = .next (if s.heldBefore ctx bay (tkWaitSem k.a) d < tkWaitN k.a
      then State.nearMiss (State.setTask (s.semTake ctx bay (tkWaitSem k.a) (tkWaitN k.a)) { k with phase := .reading }) ctx
      else State.setTask (s.semTake ctx bay (tkWaitSem k.a) (tkWaitN k.a)) { k with phase := .reading }))
  ∧ (∀ (bay : Fin 64) (ctx : Fin 8) (k : Task) (d : Nat) (s : State), s.waiting? bay ctx = some k → k.deadline = some d → d < s.now k.half →
    (s.mayTake ctx bay (tkWaitSem k.a) (tkWaitN k.a) k.waitSeq = false ∨ s.heldBefore ctx bay (tkWaitSem k.a) (d + 1) < tkWaitN k.a) → k.ctx = ctx.val → k.bay = bay.val →
    exec (.taskWaitTimeout bay ctx) s = .next (State.failTask (s.setTask { k with phase := .reading }) bay ctx k.idx 12 0))
  ∧ (∀ (bay : Fin 64) (ctx : Fin 8) (k : Task) (s : State), s.inPhase? bay ctx .reading = some k → s.taskHeld k = false → tkOpcode k.a = opNop →
    exec (.taskStartRead bay ctx) s = .next (State.noticeClaim (s.setTask { k with phase := .finishing, status := some (0, 0) }) bay))
  ∧ (∀ (bay : Fin 64) (ctx : Fin 8) (k y : Task) (s : State), s.inPhase? bay ctx .reading = some k → s.taskHeld k = false → tkOpcode k.a ≠ opNop →
    s.readStart k = .ok y → (tkAppends k.a = false ∨ y.appending = []) →
    exec (.taskStartRead bay ctx) s = .next (State.noticeClaim (State.openTask (s.countSpans k.ctx y.startSpans k.half) y) bay))
  ∧ (∀ (bay : Fin 64) (ctx : Fin 8) (k y : Task) (s : State), s.inPhase? bay ctx .reading = some k → s.taskHeld k = false → tkOpcode k.a ≠ opNop →
    s.readStart k = .ok y → tkAppends k.a = true → y.appending ≠ [] →
    exec (.taskStartRead bay ctx) s = .next (State.noticeClaim (State.setTask (s.countSpans k.ctx y.startSpans k.half) { y with phase := .locking }) bay))
  ∧ (∀ (bay : Fin 64) (ctx : Fin 8) (k : Task) (st d : Nat) (s : State), s.inPhase? bay ctx .reading = some k → s.taskHeld k = false → tkOpcode k.a ≠ opNop →
    s.readStart k = .error (.ends st d) →
    exec (.taskStartRead bay ctx) s = .next (State.noticeClaim (s.failTask bay ctx k.idx st d) bay))
  ∧ (∀ (bay : Fin 64) (ctx : Fin 8) (k : Task) (t : State) (locked : List (Nat × Nat × Nat × Nat)) (checks rooms : List Unit) (s : State),
    s.inPhase? bay ctx .locking = some k → s.taskHeld k = false → k.appending.mapM (s.checkAnchor k) = .ok checks → k.appending.foldlM (State.lockAnchor k) (s, []) = .ok (t, locked) →
    locked.mapM (t.roomAt k) = .ok rooms →
    exec (.ledgerAppendLock bay ctx) s = .next (State.noticeClaim (t.openTask { k with appends := locked }) bay))
  ∧ (∀ (bay : Fin 64) (ctx : Fin 8) (k : Task) (a : Nat) (checks : List Unit) (s : State), s.inPhase? bay ctx .locking = some k → s.taskHeld k = false →
    k.appending.mapM (s.checkAnchor k) = .ok checks → k.appending.foldlM (State.lockAnchor k) (s, []) = .error (.ends 6 a) →
    exec (.ledgerAppendLock bay ctx) s = .next (State.noticeClaim (State.failTask (s.raceEvent k a max32 0 0) bay ctx k.idx 6 0) bay))

/-- A bay issues the next tile of the LC context next in turn to a free core, and of a BE context only where no LC context has one; 500 ticks after an LC claim stood, the BE run started last is abandoned for it; a handle that does not come by its deadline ends the task with WAIT_TIMEOUT. -/
def Obligations.TilesAreIssued : Prop :=
  (∀ (bay : Fin 64) (c core : Nat) (x : Cand) (s t : State), s.bayRuns bay = true →
    t = State.failStarved (forAll (List.range 8) (fun c y => y.passList bay c) s) bay → t.turn bay (t.bay bay).lastLc false = some (c, x) →
    t.freeCore bay = some core →
    exec (.tileIssue bay) s = .next (State.noticeClaim (State.endClaim (State.runCand (t.setBay bay { t.bay bay with lastLc := c }) x core) bay) bay))
  ∧ (∀ (bay : Fin 64) (c core : Nat) (x : Cand) (s t : State), s.bayRuns bay = true →
    t = State.failStarved (forAll (List.range 8) (fun c y => y.passList bay c) s) bay → t.turn bay (t.bay bay).lastLc false = none →
    t.turn bay (t.bay bay).lastBe true = some (c, x) → t.freeCore bay = some core → (t.bay bay).claim = none →
    exec (.tileIssue bay) s = .next (State.noticeClaim (State.endClaim (State.runCand (t.setBay bay { t.bay bay with lastBe := c }) x core) bay) bay))
  ∧ (∀ (bay : Fin 64) (k : LcClaim) (r : Run) (s t : State), (s.bay bay).claim = some k → k.forced = false → k.since + 500 ≤ s.now (bayHalf bay) →
    t = s.setBay bay { s.bay bay with claim := some { k with forced := true } } → (t.cand bay k.ctx).isSome = true → t.freeCore bay = none → t.victim bay = some r →
    exec (.lcClaimTimeout bay) s = .next (t.abandon r))
  ∧ (∀ (bay : Fin 64) (ctx : Fin 8) (index : Fin 65536) (k : Task) (t : Tile) (rest : List Tile) (d : Nat) (s : State), s.task? bay ctx index = some k →
    k.todo = t :: rest → k.handleDeadline = some d → k.phase = .issuing → k.status = none → t.issued = false → d < s.now k.half → s.tileReady k t = .wait →
    exec (.handleWaitTimeout bay ctx index) s = .next (s.failTask bay ctx index 12 0))

/-- A tile that walks no ledger ends with what its arithmetic gives, once every row it asked for is there; one that walks keeps its result until its entries are read again: unchanged entries let it stand, a changed one is a LEDGER_RACE that ends the task. A core whose bench fails parity is set aside and takes no tile any more, and its tile goes back to its task. -/
def Obligations.TilesAreDone : Prop :=
  (∀ (core : CoreId) (wrong : List (Nat × BitVec 64)) (r : Run) (k : Task) (w : Option Walk) (o : TileOut) (s t : State), s.run? core = some r →
    s.task? r.bay r.ctx r.task = some k → r.out = none → s.operandAgain k r.tile = false → s.operandLost k r.tile = false → (∀ f ∈ s.faults, f.who ≠ .tile core) →
    s.runWalk k r = (w, none) → t = State.fetchWalk (s.setRun { r with walk := w }) k { r.tile with walk := w } →
    (∀ f ∈ t.tileFetches k r.tile, f.failed = none ∧ f.complete = true) → t.runTile k r.tile w wrong = .ok o →
    exec (.tileDone core wrong) s = .next (State.noticeClaim (if tkWalks k.a = true
      then State.setRun (t.countSpans k.ctx (k.readSpans { r.tile with walk := w }) k.half) { r with walk := w, out := some o }
      else State.endRun (t.countSpans k.ctx (k.readSpans { r.tile with walk := w }) k.half) k { r with walk := w } o) (coreBay core)))
  ∧ (∀ (core : CoreId) (r : Run) (k : Task) (w : Walk) (o : TileOut) (s : State), s.run? core = some r → s.task? r.bay r.ctx r.task = some k → r.out = some o →
    r.walk = some w → (∀ f ∈ s.faults, f.who ≠ .tile core) →
    (s.walkChanged r.ctx w = .ok none → exec (.ledgerRecheckDone core) s
      = .next (State.noticeClaim (State.endRun (s.countSpans k.ctx (w.entries.map fun e => (e.2.1, 16)) k.half) k r o) (coreBay core)))
    ∧ ∀ x, s.walkChanged r.ctx w = .ok (some x) →
      exec (.ledgerRecheckDone core) s
        = .next (State.noticeClaim (State.failTask (State.dropTile (s.raceEvent k w.anchor x.1 x.2.1 x.2.2) r) r.bay r.ctx r.task 6 0) (coreBay core)))
  ∧ (∀ (core : CoreId) (r : Run) (s : State), s.run? core = some r →
    ∃ t, exec (.benchParityFail core) s = .next t ∧ t.coreGood core = false ∧ t = (s.returnRun r).modScribe (fun x => { x with setAside := x.setAside ++ [core.val] }))

/-- Two runs whose products have one fingerprint each release the tile; two that differ ask for a third in another bay; a third that agrees with one of them decides against the core that disagreed, which is quarantined at once, whatever becomes of the outputs; three that all differ end the task with SDC and release nothing. -/
def Obligations.SpotChecksDecide : Prop :=
  (∀ (id : Nat) (c : Check) (k : Task) (p d : Nat × TileOut) (s : State), s.check? id = some c → s.task? c.bay c.ctx c.task = some k → c.role 0 = some p → c.role 1 = some d →
    (∀ b ∈ c.bays, b.1 ≠ 2) → (∀ f ∈ s.faults, f.who ≠ .check id) → p.2.prints = d.2.prints →
    exec (.spotCheckCompare id) s = .next (State.releaseCheck (if c.decided = true then s else s.agreed c [p.1, d.1]) k c p.2))
  ∧ (∀ (id : Nat) (c : Check) (k : Task) (p d : Nat × TileOut) (b : Nat × State) (s : State), s.check? id = some c → s.task? c.bay c.ctx c.task = some k →
    c.role 0 = some p → c.role 1 = some d → (∀ b ∈ c.bays, b.1 ≠ 2) → (∀ f ∈ s.faults, f.who ≠ .check id) → p.2.prints ≠ d.2.prints →
    s.dupBay c.bay (c.bays.map Prod.snd) = some b →
    exec (.spotCheckCompare id) s = .next (b.2.setCheck { c with bays := c.bays ++ [(2, b.1)] }))
  ∧ (∀ (id : Nat) (c : Check) (k : Task) (p d x : Nat × TileOut) (s : State), s.check? id = some c → s.task? c.bay c.ctx c.task = some k → c.role 0 = some p →
    c.role 1 = some d → c.role 2 = some x → (∀ f ∈ s.faults, f.who ≠ .check id) →
    (x.2.prints = p.2.prints → exec (.spotCheckThirdCompare id) s = .next (s.majority k c p.2 [p.1, x.1] d.1))
    ∧ (x.2.prints ≠ p.2.prints → x.2.prints = d.2.prints → exec (.spotCheckThirdCompare id) s = .next (s.majority k c d.2 [d.1, x.1] p.1))
    ∧ (x.2.prints ≠ p.2.prints → x.2.prints ≠ d.2.prints → exec (.spotCheckThirdCompare id) s = .next (State.failTask (State.sdcEvent ((s.dropCheck k c).modScribe fun y =>
        { y with sdcUnresolved := min max16 (y.sdcUnresolved + 1) }) k c false 0) c.bay c.ctx c.task 5 0)))
  ∧ (∀ (k : Task) (c : Check) (o : TileOut) (agree : List Nat) (bad : CoreId) (s : State), c.decided = false →
    ∃ t : State, s.majority k c o agree bad = t.releaseCheck k c o ∧ t.coreGood bad = false ∧ t.scribe.sdcResolved = min max16 (s.scribe.sdcResolved + 1)
      ∧ (∀ e ∈ t.scribe.unchecked, e.1 ∉ agree) ∧ t.flash.variant = s.flash.variant ∧ ∀ a, memRead t.mem a = memRead s.mem a)

/-- ROW_STATS_MERGE_DONE and TASK_COMPLETE complete. The merge of a task's partial records writes the final ones, and leaves the task ready to end with STATUS 0. A task that may end releases its anchors, writes its status entry and acts on it: PEG_DONE, POST and the event, and the task has left its list. -/
def Obligations.TasksComplete : Prop :=
  (∀ (bay : Fin 64) (ctx : Fin 8) (index : Fin 65536) (k : Task) (s t u : State), t = s.passList bay ctx → t.task? bay ctx index = some k → k.tilesDone = true →
    k.partials ≠ [] → t.taskHeld k = false → (((k.partials.map fun p => p.1 % 2).dedup).findSome? fun key => t.scratchFault k key false) = none → t.writeStats k = .ok u →
    exec (.rowStatsMergeDone bay ctx index) s = .next u
    ∧ (k.bay = bay.val → k.ctx = ctx.val →
      ∃ f, u.task? bay ctx index = some { k with phase := .finishing, status := some (0, 0), partials := [], flags := f }))
  ∧ (∀ (bay : Fin 64) (ctx : Fin 8) (index : Fin 65536) (k : Task) (st : Nat × Nat) (s t : State), t = s.passList bay ctx → t.task? bay ctx index = some k →
    t.taskHeld k = false → k.ending = some st → exec (.taskComplete bay ctx index) s = .next (t.endTask k st))
  ∧ (∀ (bay : Fin 64) (ctx : Fin 8) (index : Fin 65536) (k y : Task) (st : Nat × Nat) (l : TList) (s t u v w : State), t = s.passList bay ctx →
    t.task? bay ctx index = some k → t.taskHeld k = false → k.ending = some st → y = { k with appends := [] } →
    t.unlock k (decide (st.1 ≤ 1)) = .ok u → v = u.setTask y → v.list? k.bay k.ctx = some l →
    v.tryWrite k.ctx (l.status + 16 * k.idx) (y.record st.1 (v.now k.half)) false false k.half .module = .ok w →
    exec (.taskComplete bay ctx index) s = .next (w.afterRecord y st.1)
      ∧ (k.bay = bay.val → k.ctx = ctx.val → (w.afterRecord y st.1).task? bay ctx index = none))
  ∧ (∀ (k : Task) (s : State), (∀ status, 1 < status → s.afterRecord k status = (s.taskEvent k status).leaveTask k.bay k.ctx k.idx true)
    ∧ (tkPegTile k.a = 0xFFFF → tkPegDone k.a = 0xFFFF → tkPostSem k.a ≠ 0xFF → s.afterRecord k 0
      = State.leaveTask (State.taskEvent (s.semAdd k.ctx k.bay (tkPostSem k.a) (tkPostN k.a)) k 0) k.bay k.ctx k.idx true)
    ∧ (tkPegTile k.a = 0xFFFF → tkPegDone k.a ≠ 0xFFFF → tkPostSem k.a = 0xFF → s.afterRecord k 0
      = State.leaveTask (State.taskEvent (s.raisePeg k.ctx (tkPegDone k.a) 1) k 0) k.bay k.ctx k.idx true))
  ∧ (∀ (k : Task) (now : Nat), (k.record 0 now).length = 16)

-- The Plane, groups, pegs and links (R283 to R350, R392, R393) ----------------------------------------

/-- PLANE_ARM arms the lowest free descriptor number, or is STREAM_NO_RESOURCE with all four armed; RELEASE of a descriptor whose pass runs waits for its end. A Plane pass: its wait semaphore is taken in full, the step record and the entries are read and every page translated, and its units make their requests; a step record that fails its checks ends it with STEP_INVALID; its end applies a NORM or an UPDATE pass once every request is complete and every gradient there. -/
def Obligations.PlanePasses : Prop :=
  (∀ (fn : Fin 9) (slot : Fin 4096) (c : Cmd) (h es : List Byte) (id : Nat) (s u v : State), s.starts fn slot 0x17 0 c → c.par 0x10 8 % 64 = 0 →
    refHigh (c.par 0x10 8) = 0 → s.tryRead c.ctx (c.par 0x10 8) 64 .module = .ok h → plHeaderBad h = false → s.inMask c.ctx (plBay h) = true →
    u = s.countRange c.ctx (c.par 0x10 8) 64 .h0 → u.tryRead c.ctx (c.par 0x10 8 + 64) (64 * plEntries h) .module = .ok es →
    v = u.countRange c.ctx (c.par 0x10 8 + 64) (64 * plEntries h) .h0 → (∀ i, i < plEntries h → plEntryBad h (cut es (64 * i) 64) = false) →
    (List.range 4).find? (fun i => (v.plane? c.ctx i).isNone) = some id →
    exec (.planeArm fn slot) s = .next (State.complete (State.putPlane { v with fresh := v.fresh + 1 } c.ctx id { hdr := h, desc := c.par 0x10 8, state := 0, code := 0, passes := 0, outcome := 0, unchanged := 0, step := [], waitSeq := v.fresh, release := none, gIn := [] }) fn slot 0 0 id 0))
  ∧ (∀ (fn : Fin 9) (slot : Fin 4096) (c : Cmd) (p : Plane) (s : State), s.starts fn slot 0x17 1 c → c.par 9 1 ≤ 3 → s.plane? c.ctx (c.par 9 1) = some p →
    p.state ≠ 4 → p.release = none →
    exec (.planeArmRelease fn slot) s = .next (if p.state = 1
      then State.setPlane (s.setCmd fn slot { c with phase := .running }) c.ctx (c.par 9 1) { p with release := some (fn.val, slot.val) }
      else State.releasePlane (s.setCmd fn slot { c with phase := .running }) c.ctx (c.par 9 1) { p with release := some (fn.val, slot.val) }))
  ∧ (∀ (ctx : Fin 8) (id : Fin 4) (p q : Plane) (s t u : State), s.plane? ctx id = some p → p.state = 0 → s.planeHeld ctx id = false →
    s.mayTake ctx (plBay p.hdr) (plWaitSem p.hdr) (plWaitN p.hdr) p.waitSeq = true → t = s.semTake ctx (plBay p.hdr) (plWaitSem p.hdr) (plWaitN p.hdr) →
    q = { p.afterPass with state := 1, code := 0 } → u = t.putPlane ctx id q → u.planeHeld ctx id = false →
    exec (.planePassStart ctx id) s = .next (u.planeBegin ctx id q))
  ∧ (∀ (ctx id : Nat) (q : Plane) (step : List Byte) (es : List (List Byte)) (s t : State), s.planePrepare ctx q = .ok (step, es) →
    t = s.countSpans ctx [(refAddr (plStep q.hdr), 192), (q.desc + 64, 64 * plEntries q.hdr)] q.half →
    (plKind q.hdr = 1 → stepOk step = false → s.planeBegin ctx id q = t.failPlane ctx id q 8 true)
    ∧ ((plKind q.hdr = 1 → stepOk step = true ∧ normOver (srNorm2 step) = false) → s.planeBegin ctx id q
      = State.passRequests (t.setPlane ctx id { q with step := step, ready := true, entries := es, pages := s.passPages ctx q.hdr es }) ctx id q.hdr es)
    ∧ (plKind q.hdr = 1 → stepOk step = true → normOver (srNorm2 step) = true → s.planeBegin ctx id q
      = t.setPlane ctx id { q with step := step, ready := true, entries := es, pages := s.passPages ctx q.hdr es }))
  ∧ (∀ (ctx : Fin 8) (id : Fin 4) (p : Plane) (s : State), s.plane? ctx id = some p → p.state = 1 → p.ready = true → s.planeHeld ctx id = false →
    s.passWaits ctx id = false → ringsFull (ringParts p.gIn p.entries) = true →
    (plKind p.hdr = 0 → exec (.planePassEnd ctx id) s = .next (s.normPass ctx id p (ringParts p.gIn p.entries)))
    ∧ (plKind p.hdr = 1 → exec (.planePassEnd ctx id) s = .next (s.updatePass ctx id p (ringParts p.gIn p.entries))))

/-- GROUP_DEFINE writes the record of a group every member of which is reachable and that no loaded collective peg names; PEG_LOAD loads, rearms and unloads pegs, and a RUNNING one is PEG_BUSY. -/
def Obligations.GroupsAndPegsByCommand : Prop :=
  (∀ (fn : Fin 9) (slot : Fin 4096) (c : Cmd) (s : State), s.starts fn slot 0x18 0 c → c.par 8 1 ≤ 63 → s.groupBad (cut c.bytes 0x10 16) = false →
    (∀ r, r < grpSize (cut c.bytes 0x10 16) → s.reachable (s.member (cut c.bytes 0x10 16) r) = true) →
    (∀ e ∈ (s.ctx c.ctx).pegs, pgOp e.2.entry = 0 ∨ pgGroup e.2.entry ≠ c.par 8 1) →
    exec (.groupDefine fn slot) s = .next (State.done (s.modCtx c.ctx fun x => { x with groups := tset x.groups (c.par 8 1) (cut c.bytes 0x10 16) }) fn slot 0 0))
  ∧ (∀ (fn : Fin 9) (slot : Fin 4096) (c : Cmd) (bs : List Byte) (s : State), s.starts fn slot 0x19 0 c → c.par 0x10 8 % 64 = 0 → refHigh (c.par 0x10 8) = 0 →
    c.par 0xA 2 + (c.par 0xC 2 + 1) ≤ 1024 → s.tryRead c.ctx (c.par 0x10 8) (64 * (c.par 0xC 2 + 1)) .module = .ok bs →
    ((s.ctx c.ctx).pegArea = none → c.par 0x18 8 ≠ 0 ∧ c.par 0x18 8 % 16 = 0 ∧ refHigh (c.par 0x18 8) = 0) →
    (∀ a ∈ (s.ctx c.ctx).pegArea, c.par 0x18 8 = 0 ∨ c.par 0x18 8 = a) →
    (∀ i, i ≤ c.par 0xC 2 → pegBad (cut bs (64 * i) 64) = false) →
    (∀ i, i ≤ c.par 0xC 2 → (s.countRange c.ctx (c.par 0x10 8) (64 * (c.par 0xC 2 + 1)) .h0).pegRuns c.ctx (c.par 0xA 2 + i) = false) →
    exec (.pegLoad fn slot) s = .next (State.done (forAll (((List.range (c.par 0xC 2 + 1)).map fun i => cut bs (64 * i) 64).zipIdx)
      (fun e x => x.putPeg c.ctx (c.par 0xA 2 + e.2) (freshPeg e.1))
      ((s.countRange c.ctx (c.par 0x10 8) (64 * (c.par 0xC 2 + 1)) .h0).modCtx c.ctx fun x => { x with pegArea := some (x.pegArea.getD (c.par 0x18 8)) })) fn slot 0 0))
  ∧ (∀ (fn : Fin 9) (slot : Fin 4096) (c : Cmd) (p : Peg) (s : State), s.starts fn slot 0x19 1 c → s.peg? c.ctx (c.par 0xA 2) = some p → p.state = 0 → p.finishing = false →
    c.par 0xC 2 = 0 → pegBad (p.entry.take 0x18 ++ cut c.bytes 0x20 16 ++ p.entry.drop 0x28) = false →
    exec (.pegLoadRearm fn slot) s = .next (State.done (s.putPeg c.ctx (c.par 0xA 2)
      { p with entry := p.entry.take 0x18 ++ cut c.bytes 0x20 16 ++ p.entry.drop 0x28 }) fn slot 0 0))
  ∧ (∀ (fn : Fin 9) (slot : Fin 4096) (c : Cmd) (s : State), s.starts fn slot 0x19 2 c → c.par 0xA 2 + c.par 0xC 2 < 1024 →
    (∀ i, i ≤ c.par 0xC 2 → s.pegRuns c.ctx (c.par 0xA 2 + i) = false) →
    ∃ t, exec (.pegLoadUnload fn slot) s = .next t ∧ (∀ e ∈ (t.ctx c.ctx).pegs, e.1 < c.par 0xA 2 ∨ c.par 0xA 2 + c.par 0xC 2 < e.1)
      ∧ t.plan = s.plan ∧ t.pages = s.pages ∧ ∀ a, memRead t.mem a = memRead s.mem a)
  ∧ (∀ (fn : Fin 9) (slot : Fin 4096) (c : Cmd) (s : State), s.starts fn slot 0x19 2 c → c.par 0xA 2 + c.par 0xC 2 < 1024 → s.pegRuns c.ctx (c.par 0xA 2) = true →
    exec (.pegLoadUnload fn slot) s = .next (s.done fn slot 28 0))

/-- What a collective's members send each other: an OPEN of the next sign-in is held, a GO starts the data phase and counts, an ABORT ends the peg with its code, a GRANT of the running sequence is counted, and a data packet is the WRITE it names, which goes on in ring order once it has landed; and a wait of TIMEOUT ticks ends it with COLL_TIMEOUT. A peg whose every element is done has fired once more, goes back to ARMED if it persists and to DONE if not, and then signals and chains. A raise of a peg below its threshold only counts, and a raise that names no loaded peg is counted in PEG_STRAY. -/
def Obligations.CollectivesRun : Prop :=
  (∀ (ctx : Fin 8) (k : Fin 1024) (inst : BitVec 16) (rank : Nat) (sig : BitVec 64) (p : Peg) (s : State), s.peg? ctx k = some p → s.rank (s.group ctx (pgGroup p.entry)) = 0 →
    rank < grpSize (s.group ctx (pgGroup p.entry)) → rank ≠ 0 → 2 ≤ pgOp p.entry → p.state = 0 → inst = p.inst + 1 →
    exec (.pegOpenReceived ctx k inst rank sig) s = .next (s.setPeg ctx k
      { p with opens := p.opens.filter (fun o => !(o.rank == rank && o.inst == inst)) ++ [⟨rank, inst, sig⟩] }))
  ∧ (∀ (ctx : Fin 8) (k : Fin 1024) (p : Peg) (s : State), s.peg? ctx k = some p → p.state = 1 → p.signed = true → p.go = false → s.now .h0 ≤ p.since + p.limit →
    exec (.pegGoReceived ctx k p.inst) s = .next (State.pegGo (if s.now .h0 = p.since + p.limit then s.nearMiss ctx else s) ctx k p))
  ∧ (∀ (ctx : Fin 8) (k : Fin 1024) (rank : Nat) (p : Peg) (s : State), s.peg? ctx k = some p → p.state = 1 → p.signed = true → p.go = false →
    s.now .h0 < p.since + p.limit → exec (.pegAbortReceived ctx k p.inst 9 rank) s = .next (s.pegFail ctx k { p with badRank := some rank } 9))
  ∧ (∀ (ctx : Fin 8) (k : Fin 1024) (p : Peg) (s : State), s.peg? ctx k = some p → p.state = 1 → p.signed = true → pgOp p.entry = 6 → p.go = true →
    s.now .h0 ≤ p.since + p.limit →
    exec (.pegGrantReceived ctx ⟨k, p.inst⟩) s = .next (State.pegPump (State.setPeg (if s.now .h0 = p.since + p.limit then s.nearMiss ctx else s) ctx k
      { p with grants := p.grants + 1, since := s.now .h0, limit := s.pegLimit p.entry }) ctx k))
  ∧ (∀ (ctx : Fin 8) (k : Fin 1024) (p : Peg) (s : State), s.peg? ctx k = some p → p.state = 1 → p.signed = true → pgOp p.entry = 6 →
    (p.go = false ∨ p.since + p.limit < s.now .h0) → exec (.pegGrantReceived ctx ⟨k, p.inst⟩) s = .next (s.setPeg ctx k { p with grants := p.grants + 1 }))
  ∧ (∀ (ctx : Fin 8) (k : Fin 1024) (inst : BitVec 16) (p : Peg) (s : State), s.peg? ctx k = some p → inst ≠ p.inst → exec (.pegGrantReceived ctx ⟨k, inst⟩) s = .next s)
  ∧ (∀ (ctx : Fin 8) (k : Fin 1024) (inst : BitVec 16) (port : Fin 8) (kind : PegPacket) (first : Nat) (bs : List Byte) (p : Peg) (w : Packet) (s t : State),
    s.peg? ctx k = some p → s.aon.coordValid = true → w.vc = (if (s.ctx ctx).be = true then 1 else 0) → w.sub = 0 → w.dir = 0 → w.kind = 0 → w.dctx = ctx.val →
    w.poison = false → w.dest = s.aon.coord → w.payload = bs → w.ptag = BitVec.ofNat 32 (k + 65536 * inst.toNat) → w.buf = none → w.order = 0 →
    w.src = s.member (s.group ctx (pgGroup p.entry)) (pgPred p.entry (grpSize (s.group ctx (pgGroup p.entry))) (s.rank (s.group ctx (pgGroup p.entry)))) →
    w.target = BitVec.ofNat 64 (landAt p ⟨kind == .final, first, bs⟩) →
    t = (s.modPort port fun q => { q with commit := tset q.commit w.vc (tget q.commit w.vc [] ++ [w]) }) →
    exec (.pegDataReceived ctx ⟨k, inst⟩ ⟨port, kind⟩ first bs) s = .next (if t.nextWrite port w.vc = some w then t.remoteWrite port w.vc else t))
  ∧ (∀ (ctx addr : Nat) (ptag : BitVec 32) (bs : List Byte) (p : Peg) (s : State), s.peg? ctx (ptag.toNat % 65536) = some p → p.state = 1 → p.signed = true →
    p.inst.toNat = ptag.toNat / 65536 → p.go = true → s.now .h0 ≤ p.since + p.limit →
    s.pegLanded ctx ptag addr bs = State.pegPump (State.setPeg (if s.now .h0 = p.since + p.limit then s.nearMiss ctx else s) ctx (ptag.toNat % 65536)
      { p with arrivals := p.arrivals ++ [arrivalOf p addr bs], since := s.now .h0, limit := s.pegLimit p.entry }) ctx (ptag.toNat % 65536))
  ∧ (∀ (ctx : Fin 8) (k : Fin 1024) (p : Peg) (s : State), s.peg? ctx k = some p → p.state = 1 → s.pegAwaits ctx p = true → p.since + p.limit < s.now .h0 →
    (s.rank (s.group ctx (pgGroup p.entry)) ≠ 0 ∨ p.go = true) → exec (.pegTimeoutExpiry ctx k) s = .next (s.pegFail ctx k { p with opens := [] } 10))
  ∧ (∀ (ctx : Fin 8) (k : Fin 1024) (p : Peg) (s : State), s.pegLive ctx k = some p → s.pegDone ctx p = true →
    exec (.pegComplete ctx k) s = .next (State.pegFinish (s.putPeg ctx k { p with
      state := if pgPersist p.entry = true then 0 else 3, firings := (p.firings + 1) % 2 ^ 32, ready := [], go := false, finishing := true }) ctx k))
  ∧ (∀ (ctx k n : Nat) (p : Peg) (s : State), s.peg? ctx k = some p → min max32 (p.counter + n) < pgThresh p.entry →
    s.raisePeg ctx k n = s.setPeg ctx k { p with counter := min max32 (p.counter + n) })
  ∧ (∀ (ctx k n : Nat) (s : State), s.peg? ctx k = none → (s.raisePeg ctx k n).links.pegStray = min max32 (s.links.pegStray + 1)
      ∧ (s.raisePeg ctx k n).ctxs = s.ctxs ∧ (s.raisePeg ctx k n).mem = s.mem)

/-- What has arrived for this chip commits: a WRITE through its context's translation, then its credits return and a collective's data goes on to its peg; a WRITE that faults waits for the joiner and holds its sub-class, but one without the right is discarded and reported; a SIGNAL behind every earlier packet of its channel, in its target; a packet for a context that is not admitted is discarded and reported. A SIGNAL adds to what its target names: a task semaphore, FULL or FREE of a pair, a peg; one for a bay outside the mask is a stray. -/
def Obligations.RemotePacketsCommit : Prop :=
  (∀ (n : Fin 9) (vc : Fin 4) (p : Packet) (s t : State), s.nextWrite n vc = some p → s.admitted p.dctx = true → s.isDead p.dctx n p.vc = false →
    s.writesHeld p.dctx (refAddr p.target.toNat) p.payload.length = false → s.bridgeHolds (portHalf (n % 8)) p.dctx (refAddr p.target.toNat) p.payload.length = false →
    s.portWrite p.dctx (p.ptag.toNat % 1024) (refAddr p.target.toNat) p.payload true p.poison (portHalf (n % 8)) = .ok t →
    exec (.remoteWriteCommit n vc) s = .next ((t.committed n p).pegLanded p.dctx p.ptag (refAddr p.target.toNat) p.payload))
  ∧ (∀ (n : Fin 9) (vc : Fin 4) (p : Packet) (f : Nat × Nat) (s : State), s.nextWrite n vc = some p → s.admitted p.dctx = true → s.isDead p.dctx n p.vc = false →
    s.writesHeld p.dctx (refAddr p.target.toNat) p.payload.length = false → s.bridgeHolds (portHalf (n % 8)) p.dctx (refAddr p.target.toNat) p.payload.length = false →
    s.portWrite p.dctx (p.ptag.toNat % 1024) (refAddr p.target.toNat) p.payload true p.poison (portHalf (n % 8)) = .error f →
    (f.2 = 1 → exec (.remoteWriteCommit n vc) s = .next (s.discardRemote n p f.1))
    ∧ (f.2 ≠ 1 → ∃ t, exec (.remoteWriteCommit n vc) s = .next t ∧ t.clsHeld n p.cls = true ∧ t.port n = s.port n
      ∧ ∀ a, memRead t.mem a = memRead s.mem a))
  ∧ (∀ (n : Fin 9) (vc : Fin 4) (p : Packet) (rest : List Packet) (s : State), tget (s.port n).commit vc [] = p :: rest → p.kind = 1 →
    s.admitted p.dctx = true → s.isDead p.dctx n p.vc = false → s.behindHold p = false → s.links.bridgeRetrain = none →
    exec (.remoteSignalCommit n vc) s = .next (State.signal (s.committed n p) p.dctx (bits p.target.toNat 31 0) (fld p.payload 0 4)))
  ∧ (∀ (n : Fin 9) (vc : Fin 4) (p : Packet) (s : State), s.nextWrite n vc = some p → s.admitted p.dctx = false →
    exec (.remoteWriteCommit n vc) s = .next (s.discardRemote n p (refAddr p.target.toNat)))
  ∧ (∀ (ctx addr : Nat) (ptag : BitVec 32) (bs : List Byte) (s : State), (∀ p, s.peg? ctx (ptag.toNat % 65536) = some p → p.state ≠ 1) →
    s.pegLanded ctx ptag addr bs = s)
  ∧ (∀ (ctx target n : Nat) (s : State),
    (bits target 7 0 = 0 → bits target 15 8 ≤ 63 → s.inMask ctx (bits target 15 8) = true → bits target 31 16 ≤ 63 →
      s.signal ctx target n = s.semAdd ctx (bits target 15 8) (bits target 31 16) n)
    ∧ (bits target 7 0 = 1 → bits target 15 8 ≤ 63 → s.inMask ctx (bits target 15 8) = true → bits target 31 16 ≤ 31 →
      s.signal ctx target n = s.pairAdd ctx (bits target 15 8) (bits target 31 16) true n)
    ∧ (bits target 7 0 = 2 → bits target 15 8 ≤ 63 → s.inMask ctx (bits target 15 8) = true → bits target 31 16 ≤ 31 →
      s.signal ctx target n = s.pairAdd ctx (bits target 15 8) (bits target 31 16) false n)
    ∧ (bits target 7 0 = 3 → s.signal ctx target n = s.raisePeg ctx (bits target 31 16) n)
    ∧ (bits target 7 0 ≠ 3 → s.inMask ctx (bits target 15 8) = false →
      ((s.signal ctx target n).ctx ctx).stray = min 65535 ((s.ctx ctx).stray + 1) ∧ ((s.signal ctx target n).ctx ctx).sems = (s.ctx ctx).sems))

/-- A port starts the first packet its channel order and credits allow: the packet leaves its queue and its credits are taken; a frame period sends the next sequenced frame, which stays in the replay buffer with its number. An idle port sends an IDLE frame. -/
def Obligations.PacketsAreSent : Prop :=
  (∀ (n : Fin 8) (v : Nat) (k : Packet) (s : State), (s.port n).frames = true → s.nextVc n = some v → s.startable n v = some k → k.buf = none →
    ∃ t, exec (.packetStart n) s = .next t ∧ tget (t.port n).queues v [] = (tget (s.port n).queues v []).erase k
      ∧ tget (t.port n).txCredits k.cls 0 = tget (s.port n).txCredits k.cls 0 - k.credits ∧ (t.port n).stream = (s.port n).stream ++ [(k.header 0, k.payload)]
      ∧ (∀ m, m ≠ n.val → t.port m = s.port m) ∧ t.ctxs = s.ctxs ∧ sameBytes s t)
  ∧ (∀ (n : Fin 8) (s : State), (s.port n).frames = true → (s.port n).resend = none → (s.port n).stream ≠ [] → (s.port n).replayBuf.length < 64 →
    ∃ t f, exec (.framePeriod n) s = .next t ∧ (t.port n).replayBuf = (s.port n).replayBuf ++ [f] ∧ f.fseq = (s.port n).txSeq
      ∧ (t.port n).txSeq = ((s.port n).txSeq + 1) % 2 ^ 24 ∧ (t.port n).nak = false ∧ (∀ m, m ≠ n.val → t.port m = s.port m) ∧ t.ctxs = s.ctxs ∧ sameBytes s t)
  ∧ (∀ (n : Fin 8) (s : State), (s.port n).frames = true → (s.port n).resend = none → (s.port n).stream = [] →
    ∃ t, exec (.framePeriod n) s = .next t ∧ (t.port n).replayBuf = (s.port n).replayBuf ∧ (t.port n).txSeq = (s.port n).txSeq
      ∧ bit (fld (t.port n).lastFrame 6 1) 3 = true ∧ sameBytes s t)

/-- R310: with 64 frames unacknowledged a port sends IDLE frames; on NAK it resends from ACK + 1 in order; when ACK is silent for REPLAY_TIMEOUT ticks while frames are unacknowledged it resends from the oldest. A frame with a bad CRC is discarded and asks for a replay; a window's end clears the lanes' errors; a lane that loses its markers starts a retrain. -/
def Obligations.FramesAreReplayed : Prop :=
  (∀ (n : Fin 8) (bs : List Byte) (s : State), (s.port n).frames = true → (bs.length ≠ 7710 ∨ crc32c (bs.take 7706) ≠ leNat (bs.drop 7706)) → (s.port n).laneUe = [] → s.links.unreachable = [] →
    ∃ t, exec (.frameReceive n bs []) s = .next t ∧ (t.port n).nak = true ∧ (t.port n).discarding = true ∧ (t.port n).rxSeq = (s.port n).rxSeq
      ∧ (t.port n).commit = (s.port n).commit ∧ (∀ m, m ≠ n.val → t.port m = s.port m) ∧ t.ctxs = s.ctxs ∧ sameBytes s t)
  ∧ (∀ (n : Fin 8) (s : State), (s.port n).frames = true → (s.port n).replayBuf ≠ [] → (s.port n).ackTick + s.aon.replayTimeout < s.now (portHalf n) →
    (s.port n).replayRun + 1 < s.aon.replayLimit →
    exec (.replayTimeoutExpiry n) s = .next (s.setPort n { s.port n with
      resend := some 0, replays := min 65535 ((s.port n).replays + 1), replayRun := (s.port n).replayRun + 1, ackTick := s.now (portHalf n) }))
  ∧ (∀ (n : Fin 8) (s : State), windowEnd (s.now (portHalf n)) 16 (s.port n).laneUeEnded = true →
    exec (.linkLaneErrorWindowEnd n) s = .next (s.setPort n { s.port n with laneUe := [], laneUeEnded := s.now (portHalf n) }))
  ∧ (∀ (n : Fin 8) (lane : Fin 14) (s : State), (s.port n).laneActive.getLsbD lane = true → (s.port n).up = true → (s.port n).retraining = false →
    exec (.linkMarkerLockLost n lane) s = .next (s.setPort n { s.port n with retraining := true, retrains := min 65535 ((s.port n).retrains + 1) }))
  ∧ (∀ (n : Fin 8) (s : State), (s.port n).frames = true → (s.port n).resend = none → 64 ≤ (s.port n).replayBuf.length →
    ∃ t, exec (.framePeriod n) s = .next t ∧ (t.port n).replayBuf = (s.port n).replayBuf ∧ (t.port n).txSeq = (s.port n).txSeq
      ∧ (t.port n).stream = (s.port n).stream ∧ bit (fld (t.port n).lastFrame 6 1) 3 = true)
  ∧ (∀ (n : Fin 8) (k : Nat) (f : Frame) (s : State), (s.port n).frames = true → (s.port n).resend = some k → (s.port n).replayBuf[k]? = some f →
    ∃ t, exec (.framePeriod n) s = .next t ∧ (t.port n).replayBuf = (s.port n).replayBuf ∧ fld (t.port n).lastFrame 0 3 = f.fseq % 2 ^ 24
      ∧ (t.port n).resend = (if k + 1 < (s.port n).replayBuf.length then some (k + 1) else none))
  ∧ (∀ (n : Nat) (bs : List Byte) (s t : State), t = State.addCredits (s.ackFrames n (fld bs 3 3)) n (fld bs 7 7) → bit (fld bs 6 1) 4 = true →
    (t.port n).replayBuf ≠ [] → ((s.frameState n bs).port n).resend = some 0 ∧ ((s.frameState n bs).port n).replayBuf = (t.port n).replayBuf)
  ∧ (∀ (n ack k : Nat) (f : Frame) (rest : List Frame) (s : State), (s.port n).replayBuf = f :: rest → k = (ack + 2 ^ 24 - f.fseq) % 2 ^ 24 + 1 →
    k ≤ rest.length + 1 → ((s.ackFrames n ack).port n).replayBuf = (s.port n).replayBuf.drop k)

/-- Training of a port, step by step: lanes reset, a signal found, each lane trained, the masks exchanged, frames and credits set up, its own division of the input buffer among them, and the partner checked. The active set: 12 lanes where 12 are good, 6 where fewer but 6 are, none below 6; always good lanes. A retrain that leaves fewer than six lanes takes the port down with its queues; one that keeps the active lanes resumes and replays. The route table stands while a context is admitted, and the end of a build waits then (the model's choice, log entry 183). -/
def Obligations.PortsTrain : Prop :=
  (∀ (n : Fin 8) (signal : Bool) (s : State), s.aon.pwrOk = true → 7 ≤ s.aon.boot.stage → s.halfIn (portHalf n) = true → (s.port n).step = 0 →
    exec (.linkLaneResetDone n signal) s = .next (State.bootLinks (s.setPort n { s.port n with step := if signal = true then 2 else 1 })))
  ∧ (∀ (n : Fin 8) (s : State), (s.port n).step = 1 → exec (.linkSignalDetected n) s = .next (s.setPort n { s.port n with step := 2 }))
  ∧ (∀ (n : Fin 8) (passed : BitVec 14) (s : State), (s.port n).step = 2 →
    exec (.linkPmdTrainingDone n passed) s = .next (s.setPort n { s.port n with step := 3, passed := passed }))
  ∧ (∀ (n : Fin 8) (partner : BitVec 14) (s : State), (s.port n).step = 3 → activeSet ((s.port n).passed &&& partner) false ≠ 0 →
    exec (.linkMaskExchangeDone n partner) s = .next (s.setPort n { s.port n with
      step := 4, laneGood := (s.port n).passed &&& partner, laneActive := activeSet ((s.port n).passed &&& partner) false }))
  ∧ (∀ (n : Fin 8) (credits : List Nat) (s : State), (s.port n).step = 4 → (s.port n).state ≠ 2 →
    exec (.linkLockDone n credits) s = .next (State.sayIdentity (State.bootLinks (s.setPort n { s.port n with
      step := 5, txSeq := 0, rxSeq := 0, replayBuf := [], resend := none, replayRun := 0, nak := false, discarding := false,
      txCredits := creditTable credits, txGrant := creditTable credits, rxGrant := s.ownCredits })) n))
  ∧ (∀ (n : Fin 8) (coord : BitVec 48) (pp : BitVec 8) (serial : BitVec 64) (s : State), (s.port n).step = 5 → (s.port n).state ≠ 2 → (s.port n).retraining = false →
    s.aon.coordValid = true → s.partnerOk n coord pp = false →
    ∃ t, exec (.linkIdentityReceived n coord pp serial) s = .next t ∧ (t.port n).miscabled = true ∧ (t.port n).state = 3 ∧ (t.plan.port n).state = 3
      ∧ t.hif = s.hif ∧ sameBytes s t)
  ∧ (∀ (n : Fin 8) (coord : BitVec 48) (pp : BitVec 8) (serial : BitVec 64) (s : State), (s.port n).step = 5 → (s.port n).state ≠ 2 → (s.port n).retraining = false →
    s.aon.coordValid = true → s.partnerOk n coord pp = true → s.axisLen (portAxis n) ≠ 1 →
    ∃ t, exec (.linkIdentityReceived n coord pp serial) s = .next t ∧ (t.port n).up = true ∧ (t.port n).partner = some (coord, pp, serial)
      ∧ (t.port n).state = (if popCount 14 (s.port n).laneActive.toNat < 12 then 1 else 0) ∧ t.ctxs = s.ctxs ∧ ∀ a, memRead t.mem a = memRead s.mem a)
  ∧ (∀ good : BitVec 14, activeSet good false &&& good = activeSet good false
    ∧ popCount 14 (activeSet good false).toNat = (if 12 ≤ popCount 14 good.toNat then 12 else if 6 ≤ popCount 14 good.toNat then 6 else 0))
  ∧ (∀ (n : Fin 8) (passed partner : BitVec 14) (credits : List Nat) (s : State), (s.port n).retraining = true → activeSet (passed &&& partner) (s.port n).halfLocked = 0 →
    exec (.linkRetrainDone n ⟨passed, partner⟩ credits) s = .next (s.portDown n (passed &&& partner)))
  ∧ (∀ (n : Fin 8) (passed partner : BitVec 14) (credits : List Nat) (s : State), (s.port n).retraining = true → activeSet (passed &&& partner) (s.port n).halfLocked ≠ 0 →
    ∃ t, exec (.linkRetrainDone n ⟨passed, partner⟩ credits) s = .next t ∧ (t.port n).retraining = false ∧ (t.port n).laneGood = passed &&& partner
      ∧ (t.port n).laneActive = activeSet (passed &&& partner) (s.port n).halfLocked ∧ (t.port n).replayBuf = (s.port n).replayBuf
      ∧ ((s.port n).replayBuf ≠ [] → (t.port n).resend = some 0) ∧ (t.port n).txGrant = creditTable credits ∧ (t.port n).rxGrant = s.ownCredits ∧ ∀ a, memRead t.mem a = memRead s.mem a)
  ∧ (∀ (breaks : List (Fin 4 × Nat)) (s : State), s.anyAdmitted = true → exec (.routeBuildDone breaks) s = .next s)

/-- R24: a packed coordinate's four fields are its bits [11:0], [23:12], [35:24] and [47:36]. The coordinate registers take a value while no context is admitted, through the held high half; while one is admitted the write is discarded; a route build is started by RECOMPUTE and by the first VALID, and its end, while none is admitted, counts ROUTE_GEN. -/
def Obligations.CoordinatesAndRoutes : Prop :=
  (∀ (v : Word) (s : State), s.reaches 0 = true → s.anyAdmitted = true → exec (.lnkCoordWrite .bar0 0 v) s = .next (s.accessErr 0))
  ∧ (∀ (v : Word) (s : State), s.reaches 0 = true → s.anyAdmitted = false →
    ∃ t, exec (.lnkCoordWrite .bar0 3 v) s = .next t ∧ t.aon = s.aon ∧ ∃ u, exec (.lnkCoordWrite .bar0 2 v) t = .next u
      ∧ u.aon.axisLen = BitVec.ofNat 48 (v.toNat + 2 ^ 32 * v.toNat) ∧ u.aon.coord = s.aon.coord ∧ sameBytes s u)
  ∧ (∀ (v : Word) (s : State), s.reaches 0 = true → v.getLsbD 0 = true → s.anyAdmitted = false →
    ∃ t, exec (.lnkRouteCtlRecompute v) s = .next t ∧ t = s.startRoute ∧ t.links.busy = true ∧ t.links.routeGen = s.links.routeGen ∧ t.links.inTable = s.links.inTable ∧ t.plan = s.plan ∧ sameBytes s t)
  ∧ (∀ (v : Word) (s : State), s.reaches 0 = true → s.anyAdmitted = false → s.aon.coordValid = false → s.links.wasValid = false →
    bit (v.toNat + 2 ^ 32 * s.heldHi .bar0 (2 ^ 32) (s.aon.coordPair / 2 ^ 32)) 63 = true →
    ∃ t, exec (.lnkCoordWrite .bar0 0 v) s = .next t ∧ t.aon.coordValid = true ∧ t.links.busy = true ∧ t.links.wasValid = true ∧ t.plan = s.plan ∧ sameBytes s t)
  ∧ (∀ s : State, s.links.busy = true → s.managing = true → s.anyAdmitted = false →
    ∃ t, exec (.routeBuildDone []) s = .next t ∧ t.links.busy = false ∧ t.links.routeGen = min 65535 (s.links.routeGen + 1) ∧ t.plan.portUp = t.links.inTable
      ∧ (∀ n, n < 8 → t.links.inTable.getLsbD n = true → (s.port n).up = true) ∧ t.hif = s.hif ∧ sameBytes s t)
  ∧ (∀ c : BitVec 48, coordAt c 0 = bits c.toNat 11 0 ∧ coordAt c 1 = bits c.toNat 23 12 ∧ coordAt c 2 = bits c.toNat 35 24 ∧ coordAt c 3 = bits c.toNat 47 36
    ∧ (∀ a, coordAt c a < 4096) ∧ c.toNat = coordAt c 0 + 2 ^ 12 * coordAt c 1 + 2 ^ 24 * coordAt c 2 + 2 ^ 36 * coordAt c 3)

-- Management (R409 to R413, R421 to R430, R436, R444, R451, R469 to R476) -----------------------------

/-- A good flit is delivered to its half; a bad one counts a replay, the sixteenth in a direction without progress starts a retrain; a retrain that ends within 12,500 ticks resumes, and one that does not fails the module. -/
def Obligations.BridgeTraffic : Prop :=
  (∀ (h : Half) (bs : List Byte) (s : State), s.aon.pwrOk = true → s.links.bridgeRetrain = none → flitOk bs = true →
    exec (.bridgeFlitReceive h bs) s = .next { s with links := { s.links with
      bridgeRun := s.links.bridgeRun.set h 0, bridgeFlits := s.links.bridgeFlits.set h (s.links.bridgeFlits.get h + 1) } })
  ∧ (∀ (h : Half) (bs : List Byte) (s : State), s.aon.pwrOk = true → s.links.bridgeRetrain = none → flitOk bs = false → s.links.bridgeRun.get h < 15 →
    exec (.bridgeFlitReceive h bs) s = .next { s with
      sill := { s.sill with bridgeReplays := min 65535 (s.sill.bridgeReplays + 1) }, links := { s.links with bridgeRun := s.links.bridgeRun.set h (s.links.bridgeRun.get h + 1) } })
  ∧ (∀ (h : Half) (bs : List Byte) (s : State), s.aon.pwrOk = true → s.links.bridgeRetrain = none → flitOk bs = false → 15 ≤ s.links.bridgeRun.get h →
    ∃ t, exec (.bridgeFlitReceive h bs) s = .next t ∧ t.links.bridgeRetrain = some (s.now .h0) ∧ t.sill.bridgeReplays = min 65535 (s.sill.bridgeReplays + 1)
      ∧ t.sill.bridgeRetrains = min 65535 (s.sill.bridgeRetrains + 1) ∧ t.aon = s.aon ∧ t.plan = s.plan ∧ sameBytes s t)
  ∧ (∀ (t0 : Nat) (s : State), s.links.bridgeRetrain = some t0 → s.now .h0 ≤ t0 + 12500 →
    exec .bridgeRetrainDone s = .next { s with links := { s.links with bridgeRun := ⟨0, 0⟩, bridgeRetrain := none } })
  ∧ (∀ (t0 : Nat) (s : State), s.links.bridgeRetrain = some t0 → t0 + 12500 < s.now .h0 →
    ∃ t, exec .bridgeRetrainTimeout s = .next t ∧ t.aon.faultPin = true ∧ t.aon.pwrOk = false ∧ t.aon.thermal.tripCause = 3 ∧ t.pages = [] ∧ t.flash = s.flash)

/-- A heartbeat in time whose claim agrees with the grant is recorded and nothing else changes; one that disagrees bars its half, sets CONFLICT and posts the payload of R413. 2,500 ticks without a heartbeat count a restart; the third leaves the complex stopped and its half barred; a restart that verifies runs again. A failed health test is Sill's error state with SELFTEST 5; before READY the boot ends with FAIL 1. -/
def Obligations.JoinersAndHealth : Prop :=
  (∀ (h : Half) (c : Claim) (seen : BitVec 2) (s : State), s.aon.pwrOk = true → (s.aon.joiners.get h).running = true → s.now h < (s.aon.joiners.get h).lastBeat + 2500 →
    5 ≤ s.aon.boot.stage → (s.aon.boot.stage ≠ 11 ∨ s.aon.boot.ready = true) → claimNum c = holderNum s.holder →
    exec (.joinerHeartbeat h c seen) s = .next { s with aon := { s.aon with
      joiners := s.aon.joiners.set h { s.aon.joiners.get h with lastBeat := s.now h },
      king := { s.aon.king with claims := s.aon.king.claims.set h (some c) } } })
  ∧ (∀ (h : Half) (c : Claim) (seen : BitVec 2) (s : State), s.aon.pwrOk = true → (s.aon.joiners.get h).running = true → s.now h < (s.aon.joiners.get h).lastBeat + 2500 →
    5 ≤ s.aon.boot.stage → claimNum c ≠ holderNum s.holder → s.aon.king.barred.get h = false →
    ∃ t, exec (.joinerHeartbeat h c seen) s = .next t ∧ t.aon.king.conflict = true ∧ t.aon.king.barred.get h = true ∧ t.holder = s.holder
      ∧ t.flash.variant = s.flash.variant ∧ ∀ a, memRead t.mem a = memRead s.mem a)
  ∧ (∀ (h : Half) (claim : Nat) (seen : BitVec 2) (s u : State), s.aon.king.conflict = false →
    u = State.postPf0 { s with aon := { s.aon with king := { s.aon.king with conflict := true, barred := s.aon.king.barred.set h true } } } 16 0xFF .h0
      (toLE 1 h.num ++ toLE 1 (holderNum s.holder) ++ toLE 1 claim ++ toLE 1 seen.toNat) →
    s.conflict h claim seen = if u.managed = true then u else u.startService false)
  ∧ (∀ (h : Half) (s : State), s.aon.pwrOk = true → (s.aon.joiners.get h).running = true → (s.aon.joiners.get h).lastBeat + 2500 < s.now h →
    (s.aon.joiners.get h).restarts < 2 → s.holder ≠ some h → s.sill.cur = none →
    exec (.joinerHeartbeatTimeout h) s = .next { s with
      aon := { s.aon with joiners := s.aon.joiners.set h { s.aon.joiners.get h with
        running := false, restarts := (s.aon.joiners.get h).restarts + 1, restarting := true } },
      sill := { s.sill with cur := some (.verifyJoiner h) } })
  ∧ (∀ (h : Half) (s : State), s.aon.pwrOk = true → (s.aon.joiners.get h).running = true → (s.aon.joiners.get h).lastBeat + 2500 < s.now h →
    2 ≤ (s.aon.joiners.get h).restarts →
    ∃ t, exec (.joinerHeartbeatTimeout h) s = .next t ∧ (t.aon.joiners.get h).stopped = true ∧ (t.aon.joiners.get h).running = false ∧ t.aon.king.barred.get h = true
      ∧ t.flash.variant = s.flash.variant ∧ ∀ a, memRead t.mem a = memRead s.mem a)
  ∧ (∀ (h : Half) (s : State), (s.aon.joiners.get h).restarting = true → s.sill.state = 1 → s.sill.cur = some (.verifyJoiner h) → s.aon.boot.ready = false → s.aon.boot.stage ≠ 11 →
    exec (.joinerRestartDone h) s = .next (if joinerOk (s.flash.image s.flash.active) = true then { s with
      sill := sillPick s.sill,
      aon := { s.aon with joiners := s.aon.joiners.set h { s.aon.joiners.get h with running := true, restarting := false, lastBeat := s.now h } } }
      else State.leaveStopped { s with sill := sillPick s.sill } h))
  ∧ (∀ s : State, s.aon.pwrOk = true → s.sill.state ≠ 2 → (s.aon.boot.ready = true ∨ s.booting = false) →
    exec .sillHealthTestFail s = .next { s with sill := { s.sill with state := 2, selftest := 5 } })
  ∧ (∀ s : State, s.aon.pwrOk = true → s.sill.state ≠ 2 → s.aon.boot.ready = false → s.booting = true →
    exec .sillHealthTestFail s = .next { s with
      sill := { s.sill with state := 2, selftest := 5 }, aon := { s.aon with boot := { s.aon.boot with fail := 1 } } })

/-- The power manager: an evaluation, no earlier than 2^10 ticks after the last, records the measured power over the window of the last 2^14 ticks (the model's choice, log entry 185); a settled VCORE completes the change of point; protection divides CCLK by 2 and counts; a bay idle for 125 ticks is gated, and a busy gated one runs again. A meter window's end: every context's RATIO and TILES of the half are written, its meter starts again and the window's index is shown. -/
def Obligations.PowerManager : Prop :=
  (∀ (m u : Nat) (temps : List Int) (s : State), s.aon.pwrOk = true → periodEarly s.aon.power.evaluated (s.now .h0) = false →
    ∃ t, exec (.budgetEvaluation m u temps) s = .next t ∧ t.aon.power.moduleW = (s.aon.power.measure (s.now .h0) m u).moduleW
      ∧ t.aon.power.uncoreW = (s.aon.power.measure (s.now .h0) m u).uncoreW ∧ t.aon.power.evaluated = some (s.now .h0)
      ∧ (s.aon.power.samples = [] → t.aon.power.moduleW = min 65535 m ∧ t.aon.power.uncoreW = min 65535 u)
      ∧ t.aon.power.requested = s.aon.power.requested ∧ t.plan = s.plan ∧ t.ctxs = s.ctxs ∧ ∀ a, memRead t.mem a = memRead s.mem a)
  ∧ (∀ (m u t0 : Nat) (temps : List Int) (s : State), s.aon.power.evaluated = some t0 → s.now .h0 < t0 + 1024 → exec (.budgetEvaluation m u temps) s = .next s)
  ∧ (∀ (c : OpChange) (s : State), s.aon.power.change = some c → s.aon.power.limitCmds = [] →
    exec .opVcoreSettled s = .next { s with aon := { s.aon with power := { s.aon.power with
      change := none, op := c.target, division := if c.endsDivision = true then false else s.aon.power.division } } })
  ∧ (∀ s : State, s.aon.pwrOk = true → ∃ t, exec .vrAlertAssert s = .next t ∧ t.aon.power.division = true ∧ t.aon.power.owedLowering = true
      ∧ t.aon.power.alerts = min 65535 (s.aon.power.alerts + 1) ∧ t.aon.power.op = s.aon.power.op ∧ t.plan = s.plan ∧ ∀ a, memRead t.mem a = memRead s.mem a)
  ∧ (∀ (h : Half) (s : State), s.aon.pwrOk = true → ∃ t, exec (.vcoreCurrentLimit h) s = .next t ∧ t.aon.power.division = true ∧ t.aon.power.owedLowering = true
      ∧ t.aon.power.alerts = min 65535 (s.aon.power.alerts + 1) ∧ t.aon.power.op = s.aon.power.op ∧ t.plan = s.plan ∧ ∀ a, memRead t.mem a = memRead s.mem a)
  ∧ (∀ (bay : Fin 64) (t0 : Nat) (s : State), (s.bay bay).idleSince = some t0 → (s.bay bay).on = true → (s.bay bay).gated = false → s.bayBusy bay = false →
    t0 + 125 ≤ s.now (bayHalf bay) → exec (.bayIdleGate bay) s = .next (s.setBay bay { s.bay bay with gated := true }))
  ∧ (∀ (bay : Fin 64) (s : State), (s.bay bay).gated = true → s.bayBusy bay = true → s.aon.power.ungates.get (bayHalf bay) = [] →
    ∃ t, exec (.bayUngate bay) s = .next t ∧ (t.bay bay).gated = false ∧ s.aon.power.op ≤ t.aon.power.op ∧ (∀ n, n ≠ bay.val → t.bay n = s.bay n)
      ∧ t.hif = s.hif ∧ sameBytes s t)
  ∧ (∀ (h : Half) (s : State), windowEnd (s.now h) 20 (s.ctxRegs.meterEnded.get h) = true → s.ctxRegs.alert = 0 →
    ∃ t, exec (.interferenceMeterWindowEnd h) s = .next t ∧ t.ctxRegs.window.get h = (s.now h / 2 ^ 20 - 1) % 2 ^ 32 ∧ t.ctxRegs.meterEnded.get h = s.now h
      ∧ (∀ n, n < 8 → (t.ctx n).imeter.get h = (meterRatio ((s.ctx n).meter.get h), min 65535 ((s.ctx n).meter.get h).2.2) ∧ (t.ctx n).meter.get h = (0, 0, 0))
      ∧ t.hif = s.hif ∧ t.plan = s.plan ∧ sameBytes s t)

/-- A trip at or above 115 °C asserts THERMTRIP#, divides CCLK and records the sensor, and the shutdown then takes PWR_OK low; a site's over-temperature is reported and nothing else changes in memory. The sideband's writes: PWR_BOARD_MAX takes a value of its range and is refused with RANGE otherwise; SB_STATUS bits written 1 clear, and with EVENT the alert ends. -/
def Obligations.ThermalAndSideband : Prop :=
  (∀ (n : Fin 67) (temp : Int) (s : State), s.aon.pwrOk = true → s.aon.tripPin = false → 920 ≤ temp →
    ∃ t, exec (.thermalTrip n temp) s = .next t ∧ t.aon.tripPin = true ∧ t.aon.power.tripDivision = true ∧ t.aon.thermal.tripSensor = n.val
      ∧ t.aon.thermal.tripCause = 1 ∧ t.aon.thermal.tripTick = some (s.now .h0) ∧ t.plan = s.plan ∧ ∀ a, memRead t.mem a = memRead s.mem a)
  ∧ (∀ (t0 : Nat) (s : State), s.aon.thermal.tripTick = some t0 → (s.aon.thermal.tripEvent = none ∨ t0 + 250 ≤ s.now .h0) →
    ∃ t, exec .thermtripShutdown s = .next t ∧ t.aon.pwrOk = false ∧ t.aon.thermal.tripTick = none ∧ t.pages = [] ∧ t.flash = s.flash)
  ∧ (∀ (m : Fin 12) (temp : Int) (s : State), s.aon.pwrOk = true →
    exec (.siteOverTemperature m temp) s = .next (s.postThermal 2 m temp))
  ∧ (∀ (v : Word) (s : State), s.aon.powered = true → (v.toNat < 1400 ∨ 2400 < v.toNat) →
    exec (.pwrBoardMaxWrite v) s = .next { s with aon := { s.aon with sb := { s.aon.sb with status := s.aon.sb.status ||| 1 } } })
  ∧ (∀ (v : Word) (s : State), s.aon.powered = true → 1400 ≤ v.toNat → v.toNat ≤ 2400 → s.aon.power.requested ≤ v.toNat → s.aon.power.requested ≤ s.aon.power.boardMax →
    exec (.pwrBoardMaxWrite v) s = .next { s with aon := { s.aon with power := { s.aon.power with boardMax := v.toNat } } })
  ∧ (∀ (v : Word) (s : State), s.aon.powered = true →
    exec (.sbStatusWrite v) s = .next { s with aon := { s.aon with
      sb := { s.aon.sb with status := s.aon.sb.status &&& ~~~(BitVec.ofNat 4 v.toNat) },
      alertPin := s.aon.alertPin && (s.aon.sb.status &&& ~~~(BitVec.ofNat 4 v.toNat)).getLsbD 3 } })

-- Reset -----------------------------------------------------------------------------------------------

/-- What reset leaves: PWR_OP at point 7, PWR_LIMIT 1,800 W and PWR_BOARD_MAX 2,400 W, no holder of the king post, STAGE 0, every port at PORT_STATE 3, every function's rings at index 0 and phase 1. Its memories are in canonical form, and its queue is empty (the model's own field). -/
def Obligations.ResetValues : Prop :=
  State.reset.aon.power.op = 7 ∧ State.reset.aon.power.requested = 1800 ∧ State.reset.aon.power.boardMax = 2400 ∧ State.reset.holder = none
    ∧ State.reset.aon.boot.stage = 0 ∧ State.reset.aon.boot.ready = false ∧ (∀ n, (State.reset.port n).state = 3)
    ∧ (∀ n, (State.reset.fn n).cmdHead = 0 ∧ (State.reset.fn n).cplPhase = true ∧ (State.reset.fn n).evqPhase = true ∧ (State.reset.fn n).enable = false)
    ∧ (∀ n, (State.reset.ctx n).admitted = false ∧ (State.reset.ctx n).waitLog2 = 24 ∧ (State.reset.ctx n).handleLog2 = 24) ∧ State.reset.pending = []
    ∧ State.reset.memoryOk
end

