-- ==== Sys2Proof/Laws/Commands.lean ====
section
/-! SUPPORT. What the statements' terms give: a fetched command that may start runs its own effect (R381, R386, R412), and equal memories read the same bytes. -/

namespace Sys2Proof.Machine

set_option Elab.async false

/-- A command that may start is carried out: nothing holds it and nothing refuses it before its own checks (R381, R386, R412). -/
theorem State.begin_of_starts {s : State} {fn slot opcode op : Nat} {c : Cmd} (run : Cmd → State → State) (h : s.starts fn slot opcode op c) :
    s.begin fn slot opcode op run = run c s := by
  obtain ⟨h1, h2, h3, h4, h5, h6, h7, h8⟩ := h
  unfold State.begin
  rw [h1]
  have ph : (c.phase != .started && (c.phase != .fetched || !s.mayStart fn c)) = false := by
    rcases h5 with h | ⟨h, h'⟩ <;> simp [*]
  simp only [h3, bne_self_eq_false, Bool.false_or, ph, h6, Bool.or_false]
  have a1 : (decide (0x14 ≤ opcode) && opcode != 0x18 && opcode != 0x1B && c.op != op) = false := by
    by_cases q : 0x14 ≤ opcode <;> by_cases q2 : opcode = 0x18 <;> by_cases q3 : opcode = 0x1B <;> simp_all
  simp only [a1, Bool.false_eq_true, if_false]
  have a2 : (management c && !s.managed && !s.sill.recovery) = false := by
    cases hm : management c
    · rfl
    · rcases h7 hm with h | ⟨h, h'⟩ <;> simp [h]
  have a3 : (management c && !s.managing && !s.sill.recovery) = false := by
    cases hm : management c
    · rfl
    · rcases h7 hm with h | ⟨h, h'⟩ <;> simp [*]
  have a4 : (ctxCommand opcode && opcode != 6 && (!s.admitted c.ctx || (s.ctx c.ctx).clearing)) = false := by
    cases hc : ctxCommand opcode
    · rfl
    · by_cases q : opcode = 6
      · simp [q]
      · have := h8 hc q; simp [this]
  simp [a2, a3, a4]

/-- Operations that change only the pages, done for each of a list, change only the pages. -/
theorem forAll_pages {α : Type} {f : α → State → State} (hf : ∀ a s, ∃ ps, f a s = { s with pages := ps }) (l : List α) (s : State) :
    ∃ ps, forAll l f s = { s with pages := ps } := by
  induction l generalizing s with
  | nil => exact ⟨s.pages, rfl⟩
  | cons a r ih =>
    obtain ⟨p, hp⟩ := hf a s
    obtain ⟨q, hq⟩ := ih (f a s)
    exact ⟨q, by rw [show forAll (a :: r) f s = forAll r f (f a s) from rfl, hq, hp]⟩

/-- Counting the lines of a range (R208) changes only the counts of its pages. -/
theorem State.countRange_eq (s : State) (ctx a n : Nat) (h : Half) : ∃ ps, s.countRange ctx a n h = { s with pages := ps } :=
  forAll_pages (fun id t => by split; exacts [⟨_, rfl⟩, ⟨t.pages, rfl⟩]) _ s

/-- Equal device and host memories read the same bytes. -/
theorem sameBytes_of_eq {s t : State} (h1 : t.mem = s.mem) (h2 : t.hif.host = s.hif.host) : sameBytes s t := by
  unfold sameBytes; rw [h1, h2]; exact ⟨fun _ => rfl, fun _ => rfl⟩

end Sys2Proof.Machine
end

