-- ==== Sys2Proof/Laws/Fold.lean ====
section
/-! SUPPORT. What a fold that may stop keeps: a reading that every step keeps, the fold keeps. -/

namespace Sys2Proof.Machine

set_option Elab.async false

/-- A sequence of two results that answers has answered at each part. -/
theorem ok_of_bind {ε α β : Type} {x : Except ε α} {f : α → Except ε β} {b : β} (h : (x >>= f) = .ok b) : ∃ a, x = .ok a ∧ f a = .ok b :=
  match x, h with
  | .ok a, h => ⟨a, rfl, h⟩

/-- A fold keeps what each of its steps keeps. -/
theorem keeps_foldl {σ α β : Type} (g : σ → β) {f : σ → α → σ} (h : ∀ t a, g (f t a) = g t) : ∀ (l : List α) (s : σ), g (l.foldl f s) = g s
  | [], _ => rfl
  | a :: l, s => (keeps_foldl g h l (f s a)).trans (h s a)

/-- A fold whose steps may fail keeps what each step that answers keeps. -/
theorem keeps_foldlM {ε σ α β : Type} (g : σ → β) {f : σ → α → Except ε σ} (h : ∀ t a u, f t a = .ok u → g u = g t) :
    ∀ (l : List α) (s u : σ), l.foldlM f s = .ok u → g u = g s
  | [], _, _, e => congrArg g (Except.ok.inj e).symm
  | a :: l, s, u, e =>
    have ⟨v, hv, hu⟩ := ok_of_bind (x := f s a) (f := fun v => l.foldlM f v) e
    (keeps_foldlM g h l v u hu).trans (h _ _ _ hv)

/-- The same of a fold whose steps may answer nothing. -/
theorem keeps_foldlM_option {σ α β : Type} (g : σ → β) {f : σ → α → Option σ} (h : ∀ t a u, f t a = some u → g u = g t) :
    ∀ (l : List α) (s u : σ), l.foldlM f s = some u → g u = g s
  | [], _, _, e => congrArg g (Option.some.inj e).symm
  | a :: l, s, u, e =>
    have ⟨v, hv, hu⟩ := Option.bind_eq_some_iff.1 (show (f s a).bind (fun v => l.foldlM f v) = some u from e)
    (keeps_foldlM_option g h l v u hu).trans (h _ _ _ hv)

end Sys2Proof.Machine
end

