-- ==== Sys2Proof/Laws/FrameFlash.lean ====
section
/-! SUPPORT. One lemma per operation of the model over State: what the boot flash holds is unchanged, but for the steps of boot, of the floor plan write and of FW_UPDATE, which keep the variant record (R31) and the factory floor plan (R35). A meaning keeps it because each operation it calls does. -/

namespace Sys2Proof.Machine

set_option Elab.async false
set_option linter.unusedTactic false
set_option linter.unreachableTactic false

@[simp] theorem State.ite_flash (c : Prop) [Decidable c] (a b : State) : (ite c a b).flash = ite c a.flash b.flash := by split <;> rfl
@[simp] theorem State.forAll_flash (α : Type) (l : List α) (f : α → State → State) (s : State) (h : ∀ a t, (f a t).flash = t.flash) : (forAll l f s).flash = s.flash := by
  unfold forAll
  induction l generalizing s with
  | nil => rfl
  | cons a l ih => simp [List.foldl, ih, h]
@[simp] theorem State.foldl_flash (α : Type) (l : List α) (f : State → α → State) (s : State) (h : ∀ a t, (f t a).flash = t.flash) : (l.foldl f s).flash = s.flash := by
  induction l generalizing s with
  | nil => rfl
  | cons a l ih => simp [List.foldl, ih, h]
@[simp] theorem State.foldr_flash (α : Type) (l : List α) (f : α → State → State) (s : State) (h : ∀ a t, (f a t).flash = t.flash) : (l.foldr f s).flash = s.flash := by
  induction l generalizing s with
  | nil => rfl
  | cons a l ih => simp [List.foldr, ih, h]

theorem State.foldlM_ok_flash {ε α : Type} (l : List α) (f : State → α → Except ε State) (h : ∀ t a u, f t a = .ok u → u.flash = t.flash) :
    ∀ s u, l.foldlM f s = .ok u → u.flash = s.flash := keeps_foldlM (fun s : State => s.flash) h l
theorem State.foldlM_some_flash {α : Type} (l : List α) (f : State → α → Option State) (h : ∀ t a u, f t a = some u → u.flash = t.flash) :
    ∀ s u, l.foldlM f s = some u → u.flash = s.flash := keeps_foldlM_option (fun s : State => s.flash) h l

@[simp] theorem State.setFn_flash : ∀ x0 x1 x2, (State.setFn x0 x1 x2).flash = x0.flash := by
  intro x0 x1 x2
  unfold State.setFn
  rfl

@[simp] theorem State.setCtx_flash : ∀ x0 x1 x2, (State.setCtx x0 x1 x2).flash = x0.flash := by
  intro x0 x1 x2
  unfold State.setCtx
  rfl

@[simp] theorem State.setBay_flash : ∀ x0 x1 x2, (State.setBay x0 x1 x2).flash = x0.flash := by
  intro x0 x1 x2
  unfold State.setBay
  rfl

@[simp] theorem State.setSite_flash : ∀ x0 x1 x2, (State.setSite x0 x1 x2).flash = x0.flash := by
  intro x0 x1 x2
  unfold State.setSite
  rfl

@[simp] theorem State.setPort_flash : ∀ x0 x1 x2, (State.setPort x0 x1 x2).flash = x0.flash := by
  intro x0 x1 x2
  unfold State.setPort
  rfl

@[simp] theorem State.newId_flash (s : State) : (s.newId).2.flash = s.flash := by unfold State.newId; rfl

@[simp] theorem State.hostPut_flash : ∀ s a b, (State.hostPut s a b).1.flash = s.flash := by
  intro s a b; unfold State.hostPut; extract_lets; split <;> rfl

@[simp] theorem State.accessErr_flash : ∀ x0 x1, (State.accessErr x0 x1).flash = x0.flash := by
  intro x0 x1
  unfold State.accessErr
  rfl

@[simp] theorem State.writeCpl_flash : ∀ x0 x1, (State.writeCpl x0 x1).flash = x0.flash := by
  intro x0 x1
  unfold State.writeCpl
  try dsimp -iota only
  (repeat' split) <;> simp

@[simp] theorem State.writeCpls_flash : ∀ x0 x1 x2, (State.writeCpls x0 x1 x2).flash = x0.flash := by
  intro x0 x1 x2
  fun_induction State.writeCpls x0 x1 x2
  all_goals first
      | (simp; done)
      | (simp_all; done)

@[simp] theorem State.flushCpl_flash : ∀ x0 x1, (State.flushCpl x0 x1).flash = x0.flash := by
  intro x0 x1
  unfold State.flushCpl
  simp

@[simp] theorem State.writeEvent_flash : ∀ x0 x1, (State.writeEvent x0 x1).flash = x0.flash := by
  intro x0 x1
  unfold State.writeEvent
  try dsimp -iota only
  (repeat' split) <;> simp

@[simp] theorem State.writeEvents_flash : ∀ x0 x1 x2, (State.writeEvents x0 x1 x2).flash = x0.flash := by
  intro x0 x1 x2
  fun_induction State.writeEvents x0 x1 x2
  all_goals first
      | (simp; done)
      | (simp_all; done)

@[simp] theorem State.flushEvents_flash : ∀ x0 x1, (State.flushEvents x0 x1).flash = x0.flash := by
  intro x0 x1
  unfold State.flushEvents
  simp

@[simp] theorem State.eventsLost_flash : ∀ x0 x1, (State.eventsLost x0 x1).flash = x0.flash := by
  intro x0 x1
  unfold State.eventsLost
  simp

@[simp] theorem State.post_flash : ∀ x0 x1 x2 x3 x4 x5, (State.post x0 x1 x2 x3 x4 x5).flash = x0.flash := by
  intro x0 x1 x2 x3 x4 x5
  unfold State.post
  simp

@[simp] theorem State.postCtx_flash : ∀ x0 x1 x2 x3 x4, (State.postCtx x0 x1 x2 x3 x4).flash = x0.flash := by
  intro x0 x1 x2 x3 x4
  unfold State.postCtx
  simp

@[simp] theorem State.postPf0_flash : ∀ x0 x1 x2 x3 x4, (State.postPf0 x0 x1 x2 x3 x4).flash = x0.flash := by
  intro x0 x1 x2 x3 x4
  unfold State.postPf0
  simp

@[simp] theorem State.setCmd_flash : ∀ x0 x1 x2 x3, (State.setCmd x0 x1 x2 x3).flash = x0.flash := by
  intro x0 x1 x2 x3
  unfold State.setCmd
  rfl

@[simp] theorem State.complete_flash : ∀ x0 x1 x2 x3 x4 x5 x6, (State.complete x0 x1 x2 x3 x4 x5 x6).flash = x0.flash := by
  intro x0 x1 x2 x3 x4 x5 x6
  unfold State.complete
  try dsimp -iota only
  (repeat' split) <;> simp

@[simp] theorem State.done_flash : ∀ x0 x1 x2 x3 x4, (State.done x0 x1 x2 x3 x4).flash = x0.flash := by
  intro x0 x1 x2 x3 x4
  unfold State.done
  simp

@[simp] theorem State.tick_flash : ∀ x0, (State.tick x0).flash = x0.flash := by
  intro x0
  unfold State.tick
  simp

@[simp] theorem State.sillHigh_flash : ∀ x0 x1, (State.sillHigh x0 x1).flash = x0.flash := by
  intro x0 x1
  unfold State.sillHigh
  try dsimp -iota only
  (repeat' split) <;> simp

@[simp] theorem State.sillLow_flash : ∀ x0 x1, (State.sillLow x0 x1).flash = x0.flash := by
  intro x0 x1
  unfold State.sillLow
  try dsimp -iota only
  (repeat' split) <;> simp

@[simp] theorem State.sillNext_flash : ∀ x0, (State.sillNext x0).flash = x0.flash := by
  intro x0
  unfold State.sillNext
  rfl

@[simp] theorem State.modSill_flash : ∀ x0 x1, (State.modSill x0 x1).flash = x0.flash := by
  intro x0 x1
  unfold State.modSill
  rfl

@[simp] theorem State.sillDrop_flash : ∀ x0 x1, (State.sillDrop x0 x1).flash = x0.flash := by
  intro x0 x1
  unfold State.sillDrop
  rfl

@[simp] theorem State.sillAgain_flash : ∀ x0, (State.sillAgain x0).flash = x0.flash := by
  intro x0
  unfold State.sillAgain
  try dsimp -iota only
  (repeat' split) <;> simp

@[simp] theorem State.startService_flash : ∀ x0 x1, (State.startService x0 x1).flash = x0.flash := by
  intro x0 x1
  unfold State.startService
  simp

@[simp] theorem State.oweService_flash : ∀ x0, (State.oweService x0).flash = x0.flash := by
  intro x0
  unfold State.oweService
  simp

@[simp] theorem State.retireCore_flash : ∀ x0 x1 x2, (State.retireCore x0 x1 x2).flash = x0.flash := by
  intro x0 x1 x2
  unfold State.retireCore
  simp

@[simp] theorem State.setSiteEntry_flash : ∀ x0 x1 x2, (State.setSiteEntry x0 x1 x2).flash = x0.flash := by
  intro x0 x1 x2
  unfold State.setSiteEntry
  rfl

@[simp] theorem State.setPortEntry_flash : ∀ x0 x1 x2, (State.setPortEntry x0 x1 x2).flash = x0.flash := by
  intro x0 x1 x2
  unfold State.setPortEntry
  rfl

@[simp] theorem State.setPortUp_flash : ∀ x0 x1 x2, (State.setPortUp x0 x1 x2).flash = x0.flash := by
  intro x0 x1 x2
  unfold State.setPortUp
  rfl

@[simp] theorem State.setPortHalf_flash : ∀ x0 x1 x2, (State.setPortHalf x0 x1 x2).flash = x0.flash := by
  intro x0 x1 x2
  unfold State.setPortHalf
  rfl

@[simp] theorem State.modCtx_flash : ∀ x0 x1 x2, (State.modCtx x0 x1 x2).flash = x0.flash := by
  intro x0 x1 x2
  unfold State.modCtx
  rfl

@[simp] theorem State.semAdd_flash : ∀ x0 x1 x2 x3 x4, (State.semAdd x0 x1 x2 x3 x4).flash = x0.flash := by
  intro x0 x1 x2 x3 x4
  unfold State.semAdd
  rfl

@[simp] theorem State.semTake_flash : ∀ x0 x1 x2 x3 x4, (State.semTake x0 x1 x2 x3 x4).flash = x0.flash := by
  intro x0 x1 x2 x3 x4
  unfold State.semTake
  rfl

@[simp] theorem State.pairAdd_flash : ∀ x0 x1 x2 x3 x4 x5, (State.pairAdd x0 x1 x2 x3 x4 x5).flash = x0.flash := by
  intro x0 x1 x2 x3 x4 x5
  unfold State.pairAdd
  rfl

@[simp] theorem State.pairTake_flash : ∀ x0 x1 x2 x3 x4, (State.pairTake x0 x1 x2 x3 x4).flash = x0.flash := by
  intro x0 x1 x2 x3 x4
  unfold State.pairTake
  rfl

@[simp] theorem State.nearMiss_flash : ∀ x0 x1, (State.nearMiss x0 x1).flash = x0.flash := by
  intro x0 x1
  unfold State.nearMiss
  rfl

@[simp] theorem State.nearMissDev_flash : ∀ x0, (State.nearMissDev x0).flash = x0.flash := by
  intro x0
  unfold State.nearMissDev
  rfl

@[simp] theorem State.strayCount_flash : ∀ x0 x1, (State.strayCount x0 x1).flash = x0.flash := by
  intro x0 x1
  unfold State.strayCount
  rfl

@[simp] theorem State.alert_flash : ∀ x0 x1, (State.alert x0 x1).flash = x0.flash := by
  intro x0 x1
  unfold State.alert
  simp

@[simp] theorem State.modPage_flash : ∀ x0 x1 x2, (State.modPage x0 x1 x2).flash = x0.flash := by
  intro x0 x1 x2
  unfold State.modPage
  rfl

@[simp] theorem State.recompress_flash : ∀ x0 x1 x2, (State.recompress x0 x1 x2).flash = x0.flash := by
  intro x0 x1 x2
  unfold State.recompress
  try dsimp -iota only
  (repeat' split) <;> simp

@[simp] theorem State.packCheck_flash : ∀ x0 x1 x2, (State.packCheck x0 x1 x2).flash = x0.flash := by
  intro x0 x1 x2
  unfold State.packCheck
  simp

@[simp] theorem State.packChecks_flash : ∀ x0 x1, (State.packChecks x0 x1).flash = x0.flash := by
  intro x0 x1
  unfold State.packChecks
  simp

@[simp] theorem State.countLines_flash : ∀ x0 x1 x2 x3, (State.countLines x0 x1 x2 x3).flash = x0.flash := by
  intro x0 x1 x2 x3
  unfold State.countLines
  rfl

@[simp] theorem State.countRange_flash : ∀ x0 x1 x2 x3 x4, (State.countRange x0 x1 x2 x3 x4).flash = x0.flash := by
  intro x0 x1 x2 x3 x4
  unfold State.countRange
  try dsimp -iota only
  (repeat' split)
  all_goals first
      | (simp; done)
      | (apply State.forAll_flash; intros; (repeat' split) <;> simp; done)
      | (simp_all; done)

@[simp] theorem State.countSpans_flash : ∀ x0 x1 x2 x3, (State.countSpans x0 x1 x2 x3).flash = x0.flash := by
  intro x0 x1 x2 x3
  unfold State.countSpans
  simp

@[simp] theorem State.writePiece_flash : ∀ x0 x1 x2 x3 x4, (State.writePiece x0 x1 x2 x3 x4).flash = x0.flash := by
  intro x0 x1 x2 x3 x4
  unfold State.writePiece
  try dsimp -iota only
  (repeat' split) <;> simp

@[simp] theorem State.writeBytes_flash : ∀ s c a b p, (State.writeBytes s c a b p).flash = s.flash := by
  intros; unfold State.writeBytes
  apply State.forAll_flash; intros; split <;> simp

theorem State.commitAll_flash : ∀ s c l n p t, State.commitAll s c l n p = .ok t → t.flash = s.flash := by
  intro s c l n p t e
  unfold State.commitAll at e
  extract_lets t1 t2 t3 at e
  have h1 : t2.flash = s.flash := by
    refine (State.forAll_flash _ _ _ _ fun _ _ => by simp).trans ?_
    exact State.forAll_flash _ _ _ _ fun _ _ => by simp
  have h2 : t3.flash = t2.flash := by
    simp only [t3, State.ite_flash]
    rw [State.forAll_flash]
    · exact ite_self _
    · intros; simp
  split at e
  · cases e
  · split at e
    · cases e
    · obtain rfl := Except.ok.inj e
      simp [h1, h2]

theorem State.commit_flash : ∀ s c a b n p h t, State.commit s c a b n p h = .ok t → t.flash = s.flash := fun s c a b n p h t e =>
  (State.commitAll_flash _ _ _ _ _ _ e).trans (by simp)

theorem State.tryWrite_flash : ∀ s c a b n p h r t, State.tryWrite s c a b n p h r = .ok t → t.flash = s.flash := by
  intro s c a b n p h r t e
  unfold State.tryWrite at e
  split at e
  · cases e
  · exact State.commit_flash _ _ _ _ _ _ _ _ e

@[simp] theorem State.postFault_flash : ∀ s c a w k x h, (State.postFault s c a w k x h).2.flash = s.flash := by
  intros; unfold State.postFault State.newId; rfl

@[simp] theorem State.dropFault_flash : ∀ x0 x1, (State.dropFault x0 x1).flash = x0.flash := by
  intro x0 x1
  unfold State.dropFault
  rfl

@[simp] theorem State.faultEvent_flash : ∀ x0 x1 x2 x3 x4 x5 x6 x7 x8, (State.faultEvent x0 x1 x2 x3 x4 x5 x6 x7 x8).flash = x0.flash := by
  intro x0 x1 x2 x3 x4 x5 x6 x7 x8
  unfold State.faultEvent
  simp

@[simp] theorem State.countResolved_flash : ∀ x0, (State.countResolved x0).flash = x0.flash := by
  intro x0
  unfold State.countResolved
  rfl

@[simp] theorem State.countUnresolved_flash : ∀ x0, (State.countUnresolved x0).flash = x0.flash := by
  intro x0
  unfold State.countUnresolved
  rfl

@[simp] theorem State.logUe_flash : ∀ x0 x1 x2 x3 x4, (State.logUe x0 x1 x2 x3 x4).flash = x0.flash := by
  intro x0 x1 x2 x3 x4
  unfold State.logUe
  rfl

@[simp] theorem State.poisonLine_flash : ∀ x0 x1 x2, (State.poisonLine x0 x1 x2).flash = x0.flash := by
  intro x0 x1 x2
  unfold State.poisonLine
  rfl

@[simp] theorem State.setStream_flash : ∀ x0 x1, (State.setStream x0 x1).flash = x0.flash := by
  intro x0 x1
  unfold State.setStream
  rfl

@[simp] theorem State.delStream_flash : ∀ x0 x1 x2, (State.delStream x0 x1 x2).flash = x0.flash := by
  intro x0 x1 x2
  unfold State.delStream
  rfl

@[simp] theorem State.setFetch_flash : ∀ x0 x1, (State.setFetch x0 x1).flash = x0.flash := by
  intro x0 x1
  unfold State.setFetch
  rfl

@[simp] theorem State.putStream_flash : ∀ s x, (State.putStream s x).flash = s.flash := by
  intro s x; unfold State.putStream
  try dsimp -iota only
  split
  · simp
  · split
    · rename_i t ht; rw [State.tryWrite_flash _ _ _ _ _ _ _ _ _ ht]; simp
    · simp

@[simp] theorem State.issue_flash : ∀ s a b c d e f g h l, (State.issue s a b c d e f g h l).flash = s.flash := by
  intros; unfold State.issue
  apply State.forAll_flash; intros; split <;> simp

@[simp] theorem State.issueEngine_flash : ∀ x0 x1 x2 x3 x4 x5 x6, (State.issueEngine x0 x1 x2 x3 x4 x5 x6).flash = x0.flash := by
  intro x0 x1 x2 x3 x4 x5 x6
  unfold State.issueEngine
  try dsimp -iota only
  (repeat' split)
  all_goals first
      | (simp; done)
      | (apply State.forAll_flash; intros; (repeat' split) <;> simp; done)
      | (simp_all; done)

@[simp] theorem State.dropOwner_flash : ∀ x0 x1, (State.dropOwner x0 x1).flash = x0.flash := by
  intro x0 x1
  unfold State.dropOwner
  rfl

@[simp] theorem State.dropEngines_flash : ∀ x0 x1, (State.dropEngines x0 x1).flash = x0.flash := by
  intro x0 x1
  unfold State.dropEngines
  rfl

@[simp] theorem State.startRefetch_flash : ∀ x0 x1 x2 x3 x4, (State.startRefetch x0 x1 x2 x3 x4).flash = x0.flash := by
  intro x0 x1 x2 x3 x4
  unfold State.startRefetch
  try dsimp -iota only
  (repeat' split)
  all_goals first
      | (simp; done)
      | (apply State.forAll_flash; intros; (repeat' split) <;> simp; done)
      | (simp_all; done)

@[simp] theorem State.endHold_flash : ∀ x0 x1, (State.endHold x0 x1).flash = x0.flash := by
  intro x0 x1
  unfold State.endHold
  rfl

@[simp] theorem State.sweepPages_flash : ∀ x0, (State.sweepPages x0).flash = x0.flash := by
  intro x0
  unfold State.sweepPages
  rfl

@[simp] theorem State.wakeWaiters_flash : ∀ x0 x1, (State.wakeWaiters x0 x1).flash = x0.flash := by
  intro x0 x1
  unfold State.wakeWaiters
  simp

@[simp] theorem State.freeStream_flash : ∀ x0 x1, (State.freeStream x0 x1).flash = x0.flash := by
  intro x0 x1
  unfold State.freeStream
  rfl

@[simp] theorem State.releaseStream_flash : ∀ x0 x1, (State.releaseStream x0 x1).flash = x0.flash := by
  intro x0 x1
  unfold State.releaseStream
  try dsimp -iota only
  (repeat' split) <;> simp

@[simp] theorem State.rearmed_flash : ∀ x0 x1, (State.rearmed x0 x1).flash = x0.flash := by
  intro x0 x1
  unfold State.rearmed
  simp

@[simp] theorem State.passEnd_flash : ∀ x0 x1, (State.passEnd x0 x1).flash = x0.flash := by
  intro x0 x1
  unfold State.passEnd
  simp

@[simp] theorem State.ringBack_flash : ∀ x0 x1 x2 x3, (State.ringBack x0 x1 x2 x3).flash = x0.flash := by
  intro x0 x1 x2 x3
  unfold State.ringBack
  simp

@[simp] theorem State.dropReqs_flash : ∀ x0 x1 x2, (State.dropReqs x0 x1 x2).flash = x0.flash := by
  intro x0 x1 x2
  unfold State.dropReqs
  rfl

@[simp] theorem State.faultStream_flash : ∀ x0 x1 x2 x3 x4 x5, (State.faultStream x0 x1 x2 x3 x4 x5).flash = x0.flash := by
  intro x0 x1 x2 x3 x4 x5
  unfold State.faultStream
  simp

@[simp] theorem State.finishCancel_flash : ∀ x0 x1, (State.finishCancel x0 x1).flash = x0.flash := by
  intro x0 x1
  unfold State.finishCancel
  simp

@[simp] theorem State.cancelStream_flash : ∀ x0 x1, (State.cancelStream x0 x1).flash = x0.flash := by
  intro x0 x1
  unfold State.cancelStream
  simp

@[simp] theorem State.deliverOne_flash : ∀ x0 x1 x2, (State.deliverOne x0 x1 x2).flash = x0.flash := by
  intro x0 x1 x2
  unfold State.deliverOne
  try dsimp -iota only
  (repeat' split) <;> simp

@[simp] theorem State.deliver_flash : ∀ x0 x1 x2 x3, (State.deliver x0 x1 x2 x3).flash = x0.flash := by
  intro x0 x1 x2 x3
  fun_induction State.deliver x0 x1 x2 x3
  all_goals first
      | (simp; done)
      | (simp_all; done)

@[simp] theorem State.checkPassEnd_flash : ∀ x0 x1 x2, (State.checkPassEnd x0 x1 x2).flash = x0.flash := by
  intro x0 x1 x2
  unfold State.checkPassEnd
  try dsimp -iota only
  (repeat' split) <;> simp

@[simp] theorem State.checkStop_flash : ∀ x0 x1 x2, (State.checkStop x0 x1 x2).flash = x0.flash := by
  intro x0 x1 x2
  unfold State.checkStop
  try dsimp -iota only
  (repeat' split) <;> simp

@[simp] theorem State.checkRefetch_flash : ∀ x0 x1 x2, (State.checkRefetch x0 x1 x2).flash = x0.flash := by
  intro x0 x1 x2
  unfold State.checkRefetch
  try dsimp -iota only
  (repeat' split) <;> simp

@[simp] theorem State.loseRing_flash : ∀ s x, (State.loseRing s x).1.flash = s.flash := by
  intro s x; unfold State.loseRing; (repeat' split) <;> simp

@[simp] theorem State.failRefetch_flash : ∀ s x st, (State.failRefetch s x st).flash = s.flash := by
  intro s x st; unfold State.failRefetch
  extract_lets
  simp +zetaDelta only [State.faultStream_flash]
  split <;> simp

@[simp] theorem State.checkReStop_flash : ∀ x0 x1 x2, (State.checkReStop x0 x1 x2).flash = x0.flash := by
  intro x0 x1 x2
  unfold State.checkReStop
  try dsimp -iota only
  (repeat' split) <;> simp

@[simp] theorem State.settleStream_flash : ∀ x0 x1 x2, (State.settleStream x0 x1 x2).flash = x0.flash := by
  intro x0 x1 x2
  unfold State.settleStream
  try dsimp -iota only
  (repeat' split) <;> simp

@[simp] theorem State.settleFetch_flash : ∀ x0 x1, (State.settleFetch x0 x1).flash = x0.flash := by
  intro x0 x1
  unfold State.settleFetch
  try dsimp -iota only
  (repeat' split) <;> simp

@[simp] theorem State.dropFetch_flash : ∀ x0 x1, (State.dropFetch x0 x1).flash = x0.flash := by
  intro x0 x1
  unfold State.dropFetch
  rfl

@[simp] theorem State.cancelFetch_flash : ∀ x0 x1, (State.cancelFetch x0 x1).flash = x0.flash := by
  intro x0 x1
  unfold State.cancelFetch
  rfl

@[simp] theorem State.settle_flash : ∀ x0 x1, (State.settle x0 x1).flash = x0.flash := by
  intro x0 x1
  unfold State.settle
  try dsimp -iota only
  (repeat' split) <;> simp

@[simp] theorem State.popHandle_flash : ∀ x0 x1, (State.popHandle x0 x1).flash = x0.flash := by
  intro x0 x1
  unfold State.popHandle
  rfl

@[simp] theorem State.returnBuf_flash : ∀ x0 x1 x2 x3, (State.returnBuf x0 x1 x2 x3).flash = x0.flash := by
  intro x0 x1 x2 x3
  unfold State.returnBuf
  try dsimp -iota only
  (repeat' split) <;> simp

@[simp] theorem State.laneSpared_flash : ∀ x0 x1 x2 x3 x4, (State.laneSpared x0 x1 x2 x3 x4).flash = x0.flash := by
  intro x0 x1 x2 x3 x4
  unfold State.laneSpared
  simp

@[simp] theorem State.spareTrigger_flash : ∀ x0 x1 x2 x3, (State.spareTrigger x0 x1 x2 x3).flash = x0.flash := by
  intro x0 x1 x2 x3
  unfold State.spareTrigger
  simp

@[simp] theorem State.spareTriggers_flash : ∀ x0 x1 x2, (State.spareTriggers x0 x1 x2).flash = x0.flash := by
  intro x0 x1 x2
  unfold State.spareTriggers
  simp

@[simp] theorem State.rollSpare_flash : ∀ x0 x1, (State.rollSpare x0 x1).flash = x0.flash := by
  intro x0 x1
  unfold State.rollSpare
  simp

@[simp] theorem State.laneCorrected_flash : ∀ x0 x1 x2 x3, (State.laneCorrected x0 x1 x2 x3).flash = x0.flash := by
  intro x0 x1 x2 x3
  unfold State.laneCorrected
  simp

@[simp] theorem State.lineCorrected_flash : ∀ x0 x1 x2 x3, (State.lineCorrected x0 x1 x2 x3).flash = x0.flash := by
  intro x0 x1 x2 x3
  unfold State.lineCorrected
  try dsimp -iota only
  (repeat' split) <;> simp

@[simp] theorem State.startPass_flash : ∀ x0 x1 x2, (State.startPass x0 x1 x2).flash = x0.flash := by
  intro x0 x1 x2
  unfold State.startPass
  try dsimp -iota only
  (repeat' split) <;> simp

@[simp] theorem State.stopStream_flash : ∀ x0 x1 x2, (State.stopStream x0 x1 x2).flash = x0.flash := by
  intro x0 x1 x2
  unfold State.stopStream
  simp

@[simp] theorem State.stopRefetch_flash : ∀ x0 x1 x2, (State.stopRefetch x0 x1 x2).flash = x0.flash := by
  intro x0 x1 x2
  unfold State.stopRefetch
  simp

@[simp] theorem State.issueBlock_flash : ∀ s x i b k base e ag, (State.issueBlock s x i b k base e ag).flash = s.flash := by
  intro s x i b k base e ag; unfold State.issueBlock
  extract_lets
  split <;> simp +zetaDelta only [State.stopStream_flash, State.settleStream_flash, State.issue_flash, State.setStream_flash, State.ite_flash, ite_self]

@[simp] theorem State.nextBlock_flash : ∀ x0 x1 x2 x3, (State.nextBlock x0 x1 x2 x3).flash = x0.flash := by
  intro x0 x1 x2 x3
  unfold State.nextBlock
  try dsimp -iota only
  (repeat' split) <;> simp

theorem State.blockAgain_flash : ∀ s x i b f, (∀ t y st, (f t y st).flash = t.flash) → (State.blockAgain s x i b f).flash = s.flash := by
  intro s x i b f h; unfold State.blockAgain
  extract_lets
  (repeat' split) <;> simp [h]

@[simp] theorem State.translateStream_flash : ∀ s b c, (State.translateStream s b c).flash = s.flash := by
  intro s b c; unfold State.translateStream
  extract_lets
  (repeat' split) <;> first | (simp; done) | (refine State.blockAgain_flash _ _ _ _ _ fun _ _ _ => ?_; simp)

@[simp] theorem State.translateFetch_flash : ∀ s i, (State.translateFetch s i).flash = s.flash := by
  intro s i; unfold State.translateFetch
  split
  · rfl
  · split
    · rfl
    · extract_lets
      split
      · rfl
      · split
        · rfl
        · split
          · simp
          · extract_lets; simp

@[simp] theorem State.setReq_flash : ∀ x0 x1 x2, (State.setReq x0 x1 x2).flash = x0.flash := by
  intro x0 x1 x2
  unfold State.setReq
  rfl

@[simp] theorem State.grantReq_flash : ∀ x0 x1, (State.grantReq x0 x1).flash = x0.flash := by
  intro x0 x1
  unfold State.grantReq
  rfl

@[simp] theorem State.grantBay_flash : ∀ s m b l, (State.grantBay s m b l).1.flash = s.flash := by
  intro s m b l
  fun_induction State.grantBay s m b l <;> simp_all +zetaDelta

@[simp] theorem State.grantBays_flash : ∀ s m l, (State.grantBays s m l).flash = s.flash := by
  intro s m l
  induction l generalizing s with
  | nil => rfl
  | cons b r ih => unfold State.grantBays; dsimp -iota only; split <;> simp [ih]

@[simp] theorem State.slotGrant_flash : ∀ x0 x1, (State.slotGrant x0 x1).flash = x0.flash := by
  intro x0 x1
  unfold State.slotGrant
  try dsimp -iota only
  (repeat' split) <;> simp

@[simp] theorem State.passSlot_flash : ∀ x0 x1, (State.passSlot x0 x1).flash = x0.flash := by
  intro x0 x1
  unfold State.passSlot
  try dsimp -iota only
  (repeat' split) <;> simp

@[simp] theorem State.leaveReqs_flash : ∀ x0 x1 x2, (State.leaveReqs x0 x1 x2).flash = x0.flash := by
  intro x0 x1 x2
  unfold State.leaveReqs
  try dsimp -iota only
  (repeat' split) <;> simp

@[simp] theorem State.endReq_flash : ∀ x0 x1, (State.endReq x0 x1).flash = x0.flash := by
  intro x0 x1
  unfold State.endReq
  simp

@[simp] theorem State.fillRaw_flash : ∀ x0 x1, (State.fillRaw x0 x1).flash = x0.flash := by
  intro x0 x1
  unfold State.fillRaw
  try dsimp -iota only
  (repeat' split) <;> simp

@[simp] theorem State.stopReq_flash : ∀ x0 x1 x2 x3 x4, (State.stopReq x0 x1 x2 x3 x4).flash = x0.flash := by
  intro x0 x1 x2 x3 x4
  unfold State.stopReq
  try dsimp -iota only
  (repeat' split) <;> simp

@[simp] theorem State.clearLine_flash : ∀ x0 x1 x2, (State.clearLine x0 x1 x2).flash = x0.flash := by
  intro x0 x1 x2
  unfold State.clearLine
  rfl

@[simp] theorem State.storeReq_flash : ∀ x0 x1, (State.storeReq x0 x1).flash = x0.flash := by
  intro x0 x1
  unfold State.storeReq
  simp

@[simp] theorem State.refuseBlock_flash : ∀ x0 x1, (State.refuseBlock x0 x1).flash = x0.flash := by
  intro x0 x1
  unfold State.refuseBlock
  try dsimp -iota only
  (repeat' split) <;> simp

@[simp] theorem State.commitBlock_flash : ∀ x0 x1 x2, (State.commitBlock x0 x1 x2).flash = x0.flash := by
  intro x0 x1 x2
  unfold State.commitBlock
  simp

@[simp] theorem State.accept_flash : ∀ x0 x1, (State.accept x0 x1).flash = x0.flash := by
  intro x0 x1
  unfold State.accept
  simp

@[simp] theorem State.serve_flash : ∀ x0 x1, (State.serve x0 x1).flash = x0.flash := by
  intro x0 x1
  unfold State.serve
  simp

@[simp] theorem State.dropBlock_flash : ∀ x0 x1, (State.dropBlock x0 x1).flash = x0.flash := by
  intro x0 x1
  unfold State.dropBlock
  rfl

@[simp] theorem State.servePoisoned_flash : ∀ x0 x1 x2, (State.servePoisoned x0 x1 x2).flash = x0.flash := by
  intro x0 x1 x2
  unfold State.servePoisoned
  simp

@[simp] theorem State.lineLost_flash : ∀ x0 x1 x2, (State.lineLost x0 x1 x2).flash = x0.flash := by
  intro x0 x1 x2
  unfold State.lineLost
  simp

@[simp] theorem State.completeReq_flash : ∀ x0 x1 x2, (State.completeReq x0 x1 x2).flash = x0.flash := by
  intro x0 x1 x2
  unfold State.completeReq
  try dsimp -iota only
  (repeat' split) <;> simp

@[simp] theorem State.retryDone_flash : ∀ x0 x1 x2, (State.retryDone x0 x1 x2).flash = x0.flash := by
  intro x0 x1 x2
  unfold State.retryDone
  try dsimp -iota only
  (repeat' split) <;> simp

@[simp] theorem State.augerTake_flash : ∀ x0 x1 x2, (State.augerTake x0 x1 x2).flash = x0.flash := by
  intro x0 x1 x2
  unfold State.augerTake
  try dsimp -iota only
  (repeat' split) <;> simp

@[simp] theorem State.planeGets_flash : ∀ x0 x1 x2 x3 x4, (State.planeGets x0 x1 x2 x3 x4).flash = x0.flash := by
  intro x0 x1 x2 x3 x4
  unfold State.planeGets
  rfl

@[simp] theorem State.agentTake_flash : ∀ x0 x1 x2 x3 x4, (State.agentTake x0 x1 x2 x3 x4).flash = x0.flash := by
  intro x0 x1 x2 x3 x4
  unfold State.agentTake
  try dsimp -iota only
  (repeat' split) <;> simp

@[simp] theorem State.spareSwitched_flash : ∀ x0 x1 x2, (State.spareSwitched x0 x1 x2).flash = x0.flash := by
  intro x0 x1 x2
  unfold State.spareSwitched
  try dsimp -iota only
  (repeat' split) <;> simp

@[simp] theorem State.spareWindow_flash : ∀ x0 x1, (State.spareWindow x0 x1).flash = x0.flash := by
  intro x0 x1
  unfold State.spareWindow
  simp

@[simp] theorem State.patrolLost_flash : ∀ x0 x1 x2, (State.patrolLost x0 x1 x2).flash = x0.flash := by
  intro x0 x1 x2
  unfold State.patrolLost
  try dsimp -iota only
  (repeat' split) <;> simp

@[simp] theorem State.patrol_flash : ∀ x0 x1 x2 x3, (State.patrol x0 x1 x2 x3).flash = x0.flash := by
  intro x0 x1 x2 x3
  unfold State.patrol
  try dsimp -iota only
  (repeat' split) <;> simp

@[simp] theorem State.loftPatrol_flash : ∀ x0 x1 x2, (State.loftPatrol x0 x1 x2).flash = x0.flash := by
  intro x0 x1 x2
  unfold State.loftPatrol
  simp

@[simp] theorem State.loftStream_flash : ∀ s x i f, (State.loftStream s x i f).flash = s.flash := by
  intro s x i f; unfold State.loftStream
  split
  · simp
  · split
    · split <;> simp
    · simp

@[simp] theorem State.loftBad_flash : ∀ x0 x1, (State.loftBad x0 x1).flash = x0.flash := by
  intro x0 x1
  unfold State.loftBad
  try dsimp -iota only
  (repeat' split) <;> simp

@[simp] theorem State.startMig_flash : ∀ x0 x1 x2, (State.startMig x0 x1 x2).flash = x0.flash := by
  intro x0 x1 x2
  unfold State.startMig
  try dsimp -iota only
  (repeat' split) <;> simp

@[simp] theorem State.epochEnd_flash : ∀ x0 x1, (State.epochEnd x0 x1).flash = x0.flash := by
  intro x0 x1
  unfold State.epochEnd
  simp

theorem State.migStep_flash : ∀ s p x f, (∀ a b, (f a b).flash = s.flash) → (State.migStep s p x f).flash = s.flash := by
  intro s p x f h; unfold State.migStep; (repeat' split) <;> simp [h]

@[simp] theorem State.setMig_flash : ∀ x0 x1 x2, (State.setMig x0 x1 x2).flash = x0.flash := by
  intro x0 x1 x2
  unfold State.setMig
  rfl

@[simp] theorem State.cutover_flash : ∀ x0 x1, (State.cutover x0 x1).flash = x0.flash := by
  intro x0 x1
  unfold State.cutover
  try dsimp -iota only
  repeat' (first | (refine State.passWrite_flash _ _ _ _ _ _ (fun _ => ?_)) | (refine State.armedStream_flash _ _ _ _ (fun _ => ?_)) | (refine State.blockAgain_flash _ _ _ _ _ (fun _ _ _ => ?_)) | (refine State.cmdRead_flash _ _ _ _ _ _ (fun _ _ => ?_)) | (refine State.seqCmd_flash _ _ _ _ (fun _ => ?_)) | (refine State.namedStream_flash _ _ _ _ (fun _ => ?_)) | (refine State.migStep_flash _ _ _ _ (fun _ _ => ?_)) | (refine State.planeCheck_flash _ _ _ _ _ (fun _ _ => ?_)) | (refine State.forAll_flash _ _ _ _ (fun _ _ => ?_)) | split)
  all_goals first
      | (simp; done)
      | (apply State.forAll_flash; intros; (repeat' split) <;> simp; done)
      | (simp_all; done)

@[simp] theorem State.modAon_flash : ∀ x0 x1, (State.modAon x0 x1).flash = x0.flash := by
  intro x0 x1
  unfold State.modAon
  rfl

@[simp] theorem State.modPower_flash : ∀ x0 x1, (State.modPower x0 x1).flash = x0.flash := by
  intro x0 x1
  unfold State.modPower
  rfl

@[simp] theorem State.modThermal_flash : ∀ x0 x1, (State.modThermal x0 x1).flash = x0.flash := by
  intro x0 x1
  unfold State.modThermal
  rfl

@[simp] theorem State.modBoot_flash : ∀ x0 x1, (State.modBoot x0 x1).flash = x0.flash := by
  intro x0 x1
  unfold State.modBoot
  rfl

@[simp] theorem State.postPower_flash : ∀ x0 x1 x2, (State.postPower x0 x1 x2).flash = x0.flash := by
  intro x0 x1 x2
  unfold State.postPower
  simp

@[simp] theorem State.postThermal_flash : ∀ x0 x1 x2 x3, (State.postThermal x0 x1 x2 x3).flash = x0.flash := by
  intro x0 x1 x2 x3
  unfold State.postThermal
  simp

@[simp] theorem State.limitReached_flash : ∀ x0, (State.limitReached x0).flash = x0.flash := by
  intro x0
  unfold State.limitReached
  simp

@[simp] theorem State.throttle_flash : ∀ x0, (State.throttle x0).flash = x0.flash := by
  intro x0
  unfold State.throttle
  try dsimp -iota only
  (repeat' split) <;> simp

@[simp] theorem State.throttleEvent_flash : ∀ s t, (State.throttleEvent s t).flash = s.flash := by
  intro s t; unfold State.throttleEvent; try dsimp -iota only
  (repeat' split) <;> simp

@[simp] theorem State.evaluate_flash : ∀ x0 x1 x2 x3, (State.evaluate x0 x1 x2 x3).flash = x0.flash := by
  intro x0 x1 x2 x3
  unfold State.evaluate
  simp

@[simp] theorem State.settled_flash : ∀ x0, (State.settled x0).flash = x0.flash := by
  intro x0
  unfold State.settled
  try dsimp -iota only
  (repeat' split) <;> simp

@[simp] theorem State.setRail_flash : ∀ x0 x1 x2, (State.setRail x0 x1 x2).flash = x0.flash := by
  intro x0 x1 x2
  unfold State.setRail
  rfl

@[simp] theorem State.nextRails_flash : ∀ s l, (State.nextRails s l).1.flash = s.flash := by
  intro s l
  fun_induction State.nextRails s l <;> simp_all

@[simp] theorem State.railsDown_flash : ∀ x0, (State.railsDown x0).flash = x0.flash := by
  intro x0
  unfold State.railsDown
  try dsimp -iota only
  (repeat' split) <;> simp

@[simp] theorem State.loseAll_flash : ∀ x0, (State.loseAll x0).flash = x0.flash := by
  intro x0
  unfold State.loseAll
  rfl

@[simp] theorem State.railsOff_flash : ∀ x0, (State.railsOff x0).flash = x0.flash := by
  intro x0
  unfold State.railsOff
  simp

@[simp] theorem State.moduleFault_flash : ∀ x0 x1 x2, (State.moduleFault x0 x1 x2).flash = x0.flash := by
  intro x0 x1 x2
  unfold State.moduleFault
  simp

@[simp] theorem State.postTrip_flash : ∀ x0, (State.postTrip x0).flash = x0.flash := by
  intro x0
  unfold State.postTrip
  try dsimp -iota only
  (repeat' split) <;> simp

@[simp] theorem State.trip_flash : ∀ x0 x1 x2, (State.trip x0 x1 x2).flash = x0.flash := by
  intro x0 x1 x2
  unfold State.trip
  simp

@[simp] theorem State.conflict_flash : ∀ x0 x1 x2 x3, (State.conflict x0 x1 x2 x3).flash = x0.flash := by
  intro x0 x1 x2 x3
  unfold State.conflict
  simp

@[simp] theorem State.checkClaim_flash : ∀ x0 x1 x2 x3, (State.checkClaim x0 x1 x2 x3).flash = x0.flash := by
  intro x0 x1 x2 x3
  unfold State.checkClaim
  simp

@[simp] theorem State.ungate_flash : ∀ x0 x1, (State.ungate x0 x1).flash = x0.flash := by
  intro x0 x1
  unfold State.ungate
  simp

@[simp] theorem State.gate_flash : ∀ x0 x1, (State.gate x0 x1).flash = x0.flash := by
  intro x0 x1
  unfold State.gate
  try dsimp -iota only
  (repeat' split) <;> simp

@[simp] theorem State.idleTick_flash : ∀ x0 x1, (State.idleTick x0 x1).flash = x0.flash := by
  intro x0 x1
  unfold State.idleTick
  simp

@[simp] theorem State.idle_flash : ∀ x0, (State.idle x0).flash = x0.flash := by
  intro x0
  unfold State.idle
  simp

@[simp] theorem State.setStage_flash : ∀ x0 x1, (State.setStage x0 x1).flash = x0.flash := by
  intro x0 x1
  unfold State.setStage
  rfl

@[simp] theorem State.recover_flash : ∀ x0 x1, (State.recover x0 x1).flash = x0.flash := by
  intro x0 x1
  unfold State.recover
  rfl

@[simp] theorem State.bootLinks_flash : ∀ x0, (State.bootLinks x0).flash = x0.flash := by
  intro x0
  unfold State.bootLinks
  simp

@[simp] theorem State.bootYard_flash : ∀ x0, (State.bootYard x0).flash = x0.flash := by
  intro x0
  unfold State.bootYard
  simp

@[simp] theorem State.belowGuarantee_flash : ∀ x0, (State.belowGuarantee x0).flash = x0.flash := by
  intro x0
  unfold State.belowGuarantee
  simp

@[simp] theorem State.powerOff_flash : ∀ x0, (State.powerOff x0).flash = x0.flash := by
  intro x0
  unfold State.powerOff
  simp

@[simp] theorem State.railDown_flash : ∀ x0 x1, (State.railDown x0 x1).flash = x0.flash := by
  intro x0 x1
  unfold State.railDown
  simp

@[simp] theorem State.halfTested_flash : ∀ x0 x1 x2, (State.halfTested x0 x1 x2).flash = x0.flash := by
  intro x0 x1 x2
  unfold State.halfTested
  simp

@[simp] theorem State.firstClaim_flash : ∀ x0 x1 x2 x3, (State.firstClaim x0 x1 x2 x3).flash = x0.flash := by
  intro x0 x1 x2 x3
  unfold State.firstClaim
  simp

@[simp] theorem State.grant_flash : ∀ x0 x1 x2 x3 x4, (State.grant x0 x1 x2 x3 x4).flash = x0.flash := by
  intro x0 x1 x2 x3 x4
  unfold State.grant
  simp

@[simp] theorem State.planBuild_flash : ∀ x0, (State.planBuild x0).flash = x0.flash := by
  intro x0
  unfold State.planBuild
  simp

@[simp] theorem State.siteFails_flash : ∀ x0 x1, (State.siteFails x0 x1).flash = x0.flash := by
  intro x0 x1
  unfold State.siteFails
  simp

@[simp] theorem State.siteInit_flash : ∀ x0 x1 x2, (State.siteInit x0 x1 x2).flash = x0.flash := by
  intro x0 x1 x2
  unfold State.siteInit
  simp

@[simp] theorem State.siteRound_flash : ∀ x0 x1 x2, (State.siteRound x0 x1 x2).flash = x0.flash := by
  intro x0 x1 x2
  unfold State.siteRound
  try dsimp -iota only
  (repeat' split) <;> simp

@[simp] theorem State.wave_flash : ∀ x0, (State.wave x0).flash = x0.flash := by
  intro x0
  unfold State.wave
  simp

@[simp] theorem State.modJoiner_flash : ∀ x0 x1 x2, (State.modJoiner x0 x1 x2).flash = x0.flash := by
  intro x0 x1 x2
  unfold State.modJoiner
  rfl

@[simp] theorem State.abortHeld_flash : ∀ x0 x1, (State.abortHeld x0 x1).flash = x0.flash := by
  intro x0 x1
  unfold State.abortHeld
  simp

@[simp] theorem State.healthFail_flash : ∀ x0, (State.healthFail x0).flash = x0.flash := by
  intro x0
  unfold State.healthFail
  simp

@[simp] theorem State.poll_flash : ∀ x0 x1, (State.poll x0 x1).flash = x0.flash := by
  intro x0 x1
  unfold State.poll
  try dsimp -iota only
  (repeat' split) <;> simp

@[simp] theorem State.protect__flash : ∀ x0 x1 x2, (State.protect_ x0 x1 x2).flash = x0.flash := by
  intro x0 x1 x2
  unfold State.protect_
  simp

@[simp] theorem State.tripShutdown_flash : ∀ x0, (State.tripShutdown x0).flash = x0.flash := by
  intro x0
  unfold State.tripShutdown
  try dsimp -iota only
  (repeat' split) <;> simp

@[simp] theorem State.sbSet_flash : ∀ x0 x1, (State.sbSet x0 x1).flash = x0.flash := by
  intro x0 x1
  unfold State.sbSet
  rfl

@[simp] theorem State.boardMax_flash : ∀ x0 x1, (State.boardMax x0 x1).flash = x0.flash := by
  intro x0 x1
  unfold State.boardMax
  simp

@[simp] theorem State.sbClear_flash : ∀ x0 x1, (State.sbClear x0 x1).flash = x0.flash := by
  intro x0 x1
  unfold State.sbClear
  simp

@[simp] theorem State.modLinks_flash : ∀ x0 x1, (State.modLinks x0 x1).flash = x0.flash := by
  intro x0 x1
  unfold State.modLinks
  rfl

@[simp] theorem State.flit_flash : ∀ x0 x1 x2, (State.flit x0 x1 x2).flash = x0.flash := by
  intro x0 x1 x2
  unfold State.flit
  simp

@[simp] theorem State.bridgeDone_flash : ∀ x0, (State.bridgeDone x0).flash = x0.flash := by
  intro x0
  unfold State.bridgeDone
  try dsimp -iota only
  (repeat' split) <;> simp

@[simp] theorem State.bridgeLate_flash : ∀ x0, (State.bridgeLate x0).flash = x0.flash := by
  intro x0
  unfold State.bridgeLate
  try dsimp -iota only
  (repeat' split) <;> simp

@[simp] theorem State.meterEnd_flash : ∀ x0 x1, (State.meterEnd x0 x1).flash = x0.flash := by
  intro x0 x1
  unfold State.meterEnd
  simp

@[simp] theorem State.modPort_flash : ∀ x0 x1 x2, (State.modPort x0 x1 x2).flash = x0.flash := by
  intro x0 x1 x2
  unfold State.modPort
  rfl

@[simp] theorem State.discard_flash : ∀ x0 x1, (State.discard x0 x1).flash = x0.flash := by
  intro x0 x1
  unfold State.discard
  rfl

@[simp] theorem State.writePortEntry_flash : ∀ x0 x1, (State.writePortEntry x0 x1).flash = x0.flash := by
  intro x0 x1
  unfold State.writePortEntry
  rfl

@[simp] theorem State.linkDegraded_flash : ∀ x0 x1 x2 x3, (State.linkDegraded x0 x1 x2 x3).flash = x0.flash := by
  intro x0 x1 x2 x3
  unfold State.linkDegraded
  simp

@[simp] theorem State.degradedIf_flash : ∀ x0 x1, (State.degradedIf x0 x1).flash = x0.flash := by
  intro x0 x1
  unfold State.degradedIf
  simp

@[simp] theorem State.laneReset_flash : ∀ x0 x1 x2, (State.laneReset x0 x1 x2).flash = x0.flash := by
  intro x0 x1 x2
  unfold State.laneReset
  simp

@[simp] theorem State.masksExchanged_flash : ∀ x0 x1 x2, (State.masksExchanged x0 x1 x2).flash = x0.flash := by
  intro x0 x1 x2
  unfold State.masksExchanged
  simp

@[simp] theorem State.enqueue_flash : ∀ x0 x1 x2, (State.enqueue x0 x1 x2).flash = x0.flash := by
  intro x0 x1 x2
  unfold State.enqueue
  rfl

@[simp] theorem State.sayIdentity_flash : ∀ x0 x1, (State.sayIdentity x0 x1).flash = x0.flash := by
  intro x0 x1
  unfold State.sayIdentity
  simp

@[simp] theorem State.locked_flash : ∀ x0 x1 x2, (State.locked x0 x1 x2).flash = x0.flash := by
  intro x0 x1 x2
  unfold State.locked
  simp

@[simp] theorem State.identity_flash : ∀ x0 x1 x2 x3 x4, (State.identity x0 x1 x2 x3 x4).flash = x0.flash := by
  intro x0 x1 x2 x3 x4
  unfold State.identity
  simp

@[simp] theorem State.freeCredits_flash : ∀ x0 x1, (State.freeCredits x0 x1).flash = x0.flash := by
  intro x0 x1
  unfold State.freeCredits
  try dsimp -iota only
  (repeat' split) <;> simp

@[simp] theorem State.sendFirm_flash : ∀ x0 x1 x2 x3 x4 x5 x6, (State.sendFirm x0 x1 x2 x3 x4 x5 x6).flash = x0.flash := by
  intro x0 x1 x2 x3 x4 x5 x6
  unfold State.sendFirm
  try dsimp -iota only
  (repeat' split) <;> simp

@[simp] theorem State.deliverHere_flash : ∀ x0 x1 x2, (State.deliverHere x0 x1 x2).flash = x0.flash := by
  intro x0 x1 x2
  unfold State.deliverHere
  simp

@[simp] theorem State.forward_flash : ∀ s p q, (State.forward s p q).1.flash = s.flash := by
  intros; unfold State.forward; (repeat' split) <;> simp

@[simp] theorem State.send_flash : ∀ s a b c d e f g, (State.send s a b c d e f g).1.flash = s.flash := by
  intros; unfold State.send; (repeat' split) <;> simp

@[simp] theorem State.packetStart_flash : ∀ x0 x1, (State.packetStart x0 x1).flash = x0.flash := by
  intro x0 x1
  unfold State.packetStart
  try dsimp -iota only
  (repeat' split) <;> simp

@[simp] theorem State.framePeriod_flash : ∀ s n, (State.framePeriod s n).flash = s.flash := by
  intro s n; unfold State.framePeriod
  lift_lets
  extract_lets
  split
  · rfl
  · rw [State.setPort_flash]

@[simp] theorem State.retrain_flash : ∀ x0 x1, (State.retrain x0 x1).flash = x0.flash := by
  intro x0 x1
  unfold State.retrain
  simp

@[simp] theorem State.replay_flash : ∀ x0 x1, (State.replay x0 x1).flash = x0.flash := by
  intro x0 x1
  unfold State.replay
  simp

@[simp] theorem State.replayLate_flash : ∀ x0 x1, (State.replayLate x0 x1).flash = x0.flash := by
  intro x0 x1
  unfold State.replayLate
  simp

@[simp] theorem State.ackFrames_flash : ∀ x0 x1 x2, (State.ackFrames x0 x1 x2).flash = x0.flash := by
  intro x0 x1 x2
  unfold State.ackFrames
  try dsimp -iota only
  (repeat' split) <;> simp

@[simp] theorem State.addCredits_flash : ∀ x0 x1 x2, (State.addCredits x0 x1 x2).flash = x0.flash := by
  intro x0 x1 x2
  unfold State.addCredits
  rfl

@[simp] theorem State.arrive_flash : ∀ x0 x1 x2 x3, (State.arrive x0 x1 x2 x3).flash = x0.flash := by
  intro x0 x1 x2 x3
  unfold State.arrive
  simp

@[simp] theorem State.takePackets_flash : ∀ x0 x1 x2 x3, (State.takePackets x0 x1 x2 x3).flash = x0.flash := by
  intro x0 x1 x2 x3
  unfold State.takePackets
  try dsimp -iota only
  (repeat' split) <;> simp

@[simp] theorem State.rollLane_flash : ∀ x0 x1, (State.rollLane x0 x1).flash = x0.flash := by
  intro x0 x1
  unfold State.rollLane
  simp

@[simp] theorem State.countFec_flash : ∀ x0 x1 x2, (State.countFec x0 x1 x2).flash = x0.flash := by
  intro x0 x1 x2
  unfold State.countFec
  simp

@[simp] theorem State.badFrame_flash : ∀ x0 x1, (State.badFrame x0 x1).flash = x0.flash := by
  intro x0 x1
  unfold State.badFrame
  rfl

@[simp] theorem State.frameState_flash : ∀ x0 x1 x2, (State.frameState x0 x1 x2).flash = x0.flash := by
  intro x0 x1 x2
  unfold State.frameState
  simp

@[simp] theorem State.sequenced_flash : ∀ x0 x1 x2, (State.sequenced x0 x1 x2).flash = x0.flash := by
  intro x0 x1 x2
  unfold State.sequenced
  simp

@[simp] theorem State.frameIn_flash : ∀ x0 x1 x2 x3, (State.frameIn x0 x1 x2 x3).flash = x0.flash := by
  intro x0 x1 x2 x3
  unfold State.frameIn
  simp

@[simp] theorem State.laneWindow_flash : ∀ x0 x1, (State.laneWindow x0 x1).flash = x0.flash := by
  intro x0 x1
  unfold State.laneWindow
  simp

@[simp] theorem State.portDown_flash : ∀ x0 x1 x2, (State.portDown x0 x1 x2).flash = x0.flash := by
  intro x0 x1 x2
  unfold State.portDown
  simp

@[simp] theorem State.retrained_flash : ∀ x0 x1 x2 x3 x4, (State.retrained x0 x1 x2 x3 x4).flash = x0.flash := by
  intro x0 x1 x2 x3 x4
  unfold State.retrained
  simp

@[simp] theorem State.routeBuilt_flash : ∀ x0 x1, (State.routeBuilt x0 x1).flash = x0.flash := by
  intro x0 x1
  unfold State.routeBuilt
  simp

@[simp] theorem State.answer_flash : ∀ x0 x1, (State.answer x0 x1).flash = x0.flash := by
  intro x0 x1
  unfold State.answer
  rfl

@[simp] theorem State.readHost_flash : ∀ x0 x1 x2 x3 x4 x5 x6 x7, (State.readHost x0 x1 x2 x3 x4 x5 x6 x7).flash = x0.flash := by
  intro x0 x1 x2 x3 x4 x5 x6 x7
  unfold State.readHost
  simp

@[simp] theorem State.regReadAt_flash : ∀ x0 x1 x2 x3, (State.regReadAt x0 x1 x2 x3).flash = x0.flash := by
  intro x0 x1 x2 x3
  unfold State.regReadAt
  try dsimp -iota only
  (repeat' split) <;> simp

@[simp] theorem State.dbCmd_flash : ∀ x0 x1 x2, (State.dbCmd x0 x1 x2).flash = x0.flash := by
  intro x0 x1 x2
  unfold State.dbCmd
  simp

@[simp] theorem State.dbCpl_flash : ∀ x0 x1 x2, (State.dbCpl x0 x1 x2).flash = x0.flash := by
  intro x0 x1 x2
  unfold State.dbCpl
  simp

@[simp] theorem State.irqDelayed_flash : ∀ x0 x1, (State.irqDelayed x0 x1).flash = x0.flash := by
  intro x0 x1
  unfold State.irqDelayed
  try dsimp -iota only
  (repeat' split) <;> simp

@[simp] theorem State.evqResume_flash : ∀ x0 x1, (State.evqResume x0 x1).flash = x0.flash := by
  intro x0 x1
  unfold State.evqResume
  simp

@[simp] theorem State.dbEvq_flash : ∀ x0 x1 x2, (State.dbEvq x0 x1 x2).flash = x0.flash := by
  intro x0 x1 x2
  unfold State.dbEvq
  simp

@[simp] theorem State.fnCtl_flash : ∀ x0 x1 x2, (State.fnCtl x0 x1 x2).flash = x0.flash := by
  intro x0 x1 x2
  unfold State.fnCtl
  simp

@[simp] theorem State.errClear_flash : ∀ x0 x1 x2, (State.errClear x0 x1 x2).flash = x0.flash := by
  intro x0 x1 x2
  unfold State.errClear
  simp

@[simp] theorem State.discarded_flash : ∀ x0 x1, (State.discarded x0 x1).flash = x0.flash := by
  intro x0 x1
  unfold State.discarded
  try dsimp -iota only
  (repeat' split) <;> simp

@[simp] theorem State.holdHi_flash : ∀ x0 x1 x2 x3, (State.holdHi x0 x1 x2 x3).flash = x0.flash := by
  intro x0 x1 x2 x3
  unfold State.holdHi
  try dsimp -iota only
  (repeat' split) <;> simp

@[simp] theorem State.dropHi_flash : ∀ x0 x1 x2, (State.dropHi x0 x1 x2).flash = x0.flash := by
  intro x0 x1 x2
  unfold State.dropHi
  try dsimp -iota only
  (repeat' split) <;> simp

@[simp] theorem State.startRoute_flash : ∀ x0, (State.startRoute x0).flash = x0.flash := by
  intro x0
  unfold State.startRoute
  simp

@[simp] theorem State.setCoord_flash : ∀ x0 x1 x2, (State.setCoord x0 x1 x2).flash = x0.flash := by
  intro x0 x1 x2
  unfold State.setCoord
  simp

@[simp] theorem State.coordWrite_flash : ∀ x0 x1 x2 x3, (State.coordWrite x0 x1 x2 x3).flash = x0.flash := by
  intro x0 x1 x2 x3
  unfold State.coordWrite
  simp

@[simp] theorem State.recompute0_flash : ∀ x0 x1, (State.recompute0 x0 x1).flash = x0.flash := by
  intro x0 x1
  unfold State.recompute0
  simp

@[simp] theorem State.creditWrite_flash : ∀ x0 x1 x2, (State.creditWrite x0 x1 x2).flash = x0.flash := by
  intro x0 x1 x2
  unfold State.creditWrite
  simp

@[simp] theorem State.write0_flash : ∀ x0 x1 x2 x3, (State.write0 x0 x1 x2 x3).flash = x0.flash := by
  intro x0 x1 x2 x3
  unfold State.write0
  try dsimp -iota only
  (repeat' split) <;> simp

@[simp] theorem State.baseWrite_flash : ∀ x0 x1 x2 x3, (State.baseWrite x0 x1 x2 x3).flash = x0.flash := by
  intro x0 x1 x2 x3
  unfold State.baseWrite
  simp

@[simp] theorem State.msixWrite_flash : ∀ x0 x1 x2 x3, (State.msixWrite x0 x1 x2 x3).flash = x0.flash := by
  intro x0 x1 x2 x3
  unfold State.msixWrite
  rfl

@[simp] theorem State.write2_flash : ∀ x0 x1 x2 x3, (State.write2 x0 x1 x2 x3).flash = x0.flash := by
  intro x0 x1 x2 x3
  unfold State.write2
  try dsimp -iota only
  (repeat' split) <;> simp

@[simp] theorem State.writeSb_flash : ∀ x0 x1 x2, (State.writeSb x0 x1 x2).flash = x0.flash := by
  intro x0 x1 x2
  unfold State.writeSb
  try dsimp -iota only
  (repeat' split) <;> simp

@[simp] theorem State.regWriteAt_flash : ∀ x0 x1 x2 x3, (State.regWriteAt x0 x1 x2 x3).flash = x0.flash := by
  intro x0 x1 x2 x3
  unfold State.regWriteAt
  try dsimp -iota only
  (repeat' split) <;> simp

@[simp] theorem State.logRead_flash : ∀ x0 x1 x2, (State.logRead x0 x1 x2).flash = x0.flash := by
  intro x0 x1 x2
  unfold State.logRead
  try dsimp -iota only
  (repeat' split) <;> simp

@[simp] theorem State.fetchCmd_flash : ∀ x0 x1 x2, (State.fetchCmd x0 x1 x2).flash = x0.flash := by
  intro x0 x1 x2
  unfold State.fetchCmd
  try dsimp -iota only
  (repeat' split) <;> simp

@[simp] theorem State.await_flash : ∀ x0 x1 x2, (State.await x0 x1 x2).flash = x0.flash := by
  intro x0 x1 x2
  unfold State.await
  rfl

theorem State.begin_flash : ∀ s n a b c f, (∀ x t, (f x t).flash = t.flash) → (State.begin s n a b c f).flash = s.flash := by
  intro s n a b c f h; unfold State.begin; (repeat' split) <;> simp [h]

@[simp] theorem State.cmdFault_flash : ∀ x0 x1 x2 x3 x4 x5, (State.cmdFault x0 x1 x2 x3 x4 x5).flash = x0.flash := by
  intro x0 x1 x2 x3 x4 x5
  unfold State.cmdFault
  simp

theorem State.cmdRead_flash : ∀ s n c a m f, (∀ x t, (f x t).flash = t.flash) → (State.cmdRead s n c a m f).flash = s.flash := by
  intro s n c a m f h; unfold State.cmdRead; split <;> simp [h]

@[simp] theorem State.invalid_flash : ∀ x0 x1 x2 x3, (State.invalid x0 x1 x2 x3).flash = x0.flash := by
  intro x0 x1 x2 x3
  unfold State.invalid
  simp

@[simp] theorem State.freeTag_flash : ∀ s, (State.freeTag s).2.flash = s.flash := by
  intros; unfold State.freeTag; rfl

@[simp] theorem State.setPeg_flash : ∀ x0 x1 x2 x3, (State.setPeg x0 x1 x2 x3).flash = x0.flash := by
  intro x0 x1 x2 x3
  unfold State.setPeg
  rfl

@[simp] theorem State.putPeg_flash : ∀ s c k p, (State.putPeg s c k p).flash = s.flash := by
  intro s c k p; unfold State.putPeg
  try dsimp -iota only
  split
  · simp
  · split
    · rename_i t ht; rw [State.tryWrite_flash _ _ _ _ _ _ _ _ _ ht]; simp
    · simp

@[simp] theorem State.sendBlocks_flash : ∀ s a b c d e, (State.sendBlocks s a b c d e).1.flash = s.flash := fun s a b c d e =>
  keeps_foldl (fun x : State × Bool => x.1.flash) (fun _ _ => by simp) _ _

@[simp] theorem State.sendTail_flash : ∀ r c k d p st b, (State.sendTail r c k d p st b).1.flash = r.1.flash := by
  intro r c k d p st b; unfold State.sendTail
  split
  · rfl
  · extract_lets
    split
    · rfl
    · simp +zetaDelta

@[simp] theorem State.sendWrites_flash : ∀ s c k d p st a b, (State.sendWrites s c k d p st a b).1.flash = s.flash := by
  intro s c k d p st a b
  unfold State.sendWrites
  extract_lets _ _ _ t
  refine (keeps_foldl (fun x : State × Bool => x.1.flash) (fun _ _ => by simp) _ _).trans ?_
  simp [t]

@[simp] theorem State.sendRsig_flash : ∀ x0 x1 x2 x3 x4, (State.sendRsig x0 x1 x2 x3 x4).flash = x0.flash := by
  intro x0 x1 x2 x3 x4
  unfold State.sendRsig
  simp

@[simp] theorem State.sendOwed_flash : ∀ x0 x1 x2 x3 x4 x5, (State.sendOwed x0 x1 x2 x3 x4 x5).flash = x0.flash := by
  intro x0 x1 x2 x3 x4 x5
  unfold State.sendOwed
  try dsimp -iota only
  (repeat' split) <;> simp

@[simp] theorem State.sendControl_flash : ∀ s a b c d e, (State.sendControl s a b c d e).1.flash = s.flash := by
  intros; unfold State.sendControl; simp

@[simp] theorem State.collEvent_flash : ∀ x0 x1 x2 x3 x4, (State.collEvent x0 x1 x2 x3 x4).flash = x0.flash := by
  intro x0 x1 x2 x3 x4
  unfold State.collEvent
  simp

@[simp] theorem State.spoilScratch_flash : ∀ x0 x1 x2, (State.spoilScratch x0 x1 x2).flash = x0.flash := by
  intro x0 x1 x2
  unfold State.spoilScratch
  try dsimp -iota only
  repeat' (first | (refine State.passWrite_flash _ _ _ _ _ _ (fun _ => ?_)) | (refine State.armedStream_flash _ _ _ _ (fun _ => ?_)) | (refine State.blockAgain_flash _ _ _ _ _ (fun _ _ _ => ?_)) | (refine State.cmdRead_flash _ _ _ _ _ _ (fun _ _ => ?_)) | (refine State.seqCmd_flash _ _ _ _ (fun _ => ?_)) | (refine State.namedStream_flash _ _ _ _ (fun _ => ?_)) | (refine State.migStep_flash _ _ _ _ (fun _ _ => ?_)) | (refine State.planeCheck_flash _ _ _ _ _ (fun _ _ => ?_)) | (refine State.forAll_flash _ _ _ _ (fun _ _ => ?_)) | split)
  all_goals first
      | (simp; done)
      | (apply State.forAll_flash; intros; (repeat' split) <;> simp; done)
      | (have hh := State.tryWrite_flash _ _ _ _ _ _ _ _ _ (by assumption); (try dsimp only at hh); first | (simp [hh]; done) | (simp_all; done))
      | (simp_all; done)

@[simp] theorem State.dropPeg_flash : ∀ x0 x1 x2, (State.dropPeg x0 x1 x2).flash = x0.flash := by
  intro x0 x1 x2
  unfold State.dropPeg
  rfl

@[simp] theorem State.pegFail_flash : ∀ x0 x1 x2 x3 x4, (State.pegFail x0 x1 x2 x3 x4).flash = x0.flash := by
  intro x0 x1 x2 x3 x4
  unfold State.pegFail
  simp

@[simp] theorem State.pegPageFault_flash : ∀ x0 x1 x2 x3 x4 x5, (State.pegPageFault x0 x1 x2 x3 x4 x5).flash = x0.flash := by
  intro x0 x1 x2 x3 x4 x5
  unfold State.pegPageFault
  try dsimp -iota only
  (repeat' split) <;> simp

@[simp] theorem State.pegMeets_flash : ∀ x0 x1 x2 x3 x4, (State.pegMeets x0 x1 x2 x3 x4).flash = x0.flash := by
  intro x0 x1 x2 x3 x4
  unfold State.pegMeets
  simp

theorem State.pegRead_flash : ∀ s c k b w r t, State.pegRead s c k b w r = .ok t → t.2.flash = s.flash := by
  intro s c k b w r t e
  unfold State.pegRead at e
  extract_lets at e
  split at e
  · obtain rfl := Except.ok.inj e; simp
  · cases e

theorem State.portWrite_flash : ∀ s c k a b n p h t, State.portWrite s c k a b n p h = .ok t → t.flash = s.flash := by
  intro s c k a b n p h t e
  unfold State.portWrite at e
  split at e
  · cases e
  · split at e
    · rename_i u hu
      obtain rfl := Except.ok.inj e
      simp [State.commitAll_flash _ _ _ _ _ _ hu]
    · cases e

theorem State.pegWrite_flash : ∀ s c k a b t, State.pegWrite s c k a b = .ok t → t.flash = s.flash := fun _ _ _ _ _ _ e =>
  State.portWrite_flash _ _ _ _ _ _ _ _ _ e

@[simp] theorem State.pegSent_flash : ∀ r c k, (State.pegSent r c k).flash = r.1.flash := by
  intro r c k; unfold State.pegSent; (repeat' split) <;> simp

theorem State.formResult_flash : ∀ s c k p g r v t, State.formResult s c k p g r v = .ok t → t.flash = s.flash := by
  intro s c k p g r v t e
  obtain ⟨u, hu, e⟩ := ok_of_bind e
  obtain rfl := Except.ok.inj e
  rw [← State.pegWrite_flash _ _ _ _ _ _ hu]
  split <;> simp

@[simp] theorem State.sendPartial_flash : ∀ s c k p g r v, (State.sendPartial s c k p g r v).flash = s.flash := by
  intro s c k p g r v; unfold State.sendPartial
  extract_lets; simp +zetaDelta [State.pegSent_flash]

@[simp] theorem State.reduceOwn_flash : ∀ s c k p g n, (State.reduceOwn s c k p g n).flash = s.flash := by
  intro s c k p g n; unfold State.reduceOwn
  extract_lets
  split
  · rfl
  · split
    · simp
    · rename_i hr
      have h1 := State.pegRead_flash _ _ _ _ _ _ _ hr
      dsimp only at h1
      extract_lets
      split
      · split
        · rename_i ht; rw [State.formResult_flash _ _ _ _ _ _ _ _ ht, h1]
        · simp [h1]
      · simp [h1]

@[simp] theorem State.reduceArrival_flash : ∀ s c k p g n, (State.reduceArrival s c k p g n).flash = s.flash := by
  intro s c k p g n; unfold State.reduceArrival
  extract_lets
  split
  · rfl
  · split
    · simp
    · rename_i hr
      have h1 := State.pegRead_flash _ _ _ _ _ _ _ hr
      dsimp only at h1
      extract_lets
      split
      · split
        · rename_i ht; rw [State.formResult_flash _ _ _ _ _ _ _ _ ht, h1]
        · simp [h1]
      · simp [h1]

@[simp] theorem State.finalDone_flash : ∀ s c k p g n, (State.finalDone s c k p g n).flash = s.flash := by
  intro s c k p g n; unfold State.finalDone
  extract_lets
  split <;> simp +zetaDelta [State.pegSent_flash]

@[simp] theorem State.takeArrival_flash : ∀ x0 x1 x2 x3, (State.takeArrival x0 x1 x2 x3).flash = x0.flash := by
  intro x0 x1 x2 x3
  unfold State.takeArrival
  try dsimp -iota only
  (repeat' split) <;> simp

@[simp] theorem State.moveOwn_flash : ∀ s c k p g n, (State.moveOwn s c k p g n).flash = s.flash := by
  intro s c k p g n; unfold State.moveOwn
  extract_lets
  split
  · rfl
  · split
    · simp
    · rename_i hr
      have h1 := State.pegRead_flash _ _ _ _ _ _ _ hr
      dsimp only at h1
      extract_lets
      split
      · simp +zetaDelta [State.pegSent_flash, h1]
      · split
        · split
          · simp [h1]
          · rename_i ht
            split <;> simp +zetaDelta [State.pegSent_flash, State.pegWrite_flash _ _ _ _ _ _ ht, h1]
        · split
          · simp [h1]
          · rename_i ht
            have h2 := State.foldlM_ok_flash _ _ (fun t a u x => State.pegWrite_flash _ _ _ _ _ _ x) _ _ ht
            rw [State.pegSent_flash]
            refine (keeps_foldl (fun x : State × Bool => x.1.flash) (fun _ _ => by simp) _ _).trans ?_
            simp +zetaDelta [h1, h2]

@[simp] theorem State.circulate_flash : ∀ n s c k, (State.circulate s c k n).flash = s.flash := by
  intro n
  induction n with
  | zero => intros; rfl
  | succ n ih =>
    intro s c k
    unfold State.circulate
    split
    · rfl
    · extract_lets
      split
      · simp +zetaDelta [ih]
      · split
        · rfl
        · split
          · simp
          · rename_i hr
            have h1 := State.pegRead_flash _ _ _ _ _ _ _ hr
            dsimp only at h1
            extract_lets
            rw [ih, State.pegSent_flash]
            simp +zetaDelta [h1]

@[simp] theorem State.pegWork_flash : ∀ s c k, (State.pegWork s c k).flash = s.flash := by
  intro s c k
  unfold State.pegWork
  split
  · rfl
  · extract_lets e t
    have ht : t.flash = s.flash := by simp +zetaDelta
    split
    · simp [ht]
    · split
      · exact ht
      · rw [State.forAll_flash]
        · exact ht
        · intro a x
          split
          · rfl
          · extract_lets; split <;> simp

@[simp] theorem State.pegGo_flash : ∀ s c k p, (State.pegGo s c k p).flash = s.flash := by
  intro s c k p; unfold State.pegGo; extract_lets; simp +zetaDelta

@[simp] theorem State.compareOpens_flash : ∀ x0 x1 x2 x3, (State.compareOpens x0 x1 x2 x3).flash = x0.flash := by
  intro x0 x1 x2 x3
  unfold State.compareOpens
  try dsimp -iota only
  (repeat' split) <;> simp

@[simp] theorem State.signIn_flash : ∀ x0 x1 x2 x3, (State.signIn x0 x1 x2 x3).flash = x0.flash := by
  intro x0 x1 x2 x3
  unfold State.signIn
  simp

@[simp] theorem State.pegPump_flash : ∀ s c k, (State.pegPump s c k).flash = s.flash := by
  intro s c k; unfold State.pegPump; (repeat' split) <;> simp

@[simp] theorem State.pegCheck_flash : ∀ x0 x1 x2, (State.pegCheck x0 x1 x2).flash = x0.flash := by
  intro x0 x1 x2
  unfold State.pegCheck
  try dsimp -iota only
  (repeat' split) <;> simp

@[simp] theorem State.raisePeg_flash : ∀ x0 x1 x2 x3, (State.raisePeg x0 x1 x2 x3).flash = x0.flash := by
  intro x0 x1 x2 x3
  unfold State.raisePeg
  try dsimp -iota only
  (repeat' split) <;> simp

@[simp] theorem State.raiseTile_flash : ∀ x0 x1 x2 x3, (State.raiseTile x0 x1 x2 x3).flash = x0.flash := by
  intro x0 x1 x2 x3
  unfold State.raiseTile
  try dsimp -iota only
  (repeat' split) <;> simp

@[simp] theorem State.tilesOver_flash : ∀ x0 x1 x2, (State.tilesOver x0 x1 x2).flash = x0.flash := by
  intro x0 x1 x2
  unfold State.tilesOver
  try dsimp -iota only
  (repeat' split) <;> simp

@[simp] theorem State.signal_flash : ∀ x0 x1 x2 x3, (State.signal x0 x1 x2 x3).flash = x0.flash := by
  intro x0 x1 x2 x3
  unfold State.signal
  simp

@[simp] theorem State.pegFinish_flash : ∀ x0 x1 x2, (State.pegFinish x0 x1 x2).flash = x0.flash := by
  intro x0 x1 x2
  unfold State.pegFinish
  try dsimp -iota only
  (repeat' split) <;> simp

@[simp] theorem State.pegComplete_flash : ∀ x0 x1 x2, (State.pegComplete x0 x1 x2).flash = x0.flash := by
  intro x0 x1 x2
  unfold State.pegComplete
  try dsimp -iota only
  (repeat' split) <;> simp

@[simp] theorem State.pegResume_flash : ∀ x0 x1 x2 x3, (State.pegResume x0 x1 x2 x3).flash = x0.flash := by
  intro x0 x1 x2 x3
  unfold State.pegResume
  try dsimp -iota only
  (repeat' split) <;> simp

@[simp] theorem State.pegNear_flash : ∀ x0 x1 x2, (State.pegNear x0 x1 x2).flash = x0.flash := by
  intro x0 x1 x2
  unfold State.pegNear
  simp

@[simp] theorem State.openIn_flash : ∀ x0 x1 x2 x3 x4 x5, (State.openIn x0 x1 x2 x3 x4 x5).flash = x0.flash := by
  intro x0 x1 x2 x3 x4 x5
  unfold State.openIn
  try dsimp -iota only
  (repeat' split) <;> simp

@[simp] theorem State.grantIn_flash : ∀ x0 x1 x2 x3, (State.grantIn x0 x1 x2 x3).flash = x0.flash := by
  intro x0 x1 x2 x3
  unfold State.grantIn
  try dsimp -iota only
  (repeat' split) <;> simp

@[simp] theorem State.pegLanded_flash : ∀ x0 x1 x2 x3 x4, (State.pegLanded x0 x1 x2 x3 x4).flash = x0.flash := by
  intro x0 x1 x2 x3 x4
  unfold State.pegLanded
  try dsimp -iota only
  (repeat' split) <;> simp

@[simp] theorem State.pegLate_flash : ∀ x0 x1 x2, (State.pegLate x0 x1 x2).flash = x0.flash := by
  intro x0 x1 x2
  unfold State.pegLate
  try dsimp -iota only
  (repeat' split) <;> simp

@[simp] theorem State.committed_flash : ∀ x0 x1 x2, (State.committed x0 x1 x2).flash = x0.flash := by
  intro x0 x1 x2
  unfold State.committed
  simp

@[simp] theorem State.discardRemote_flash : ∀ x0 x1 x2 x3, (State.discardRemote x0 x1 x2 x3).flash = x0.flash := by
  intro x0 x1 x2 x3
  unfold State.discardRemote
  simp

@[simp] theorem State.remoteWrite_flash : ∀ s c k, (State.remoteWrite s c k).flash = s.flash := by
  intro s c k; unfold State.remoteWrite
  split
  · rfl
  · extract_lets
    split
    · simp
    · split
      · rfl
      · split
        · rename_i ht; simp [State.portWrite_flash _ _ _ _ _ _ _ _ _ ht]
        · split <;> simp

@[simp] theorem State.remoteSignal_flash : ∀ x0 x1 x2, (State.remoteSignal x0 x1 x2).flash = x0.flash := by
  intro x0 x1 x2
  unfold State.remoteSignal
  try dsimp -iota only
  (repeat' split) <;> simp

@[simp] theorem State.dataIn_flash : ∀ x0 x1 x2 x3 x4 x5 x6 x7, (State.dataIn x0 x1 x2 x3 x4 x5 x6 x7).flash = x0.flash := by
  intro x0 x1 x2 x3 x4 x5 x6 x7
  unfold State.dataIn
  try dsimp -iota only
  (repeat' split) <;> simp

@[simp] theorem State.takeReports_flash : ∀ x0, (State.takeReports x0).flash = x0.flash := by
  intro x0
  unfold State.takeReports
  try dsimp -iota only
  (repeat' split)
  all_goals first
      | (simp; done)
      | (apply State.forAll_flash; intros; (repeat' split) <;> simp; done)
      | (simp_all; done)

@[simp] theorem State.groupDefine_flash : ∀ x0 x1 x2, (State.groupDefine x0 x1 x2).flash = x0.flash := by
  intro x0 x1 x2
  unfold State.groupDefine
  simp

@[simp] theorem State.pegLoad_flash : ∀ s n c, (State.pegLoad s n c).flash = s.flash := by
  intro s n c; unfold State.pegLoad
  extract_lets
  simp only [State.ite_flash, State.invalid_flash, State.done_flash]
  rw [State.cmdRead_flash]
  · simp only [ite_self]
  · intro bs t
    extract_lets
    simp only [State.ite_flash, State.done_flash]
    rw [State.forAll_flash]
    · simp +zetaDelta
    · intros; simp

@[simp] theorem State.pegRearm_flash : ∀ x0 x1 x2, (State.pegRearm x0 x1 x2).flash = x0.flash := by
  intro x0 x1 x2
  unfold State.pegRearm
  try dsimp -iota only
  (repeat' split) <;> simp

@[simp] theorem State.pegUnload_flash : ∀ x0 x1 x2, (State.pegUnload x0 x1 x2).flash = x0.flash := by
  intro x0 x1 x2
  unfold State.pegUnload
  simp

@[simp] theorem State.setList_flash : ∀ x0 x1, (State.setList x0 x1).flash = x0.flash := by
  intro x0 x1
  unfold State.setList
  rfl

@[simp] theorem State.setTask_flash : ∀ x0 x1, (State.setTask x0 x1).flash = x0.flash := by
  intro x0 x1
  unfold State.setTask
  try dsimp -iota only
  (repeat' split) <;> simp

@[simp] theorem State.modTask_flash : ∀ x0 x1 x2 x3 x4, (State.modTask x0 x1 x2 x3 x4).flash = x0.flash := by
  intro x0 x1 x2 x3 x4
  unfold State.modTask
  try dsimp -iota only
  (repeat' split) <;> simp

@[simp] theorem State.holdTask_flash : ∀ x0 x1 x2 x3 x4, (State.holdTask x0 x1 x2 x3 x4).flash = x0.flash := by
  intro x0 x1 x2 x3 x4
  unfold State.holdTask
  rfl

@[simp] theorem State.cancelPasses_flash : ∀ x0 x1 x2, (State.cancelPasses x0 x1 x2).flash = x0.flash := by
  intro x0 x1 x2
  unfold State.cancelPasses
  try dsimp -iota only
  (repeat' split)
  all_goals first
      | (simp; done)
      | (apply State.forAll_flash; intros; (repeat' split) <;> simp; done)
      | (simp_all; done)

@[simp] theorem State.endLaunch_flash : ∀ x0 x1 x2 x3 x4, (State.endLaunch x0 x1 x2 x3 x4).flash = x0.flash := by
  intro x0 x1 x2 x3 x4
  unfold State.endLaunch
  try dsimp -iota only
  (repeat' split) <;> simp

@[simp] theorem State.checkHalt_flash : ∀ x0 x1 x2, (State.checkHalt x0 x1 x2).flash = x0.flash := by
  intro x0 x1 x2
  unfold State.checkHalt
  try dsimp -iota only
  (repeat' split) <;> simp

@[simp] theorem State.haltList_flash : ∀ x0 x1 x2 x3 x4 x5, (State.haltList x0 x1 x2 x3 x4 x5).flash = x0.flash := by
  intro x0 x1 x2 x3 x4 x5
  unfold State.haltList
  try dsimp -iota only
  (repeat' split) <;> simp

@[simp] theorem State.sweepSwaps_flash : ∀ x0, (State.sweepSwaps x0).flash = x0.flash := by
  intro x0
  unfold State.sweepSwaps
  simp

@[simp] theorem State.freeTile_flash : ∀ x0 x1 x2, (State.freeTile x0 x1 x2).flash = x0.flash := by
  intro x0 x1 x2
  unfold State.freeTile
  simp

@[simp] theorem State.returnTile_flash : ∀ x0 x1 x2, (State.returnTile x0 x1 x2).flash = x0.flash := by
  intro x0 x1 x2
  unfold State.returnTile
  simp

@[simp] theorem State.failTask_flash : ∀ x0 x1 x2 x3 x4 x5, (State.failTask x0 x1 x2 x3 x4 x5).flash = x0.flash := by
  intro x0 x1 x2 x3 x4 x5
  unfold State.failTask
  try dsimp -iota only
  (repeat' split) <;> simp

@[simp] theorem State.failTaskFault_flash : ∀ x0 x1 x2 x3 x4 x5, (State.failTaskFault x0 x1 x2 x3 x4 x5).flash = x0.flash := by
  intro x0 x1 x2 x3 x4 x5
  unfold State.failTaskFault
  try dsimp -iota only
  (repeat' split) <;> simp

@[simp] theorem State.taskFault_flash : ∀ x0 x1 x2 x3 x4, (State.taskFault x0 x1 x2 x3 x4).flash = x0.flash := by
  intro x0 x1 x2 x3 x4
  unfold State.taskFault
  simp

@[simp] theorem State.readAhead_flash : ∀ s l i, (State.readAhead s l i).1.flash = s.flash := by
  intros; unfold State.readAhead; dsimp -iota only; (repeat' split) <;> simp

@[simp] theorem State.fetchDescriptor_flash : ∀ x0 x1 x2, (State.fetchDescriptor x0 x1 x2).flash = x0.flash := by
  intro x0 x1 x2
  unfold State.fetchDescriptor
  try dsimp -iota only
  (repeat' split) <;> simp

@[simp] theorem State.enterTask_flash : ∀ x0 x1 x2 x3, (State.enterTask x0 x1 x2 x3).flash = x0.flash := by
  intro x0 x1 x2 x3
  unfold State.enterTask
  try dsimp -iota only
  (repeat' split) <;> simp

@[simp] theorem State.startTask_flash : ∀ x0 x1 x2 x3 x4, (State.startTask x0 x1 x2 x3 x4).flash = x0.flash := by
  intro x0 x1 x2 x3 x4
  unfold State.startTask
  simp

@[simp] theorem State.lostTask_flash : ∀ x0 x1 x2, (State.lostTask x0 x1 x2).flash = x0.flash := by
  intro x0 x1 x2
  unfold State.lostTask
  simp

@[simp] theorem State.lostPair_flash : ∀ x0 x1 x2 x3, (State.lostPair x0 x1 x2 x3).flash = x0.flash := by
  intro x0 x1 x2 x3
  unfold State.lostPair
  simp

@[simp] theorem State.takeTask_flash : ∀ x0 x1 x2, (State.takeTask x0 x1 x2).flash = x0.flash := by
  intro x0 x1 x2
  unfold State.takeTask
  try dsimp -iota only
  (repeat' split) <;> simp

@[simp] theorem State.takeWait_flash : ∀ x0 x1 x2, (State.takeWait x0 x1 x2).flash = x0.flash := by
  intro x0 x1 x2
  unfold State.takeWait
  try dsimp -iota only
  (repeat' split) <;> simp

@[simp] theorem State.waitLate_flash : ∀ x0 x1 x2, (State.waitLate x0 x1 x2).flash = x0.flash := by
  intro x0 x1 x2
  unfold State.waitLate
  try dsimp -iota only
  (repeat' split) <;> simp

@[simp] theorem State.addFetch_flash : ∀ x0 x1 x2 x3 x4, (State.addFetch x0 x1 x2 x3 x4).flash = x0.flash := by
  intro x0 x1 x2 x3 x4
  unfold State.addFetch
  simp

@[simp] theorem State.fetchOperand_flash : ∀ x0 x1 x2 x3 x4, (State.fetchOperand x0 x1 x2 x3 x4).flash = x0.flash := by
  intro x0 x1 x2 x3 x4
  unfold State.fetchOperand
  simp

@[simp] theorem State.fetchTiles_flash : ∀ x0 x1 x2 x3, (State.fetchTiles x0 x1 x2 x3).flash = x0.flash := by
  intro x0 x1 x2 x3
  unfold State.fetchTiles
  try dsimp -iota only
  (repeat' split) <;> simp

@[simp] theorem State.fetchWalk_flash : ∀ x0 x1 x2, (State.fetchWalk x0 x1 x2).flash = x0.flash := by
  intro x0 x1 x2
  unfold State.fetchWalk
  try dsimp -iota only
  (repeat' split) <;> simp

@[simp] theorem State.openTask_flash : ∀ x0 x1, (State.openTask x0 x1).flash = x0.flash := by
  intro x0 x1
  unfold State.openTask
  simp

@[simp] theorem State.readTask_flash : ∀ x0 x1 x2, (State.readTask x0 x1 x2).flash = x0.flash := by
  intro x0 x1 x2
  unfold State.readTask
  try dsimp -iota only
  (repeat' split) <;> simp

theorem State.writeUnit_flash : ∀ s c a r l q b h t, State.writeUnit s c a r l q b h = .ok t → t.flash = s.flash := by
  intro s c a r l q b h t e
  unfold State.writeUnit at e
  split at e
  · rename_i u hu
    have hh := State.tryWrite_flash _ _ _ _ _ _ _ _ _ hu
    obtain rfl := Except.ok.inj e; exact hh
  · cases e

theorem State.lockAnchor_flash : ∀ k a e t, State.lockAnchor k a e = .ok t → t.1.flash = a.1.flash := by
  intro k a e t h
  unfold State.lockAnchor at h
  try dsimp -iota only [bind, Except.bind, pure, Except.pure, throw, throwThe, MonadExceptOf.throw] at h
  (repeat' split at h) <;> (first | cases h; done | skip)
  all_goals first
    | (rename_i u hu; have hh := State.writeUnit_flash _ _ _ _ _ _ _ _ _ hu; obtain rfl := Except.ok.inj h; exact hh)
theorem State.lockAll_flash (k : Task) (l : List (Nat × Nat)) : ∀ a t, l.foldlM (State.lockAnchor k) a = .ok t → t.1.flash = a.1.flash :=
  keeps_foldlM (fun a : State × List (Nat × Nat × Nat × Nat) => a.1.flash) (fun _ _ _ e => State.lockAnchor_flash _ _ _ _ e) l

@[simp] theorem State.raceEvent_flash : ∀ x0 x1 x2 x3 x4 x5, (State.raceEvent x0 x1 x2 x3 x4 x5).flash = x0.flash := by
  intro x0 x1 x2 x3 x4 x5
  unfold State.raceEvent
  simp

@[simp] theorem State.lockTask_flash : ∀ s b c, (State.lockTask s b c).flash = s.flash := by
  intro s b c; unfold State.lockTask
  split
  · rfl
  · split
    · rfl
    · split
      · simp
      · split <;> simp
      · rename_i hr
        obtain ⟨_, _, hr⟩ := ok_of_bind hr
        obtain ⟨r, hl, hr⟩ := ok_of_bind hr
        obtain ⟨_, _, hr⟩ := ok_of_bind hr
        obtain rfl := Except.ok.inj hr
        simp [State.lockAll_flash _ _ _ _ hl]

@[simp] theorem State.loadTasks_flash : ∀ x0 x1 x2, (State.loadTasks x0 x1 x2).flash = x0.flash := by
  intro x0 x1 x2
  unfold State.loadTasks
  simp

@[simp] theorem State.launch_flash : ∀ x0 x1 x2, (State.launch x0 x1 x2).flash = x0.flash := by
  intro x0 x1 x2
  unfold State.launch
  try dsimp -iota only
  (repeat' split) <;> simp

@[simp] theorem State.haltLaunch_flash : ∀ x0 x1 x2, (State.haltLaunch x0 x1 x2).flash = x0.flash := by
  intro x0 x1 x2
  unfold State.haltLaunch
  try dsimp -iota only
  (repeat' split) <;> simp

@[simp] theorem State.modScribe_flash : ∀ x0 x1, (State.modScribe x0 x1).flash = x0.flash := by
  intro x0 x1
  unfold State.modScribe
  rfl

@[simp] theorem State.delRun_flash : ∀ x0 x1, (State.delRun x0 x1).flash = x0.flash := by
  intro x0 x1
  unfold State.delRun
  rfl

@[simp] theorem State.setCheck_flash : ∀ x0 x1, (State.setCheck x0 x1).flash = x0.flash := by
  intro x0 x1
  unfold State.setCheck
  rfl

@[simp] theorem State.delCheck_flash : ∀ x0 x1, (State.delCheck x0 x1).flash = x0.flash := by
  intro x0 x1
  unfold State.delCheck
  simp

theorem State.passOne_flash : ∀ s k n t, State.passOne s k n = some t → t.flash = s.flash := by
  intro s k n t h
  unfold State.passOne at h
  refine State.foldlM_some_flash _ _ ?_ _ _ h
  intro t a u x
  try dsimp -iota only at x
  split at x
  · obtain rfl := Option.some.inj x; simp
  · cases x

@[simp] theorem State.passPos_flash : ∀ n s b c i sl, (State.passPos s b c i sl n).flash = s.flash := by
  intro n
  induction n with
  | zero => intros; rfl
  | succ n ih =>
    intro s b c i sl
    unfold State.passPos
    (repeat' split) <;> first | (simp +zetaDelta; done) | (have hh := State.passOne_flash _ _ _ _ (by assumption); simp +zetaDelta [ih, hh])

@[simp] theorem State.passList_flash : ∀ x0 x1 x2, (State.passList x0 x1 x2).flash = x0.flash := by
  intro x0 x1 x2
  unfold State.passList
  try dsimp -iota only
  (repeat' split) <;> simp

@[simp] theorem State.endClaim_flash : ∀ x0 x1, (State.endClaim x0 x1).flash = x0.flash := by
  intro x0 x1
  unfold State.endClaim
  try dsimp -iota only
  (repeat' split) <;> simp

@[simp] theorem State.returnRun_flash : ∀ x0 x1, (State.returnRun x0 x1).flash = x0.flash := by
  intro x0 x1
  unfold State.returnRun
  try dsimp -iota only
  (repeat' split) <;> simp

@[simp] theorem State.abandon_flash : ∀ x0 x1, (State.abandon x0 x1).flash = x0.flash := by
  intro x0 x1
  unfold State.abandon
  simp

@[simp] theorem State.forceClaim_flash : ∀ x0 x1, (State.forceClaim x0 x1).flash = x0.flash := by
  intro x0 x1
  unfold State.forceClaim
  try dsimp -iota only
  (repeat' split) <;> simp

@[simp] theorem State.addRun_flash : ∀ x0 x1 x2 x3 x4 x5, (State.addRun x0 x1 x2 x3 x4 x5).flash = x0.flash := by
  intro x0 x1 x2 x3 x4 x5
  unfold State.addRun
  rfl

theorem State.dupBay_flash : ∀ s a b t, State.dupBay s a b = some t → t.2.flash = s.flash := by
  intro s a b t h
  unfold State.dupBay at h
  simp only [Option.map_eq_some_iff] at h
  obtain ⟨b, _, rfl⟩ := h; simp

@[simp] theorem State.startTile_flash : ∀ x0 x1 x2 x3, (State.startTile x0 x1 x2 x3).flash = x0.flash := by
  intro x0 x1 x2 x3
  unfold State.startTile
  try dsimp -iota only
  (repeat' split)
  all_goals first
      | (simp; done)
      | (apply State.forAll_flash; intros; (repeat' split) <;> simp; done)
      | (have hh := State.dupBay_flash _ _ _ _ (by assumption); (try dsimp only at hh); first | (simp [hh]; done) | (simp_all; done))
      | (simp_all; done)

@[simp] theorem State.takeHandles_flash : ∀ x0 x1 x2, (State.takeHandles x0 x1 x2).flash = x0.flash := by
  intro x0 x1 x2
  unfold State.takeHandles
  try dsimp -iota only
  (repeat' split)
  all_goals first
      | (simp; done)
      | (apply State.forAll_flash; intros; (repeat' split) <;> simp; done)
      | (simp_all; done)

@[simp] theorem State.issueTile_flash : ∀ x0 x1 x2 x3 x4 x5, (State.issueTile x0 x1 x2 x3 x4 x5).flash = x0.flash := by
  intro x0 x1 x2 x3 x4 x5
  unfold State.issueTile
  try dsimp -iota only
  (repeat' split) <;> simp

@[simp] theorem State.runCand_flash : ∀ x0 x1 x2, (State.runCand x0 x1 x2).flash = x0.flash := by
  intro x0 x1 x2
  unfold State.runCand
  try dsimp -iota only
  (repeat' split) <;> simp

@[simp] theorem State.failStarved_flash : ∀ x0 x1, (State.failStarved x0 x1).flash = x0.flash := by
  intro x0 x1
  unfold State.failStarved
  try dsimp -iota only
  (repeat' split)
  all_goals first
      | (simp; done)
      | (apply State.forAll_flash; intros; (repeat' split) <;> simp; done)
      | (simp_all; done)

@[simp] theorem State.issueLc_flash : ∀ x0 x1 x2 x3, (State.issueLc x0 x1 x2 x3).flash = x0.flash := by
  intro x0 x1 x2 x3
  unfold State.issueLc
  try dsimp -iota only
  (repeat' split) <;> simp

@[simp] theorem State.tileIssue_flash : ∀ x0 x1, (State.tileIssue x0 x1).flash = x0.flash := by
  intro x0 x1
  unfold State.tileIssue
  try dsimp -iota only
  (repeat' split) <;> simp

@[simp] theorem State.noticeClaim_flash : ∀ x0 x1, (State.noticeClaim x0 x1).flash = x0.flash := by
  intro x0 x1
  unfold State.noticeClaim
  try dsimp -iota only
  (repeat' split) <;> simp

@[simp] theorem State.handleLate_flash : ∀ x0 x1 x2 x3, (State.handleLate x0 x1 x2 x3).flash = x0.flash := by
  intro x0 x1 x2 x3
  unfold State.handleLate
  try dsimp -iota only
  (repeat' split) <;> simp

theorem State.writeOut_flash : ∀ s c o h t, State.writeOut s c o h = .ok t → t.flash = s.flash := by
  intro s c o h t e
  exact State.foldlM_ok_flash _ _ (fun t a u x => State.tryWrite_flash _ _ _ _ _ _ _ _ _ x) _ _ e

theorem State.release_flash : ∀ s k x o t, State.release s k x o = .ok t → t.flash = s.flash := by
  intro s k x o t h
  unfold State.release at h
  dsimp -iota only [bind, Except.bind, pure, Except.pure, throw, throwThe, MonadExceptOf.throw] at h
  split at h
  · cases h
  · split at h
    · cases h
    · rename_i u hu
      have hh := State.writeOut_flash _ _ _ _ _ hu
      obtain rfl := Except.ok.inj h
      split <;> simp [hh]

@[simp] theorem State.dropTile_flash : ∀ x0 x1, (State.dropTile x0 x1).flash = x0.flash := by
  intro x0 x1
  unfold State.dropTile
  try dsimp -iota only
  (repeat' split) <;> simp

@[simp] theorem State.tileFault_flash : ∀ x0 x1 x2 x3 x4, (State.tileFault x0 x1 x2 x3 x4).flash = x0.flash := by
  intro x0 x1 x2 x3 x4
  unfold State.tileFault
  simp

@[simp] theorem State.setRun_flash : ∀ x0 x1, (State.setRun x0 x1).flash = x0.flash := by
  intro x0 x1
  unfold State.setRun
  rfl

@[simp] theorem State.yieldCore_flash : ∀ x0 x1, (State.yieldCore x0 x1).flash = x0.flash := by
  intro x0 x1
  unfold State.yieldCore
  simp

@[simp] theorem State.endRun_flash : ∀ s k r o, (State.endRun s k r o).flash = s.flash := by
  intro s k r o
  unfold State.endRun
  split
  · extract_lets t
    have ht : t.flash = s.flash := by simp +zetaDelta
    split <;> simp [ht]
  · split
    · simp
    · rename_i t ht; have hh := State.release_flash _ _ _ _ _ ht; simp [hh]

@[simp] theorem State.stopRun_flash : ∀ x0 x1 x2, (State.stopRun x0 x1 x2).flash = x0.flash := by
  intro x0 x1 x2
  unfold State.stopRun
  try dsimp -iota only
  (repeat' split) <;> simp

@[simp] theorem State.tileDone_flash : ∀ x0 x1 x2, (State.tileDone x0 x1 x2).flash = x0.flash := by
  intro x0 x1 x2
  unfold State.tileDone
  try dsimp -iota only
  (repeat' split) <;> simp

@[simp] theorem State.recheck_flash : ∀ x0 x1, (State.recheck x0 x1).flash = x0.flash := by
  intro x0 x1
  unfold State.recheck
  try dsimp -iota only
  (repeat' split) <;> simp

@[simp] theorem State.parityFail_flash : ∀ x0 x1, (State.parityFail x0 x1).flash = x0.flash := by
  intro x0 x1
  unfold State.parityFail
  try dsimp -iota only
  (repeat' split) <;> simp

@[simp] theorem State.sdcEvent_flash : ∀ x0 x1 x2 x3 x4, (State.sdcEvent x0 x1 x2 x3 x4).flash = x0.flash := by
  intro x0 x1 x2 x3 x4
  unfold State.sdcEvent
  simp

@[simp] theorem State.agreed_flash : ∀ x0 x1 x2, (State.agreed x0 x1 x2).flash = x0.flash := by
  intro x0 x1 x2
  unfold State.agreed
  rfl

@[simp] theorem State.dropCheck_flash : ∀ x0 x1 x2, (State.dropCheck x0 x1 x2).flash = x0.flash := by
  intro x0 x1 x2
  unfold State.dropCheck
  simp

@[simp] theorem State.releaseCheck_flash : ∀ s k c o, (State.releaseCheck s k c o).flash = s.flash := by
  intro s k c o; unfold State.releaseCheck
  split
  · split <;> simp
  · rename_i ht; simp [State.release_flash _ _ _ _ _ ht]

@[simp] theorem State.spotCompare_flash : ∀ s i, (State.spotCompare s i).flash = s.flash := by
  intro s i; unfold State.spotCompare
  split
  · rfl
  · split
    · split
      · rfl
      · split
        · split <;> simp
        · split
          · rfl
          · rename_i hb; simp [State.dupBay_flash _ _ _ _ hb]
    · rfl

@[simp] theorem State.outvoted_flash : ∀ x0 x1 x2 x3 x4, (State.outvoted x0 x1 x2 x3 x4).flash = x0.flash := by
  intro x0 x1 x2 x3 x4
  unfold State.outvoted
  simp

@[simp] theorem State.majority_flash : ∀ s k c o a b, (State.majority s k c o a b).flash = s.flash := by
  intro s k c o a b
  unfold State.majority
  split <;> simp

@[simp] theorem State.thirdCompare_flash : ∀ s i, (State.thirdCompare s i).flash = s.flash := by
  intro s i; unfold State.thirdCompare
  split
  · rfl
  · split
    · simp only [State.ite_flash, State.majority_flash, State.failTask_flash, State.sdcEvent_flash, State.modScribe_flash, State.dropCheck_flash, ite_self]
    · rfl

@[simp] theorem State.loftHit_flash : ∀ x0 x1, (State.loftHit x0 x1).flash = x0.flash := by
  intro x0 x1
  unfold State.loftHit
  try dsimp -iota only
  (repeat' split) <;> simp

theorem State.writeStats_flash : ∀ s k t, State.writeStats s k = .ok t → t.flash = s.flash := by
  intro s k t h
  unfold State.writeStats at h
  try dsimp -iota only [bind, Except.bind, pure, Except.pure, throw, throwThe, MonadExceptOf.throw] at h
  split at h
  · cases h
  · split at h
    · cases h
    · rename_i w hw
      split at h
      · cases h
      · rename_i v hv
        obtain rfl := Except.ok.inj h
        have step : ∀ (c : Nat) (hf : Sys2Proof.Half) (t u : State) (a : Nat) (bs : List Byte), (match t.tryWrite c a bs false false hf .module with
          | .ok u => Except.ok u
          | .error f => Except.error (TileStop.fault f.1 f.2)) = Except.ok u → u.flash = t.flash := by
          intro c hf t u a bs x
          split at x
          · rename_i y hy; obtain rfl := Except.ok.inj x; exact State.tryWrite_flash _ _ _ _ _ _ _ _ _ hy
          · cases x
        have e1 := State.foldlM_ok_flash _ _ (fun t a u x => step _ _ _ _ _ _ x) _ _ hw
        have e2 := State.foldlM_ok_flash _ _ (fun t a u x => step _ _ _ _ _ _ x) _ _ hv
        simp [e1, e2]

@[simp] theorem State.mergeStats_flash : ∀ x0 x1 x2 x3, (State.mergeStats x0 x1 x2 x3).flash = x0.flash := by
  intro x0 x1 x2 x3
  unfold State.mergeStats
  try dsimp -iota only
  (repeat' split)
  all_goals first
      | (simp; done)
      | (apply State.forAll_flash; intros; (repeat' split) <;> simp; done)
      | (have hh := State.writeStats_flash _ _ _ (by assumption); (try dsimp only at hh); first | (simp [hh]; done) | (simp_all; done))
      | (simp_all; done)

theorem State.unlock_flash : ∀ s k g t, State.unlock s k g = .ok t → t.flash = s.flash := by
  intro s k g t h
  unfold State.unlock at h
  refine State.foldlM_ok_flash _ _ ?_ _ _ h
  intro t a u x
  try dsimp -iota only [bind, Except.bind] at x
  split at x
  · cases x
  · exact State.writeUnit_flash _ _ _ _ _ _ _ _ _ x

@[simp] theorem State.leaveTask_flash : ∀ x0 x1 x2 x3 x4, (State.leaveTask x0 x1 x2 x3 x4).flash = x0.flash := by
  intro x0 x1 x2 x3 x4
  unfold State.leaveTask
  try dsimp -iota only
  (repeat' split) <;> simp

@[simp] theorem State.taskEvent_flash : ∀ x0 x1 x2, (State.taskEvent x0 x1 x2).flash = x0.flash := by
  intro x0 x1 x2
  unfold State.taskEvent
  simp

@[simp] theorem State.endUnwritten_flash : ∀ x0 x1 x2 x3, (State.endUnwritten x0 x1 x2 x3).flash = x0.flash := by
  intro x0 x1 x2 x3
  unfold State.endUnwritten
  simp

@[simp] theorem State.afterRecord_flash : ∀ x0 x1 x2, (State.afterRecord x0 x1 x2).flash = x0.flash := by
  intro x0 x1 x2
  unfold State.afterRecord
  simp

@[simp] theorem State.writeRecord_flash : ∀ x0 x1 x2, (State.writeRecord x0 x1 x2).flash = x0.flash := by
  intro x0 x1 x2
  unfold State.writeRecord
  (repeat' split)
  all_goals first
      | (simp; done)
      | (have hh := State.tryWrite_flash _ _ _ _ _ _ _ _ _ (by assumption); (try dsimp only at hh); first | (simp [hh]; done) | (simp_all; done))
      | (simp_all; done)

@[simp] theorem State.endTask_flash : ∀ x0 x1 x2, (State.endTask x0 x1 x2).flash = x0.flash := by
  intro x0 x1 x2
  unfold State.endTask
  (repeat' split)
  all_goals first
      | (simp; done)
      | (have hh := State.unlock_flash _ _ _ _ (by assumption); (try dsimp only at hh); first | (simp [hh]; done) | (simp_all; done))
      | (simp_all; done)

@[simp] theorem State.completeTask_flash : ∀ x0 x1 x2 x3, (State.completeTask x0 x1 x2 x3).flash = x0.flash := by
  intro x0 x1 x2 x3
  unfold State.completeTask
  try dsimp -iota only
  (repeat' split) <;> simp

@[simp] theorem State.setPlane_flash : ∀ x0 x1 x2 x3, (State.setPlane x0 x1 x2 x3).flash = x0.flash := by
  intro x0 x1 x2 x3
  unfold State.setPlane
  rfl

@[simp] theorem State.putPlane_flash : ∀ s c k p, (State.putPlane s c k p).flash = s.flash := by
  intro s c k p; unfold State.putPlane
  try dsimp -iota only
  split
  · rename_i t ht; rw [State.tryWrite_flash _ _ _ _ _ _ _ _ _ ht]; simp
  · simp

@[simp] theorem State.freePlane_flash : ∀ x0 x1 x2, (State.freePlane x0 x1 x2).flash = x0.flash := by
  intro x0 x1 x2
  unfold State.freePlane
  rfl

@[simp] theorem State.releasePlane_flash : ∀ x0 x1 x2 x3, (State.releasePlane x0 x1 x2 x3).flash = x0.flash := by
  intro x0 x1 x2 x3
  unfold State.releasePlane
  try dsimp -iota only
  (repeat' split) <;> simp

@[simp] theorem State.planeEnded_flash : ∀ x0 x1 x2, (State.planeEnded x0 x1 x2).flash = x0.flash := by
  intro x0 x1 x2
  unfold State.planeEnded
  try dsimp -iota only
  (repeat' split) <;> simp

@[simp] theorem State.endPlane_flash : ∀ x0 x1 x2 x3 x4, (State.endPlane x0 x1 x2 x3 x4).flash = x0.flash := by
  intro x0 x1 x2 x3 x4
  unfold State.endPlane
  simp

@[simp] theorem State.failPlane_flash : ∀ x0 x1 x2 x3 x4 x5, (State.failPlane x0 x1 x2 x3 x4 x5).flash = x0.flash := by
  intro x0 x1 x2 x3 x4 x5
  unfold State.failPlane
  simp

@[simp] theorem State.failPlaneFault_flash : ∀ x0 x1 x2 x3 x4 x5, (State.failPlaneFault x0 x1 x2 x3 x4 x5).flash = x0.flash := by
  intro x0 x1 x2 x3 x4 x5
  unfold State.failPlaneFault
  try dsimp -iota only
  (repeat' split) <;> simp

@[simp] theorem State.planeMeets_flash : ∀ x0 x1 x2 x3 x4, (State.planeMeets x0 x1 x2 x3 x4).flash = x0.flash := by
  intro x0 x1 x2 x3 x4
  unfold State.planeMeets
  simp

@[simp] theorem State.passRequests_flash : ∀ x0 x1 x2 x3 x4, (State.passRequests x0 x1 x2 x3 x4).flash = x0.flash := by
  intro x0 x1 x2 x3 x4
  unfold State.passRequests
  try dsimp -iota only
  (repeat' split)
  all_goals first
      | (simp; done)
      | (apply State.forAll_flash; intros; (repeat' split) <;> simp; done)
      | (simp_all; done)

@[simp] theorem State.planeBegin_flash : ∀ x0 x1 x2 x3, (State.planeBegin x0 x1 x2 x3).flash = x0.flash := by
  intro x0 x1 x2 x3
  unfold State.planeBegin
  try dsimp -iota only
  (repeat' split) <;> simp

@[simp] theorem State.planeWritten_flash : ∀ x0 x1 x2, (State.planeWritten x0 x1 x2).flash = x0.flash := by
  intro x0 x1 x2
  unfold State.planeWritten
  try dsimp -iota only
  (repeat' split) <;> simp

@[simp] theorem State.startPlane_flash : ∀ s c k, (State.startPlane s c k).flash = s.flash := by
  intro s c k; unfold State.startPlane
  split
  · rfl
  · split
    · rfl
    · extract_lets; split <;> simp +zetaDelta

@[simp] theorem State.asPass_flash : ∀ x0 x1 x2, (State.asPass x0 x1 x2).flash = x0.flash := by
  intro x0 x1 x2
  unfold State.asPass
  rfl

@[simp] theorem State.mappedAs_flash : ∀ t s, (State.mappedAs t s).flash = t.flash := fun _ _ => rfl

theorem State.passWrite_flash : ∀ s c i p l f, (∀ t, (f t).flash = t.flash) → (State.passWrite s c i p l f).flash = s.flash := by
  intro s c i p l f h; unfold State.passWrite
  split
  · simp
  · rename_i ht; rw [h]; exact (State.commitAll_flash _ _ _ _ _ _ ht).trans (by simp)

@[simp] theorem State.finishPlane_flash : ∀ x0 x1 x2 x3 x4 x5, (State.finishPlane x0 x1 x2 x3 x4 x5).flash = x0.flash := by
  intro x0 x1 x2 x3 x4 x5
  unfold State.finishPlane
  simp

@[simp] theorem State.normPass_flash : ∀ s c i p l, (State.normPass s c i p l).flash = s.flash := by
  intro s c i p l; unfold State.normPass
  split
  · simp
  · extract_lets; exact (State.passWrite_flash _ _ _ _ _ _ fun _ => by simp).trans (State.newId_flash s)

@[simp] theorem State.countPlane_flash : ∀ x0 x1 x2, (State.countPlane x0 x1 x2).flash = x0.flash := by
  intro x0 x1 x2
  unfold State.countPlane
  rfl

@[simp] theorem State.updatePass_flash : ∀ s c i p l, (State.updatePass s c i p l).flash = s.flash := by
  intro s c i p l; unfold State.updatePass
  extract_lets; exact State.passWrite_flash _ _ _ _ _ _ fun _ => by simp

@[simp] theorem State.endPass_flash : ∀ x0 x1 x2, (State.endPass x0 x1 x2).flash = x0.flash := by
  intro x0 x1 x2
  unfold State.endPass
  try dsimp -iota only
  (repeat' split) <;> simp

@[simp] theorem State.planeArm_flash : ∀ s n c, (State.planeArm s n c).flash = s.flash := by
  intro s n c; unfold State.planeArm
  extract_lets
  split
  · simp
  · refine State.cmdRead_flash _ _ _ _ _ _ fun _ _ => ?_
    split
    · simp
    · refine State.cmdRead_flash _ _ _ _ _ _ fun _ _ => ?_
      split
      · simp
      · split
        · simp
        · extract_lets; simp +zetaDelta

@[simp] theorem State.planeRelease_flash : ∀ x0 x1 x2, (State.planeRelease x0 x1 x2).flash = x0.flash := by
  intro x0 x1 x2
  unfold State.planeRelease
  try dsimp -iota only
  (repeat' split) <;> simp

@[simp] theorem State.bar4Answer_flash : ∀ x0 x1, (State.bar4Answer x0 x1).flash = x0.flash := by
  intro x0 x1
  unfold State.bar4Answer
  rfl

@[simp] theorem State.bar4Refuse_flash : ∀ x0 x1, (State.bar4Refuse x0 x1).flash = x0.flash := by
  intro x0 x1
  unfold State.bar4Refuse
  simp

@[simp] theorem State.bar4Lost_flash : ∀ x0 x1 x2 x3 x4, (State.bar4Lost x0 x1 x2 x3 x4).flash = x0.flash := by
  intro x0 x1 x2 x3 x4
  unfold State.bar4Lost
  simp

@[simp] theorem State.bar4Fault_flash : ∀ s q f w, (State.bar4Fault s q f w).1.flash = s.flash := by
  intros; unfold State.bar4Fault; split <;> simp

@[simp] theorem State.bar4Serve_flash : ∀ s q, (State.bar4Serve s q).1.flash = s.flash := by
  intros; unfold State.bar4Serve; dsimp -iota only
  (repeat' split) <;> first | (simp; done) | (rename_i t ht; exact State.tryWrite_flash _ _ _ _ _ _ _ _ _ ht)

@[simp] theorem State.bar4Pump_flash : ∀ n s, (State.bar4Pump s n).flash = s.flash := by
  intro n
  induction n with
  | zero => intros; rfl
  | succ n ih =>
    intro s
    unfold State.bar4Pump
    split
    · rfl
    · extract_lets; split <;> simp +zetaDelta [ih]

@[simp] theorem State.bar4Run_flash : ∀ x0, (State.bar4Run x0).flash = x0.flash := by
  intro x0
  unfold State.bar4Run
  simp

@[simp] theorem State.bar4Take_flash : ∀ x0 x1 x2 x3 x4, (State.bar4Take x0 x1 x2 x3 x4).flash = x0.flash := by
  intro x0 x1 x2 x3 x4
  unfold State.bar4Take
  simp

@[simp] theorem State.idleAll_flash : ∀ x0, (State.idleAll x0).flash = x0.flash := by
  intro x0
  unfold State.idleAll
  simp

@[simp] theorem State.xferEvent_flash : ∀ x0 x1 x2 x3, (State.xferEvent x0 x1 x2 x3).flash = x0.flash := by
  intro x0 x1 x2 x3
  unfold State.xferEvent
  simp

@[simp] theorem State.hostStore_flash : ∀ x0 x1 x2, (State.hostStore x0 x1 x2).flash = x0.flash := by
  intro x0 x1 x2
  unfold State.hostStore
  rfl

@[simp] theorem State.xferOut_flash : ∀ x0 x1 x2, (State.xferOut x0 x1 x2).flash = x0.flash := by
  intro x0 x1 x2
  unfold State.xferOut
  try dsimp -iota only
  (repeat' split) <;> simp

@[simp] theorem State.xferStart_flash : ∀ x0 x1 x2, (State.xferStart x0 x1 x2).flash = x0.flash := by
  intro x0 x1 x2
  unfold State.xferStart
  try dsimp -iota only
  (repeat' split) <;> simp

@[simp] theorem State.hostData_flash : ∀ x0 x1 x2 x3, (State.hostData x0 x1 x2 x3).flash = x0.flash := by
  intro x0 x1 x2 x3
  unfold State.hostData
  try dsimp -iota only
  (repeat' split)
  all_goals first
      | (simp; done)
      | (apply State.forAll_flash; intros; (repeat' split) <;> simp; done)
      | (have hh := State.tryWrite_flash _ _ _ _ _ _ _ _ _ (by assumption); (try dsimp only at hh); first | (simp [hh]; done) | (simp_all; done))
      | (simp_all; done)

@[simp] theorem State.writeStash_flash : ∀ s c, (State.writeStash s c).flash = s.flash := by
  intro s c; unfold State.writeStash
  split
  · rfl
  · split
    · rename_i t ht; rw [State.tryWrite_flash _ _ _ _ _ _ _ _ _ ht]
    · simp

@[simp] theorem State.resumeStream_flash : ∀ x0 x1 x2 x3, (State.resumeStream x0 x1 x2 x3).flash = x0.flash := by
  intro x0 x1 x2 x3
  unfold State.resumeStream
  try dsimp -iota only
  (repeat' split) <;> simp

@[simp] theorem State.resume_flash : ∀ x0 x1, (State.resume x0 x1).flash = x0.flash := by
  intro x0 x1
  unfold State.resume
  try dsimp -iota only
  (repeat' split) <;> simp

@[simp] theorem State.resolveFault_flash : ∀ x0 x1, (State.resolveFault x0 x1).flash = x0.flash := by
  intro x0 x1
  unfold State.resolveFault
  try dsimp -iota only
  (repeat' split) <;> simp

@[simp] theorem State.streamUnwritten_flash : ∀ x0 x1 x2 x3, (State.streamUnwritten x0 x1 x2 x3).flash = x0.flash := by
  intro x0 x1 x2 x3
  unfold State.streamUnwritten
  simp

@[simp] theorem State.taskUnresolved_flash : ∀ x0 x1 x2 x3 x4, (State.taskUnresolved x0 x1 x2 x3 x4).flash = x0.flash := by
  intro x0 x1 x2 x3 x4
  unfold State.taskUnresolved
  try dsimp -iota only
  (repeat' split) <;> simp

@[simp] theorem State.tileUnresolved_flash : ∀ x0 x1 x2 x3 x4 x5 x6, (State.tileUnresolved x0 x1 x2 x3 x4 x5 x6).flash = x0.flash := by
  intro x0 x1 x2 x3 x4 x5 x6
  unfold State.tileUnresolved
  simp

@[simp] theorem State.cmdUnresolved_flash : ∀ x0 x1 x2 x3 x4, (State.cmdUnresolved x0 x1 x2 x3 x4).flash = x0.flash := by
  intro x0 x1 x2 x3 x4
  unfold State.cmdUnresolved
  simp

@[simp] theorem State.giveUp_flash : ∀ x0 x1 x2 x3, (State.giveUp x0 x1 x2 x3).flash = x0.flash := by
  intro x0 x1 x2 x3
  unfold State.giveUp
  try dsimp -iota only
  (repeat' split) <;> simp

@[simp] theorem State.faultLate_flash : ∀ x0 x1, (State.faultLate x0 x1).flash = x0.flash := by
  intro x0 x1
  unfold State.faultLate
  try dsimp -iota only
  (repeat' split) <;> simp

@[simp] theorem State.addPage_flash : ∀ x0 x1 x2 x3 x4 x5 x6 x7 x8, (State.addPage x0 x1 x2 x3 x4 x5 x6 x7 x8).flash = x0.flash := by
  intro x0 x1 x2 x3 x4 x5 x6 x7 x8
  unfold State.addPage
  rfl

@[simp] theorem State.unmapWhere_flash : ∀ x0 x1, (State.unmapWhere x0 x1).flash = x0.flash := by
  intro x0 x1
  unfold State.unmapWhere
  rfl

theorem State.clearLayers_flash : ∀ s c d l h t, State.clearLayers s c d l h = .ok t → t.flash = s.flash := by
  intro s c d l h t e
  refine State.foldlM_ok_flash _ _ (fun t a u x => ?_) _ _ e
  obtain ⟨v, hv, x⟩ := ok_of_bind x
  rw [State.tryWrite_flash _ _ _ _ _ _ _ _ _ x, State.tryWrite_flash _ _ _ _ _ _ _ _ _ hv]

@[simp] theorem State.stashArm_flash : ∀ s n c, (State.stashArm s n c).flash = s.flash := by
  intro s n c; unfold State.stashArm
  extract_lets
  split
  · simp
  · split
    · simp
    · refine State.cmdRead_flash _ _ _ _ _ _ fun _ _ => ?_
      split
      · simp
      · refine State.cmdRead_flash _ _ _ _ _ _ fun _ _ => ?_
        extract_lets
        split
        · simp
        · split
          · simp
          · split
            · simp
            · rename_i ht; simp [State.clearLayers_flash _ _ _ _ _ _ ht]

@[simp] theorem State.stashReset_flash : ∀ s n c, (State.stashReset s n c).flash = s.flash := by
  intro s n c; unfold State.stashReset
  split
  · simp
  · split
    · simp
    · refine State.cmdRead_flash _ _ _ _ _ _ fun _ _ => ?_
      split
      · simp
      · rename_i ht; extract_lets; simp +zetaDelta [State.clearLayers_flash _ _ _ _ _ _ ht]

@[simp] theorem State.stashRelease_flash : ∀ x0 x1 x2, (State.stashRelease x0 x1 x2).flash = x0.flash := by
  intro x0 x1 x2
  unfold State.stashRelease
  try dsimp -iota only
  (repeat' split) <;> simp

@[simp] theorem State.slotGivesUp_flash : ∀ x0 x1 x2 x3 x4, (State.slotGivesUp x0 x1 x2 x3 x4).flash = x0.flash := by
  intro x0 x1 x2 x3 x4
  unfold State.slotGivesUp
  simp

@[simp] theorem State.claimStarts_flash : ∀ x0 x1 x2 x3, (State.claimStarts x0 x1 x2 x3).flash = x0.flash := by
  intro x0 x1 x2 x3
  unfold State.claimStarts
  rfl

@[simp] theorem State.claimFull_flash : ∀ x0 x1 x2 x3 x4, (State.claimFull x0 x1 x2 x3 x4).flash = x0.flash := by
  intro x0 x1 x2 x3 x4
  unfold State.claimFull
  simp

@[simp] theorem State.claimSized_flash : ∀ x0 x1 x2 x3 x4 x5, (State.claimSized x0 x1 x2 x3 x4 x5).flash = x0.flash := by
  intro x0 x1 x2 x3 x4 x5
  unfold State.claimSized
  simp

@[simp] theorem State.stashClaim_flash : ∀ x0 x1, (State.stashClaim x0 x1).flash = x0.flash := by
  intro x0 x1
  unfold State.stashClaim
  try dsimp -iota only
  (repeat' split) <;> simp

@[simp] theorem State.mapSlot_flash : ∀ x0 x1 x2 x3 x4 x5, (State.mapSlot x0 x1 x2 x3 x4 x5).flash = x0.flash := by
  intro x0 x1 x2 x3 x4 x5
  unfold State.mapSlot
  try dsimp -iota only
  (repeat' split)
  all_goals first
      | (simp; done)
      | (apply State.forAll_flash; intros; (repeat' split) <;> simp; done)
      | (simp_all; done)

@[simp] theorem State.writeOr_flash : ∀ x0 x1 x2 x3, (State.writeOr x0 x1 x2 x3).flash = x0.flash := by
  intro x0 x1 x2 x3
  unfold State.writeOr
  (repeat' split)
  all_goals first
      | (simp; done)
      | (have hh := State.tryWrite_flash _ _ _ _ _ _ _ _ _ (by assumption); (try dsimp only at hh); first | (simp [hh]; done) | (simp_all; done))
      | (simp_all; done)

@[simp] theorem State.writeLayer_flash : ∀ x0 x1 x2 x3 x4, (State.writeLayer x0 x1 x2 x3 x4).flash = x0.flash := by
  intro x0 x1 x2 x3 x4
  unfold State.writeLayer
  try dsimp -iota only
  (repeat' split) <;> simp

@[simp] theorem State.claimResumes_flash : ∀ x0, (State.claimResumes x0).flash = x0.flash := by
  intro x0
  unfold State.claimResumes
  simp

@[simp] theorem State.claimMapped_flash : ∀ x0 x1, (State.claimMapped x0 x1).flash = x0.flash := by
  intro x0 x1
  unfold State.claimMapped
  try dsimp -iota only
  (repeat' split) <;> simp

@[simp] theorem State.copyShapes_flash : ∀ x0 x1 x2, (State.copyShapes x0 x1 x2).flash = x0.flash := by
  intro x0 x1 x2
  unfold State.copyShapes
  (repeat' split)
  all_goals first
      | (simp; done)
      | (have hh := State.tryWrite_flash _ _ _ _ _ _ _ _ _ (by assumption); (try dsimp only at hh); first | (simp [hh]; done) | (simp_all; done))
      | (simp_all; done)

@[simp] theorem State.dropDone_flash : ∀ x0 x1, (State.dropDone x0 x1).flash = x0.flash := by
  intro x0 x1
  unfold State.dropDone
  try dsimp -iota only
  (repeat' split) <;> simp

@[simp] theorem State.slotRelease_flash : ∀ x0 x1 x2 x3, (State.slotRelease x0 x1 x2 x3).flash = x0.flash := by
  intro x0 x1 x2 x3
  unfold State.slotRelease
  simp

@[simp] theorem State.admitCtx_flash : ∀ x0 x1, (State.admitCtx x0 x1).flash = x0.flash := by
  intro x0 x1
  unfold State.admitCtx
  rfl

@[simp] theorem State.ctxAdmit_flash : ∀ x0 x1 x2, (State.ctxAdmit x0 x1 x2).flash = x0.flash := by
  intro x0 x1 x2
  unfold State.ctxAdmit
  try dsimp -iota only
  (repeat' split) <;> simp

theorem State.placePages_flash : ∀ l s c a m t, State.placePages s c a m l = some t → t.flash = s.flash := by
  intro l
  induction l with
  | nil => intro s c a m t e; simp only [State.placePages, Option.some.injEq] at e; subst e; rfl
  | cons v r ih =>
    intro s c a m t e
    obtain ⟨v, hf⟩ := v
    simp only [State.placePages] at e
    split at e
    · cases e
    · split at e
      · rw [ih _ _ _ _ _ e]; simp
      · split at e
        · cases e
        · rw [ih _ _ _ _ _ e]; simp

theorem State.mapYard_flash : ∀ s c a l t, State.mapYard s c a l = .ok t → t.flash = s.flash := by
  intro s c a l t e
  unfold State.mapYard at e
  extract_lets at e
  split at e
  · exact absurd e (by simp)
  · split at e
    · rename_i u hu; obtain rfl := Except.ok.inj e; exact State.placePages_flash _ _ _ _ _ _ hu
    · cases e

theorem State.mapLoft_flash : ∀ l s c a t, State.mapLoft s c a l = .ok t → t.flash = s.flash := by
  intro l
  induction l with
  | nil => intro s c a t e; simp only [State.mapLoft, Except.ok.injEq] at e; subst e; rfl
  | cons v r ih =>
    intro s c a t e
    simp only [State.mapLoft] at e
    split at e
    · cases e
    · rw [ih _ _ _ _ e]; simp

@[simp] theorem State.mapBench_flash : ∀ x0 x1 x2 x3, (State.mapBench x0 x1 x2 x3).flash = x0.flash := by
  intro x0 x1 x2 x3
  unfold State.mapBench
  rfl

@[simp] theorem State.mapCmd_flash : ∀ s n c, (State.mapCmd s n c).flash = s.flash := by
  intro s n c
  unfold State.mapCmd
  extract_lets a len attr
  split
  · simp +zetaDelta
  · split
    · rename_i t ht
      have hh : t.flash = s.flash := by
        split at ht
        · obtain rfl := Except.ok.inj ht; simp +zetaDelta
        · split at ht
          · exact State.mapLoft_flash _ _ _ _ _ ht
          · exact State.mapYard_flash _ _ _ _ _ ht
      simp +zetaDelta [hh]
    · simp +zetaDelta

@[simp] theorem State.freeLoft_flash : ∀ x0 x1, (State.freeLoft x0 x1).flash = x0.flash := by
  intro x0 x1
  unfold State.freeLoft
  rfl

@[simp] theorem State.unmapRange_flash : ∀ x0 x1 x2 x3, (State.unmapRange x0 x1 x2 x3).flash = x0.flash := by
  intro x0 x1 x2 x3
  unfold State.unmapRange
  simp

@[simp] theorem State.unmapCmd_flash : ∀ x0 x1 x2, (State.unmapCmd x0 x1 x2).flash = x0.flash := by
  intro x0 x1 x2
  unfold State.unmapCmd
  try dsimp -iota only
  (repeat' split) <;> simp

@[simp] theorem State.dropRuns_flash : ∀ x0 x1, (State.dropRuns x0 x1).flash = x0.flash := by
  intro x0 x1
  unfold State.dropRuns
  simp

@[simp] theorem State.dropClaims_flash : ∀ x0 x1, (State.dropClaims x0 x1).flash = x0.flash := by
  intro x0 x1
  unfold State.dropClaims
  rfl

@[simp] theorem State.endStream_flash : ∀ x0 x1 x2, (State.endStream x0 x1 x2).flash = x0.flash := by
  intro x0 x1 x2
  unfold State.endStream
  try dsimp -iota only
  (repeat' split) <;> simp

@[simp] theorem State.startSwitch_flash : ∀ x0 x1 x2 x3, (State.startSwitch x0 x1 x2 x3).flash = x0.flash := by
  intro x0 x1 x2 x3
  unfold State.startSwitch
  simp

@[simp] theorem State.ctxRelease_flash : ∀ x0 x1 x2, (State.ctxRelease x0 x1 x2).flash = x0.flash := by
  intro x0 x1 x2
  unfold State.ctxRelease
  simp

@[simp] theorem State.abortCmds_flash : ∀ x0 x1 x2, (State.abortCmds x0 x1 x2).flash = x0.flash := by
  intro x0 x1 x2
  unfold State.abortCmds
  simp

@[simp] theorem State.clearCtx_flash : ∀ x0 x1, (State.clearCtx x0 x1).flash = x0.flash := by
  intro x0 x1
  unfold State.clearCtx
  try dsimp -iota only
  (repeat' split) <;> simp

@[simp] theorem State.armStream_flash : ∀ x0 x1 x2 x3 x4 x5 x6 x7, (State.armStream x0 x1 x2 x3 x4 x5 x6 x7).flash = x0.flash := by
  intro x0 x1 x2 x3 x4 x5 x6 x7
  unfold State.armStream
  simp

@[simp] theorem State.streamArm_flash : ∀ s n c, (State.streamArm s n c).flash = s.flash := by
  intro s n c; unfold State.streamArm
  extract_lets
  split
  · simp
  · refine State.cmdRead_flash _ _ _ _ _ _ fun _ _ => ?_
    (repeat' split) <;> simp

theorem State.namedStream_flash : ∀ s n c f, (∀ x, (f x).flash = s.flash) → (State.namedStream s n c f).flash = s.flash := by
  intro s n c f h; unfold State.namedStream; dsimp -iota only; (repeat' split) <;> simp [h]

theorem State.armedStream_flash : ∀ s n c f, (∀ x, (f x).flash = s.flash) → (State.armedStream s n c f).flash = s.flash := by
  intro s n c f h; unfold State.armedStream
  refine State.namedStream_flash _ _ _ _ fun _ => ?_
  split <;> simp [h]

@[simp] theorem State.streamRearm_flash : ∀ x0 x1 x2, (State.streamRearm x0 x1 x2).flash = x0.flash := by
  intro x0 x1 x2
  unfold State.streamRearm
  try dsimp -iota only
  repeat' (first | (refine State.passWrite_flash _ _ _ _ _ _ (fun _ => ?_)) | (refine State.armedStream_flash _ _ _ _ (fun _ => ?_)) | (refine State.blockAgain_flash _ _ _ _ _ (fun _ _ _ => ?_)) | (refine State.cmdRead_flash _ _ _ _ _ _ (fun _ _ => ?_)) | (refine State.seqCmd_flash _ _ _ _ (fun _ => ?_)) | (refine State.namedStream_flash _ _ _ _ (fun _ => ?_)) | (refine State.migStep_flash _ _ _ _ (fun _ _ => ?_)) | (refine State.planeCheck_flash _ _ _ _ _ (fun _ _ => ?_)) | (refine State.forAll_flash _ _ _ _ (fun _ _ => ?_)) | split)
  all_goals first
      | (simp; done)
      | (apply State.forAll_flash; intros; (repeat' split) <;> simp; done)
      | (simp_all; done)

@[simp] theorem State.streamCancel_flash : ∀ x0 x1 x2, (State.streamCancel x0 x1 x2).flash = x0.flash := by
  intro x0 x1 x2
  unfold State.streamCancel
  try dsimp -iota only
  repeat' (first | (refine State.passWrite_flash _ _ _ _ _ _ (fun _ => ?_)) | (refine State.armedStream_flash _ _ _ _ (fun _ => ?_)) | (refine State.blockAgain_flash _ _ _ _ _ (fun _ _ _ => ?_)) | (refine State.cmdRead_flash _ _ _ _ _ _ (fun _ _ => ?_)) | (refine State.seqCmd_flash _ _ _ _ (fun _ => ?_)) | (refine State.namedStream_flash _ _ _ _ (fun _ => ?_)) | (refine State.migStep_flash _ _ _ _ (fun _ _ => ?_)) | (refine State.planeCheck_flash _ _ _ _ _ (fun _ _ => ?_)) | (refine State.forAll_flash _ _ _ _ (fun _ _ => ?_)) | split)
  all_goals first
      | (simp; done)
      | (apply State.forAll_flash; intros; (repeat' split) <;> simp; done)
      | (simp_all; done)

@[simp] theorem State.streamRestart_flash : ∀ x0 x1 x2, (State.streamRestart x0 x1 x2).flash = x0.flash := by
  intro x0 x1 x2
  unfold State.streamRestart
  try dsimp -iota only
  repeat' (first | (refine State.passWrite_flash _ _ _ _ _ _ (fun _ => ?_)) | (refine State.armedStream_flash _ _ _ _ (fun _ => ?_)) | (refine State.blockAgain_flash _ _ _ _ _ (fun _ _ _ => ?_)) | (refine State.cmdRead_flash _ _ _ _ _ _ (fun _ _ => ?_)) | (refine State.seqCmd_flash _ _ _ _ (fun _ => ?_)) | (refine State.namedStream_flash _ _ _ _ (fun _ => ?_)) | (refine State.migStep_flash _ _ _ _ (fun _ _ => ?_)) | (refine State.planeCheck_flash _ _ _ _ _ (fun _ _ => ?_)) | (refine State.forAll_flash _ _ _ _ (fun _ _ => ?_)) | split)
  all_goals first
      | (simp; done)
      | (apply State.forAll_flash; intros; (repeat' split) <;> simp; done)
      | (simp_all; done)

@[simp] theorem State.streamRelease_flash : ∀ x0 x1 x2, (State.streamRelease x0 x1 x2).flash = x0.flash := by
  intro x0 x1 x2
  unfold State.streamRelease
  try dsimp -iota only
  repeat' (first | (refine State.passWrite_flash _ _ _ _ _ _ (fun _ => ?_)) | (refine State.armedStream_flash _ _ _ _ (fun _ => ?_)) | (refine State.blockAgain_flash _ _ _ _ _ (fun _ _ _ => ?_)) | (refine State.cmdRead_flash _ _ _ _ _ _ (fun _ _ => ?_)) | (refine State.seqCmd_flash _ _ _ _ (fun _ => ?_)) | (refine State.namedStream_flash _ _ _ _ (fun _ => ?_)) | (refine State.migStep_flash _ _ _ _ (fun _ _ => ?_)) | (refine State.planeCheck_flash _ _ _ _ _ (fun _ _ => ?_)) | (refine State.forAll_flash _ _ _ _ (fun _ _ => ?_)) | split)
  all_goals first
      | (simp; done)
      | (apply State.forAll_flash; intros; (repeat' split) <;> simp; done)
      | (simp_all; done)

theorem State.seqCmd_flash : ∀ s n c f, (∀ x, (f x).flash = s.flash) → (State.seqCmd s n c f).flash = s.flash := by
  intro s n c f h; unfold State.seqCmd; dsimp -iota only; (repeat' split) <;> simp [h]

@[simp] theorem State.seqControl_flash : ∀ s n c, (State.seqControl s n c).flash = s.flash := by
  intro s n c; unfold State.seqControl
  refine State.seqCmd_flash _ _ _ _ fun _ => State.cmdRead_flash _ _ _ _ _ _ fun _ _ => ?_
  split
  · simp
  · extract_lets; simp +zetaDelta

@[simp] theorem State.seqWrite_flash : ∀ s n c, (State.seqWrite s n c).flash = s.flash := by
  intro s n c; unfold State.seqWrite
  refine State.seqCmd_flash _ _ _ _ fun _ => ?_
  split
  · simp
  · refine State.cmdRead_flash _ _ _ _ _ _ fun _ _ => ?_
    extract_lets
    split <;> simp

@[simp] theorem State.seqRead_flash : ∀ x0 x1 x2, (State.seqRead x0 x1 x2).flash = x0.flash := by
  intro x0 x1 x2
  unfold State.seqRead
  try dsimp -iota only
  repeat' (first | (refine State.passWrite_flash _ _ _ _ _ _ (fun _ => ?_)) | (refine State.armedStream_flash _ _ _ _ (fun _ => ?_)) | (refine State.blockAgain_flash _ _ _ _ _ (fun _ _ _ => ?_)) | (refine State.cmdRead_flash _ _ _ _ _ _ (fun _ _ => ?_)) | (refine State.seqCmd_flash _ _ _ _ (fun _ => ?_)) | (refine State.namedStream_flash _ _ _ _ (fun _ => ?_)) | (refine State.migStep_flash _ _ _ _ (fun _ _ => ?_)) | (refine State.planeCheck_flash _ _ _ _ _ (fun _ _ => ?_)) | (refine State.forAll_flash _ _ _ _ (fun _ _ => ?_)) | split)
  all_goals first
      | (simp; done)
      | (apply State.forAll_flash; intros; (repeat' split) <;> simp; done)
      | (have hh := State.tryWrite_flash _ _ _ _ _ _ _ _ _ (by assumption); (try dsimp only at hh); first | (simp [hh]; done) | (simp_all; done))
      | (simp_all; done)

@[simp] theorem State.buildStart_flash : ∀ x0 x1, (State.buildStart x0 x1).flash = x0.flash := by
  intro x0 x1
  unfold State.buildStart
  try dsimp -iota only
  (repeat' split) <;> simp

theorem State.buildAll_flash : ∀ s c r n t, State.buildAll s c r n = .ok t → t.1.flash = s.flash := by
  intro s c r n t e
  obtain ⟨_, _, e⟩ := ok_of_bind e
  obtain ⟨u, hu, e⟩ := ok_of_bind e
  obtain ⟨v, hv, e⟩ := ok_of_bind e
  obtain rfl := Except.ok.inj e
  simp [State.tryWrite_flash _ _ _ _ _ _ _ _ _ hv, State.tryWrite_flash _ _ _ _ _ _ _ _ _ hu]

@[simp] theorem State.buildDone_flash : ∀ s c, (State.buildDone s c).flash = s.flash := by
  intro s c
  unfold State.buildDone
  extract_lets
  split
  · rfl
  · split
    · rfl
    · split
      · rfl
      · rename_i ht; have hh := State.buildAll_flash _ _ _ _ _ ht
        dsimp only at hh
        simp +zetaDelta only [State.ite_flash, State.postCtx_flash, State.raisePeg_flash, State.semAdd_flash, State.modCtx_flash, State.newId_flash, hh, ite_self]

theorem State.swapWrites_flash : ∀ s c a x t, State.swapWrites s c a x = .ok t → t.flash = s.flash := by
  intro s c a x t e
  obtain ⟨u, hu, e⟩ := ok_of_bind e
  rw [State.tryWrite_flash _ _ _ _ _ _ _ _ _ e, State.tryWrite_flash _ _ _ _ _ _ _ _ _ hu]

@[simp] theorem State.ledgerSwap_flash : ∀ s n c, (State.ledgerSwap s n c).flash = s.flash := by
  intro s n c; unfold State.ledgerSwap
  extract_lets
  split
  · simp
  · refine State.cmdRead_flash _ _ _ _ _ _ fun _ _ => ?_
    extract_lets
    split
    · simp
    · split
      · simp
      · split
        · simp
        · rename_i ht; simp [State.swapWrites_flash _ _ _ _ _ ht]

@[simp] theorem State.resetFn_flash : ∀ x0 x1, (State.resetFn x0 x1).flash = x0.flash := by
  intro x0 x1
  unfold State.resetFn
  rfl

@[simp] theorem State.ideClear_flash : ∀ x0 x1, (State.ideClear x0 x1).flash = x0.flash := by
  intro x0 x1
  unfold State.ideClear
  rfl

@[simp] theorem State.dropRequests_flash : ∀ x0 x1, (State.dropRequests x0 x1).flash = x0.flash := by
  intro x0 x1
  unfold State.dropRequests
  rfl

@[simp] theorem State.flrVf_flash : ∀ x0 x1, (State.flrVf x0 x1).flash = x0.flash := by
  intro x0 x1
  unfold State.flrVf
  try dsimp -iota only
  (repeat' split) <;> simp

@[simp] theorem State.forgetPf0_flash : ∀ x0, (State.forgetPf0 x0).flash = x0.flash := by
  intro x0
  unfold State.forgetPf0
  rfl

@[simp] theorem State.flrPf0_flash : ∀ x0, (State.flrPf0 x0).flash = x0.flash := by
  intro x0
  unfold State.flrPf0
  rfl

@[simp] theorem State.flrVfs_flash : ∀ x0, (State.flrVfs x0).flash = x0.flash := by
  intro x0
  unfold State.flrVfs
  simp

@[simp] theorem State.vfOff_flash : ∀ x0, (State.vfOff x0).flash = x0.flash := by
  intro x0
  unfold State.vfOff
  simp

@[simp] theorem State.conventional_flash : ∀ x0 x1, (State.conventional x0 x1).flash = x0.flash := by
  intro x0 x1
  unfold State.conventional
  try dsimp -iota only
  (repeat' split) <;> simp

@[simp] theorem State.linkTrained_flash : ∀ x0 x1 x2, (State.linkTrained x0 x1 x2).flash = x0.flash := by
  intro x0 x1 x2
  unfold State.linkTrained
  rfl

@[simp] theorem State.access_flash : ∀ x0 x1 x2, (State.access x0 x1 x2).flash = x0.flash := by
  intro x0 x1 x2
  unfold State.access
  try dsimp -iota only
  (repeat' split) <;> simp

@[simp] theorem State.configure_flash : ∀ x0 x1 x2, (State.configure x0 x1 x2).flash = x0.flash := by
  intro x0 x1 x2
  unfold State.configure
  simp

@[simp] theorem State.giveHost_flash : ∀ s n c a b r, (State.giveHost s n c a b r).flash = s.flash := by
  intro s n c a b r; unfold State.giveHost; extract_lets; split <;> simp +zetaDelta

@[simp] theorem State.floorplanGet_flash : ∀ x0 x1 x2, (State.floorplanGet x0 x1 x2).flash = x0.flash := by
  intro x0 x1 x2
  unfold State.floorplanGet
  simp

@[simp] theorem State.topoGet_flash : ∀ x0 x1 x2, (State.topoGet x0 x1 x2).flash = x0.flash := by
  intro x0 x1 x2
  unfold State.topoGet
  simp

@[simp] theorem State.powerLimit_flash : ∀ x0 x1 x2, (State.powerLimit x0 x1 x2).flash = x0.flash := by
  intro x0 x1 x2
  unfold State.powerLimit
  simp

@[simp] theorem State.attest_flash : ∀ x0 x1 x2, (State.attest x0 x1 x2).flash = x0.flash := by
  intro x0 x1 x2
  unfold State.attest
  simp

@[simp] theorem State.countSignature_flash : ∀ x0, (State.countSignature x0).flash = x0.flash := by
  intro x0
  unfold State.countSignature
  rfl

@[simp] theorem State.attestDone_flash : ∀ x0 x1 x2, (State.attestDone x0 x1 x2).flash = x0.flash := by
  intro x0 x1 x2
  unfold State.attestDone
  try dsimp -iota only
  (repeat' split) <;> simp

@[simp] theorem State.spdmDone_flash : ∀ x0 x1 x2, (State.spdmDone x0 x1 x2).flash = x0.flash := by
  intro x0 x1 x2
  unfold State.spdmDone
  try dsimp -iota only
  (repeat' split) <;> simp

@[simp] theorem State.sillOp_flash : ∀ x0 x1, (State.sillOp x0 x1).flash = x0.flash := by
  intro x0 x1
  unfold State.sillOp
  try dsimp -iota only
  (repeat' split) <;> simp

@[simp] theorem State.fwUpdate_flash : ∀ x0 x1 x2, (State.fwUpdate x0 x1 x2).flash = x0.flash := by
  intro x0 x1 x2
  unfold State.fwUpdate
  simp

@[simp] theorem State.updateEnds_flash : ∀ x0, (State.updateEnds x0).flash = x0.flash := by
  intro x0
  unfold State.updateEnds
  rfl

@[simp] theorem State.withFetchWord_flash : ∀ x0 x1 x2, (State.withFetchWord x0 x1 x2).flash = x0.flash := by
  intro x0 x1 x2
  unfold State.withFetchWord
  rfl

@[simp] theorem State.ite_variant (c : Prop) [Decidable c] (a b : State) : (ite c a b).flash.variant = ite c a.flash.variant b.flash.variant := by split <;> rfl
@[simp] theorem State.forAll_variant (α : Type) (l : List α) (f : α → State → State) (s : State) (h : ∀ a t, (f a t).flash.variant = t.flash.variant) : (forAll l f s).flash.variant = s.flash.variant := by
  unfold forAll
  induction l generalizing s with
  | nil => rfl
  | cons a l ih => simp [List.foldl, ih, h]
@[simp] theorem State.foldl_variant (α : Type) (l : List α) (f : State → α → State) (s : State) (h : ∀ a t, (f t a).flash.variant = t.flash.variant) : (l.foldl f s).flash.variant = s.flash.variant := by
  induction l generalizing s with
  | nil => rfl
  | cons a l ih => simp [List.foldl, ih, h]
@[simp] theorem State.foldr_variant (α : Type) (l : List α) (f : α → State → State) (s : State) (h : ∀ a t, (f a t).flash.variant = t.flash.variant) : (l.foldr f s).flash.variant = s.flash.variant := by
  induction l generalizing s with
  | nil => rfl
  | cons a l ih => simp [List.foldr, ih, h]

@[simp] theorem State.commitImage_variant : ∀ x0, (State.commitImage x0).flash.variant = x0.flash.variant := by
  intro x0
  unfold State.commitImage
  try dsimp -iota only
  (repeat' split) <;> simp

@[simp] theorem State.makeReady_variant : ∀ x0, (State.makeReady x0).flash.variant = x0.flash.variant := by
  intro x0
  unfold State.makeReady
  try dsimp -iota only
  (repeat' split) <;> simp

@[simp] theorem State.finishBoot_variant : ∀ x0, (State.finishBoot x0).flash.variant = x0.flash.variant := by
  intro x0
  unfold State.finishBoot
  try dsimp -iota only
  (repeat' split) <;> simp

@[simp] theorem State.resumeBoot_variant : ∀ x0, (State.resumeBoot x0).flash.variant = x0.flash.variant := by
  intro x0
  unfold State.resumeBoot
  try dsimp -iota only
  (repeat' split) <;> simp

@[simp] theorem State.bootCores_variant : ∀ x0, (State.bootCores x0).flash.variant = x0.flash.variant := by
  intro x0
  unfold State.bootCores
  try dsimp -iota only
  (repeat' split) <;> simp

@[simp] theorem State.railsGood_variant : ∀ x0, (State.railsGood x0).flash.variant = x0.flash.variant := by
  intro x0
  unfold State.railsGood
  rfl

@[simp] theorem State.startRails_variant : ∀ x0, (State.startRails x0).flash.variant = x0.flash.variant := by
  intro x0
  unfold State.startRails
  try dsimp -iota only
  (repeat' split) <;> simp

@[simp] theorem State.powerOn_variant : ∀ x0 x1 x2, (State.powerOn x0 x1 x2).flash.variant = x0.flash.variant := by
  intro x0 x1 x2
  unfold State.powerOn
  try dsimp -iota only
  (repeat' split) <;> simp

@[simp] theorem State.railGood_variant : ∀ x0 x1, (State.railGood x0 x1).flash.variant = x0.flash.variant := by
  intro x0 x1
  unfold State.railGood
  try dsimp -iota only
  (repeat' split) <;> simp

@[simp] theorem State.railLate_variant : ∀ x0 x1 x2, (State.railLate x0 x1 x2).flash.variant = x0.flash.variant := by
  intro x0 x1 x2
  unfold State.railLate
  try dsimp -iota only
  (repeat' split) <;> simp

theorem State.bootOrder_variant (s : State) : { s with flash := (bootOrder s.flash).2 }.flash.variant = s.flash.variant := by
  dsimp only
  unfold bootOrder; extract_lets; (repeat' split) <;> rfl
@[simp] theorem State.sillBoot_variant : ∀ s n, (State.sillBoot s n).flash.variant = s.flash.variant := by
  intro s n; unfold State.sillBoot
  have := State.bootOrder_variant s
  dsimp only at this
  split
  · rfl
  · split
    · simp
    · extract_lets; split <;> simpa +zetaDelta using this

@[simp] theorem State.broadcast_variant : ∀ x0 x1 x2, (State.broadcast x0 x1 x2).flash.variant = x0.flash.variant := by
  intro x0 x1 x2
  unfold State.broadcast
  try dsimp -iota only
  (repeat' split) <;> simp

@[simp] theorem State.repair_variant : ∀ x0 x1 x2, (State.repair x0 x1 x2).flash.variant = x0.flash.variant := by
  intro x0 x1 x2
  unfold State.repair
  try dsimp -iota only
  (repeat' split) <;> simp

@[simp] theorem State.coreTested_variant : ∀ x0 x1 x2, (State.coreTested x0 x1 x2).flash.variant = x0.flash.variant := by
  intro x0 x1 x2
  unfold State.coreTested
  try dsimp -iota only
  (repeat' split) <;> simp

theorem State.setSlot_variant (s : State) (n : Nat) (x : FlashPlan) : { s with flash := s.flash.setSlot n x }.flash.variant = s.flash.variant := by
  dsimp only
  unfold Flash.setSlot; split <;> rfl
@[simp] theorem State.planSigned_variant : ∀ s, (State.planSigned s).flash.variant = s.flash.variant := by
  intro s; unfold State.planSigned
  split
  · rfl
  · split
    · rfl
    · have := State.setSlot_variant s
      dsimp only at this
      extract_lets; simp +zetaDelta [this]

@[simp] theorem State.planFlashed_variant : ∀ s, (State.planFlashed s).flash.variant = s.flash.variant := by
  intro s; unfold State.planFlashed
  split
  · rfl
  · split
    · rfl
    · have := State.setSlot_variant s
      dsimp only at this
      extract_lets; split <;> simp +zetaDelta [this]

@[simp] theorem State.heartbeat_variant : ∀ x0 x1 x2 x3, (State.heartbeat x0 x1 x2 x3).flash.variant = x0.flash.variant := by
  intro x0 x1 x2 x3
  unfold State.heartbeat
  try dsimp -iota only
  (repeat' split) <;> simp

@[simp] theorem State.leaveStopped_variant : ∀ x0 x1, (State.leaveStopped x0 x1).flash.variant = x0.flash.variant := by
  intro x0 x1
  unfold State.leaveStopped
  try dsimp -iota only
  (repeat' split) <;> simp

@[simp] theorem State.heartbeatLate_variant : ∀ x0 x1, (State.heartbeatLate x0 x1).flash.variant = x0.flash.variant := by
  intro x0 x1
  unfold State.heartbeatLate
  try dsimp -iota only
  (repeat' split) <;> simp

@[simp] theorem State.restarted_variant : ∀ x0 x1, (State.restarted x0 x1).flash.variant = x0.flash.variant := by
  intro x0 x1
  unfold State.restarted
  try dsimp -iota only
  (repeat' split) <;> simp

@[simp] theorem State.imageChecked_variant : ∀ x0 x1, (State.imageChecked x0 x1).flash.variant = x0.flash.variant := by
  intro x0 x1
  unfold State.imageChecked
  try dsimp -iota only
  (repeat' split) <;> simp

@[simp] theorem State.imageWritten_variant : ∀ x0 x1, (State.imageWritten x0 x1).flash.variant = x0.flash.variant := by
  intro x0 x1
  unfold State.imageWritten
  try dsimp -iota only
  (repeat' split) <;> simp

@[simp] theorem State.ite_factory (c : Prop) [Decidable c] (a b : State) : (ite c a b).flash.factory = ite c a.flash.factory b.flash.factory := by split <;> rfl
@[simp] theorem State.forAll_factory (α : Type) (l : List α) (f : α → State → State) (s : State) (h : ∀ a t, (f a t).flash.factory = t.flash.factory) : (forAll l f s).flash.factory = s.flash.factory := by
  unfold forAll
  induction l generalizing s with
  | nil => rfl
  | cons a l ih => simp [List.foldl, ih, h]
@[simp] theorem State.foldl_factory (α : Type) (l : List α) (f : State → α → State) (s : State) (h : ∀ a t, (f t a).flash.factory = t.flash.factory) : (l.foldl f s).flash.factory = s.flash.factory := by
  induction l generalizing s with
  | nil => rfl
  | cons a l ih => simp [List.foldl, ih, h]
@[simp] theorem State.foldr_factory (α : Type) (l : List α) (f : α → State → State) (s : State) (h : ∀ a t, (f a t).flash.factory = t.flash.factory) : (l.foldr f s).flash.factory = s.flash.factory := by
  induction l generalizing s with
  | nil => rfl
  | cons a l ih => simp [List.foldr, ih, h]

@[simp] theorem State.commitImage_factory : ∀ x0, (State.commitImage x0).flash.factory = x0.flash.factory := by
  intro x0
  unfold State.commitImage
  try dsimp -iota only
  (repeat' split) <;> simp

@[simp] theorem State.makeReady_factory : ∀ x0, (State.makeReady x0).flash.factory = x0.flash.factory := by
  intro x0
  unfold State.makeReady
  try dsimp -iota only
  (repeat' split) <;> simp

@[simp] theorem State.finishBoot_factory : ∀ x0, (State.finishBoot x0).flash.factory = x0.flash.factory := by
  intro x0
  unfold State.finishBoot
  try dsimp -iota only
  (repeat' split) <;> simp

@[simp] theorem State.resumeBoot_factory : ∀ x0, (State.resumeBoot x0).flash.factory = x0.flash.factory := by
  intro x0
  unfold State.resumeBoot
  try dsimp -iota only
  (repeat' split) <;> simp

@[simp] theorem State.bootCores_factory : ∀ x0, (State.bootCores x0).flash.factory = x0.flash.factory := by
  intro x0
  unfold State.bootCores
  try dsimp -iota only
  (repeat' split) <;> simp

@[simp] theorem State.railsGood_factory : ∀ x0, (State.railsGood x0).flash.factory = x0.flash.factory := by
  intro x0
  unfold State.railsGood
  rfl

@[simp] theorem State.startRails_factory : ∀ x0, (State.startRails x0).flash.factory = x0.flash.factory := by
  intro x0
  unfold State.startRails
  try dsimp -iota only
  (repeat' split) <;> simp

@[simp] theorem State.powerOn_factory : ∀ x0 x1 x2, (State.powerOn x0 x1 x2).flash.factory = x0.flash.factory := by
  intro x0 x1 x2
  unfold State.powerOn
  try dsimp -iota only
  (repeat' split) <;> simp

@[simp] theorem State.railGood_factory : ∀ x0 x1, (State.railGood x0 x1).flash.factory = x0.flash.factory := by
  intro x0 x1
  unfold State.railGood
  try dsimp -iota only
  (repeat' split) <;> simp

@[simp] theorem State.railLate_factory : ∀ x0 x1 x2, (State.railLate x0 x1 x2).flash.factory = x0.flash.factory := by
  intro x0 x1 x2
  unfold State.railLate
  try dsimp -iota only
  (repeat' split) <;> simp

theorem State.bootOrder_factory (s : State) : { s with flash := (bootOrder s.flash).2 }.flash.factory = s.flash.factory := by
  dsimp only
  unfold bootOrder; extract_lets; (repeat' split) <;> rfl
@[simp] theorem State.sillBoot_factory : ∀ s n, (State.sillBoot s n).flash.factory = s.flash.factory := by
  intro s n; unfold State.sillBoot
  have := State.bootOrder_factory s
  dsimp only at this
  split
  · rfl
  · split
    · simp
    · extract_lets; split <;> simpa +zetaDelta using this

@[simp] theorem State.broadcast_factory : ∀ x0 x1 x2, (State.broadcast x0 x1 x2).flash.factory = x0.flash.factory := by
  intro x0 x1 x2
  unfold State.broadcast
  try dsimp -iota only
  (repeat' split) <;> simp

@[simp] theorem State.repair_factory : ∀ x0 x1 x2, (State.repair x0 x1 x2).flash.factory = x0.flash.factory := by
  intro x0 x1 x2
  unfold State.repair
  try dsimp -iota only
  (repeat' split) <;> simp

@[simp] theorem State.coreTested_factory : ∀ x0 x1 x2, (State.coreTested x0 x1 x2).flash.factory = x0.flash.factory := by
  intro x0 x1 x2
  unfold State.coreTested
  try dsimp -iota only
  (repeat' split) <;> simp

theorem State.setSlot_factory (s : State) (n : Nat) (x : FlashPlan) : { s with flash := s.flash.setSlot n x }.flash.factory = s.flash.factory := by
  dsimp only
  unfold Flash.setSlot; split <;> rfl
@[simp] theorem State.planSigned_factory : ∀ s, (State.planSigned s).flash.factory = s.flash.factory := by
  intro s; unfold State.planSigned
  split
  · rfl
  · split
    · rfl
    · have := State.setSlot_factory s
      dsimp only at this
      extract_lets; simp +zetaDelta [this]

@[simp] theorem State.planFlashed_factory : ∀ s, (State.planFlashed s).flash.factory = s.flash.factory := by
  intro s; unfold State.planFlashed
  split
  · rfl
  · split
    · rfl
    · have := State.setSlot_factory s
      dsimp only at this
      extract_lets; split <;> simp +zetaDelta [this]

@[simp] theorem State.heartbeat_factory : ∀ x0 x1 x2 x3, (State.heartbeat x0 x1 x2 x3).flash.factory = x0.flash.factory := by
  intro x0 x1 x2 x3
  unfold State.heartbeat
  try dsimp -iota only
  (repeat' split) <;> simp

@[simp] theorem State.leaveStopped_factory : ∀ x0 x1, (State.leaveStopped x0 x1).flash.factory = x0.flash.factory := by
  intro x0 x1
  unfold State.leaveStopped
  try dsimp -iota only
  (repeat' split) <;> simp

@[simp] theorem State.heartbeatLate_factory : ∀ x0 x1, (State.heartbeatLate x0 x1).flash.factory = x0.flash.factory := by
  intro x0 x1
  unfold State.heartbeatLate
  try dsimp -iota only
  (repeat' split) <;> simp

@[simp] theorem State.restarted_factory : ∀ x0 x1, (State.restarted x0 x1).flash.factory = x0.flash.factory := by
  intro x0 x1
  unfold State.restarted
  try dsimp -iota only
  (repeat' split) <;> simp

@[simp] theorem State.imageChecked_factory : ∀ x0 x1, (State.imageChecked x0 x1).flash.factory = x0.flash.factory := by
  intro x0 x1
  unfold State.imageChecked
  try dsimp -iota only
  (repeat' split) <;> simp

@[simp] theorem State.imageWritten_factory : ∀ x0 x1, (State.imageWritten x0 x1).flash.factory = x0.flash.factory := by
  intro x0 x1
  unfold State.imageWritten
  try dsimp -iota only
  (repeat' split) <;> simp

end Sys2Proof.Machine
end

