-- ==== Sys2Proof/Laws/FrameMem.lean ====
section
/-! SUPPORT. One lemma per operation of the model over State that leaves device memory unchanged. -/

namespace Sys2Proof.Machine

set_option Elab.async false
set_option linter.unusedTactic false
set_option linter.unreachableTactic false

@[simp] theorem State.ite_mem (c : Prop) [Decidable c] (a b : State) : (ite c a b).mem = ite c a.mem b.mem := by split <;> rfl
@[simp] theorem State.forAll_mem (α : Type) (l : List α) (f : α → State → State) (s : State) (h : ∀ a t, (f a t).mem = t.mem) : (forAll l f s).mem = s.mem := by
  unfold forAll
  induction l generalizing s with
  | nil => rfl
  | cons a l ih => simp [List.foldl, ih, h]
@[simp] theorem State.foldl_mem (α : Type) (l : List α) (f : State → α → State) (s : State) (h : ∀ a t, (f t a).mem = t.mem) : (l.foldl f s).mem = s.mem := by
  induction l generalizing s with
  | nil => rfl
  | cons a l ih => simp [List.foldl, ih, h]
@[simp] theorem State.foldr_mem (α : Type) (l : List α) (f : α → State → State) (s : State) (h : ∀ a t, (f a t).mem = t.mem) : (l.foldr f s).mem = s.mem := by
  induction l generalizing s with
  | nil => rfl
  | cons a l ih => simp [List.foldr, ih, h]

theorem State.foldlM_ok_mem {ε α : Type} (l : List α) (f : State → α → Except ε State) (h : ∀ t a u, f t a = .ok u → u.mem = t.mem) :
    ∀ s u, l.foldlM f s = .ok u → u.mem = s.mem := keeps_foldlM (fun s : State => s.mem) h l
theorem State.foldlM_some_mem {α : Type} (l : List α) (f : State → α → Option State) (h : ∀ t a u, f t a = some u → u.mem = t.mem) :
    ∀ s u, l.foldlM f s = some u → u.mem = s.mem := keeps_foldlM_option (fun s : State => s.mem) h l

@[simp] theorem State.setFn_mem : ∀ x0 x1 x2, (State.setFn x0 x1 x2).mem = x0.mem := by
  intro x0 x1 x2
  unfold State.setFn
  rfl

@[simp] theorem State.setCtx_mem : ∀ x0 x1 x2, (State.setCtx x0 x1 x2).mem = x0.mem := by
  intro x0 x1 x2
  unfold State.setCtx
  rfl

@[simp] theorem State.setBay_mem : ∀ x0 x1 x2, (State.setBay x0 x1 x2).mem = x0.mem := by
  intro x0 x1 x2
  unfold State.setBay
  rfl

@[simp] theorem State.setSite_mem : ∀ x0 x1 x2, (State.setSite x0 x1 x2).mem = x0.mem := by
  intro x0 x1 x2
  unfold State.setSite
  rfl

@[simp] theorem State.setPort_mem : ∀ x0 x1 x2, (State.setPort x0 x1 x2).mem = x0.mem := by
  intro x0 x1 x2
  unfold State.setPort
  rfl

@[simp] theorem State.newId_mem (s : State) : (s.newId).2.mem = s.mem := by unfold State.newId; rfl

@[simp] theorem State.hostPut_mem : ∀ s a b, (State.hostPut s a b).1.mem = s.mem := by
  intro s a b; unfold State.hostPut; extract_lets; split <;> rfl

@[simp] theorem State.accessErr_mem : ∀ x0 x1, (State.accessErr x0 x1).mem = x0.mem := by
  intro x0 x1
  unfold State.accessErr
  rfl

@[simp] theorem State.writeCpl_mem : ∀ x0 x1, (State.writeCpl x0 x1).mem = x0.mem := by
  intro x0 x1
  unfold State.writeCpl
  try dsimp -iota only
  (repeat' split) <;> simp

@[simp] theorem State.writeCpls_mem : ∀ x0 x1 x2, (State.writeCpls x0 x1 x2).mem = x0.mem := by
  intro x0 x1 x2
  fun_induction State.writeCpls x0 x1 x2
  all_goals first
      | (simp; done)
      | (simp_all; done)

@[simp] theorem State.flushCpl_mem : ∀ x0 x1, (State.flushCpl x0 x1).mem = x0.mem := by
  intro x0 x1
  unfold State.flushCpl
  simp

@[simp] theorem State.writeEvent_mem : ∀ x0 x1, (State.writeEvent x0 x1).mem = x0.mem := by
  intro x0 x1
  unfold State.writeEvent
  try dsimp -iota only
  (repeat' split) <;> simp

@[simp] theorem State.writeEvents_mem : ∀ x0 x1 x2, (State.writeEvents x0 x1 x2).mem = x0.mem := by
  intro x0 x1 x2
  fun_induction State.writeEvents x0 x1 x2
  all_goals first
      | (simp; done)
      | (simp_all; done)

@[simp] theorem State.flushEvents_mem : ∀ x0 x1, (State.flushEvents x0 x1).mem = x0.mem := by
  intro x0 x1
  unfold State.flushEvents
  simp

@[simp] theorem State.eventsLost_mem : ∀ x0 x1, (State.eventsLost x0 x1).mem = x0.mem := by
  intro x0 x1
  unfold State.eventsLost
  simp

@[simp] theorem State.post_mem : ∀ x0 x1 x2 x3 x4 x5, (State.post x0 x1 x2 x3 x4 x5).mem = x0.mem := by
  intro x0 x1 x2 x3 x4 x5
  unfold State.post
  simp

@[simp] theorem State.postCtx_mem : ∀ x0 x1 x2 x3 x4, (State.postCtx x0 x1 x2 x3 x4).mem = x0.mem := by
  intro x0 x1 x2 x3 x4
  unfold State.postCtx
  simp

@[simp] theorem State.postPf0_mem : ∀ x0 x1 x2 x3 x4, (State.postPf0 x0 x1 x2 x3 x4).mem = x0.mem := by
  intro x0 x1 x2 x3 x4
  unfold State.postPf0
  simp

@[simp] theorem State.setCmd_mem : ∀ x0 x1 x2 x3, (State.setCmd x0 x1 x2 x3).mem = x0.mem := by
  intro x0 x1 x2 x3
  unfold State.setCmd
  rfl

@[simp] theorem State.complete_mem : ∀ x0 x1 x2 x3 x4 x5 x6, (State.complete x0 x1 x2 x3 x4 x5 x6).mem = x0.mem := by
  intro x0 x1 x2 x3 x4 x5 x6
  unfold State.complete
  try dsimp -iota only
  (repeat' split) <;> simp

@[simp] theorem State.done_mem : ∀ x0 x1 x2 x3 x4, (State.done x0 x1 x2 x3 x4).mem = x0.mem := by
  intro x0 x1 x2 x3 x4
  unfold State.done
  simp

@[simp] theorem State.tick_mem : ∀ x0, (State.tick x0).mem = x0.mem := by
  intro x0
  unfold State.tick
  simp

@[simp] theorem State.sillHigh_mem : ∀ x0 x1, (State.sillHigh x0 x1).mem = x0.mem := by
  intro x0 x1
  unfold State.sillHigh
  try dsimp -iota only
  (repeat' split) <;> simp

@[simp] theorem State.sillLow_mem : ∀ x0 x1, (State.sillLow x0 x1).mem = x0.mem := by
  intro x0 x1
  unfold State.sillLow
  try dsimp -iota only
  (repeat' split) <;> simp

@[simp] theorem State.sillNext_mem : ∀ x0, (State.sillNext x0).mem = x0.mem := by
  intro x0
  unfold State.sillNext
  rfl

@[simp] theorem State.modSill_mem : ∀ x0 x1, (State.modSill x0 x1).mem = x0.mem := by
  intro x0 x1
  unfold State.modSill
  rfl

@[simp] theorem State.sillDrop_mem : ∀ x0 x1, (State.sillDrop x0 x1).mem = x0.mem := by
  intro x0 x1
  unfold State.sillDrop
  rfl

@[simp] theorem State.sillAgain_mem : ∀ x0, (State.sillAgain x0).mem = x0.mem := by
  intro x0
  unfold State.sillAgain
  try dsimp -iota only
  (repeat' split) <;> simp

@[simp] theorem State.startService_mem : ∀ x0 x1, (State.startService x0 x1).mem = x0.mem := by
  intro x0 x1
  unfold State.startService
  simp

@[simp] theorem State.oweService_mem : ∀ x0, (State.oweService x0).mem = x0.mem := by
  intro x0
  unfold State.oweService
  simp

@[simp] theorem State.retireCore_mem : ∀ x0 x1 x2, (State.retireCore x0 x1 x2).mem = x0.mem := by
  intro x0 x1 x2
  unfold State.retireCore
  simp

@[simp] theorem State.setSiteEntry_mem : ∀ x0 x1 x2, (State.setSiteEntry x0 x1 x2).mem = x0.mem := by
  intro x0 x1 x2
  unfold State.setSiteEntry
  rfl

@[simp] theorem State.setPortEntry_mem : ∀ x0 x1 x2, (State.setPortEntry x0 x1 x2).mem = x0.mem := by
  intro x0 x1 x2
  unfold State.setPortEntry
  rfl

@[simp] theorem State.setPortUp_mem : ∀ x0 x1 x2, (State.setPortUp x0 x1 x2).mem = x0.mem := by
  intro x0 x1 x2
  unfold State.setPortUp
  rfl

@[simp] theorem State.setPortHalf_mem : ∀ x0 x1 x2, (State.setPortHalf x0 x1 x2).mem = x0.mem := by
  intro x0 x1 x2
  unfold State.setPortHalf
  rfl

@[simp] theorem State.modCtx_mem : ∀ x0 x1 x2, (State.modCtx x0 x1 x2).mem = x0.mem := by
  intro x0 x1 x2
  unfold State.modCtx
  rfl

@[simp] theorem State.semAdd_mem : ∀ x0 x1 x2 x3 x4, (State.semAdd x0 x1 x2 x3 x4).mem = x0.mem := by
  intro x0 x1 x2 x3 x4
  unfold State.semAdd
  rfl

@[simp] theorem State.semTake_mem : ∀ x0 x1 x2 x3 x4, (State.semTake x0 x1 x2 x3 x4).mem = x0.mem := by
  intro x0 x1 x2 x3 x4
  unfold State.semTake
  rfl

@[simp] theorem State.pairAdd_mem : ∀ x0 x1 x2 x3 x4 x5, (State.pairAdd x0 x1 x2 x3 x4 x5).mem = x0.mem := by
  intro x0 x1 x2 x3 x4 x5
  unfold State.pairAdd
  rfl

@[simp] theorem State.pairTake_mem : ∀ x0 x1 x2 x3 x4, (State.pairTake x0 x1 x2 x3 x4).mem = x0.mem := by
  intro x0 x1 x2 x3 x4
  unfold State.pairTake
  rfl

@[simp] theorem State.nearMiss_mem : ∀ x0 x1, (State.nearMiss x0 x1).mem = x0.mem := by
  intro x0 x1
  unfold State.nearMiss
  rfl

@[simp] theorem State.nearMissDev_mem : ∀ x0, (State.nearMissDev x0).mem = x0.mem := by
  intro x0
  unfold State.nearMissDev
  rfl

@[simp] theorem State.strayCount_mem : ∀ x0 x1, (State.strayCount x0 x1).mem = x0.mem := by
  intro x0 x1
  unfold State.strayCount
  rfl

@[simp] theorem State.alert_mem : ∀ x0 x1, (State.alert x0 x1).mem = x0.mem := by
  intro x0 x1
  unfold State.alert
  simp

@[simp] theorem State.modPage_mem : ∀ x0 x1 x2, (State.modPage x0 x1 x2).mem = x0.mem := by
  intro x0 x1 x2
  unfold State.modPage
  rfl

@[simp] theorem State.recompress_mem : ∀ x0 x1 x2, (State.recompress x0 x1 x2).mem = x0.mem := by
  intro x0 x1 x2
  unfold State.recompress
  try dsimp -iota only
  (repeat' split) <;> simp

@[simp] theorem State.packCheck_mem : ∀ x0 x1 x2, (State.packCheck x0 x1 x2).mem = x0.mem := by
  intro x0 x1 x2
  unfold State.packCheck
  simp

@[simp] theorem State.packChecks_mem : ∀ x0 x1, (State.packChecks x0 x1).mem = x0.mem := by
  intro x0 x1
  unfold State.packChecks
  simp

@[simp] theorem State.countLines_mem : ∀ x0 x1 x2 x3, (State.countLines x0 x1 x2 x3).mem = x0.mem := by
  intro x0 x1 x2 x3
  unfold State.countLines
  rfl

@[simp] theorem State.countRange_mem : ∀ x0 x1 x2 x3 x4, (State.countRange x0 x1 x2 x3 x4).mem = x0.mem := by
  intro x0 x1 x2 x3 x4
  unfold State.countRange
  try dsimp -iota only
  (repeat' split)
  all_goals first
      | (simp; done)
      | (apply State.forAll_mem; intros; (repeat' split) <;> simp; done)
      | (simp_all; done)

@[simp] theorem State.countSpans_mem : ∀ x0 x1 x2 x3, (State.countSpans x0 x1 x2 x3).mem = x0.mem := by
  intro x0 x1 x2 x3
  unfold State.countSpans
  simp

@[simp] theorem State.postFault_mem : ∀ s c a w k x h, (State.postFault s c a w k x h).2.mem = s.mem := by
  intros; unfold State.postFault State.newId; rfl

@[simp] theorem State.dropFault_mem : ∀ x0 x1, (State.dropFault x0 x1).mem = x0.mem := by
  intro x0 x1
  unfold State.dropFault
  rfl

@[simp] theorem State.faultEvent_mem : ∀ x0 x1 x2 x3 x4 x5 x6 x7 x8, (State.faultEvent x0 x1 x2 x3 x4 x5 x6 x7 x8).mem = x0.mem := by
  intro x0 x1 x2 x3 x4 x5 x6 x7 x8
  unfold State.faultEvent
  simp

@[simp] theorem State.countResolved_mem : ∀ x0, (State.countResolved x0).mem = x0.mem := by
  intro x0
  unfold State.countResolved
  rfl

@[simp] theorem State.countUnresolved_mem : ∀ x0, (State.countUnresolved x0).mem = x0.mem := by
  intro x0
  unfold State.countUnresolved
  rfl

@[simp] theorem State.logUe_mem : ∀ x0 x1 x2 x3 x4, (State.logUe x0 x1 x2 x3 x4).mem = x0.mem := by
  intro x0 x1 x2 x3 x4
  unfold State.logUe
  rfl

@[simp] theorem State.poisonLine_mem : ∀ x0 x1 x2, (State.poisonLine x0 x1 x2).mem = x0.mem := by
  intro x0 x1 x2
  unfold State.poisonLine
  rfl

@[simp] theorem State.setStream_mem : ∀ x0 x1, (State.setStream x0 x1).mem = x0.mem := by
  intro x0 x1
  unfold State.setStream
  rfl

@[simp] theorem State.delStream_mem : ∀ x0 x1 x2, (State.delStream x0 x1 x2).mem = x0.mem := by
  intro x0 x1 x2
  unfold State.delStream
  rfl

@[simp] theorem State.setFetch_mem : ∀ x0 x1, (State.setFetch x0 x1).mem = x0.mem := by
  intro x0 x1
  unfold State.setFetch
  rfl

@[simp] theorem State.issue_mem : ∀ s a b c d e f g h l, (State.issue s a b c d e f g h l).mem = s.mem := by
  intros; unfold State.issue
  apply State.forAll_mem; intros; split <;> simp

@[simp] theorem State.issueEngine_mem : ∀ x0 x1 x2 x3 x4 x5 x6, (State.issueEngine x0 x1 x2 x3 x4 x5 x6).mem = x0.mem := by
  intro x0 x1 x2 x3 x4 x5 x6
  unfold State.issueEngine
  try dsimp -iota only
  (repeat' split)
  all_goals first
      | (simp; done)
      | (apply State.forAll_mem; intros; (repeat' split) <;> simp; done)
      | (simp_all; done)

@[simp] theorem State.dropOwner_mem : ∀ x0 x1, (State.dropOwner x0 x1).mem = x0.mem := by
  intro x0 x1
  unfold State.dropOwner
  rfl

@[simp] theorem State.dropEngines_mem : ∀ x0 x1, (State.dropEngines x0 x1).mem = x0.mem := by
  intro x0 x1
  unfold State.dropEngines
  rfl

@[simp] theorem State.startRefetch_mem : ∀ x0 x1 x2 x3 x4, (State.startRefetch x0 x1 x2 x3 x4).mem = x0.mem := by
  intro x0 x1 x2 x3 x4
  unfold State.startRefetch
  try dsimp -iota only
  (repeat' split)
  all_goals first
      | (simp; done)
      | (apply State.forAll_mem; intros; (repeat' split) <;> simp; done)
      | (simp_all; done)

@[simp] theorem State.endHold_mem : ∀ x0 x1, (State.endHold x0 x1).mem = x0.mem := by
  intro x0 x1
  unfold State.endHold
  rfl

@[simp] theorem State.wakeWaiters_mem : ∀ x0 x1, (State.wakeWaiters x0 x1).mem = x0.mem := by
  intro x0 x1
  unfold State.wakeWaiters
  simp

@[simp] theorem State.freeStream_mem : ∀ x0 x1, (State.freeStream x0 x1).mem = x0.mem := by
  intro x0 x1
  unfold State.freeStream
  rfl

@[simp] theorem State.ringBack_mem : ∀ x0 x1 x2 x3, (State.ringBack x0 x1 x2 x3).mem = x0.mem := by
  intro x0 x1 x2 x3
  unfold State.ringBack
  simp

@[simp] theorem State.dropReqs_mem : ∀ x0 x1 x2, (State.dropReqs x0 x1 x2).mem = x0.mem := by
  intro x0 x1 x2
  unfold State.dropReqs
  rfl

@[simp] theorem State.deliverOne_mem : ∀ x0 x1 x2, (State.deliverOne x0 x1 x2).mem = x0.mem := by
  intro x0 x1 x2
  unfold State.deliverOne
  try dsimp -iota only
  (repeat' split) <;> simp

@[simp] theorem State.deliver_mem : ∀ x0 x1 x2 x3, (State.deliver x0 x1 x2 x3).mem = x0.mem := by
  intro x0 x1 x2 x3
  fun_induction State.deliver x0 x1 x2 x3
  all_goals first
      | (simp; done)
      | (simp_all; done)

@[simp] theorem State.checkRefetch_mem : ∀ x0 x1 x2, (State.checkRefetch x0 x1 x2).mem = x0.mem := by
  intro x0 x1 x2
  unfold State.checkRefetch
  try dsimp -iota only
  (repeat' split) <;> simp

@[simp] theorem State.loseRing_mem : ∀ s x, (State.loseRing s x).1.mem = s.mem := by
  intro s x; unfold State.loseRing; (repeat' split) <;> simp

@[simp] theorem State.settleFetch_mem : ∀ x0 x1, (State.settleFetch x0 x1).mem = x0.mem := by
  intro x0 x1
  unfold State.settleFetch
  try dsimp -iota only
  (repeat' split) <;> simp

@[simp] theorem State.dropFetch_mem : ∀ x0 x1, (State.dropFetch x0 x1).mem = x0.mem := by
  intro x0 x1
  unfold State.dropFetch
  rfl

@[simp] theorem State.cancelFetch_mem : ∀ x0 x1, (State.cancelFetch x0 x1).mem = x0.mem := by
  intro x0 x1
  unfold State.cancelFetch
  rfl

@[simp] theorem State.popHandle_mem : ∀ x0 x1, (State.popHandle x0 x1).mem = x0.mem := by
  intro x0 x1
  unfold State.popHandle
  rfl

@[simp] theorem State.laneSpared_mem : ∀ x0 x1 x2 x3 x4, (State.laneSpared x0 x1 x2 x3 x4).mem = x0.mem := by
  intro x0 x1 x2 x3 x4
  unfold State.laneSpared
  simp

@[simp] theorem State.spareTrigger_mem : ∀ x0 x1 x2 x3, (State.spareTrigger x0 x1 x2 x3).mem = x0.mem := by
  intro x0 x1 x2 x3
  unfold State.spareTrigger
  simp

@[simp] theorem State.spareTriggers_mem : ∀ x0 x1 x2, (State.spareTriggers x0 x1 x2).mem = x0.mem := by
  intro x0 x1 x2
  unfold State.spareTriggers
  simp

@[simp] theorem State.rollSpare_mem : ∀ x0 x1, (State.rollSpare x0 x1).mem = x0.mem := by
  intro x0 x1
  unfold State.rollSpare
  simp

@[simp] theorem State.laneCorrected_mem : ∀ x0 x1 x2 x3, (State.laneCorrected x0 x1 x2 x3).mem = x0.mem := by
  intro x0 x1 x2 x3
  unfold State.laneCorrected
  simp

@[simp] theorem State.lineCorrected_mem : ∀ x0 x1 x2 x3, (State.lineCorrected x0 x1 x2 x3).mem = x0.mem := by
  intro x0 x1 x2 x3
  unfold State.lineCorrected
  try dsimp -iota only
  (repeat' split) <;> simp

@[simp] theorem State.translateFetch_mem : ∀ s i, (State.translateFetch s i).mem = s.mem := by
  intro s i; unfold State.translateFetch
  split
  · rfl
  · split
    · rfl
    · extract_lets
      split
      · rfl
      · split
        · rfl
        · split
          · simp
          · extract_lets; simp

@[simp] theorem State.setReq_mem : ∀ x0 x1 x2, (State.setReq x0 x1 x2).mem = x0.mem := by
  intro x0 x1 x2
  unfold State.setReq
  rfl

@[simp] theorem State.grantReq_mem : ∀ x0 x1, (State.grantReq x0 x1).mem = x0.mem := by
  intro x0 x1
  unfold State.grantReq
  rfl

@[simp] theorem State.grantBay_mem : ∀ s m b l, (State.grantBay s m b l).1.mem = s.mem := by
  intro s m b l
  fun_induction State.grantBay s m b l <;> simp_all +zetaDelta

@[simp] theorem State.grantBays_mem : ∀ s m l, (State.grantBays s m l).mem = s.mem := by
  intro s m l
  induction l generalizing s with
  | nil => rfl
  | cons b r ih => unfold State.grantBays; dsimp -iota only; split <;> simp [ih]

@[simp] theorem State.slotGrant_mem : ∀ x0 x1, (State.slotGrant x0 x1).mem = x0.mem := by
  intro x0 x1
  unfold State.slotGrant
  try dsimp -iota only
  (repeat' split) <;> simp

@[simp] theorem State.passSlot_mem : ∀ x0 x1, (State.passSlot x0 x1).mem = x0.mem := by
  intro x0 x1
  unfold State.passSlot
  try dsimp -iota only
  (repeat' split) <;> simp

@[simp] theorem State.fillRaw_mem : ∀ x0 x1, (State.fillRaw x0 x1).mem = x0.mem := by
  intro x0 x1
  unfold State.fillRaw
  try dsimp -iota only
  (repeat' split) <;> simp

@[simp] theorem State.clearLine_mem : ∀ x0 x1 x2, (State.clearLine x0 x1 x2).mem = x0.mem := by
  intro x0 x1 x2
  unfold State.clearLine
  rfl

@[simp] theorem State.dropBlock_mem : ∀ x0 x1, (State.dropBlock x0 x1).mem = x0.mem := by
  intro x0 x1
  unfold State.dropBlock
  rfl

@[simp] theorem State.augerTake_mem : ∀ x0 x1 x2, (State.augerTake x0 x1 x2).mem = x0.mem := by
  intro x0 x1 x2
  unfold State.augerTake
  try dsimp -iota only
  (repeat' split) <;> simp

@[simp] theorem State.planeGets_mem : ∀ x0 x1 x2 x3 x4, (State.planeGets x0 x1 x2 x3 x4).mem = x0.mem := by
  intro x0 x1 x2 x3 x4
  unfold State.planeGets
  rfl

@[simp] theorem State.spareSwitched_mem : ∀ x0 x1 x2, (State.spareSwitched x0 x1 x2).mem = x0.mem := by
  intro x0 x1 x2
  unfold State.spareSwitched
  try dsimp -iota only
  (repeat' split) <;> simp

@[simp] theorem State.spareWindow_mem : ∀ x0 x1, (State.spareWindow x0 x1).mem = x0.mem := by
  intro x0 x1
  unfold State.spareWindow
  simp

@[simp] theorem State.patrolLost_mem : ∀ x0 x1 x2, (State.patrolLost x0 x1 x2).mem = x0.mem := by
  intro x0 x1 x2
  unfold State.patrolLost
  try dsimp -iota only
  (repeat' split) <;> simp

@[simp] theorem State.patrol_mem : ∀ x0 x1 x2 x3, (State.patrol x0 x1 x2 x3).mem = x0.mem := by
  intro x0 x1 x2 x3
  unfold State.patrol
  try dsimp -iota only
  (repeat' split) <;> simp

@[simp] theorem State.loftPatrol_mem : ∀ x0 x1 x2, (State.loftPatrol x0 x1 x2).mem = x0.mem := by
  intro x0 x1 x2
  unfold State.loftPatrol
  simp

@[simp] theorem State.startMig_mem : ∀ x0 x1 x2, (State.startMig x0 x1 x2).mem = x0.mem := by
  intro x0 x1 x2
  unfold State.startMig
  try dsimp -iota only
  (repeat' split) <;> simp

@[simp] theorem State.epochEnd_mem : ∀ x0 x1, (State.epochEnd x0 x1).mem = x0.mem := by
  intro x0 x1
  unfold State.epochEnd
  simp

@[simp] theorem State.setMig_mem : ∀ x0 x1 x2, (State.setMig x0 x1 x2).mem = x0.mem := by
  intro x0 x1 x2
  unfold State.setMig
  rfl

@[simp] theorem State.modAon_mem : ∀ x0 x1, (State.modAon x0 x1).mem = x0.mem := by
  intro x0 x1
  unfold State.modAon
  rfl

@[simp] theorem State.modPower_mem : ∀ x0 x1, (State.modPower x0 x1).mem = x0.mem := by
  intro x0 x1
  unfold State.modPower
  rfl

@[simp] theorem State.modThermal_mem : ∀ x0 x1, (State.modThermal x0 x1).mem = x0.mem := by
  intro x0 x1
  unfold State.modThermal
  rfl

@[simp] theorem State.modBoot_mem : ∀ x0 x1, (State.modBoot x0 x1).mem = x0.mem := by
  intro x0 x1
  unfold State.modBoot
  rfl

@[simp] theorem State.postPower_mem : ∀ x0 x1 x2, (State.postPower x0 x1 x2).mem = x0.mem := by
  intro x0 x1 x2
  unfold State.postPower
  simp

@[simp] theorem State.postThermal_mem : ∀ x0 x1 x2 x3, (State.postThermal x0 x1 x2 x3).mem = x0.mem := by
  intro x0 x1 x2 x3
  unfold State.postThermal
  simp

@[simp] theorem State.limitReached_mem : ∀ x0, (State.limitReached x0).mem = x0.mem := by
  intro x0
  unfold State.limitReached
  simp

@[simp] theorem State.throttle_mem : ∀ x0, (State.throttle x0).mem = x0.mem := by
  intro x0
  unfold State.throttle
  try dsimp -iota only
  (repeat' split) <;> simp

@[simp] theorem State.throttleEvent_mem : ∀ s t, (State.throttleEvent s t).mem = s.mem := by
  intro s t; unfold State.throttleEvent; try dsimp -iota only
  (repeat' split) <;> simp

@[simp] theorem State.evaluate_mem : ∀ x0 x1 x2 x3, (State.evaluate x0 x1 x2 x3).mem = x0.mem := by
  intro x0 x1 x2 x3
  unfold State.evaluate
  simp

@[simp] theorem State.settled_mem : ∀ x0, (State.settled x0).mem = x0.mem := by
  intro x0
  unfold State.settled
  try dsimp -iota only
  (repeat' split) <;> simp

@[simp] theorem State.setRail_mem : ∀ x0 x1 x2, (State.setRail x0 x1 x2).mem = x0.mem := by
  intro x0 x1 x2
  unfold State.setRail
  rfl

@[simp] theorem State.nextRails_mem : ∀ s l, (State.nextRails s l).1.mem = s.mem := by
  intro s l
  fun_induction State.nextRails s l <;> simp_all

@[simp] theorem State.railsDown_mem : ∀ x0, (State.railsDown x0).mem = x0.mem := by
  intro x0
  unfold State.railsDown
  try dsimp -iota only
  (repeat' split) <;> simp

@[simp] theorem State.postTrip_mem : ∀ x0, (State.postTrip x0).mem = x0.mem := by
  intro x0
  unfold State.postTrip
  try dsimp -iota only
  (repeat' split) <;> simp

@[simp] theorem State.trip_mem : ∀ x0 x1 x2, (State.trip x0 x1 x2).mem = x0.mem := by
  intro x0 x1 x2
  unfold State.trip
  simp

@[simp] theorem State.conflict_mem : ∀ x0 x1 x2 x3, (State.conflict x0 x1 x2 x3).mem = x0.mem := by
  intro x0 x1 x2 x3
  unfold State.conflict
  simp

@[simp] theorem State.checkClaim_mem : ∀ x0 x1 x2 x3, (State.checkClaim x0 x1 x2 x3).mem = x0.mem := by
  intro x0 x1 x2 x3
  unfold State.checkClaim
  simp

@[simp] theorem State.ungate_mem : ∀ x0 x1, (State.ungate x0 x1).mem = x0.mem := by
  intro x0 x1
  unfold State.ungate
  simp

@[simp] theorem State.gate_mem : ∀ x0 x1, (State.gate x0 x1).mem = x0.mem := by
  intro x0 x1
  unfold State.gate
  try dsimp -iota only
  (repeat' split) <;> simp

@[simp] theorem State.idleTick_mem : ∀ x0 x1, (State.idleTick x0 x1).mem = x0.mem := by
  intro x0 x1
  unfold State.idleTick
  simp

@[simp] theorem State.idle_mem : ∀ x0, (State.idle x0).mem = x0.mem := by
  intro x0
  unfold State.idle
  simp

@[simp] theorem State.commitImage_mem : ∀ x0, (State.commitImage x0).mem = x0.mem := by
  intro x0
  unfold State.commitImage
  simp

@[simp] theorem State.setStage_mem : ∀ x0 x1, (State.setStage x0 x1).mem = x0.mem := by
  intro x0 x1
  unfold State.setStage
  rfl

@[simp] theorem State.recover_mem : ∀ x0 x1, (State.recover x0 x1).mem = x0.mem := by
  intro x0 x1
  unfold State.recover
  rfl

@[simp] theorem State.makeReady_mem : ∀ x0, (State.makeReady x0).mem = x0.mem := by
  intro x0
  unfold State.makeReady
  simp

@[simp] theorem State.finishBoot_mem : ∀ x0, (State.finishBoot x0).mem = x0.mem := by
  intro x0
  unfold State.finishBoot
  simp

@[simp] theorem State.resumeBoot_mem : ∀ x0, (State.resumeBoot x0).mem = x0.mem := by
  intro x0
  unfold State.resumeBoot
  simp

@[simp] theorem State.bootCores_mem : ∀ x0, (State.bootCores x0).mem = x0.mem := by
  intro x0
  unfold State.bootCores
  simp

@[simp] theorem State.bootLinks_mem : ∀ x0, (State.bootLinks x0).mem = x0.mem := by
  intro x0
  unfold State.bootLinks
  simp

@[simp] theorem State.bootYard_mem : ∀ x0, (State.bootYard x0).mem = x0.mem := by
  intro x0
  unfold State.bootYard
  simp

@[simp] theorem State.belowGuarantee_mem : ∀ x0, (State.belowGuarantee x0).mem = x0.mem := by
  intro x0
  unfold State.belowGuarantee
  simp

@[simp] theorem State.railsGood_mem : ∀ x0, (State.railsGood x0).mem = x0.mem := by
  intro x0
  unfold State.railsGood
  rfl

@[simp] theorem State.startRails_mem : ∀ x0, (State.startRails x0).mem = x0.mem := by
  intro x0
  unfold State.startRails
  simp

@[simp] theorem State.railGood_mem : ∀ x0 x1, (State.railGood x0 x1).mem = x0.mem := by
  intro x0 x1
  unfold State.railGood
  simp

@[simp] theorem State.railDown_mem : ∀ x0 x1, (State.railDown x0 x1).mem = x0.mem := by
  intro x0 x1
  unfold State.railDown
  simp

@[simp] theorem State.sillBoot_mem : ∀ x0 x1, (State.sillBoot x0 x1).mem = x0.mem := by
  intro x0 x1
  unfold State.sillBoot
  try dsimp -iota only
  (repeat' split) <;> simp

@[simp] theorem State.halfTested_mem : ∀ x0 x1 x2, (State.halfTested x0 x1 x2).mem = x0.mem := by
  intro x0 x1 x2
  unfold State.halfTested
  simp

@[simp] theorem State.firstClaim_mem : ∀ x0 x1 x2 x3, (State.firstClaim x0 x1 x2 x3).mem = x0.mem := by
  intro x0 x1 x2 x3
  unfold State.firstClaim
  simp

@[simp] theorem State.grant_mem : ∀ x0 x1 x2 x3 x4, (State.grant x0 x1 x2 x3 x4).mem = x0.mem := by
  intro x0 x1 x2 x3 x4
  unfold State.grant
  simp

@[simp] theorem State.planBuild_mem : ∀ x0, (State.planBuild x0).mem = x0.mem := by
  intro x0
  unfold State.planBuild
  simp

@[simp] theorem State.siteFails_mem : ∀ x0 x1, (State.siteFails x0 x1).mem = x0.mem := by
  intro x0 x1
  unfold State.siteFails
  simp

@[simp] theorem State.siteInit_mem : ∀ x0 x1 x2, (State.siteInit x0 x1 x2).mem = x0.mem := by
  intro x0 x1 x2
  unfold State.siteInit
  simp

@[simp] theorem State.siteRound_mem : ∀ x0 x1 x2, (State.siteRound x0 x1 x2).mem = x0.mem := by
  intro x0 x1 x2
  unfold State.siteRound
  try dsimp -iota only
  (repeat' split) <;> simp

@[simp] theorem State.wave_mem : ∀ x0, (State.wave x0).mem = x0.mem := by
  intro x0
  unfold State.wave
  simp

@[simp] theorem State.broadcast_mem : ∀ x0 x1 x2, (State.broadcast x0 x1 x2).mem = x0.mem := by
  intro x0 x1 x2
  unfold State.broadcast
  simp

@[simp] theorem State.repair_mem : ∀ x0 x1 x2, (State.repair x0 x1 x2).mem = x0.mem := by
  intro x0 x1 x2
  unfold State.repair
  simp

@[simp] theorem State.coreTested_mem : ∀ x0 x1 x2, (State.coreTested x0 x1 x2).mem = x0.mem := by
  intro x0 x1 x2
  unfold State.coreTested
  simp

@[simp] theorem State.planSigned_mem : ∀ x0, (State.planSigned x0).mem = x0.mem := by
  intro x0
  unfold State.planSigned
  try dsimp -iota only
  (repeat' split) <;> simp

@[simp] theorem State.planFlashed_mem : ∀ x0, (State.planFlashed x0).mem = x0.mem := by
  intro x0
  unfold State.planFlashed
  try dsimp -iota only
  (repeat' split) <;> simp

@[simp] theorem State.modJoiner_mem : ∀ x0 x1 x2, (State.modJoiner x0 x1 x2).mem = x0.mem := by
  intro x0 x1 x2
  unfold State.modJoiner
  rfl

@[simp] theorem State.heartbeat_mem : ∀ x0 x1 x2 x3, (State.heartbeat x0 x1 x2 x3).mem = x0.mem := by
  intro x0 x1 x2 x3
  unfold State.heartbeat
  simp

@[simp] theorem State.abortHeld_mem : ∀ x0 x1, (State.abortHeld x0 x1).mem = x0.mem := by
  intro x0 x1
  unfold State.abortHeld
  simp

@[simp] theorem State.leaveStopped_mem : ∀ x0 x1, (State.leaveStopped x0 x1).mem = x0.mem := by
  intro x0 x1
  unfold State.leaveStopped
  simp

@[simp] theorem State.heartbeatLate_mem : ∀ x0 x1, (State.heartbeatLate x0 x1).mem = x0.mem := by
  intro x0 x1
  unfold State.heartbeatLate
  simp

@[simp] theorem State.restarted_mem : ∀ x0 x1, (State.restarted x0 x1).mem = x0.mem := by
  intro x0 x1
  unfold State.restarted
  simp

@[simp] theorem State.healthFail_mem : ∀ x0, (State.healthFail x0).mem = x0.mem := by
  intro x0
  unfold State.healthFail
  simp

@[simp] theorem State.protect__mem : ∀ x0 x1 x2, (State.protect_ x0 x1 x2).mem = x0.mem := by
  intro x0 x1 x2
  unfold State.protect_
  simp

@[simp] theorem State.sbSet_mem : ∀ x0 x1, (State.sbSet x0 x1).mem = x0.mem := by
  intro x0 x1
  unfold State.sbSet
  rfl

@[simp] theorem State.boardMax_mem : ∀ x0 x1, (State.boardMax x0 x1).mem = x0.mem := by
  intro x0 x1
  unfold State.boardMax
  simp

@[simp] theorem State.sbClear_mem : ∀ x0 x1, (State.sbClear x0 x1).mem = x0.mem := by
  intro x0 x1
  unfold State.sbClear
  simp

@[simp] theorem State.modLinks_mem : ∀ x0 x1, (State.modLinks x0 x1).mem = x0.mem := by
  intro x0 x1
  unfold State.modLinks
  rfl

@[simp] theorem State.flit_mem : ∀ x0 x1 x2, (State.flit x0 x1 x2).mem = x0.mem := by
  intro x0 x1 x2
  unfold State.flit
  simp

@[simp] theorem State.bridgeDone_mem : ∀ x0, (State.bridgeDone x0).mem = x0.mem := by
  intro x0
  unfold State.bridgeDone
  try dsimp -iota only
  (repeat' split) <;> simp

@[simp] theorem State.meterEnd_mem : ∀ x0 x1, (State.meterEnd x0 x1).mem = x0.mem := by
  intro x0 x1
  unfold State.meterEnd
  simp

@[simp] theorem State.modPort_mem : ∀ x0 x1 x2, (State.modPort x0 x1 x2).mem = x0.mem := by
  intro x0 x1 x2
  unfold State.modPort
  rfl

@[simp] theorem State.discard_mem : ∀ x0 x1, (State.discard x0 x1).mem = x0.mem := by
  intro x0 x1
  unfold State.discard
  rfl

@[simp] theorem State.writePortEntry_mem : ∀ x0 x1, (State.writePortEntry x0 x1).mem = x0.mem := by
  intro x0 x1
  unfold State.writePortEntry
  rfl

@[simp] theorem State.linkDegraded_mem : ∀ x0 x1 x2 x3, (State.linkDegraded x0 x1 x2 x3).mem = x0.mem := by
  intro x0 x1 x2 x3
  unfold State.linkDegraded
  simp

@[simp] theorem State.degradedIf_mem : ∀ x0 x1, (State.degradedIf x0 x1).mem = x0.mem := by
  intro x0 x1
  unfold State.degradedIf
  simp

@[simp] theorem State.laneReset_mem : ∀ x0 x1 x2, (State.laneReset x0 x1 x2).mem = x0.mem := by
  intro x0 x1 x2
  unfold State.laneReset
  simp

@[simp] theorem State.masksExchanged_mem : ∀ x0 x1 x2, (State.masksExchanged x0 x1 x2).mem = x0.mem := by
  intro x0 x1 x2
  unfold State.masksExchanged
  simp

@[simp] theorem State.enqueue_mem : ∀ x0 x1 x2, (State.enqueue x0 x1 x2).mem = x0.mem := by
  intro x0 x1 x2
  unfold State.enqueue
  rfl

@[simp] theorem State.sayIdentity_mem : ∀ x0 x1, (State.sayIdentity x0 x1).mem = x0.mem := by
  intro x0 x1
  unfold State.sayIdentity
  simp

@[simp] theorem State.locked_mem : ∀ x0 x1 x2, (State.locked x0 x1 x2).mem = x0.mem := by
  intro x0 x1 x2
  unfold State.locked
  simp

@[simp] theorem State.identity_mem : ∀ x0 x1 x2 x3 x4, (State.identity x0 x1 x2 x3 x4).mem = x0.mem := by
  intro x0 x1 x2 x3 x4
  unfold State.identity
  simp

@[simp] theorem State.freeCredits_mem : ∀ x0 x1, (State.freeCredits x0 x1).mem = x0.mem := by
  intro x0 x1
  unfold State.freeCredits
  try dsimp -iota only
  (repeat' split) <;> simp

@[simp] theorem State.sendFirm_mem : ∀ x0 x1 x2 x3 x4 x5 x6, (State.sendFirm x0 x1 x2 x3 x4 x5 x6).mem = x0.mem := by
  intro x0 x1 x2 x3 x4 x5 x6
  unfold State.sendFirm
  try dsimp -iota only
  (repeat' split) <;> simp

@[simp] theorem State.deliverHere_mem : ∀ x0 x1 x2, (State.deliverHere x0 x1 x2).mem = x0.mem := by
  intro x0 x1 x2
  unfold State.deliverHere
  simp

@[simp] theorem State.forward_mem : ∀ s p q, (State.forward s p q).1.mem = s.mem := by
  intros; unfold State.forward; (repeat' split) <;> simp

@[simp] theorem State.send_mem : ∀ s a b c d e f g, (State.send s a b c d e f g).1.mem = s.mem := by
  intros; unfold State.send; (repeat' split) <;> simp

@[simp] theorem State.packetStart_mem : ∀ x0 x1, (State.packetStart x0 x1).mem = x0.mem := by
  intro x0 x1
  unfold State.packetStart
  try dsimp -iota only
  (repeat' split) <;> simp

@[simp] theorem State.framePeriod_mem : ∀ s n, (State.framePeriod s n).mem = s.mem := by
  intro s n; unfold State.framePeriod
  lift_lets
  extract_lets
  split
  · rfl
  · rw [State.setPort_mem]

@[simp] theorem State.retrain_mem : ∀ x0 x1, (State.retrain x0 x1).mem = x0.mem := by
  intro x0 x1
  unfold State.retrain
  simp

@[simp] theorem State.replay_mem : ∀ x0 x1, (State.replay x0 x1).mem = x0.mem := by
  intro x0 x1
  unfold State.replay
  simp

@[simp] theorem State.replayLate_mem : ∀ x0 x1, (State.replayLate x0 x1).mem = x0.mem := by
  intro x0 x1
  unfold State.replayLate
  simp

@[simp] theorem State.ackFrames_mem : ∀ x0 x1 x2, (State.ackFrames x0 x1 x2).mem = x0.mem := by
  intro x0 x1 x2
  unfold State.ackFrames
  try dsimp -iota only
  (repeat' split) <;> simp

@[simp] theorem State.addCredits_mem : ∀ x0 x1 x2, (State.addCredits x0 x1 x2).mem = x0.mem := by
  intro x0 x1 x2
  unfold State.addCredits
  rfl

@[simp] theorem State.arrive_mem : ∀ x0 x1 x2 x3, (State.arrive x0 x1 x2 x3).mem = x0.mem := by
  intro x0 x1 x2 x3
  unfold State.arrive
  simp

@[simp] theorem State.takePackets_mem : ∀ x0 x1 x2 x3, (State.takePackets x0 x1 x2 x3).mem = x0.mem := by
  intro x0 x1 x2 x3
  unfold State.takePackets
  try dsimp -iota only
  (repeat' split) <;> simp

@[simp] theorem State.rollLane_mem : ∀ x0 x1, (State.rollLane x0 x1).mem = x0.mem := by
  intro x0 x1
  unfold State.rollLane
  simp

@[simp] theorem State.countFec_mem : ∀ x0 x1 x2, (State.countFec x0 x1 x2).mem = x0.mem := by
  intro x0 x1 x2
  unfold State.countFec
  simp

@[simp] theorem State.badFrame_mem : ∀ x0 x1, (State.badFrame x0 x1).mem = x0.mem := by
  intro x0 x1
  unfold State.badFrame
  rfl

@[simp] theorem State.frameState_mem : ∀ x0 x1 x2, (State.frameState x0 x1 x2).mem = x0.mem := by
  intro x0 x1 x2
  unfold State.frameState
  simp

@[simp] theorem State.sequenced_mem : ∀ x0 x1 x2, (State.sequenced x0 x1 x2).mem = x0.mem := by
  intro x0 x1 x2
  unfold State.sequenced
  simp

@[simp] theorem State.frameIn_mem : ∀ x0 x1 x2 x3, (State.frameIn x0 x1 x2 x3).mem = x0.mem := by
  intro x0 x1 x2 x3
  unfold State.frameIn
  simp

@[simp] theorem State.laneWindow_mem : ∀ x0 x1, (State.laneWindow x0 x1).mem = x0.mem := by
  intro x0 x1
  unfold State.laneWindow
  simp

@[simp] theorem State.portDown_mem : ∀ x0 x1 x2, (State.portDown x0 x1 x2).mem = x0.mem := by
  intro x0 x1 x2
  unfold State.portDown
  simp

@[simp] theorem State.retrained_mem : ∀ x0 x1 x2 x3 x4, (State.retrained x0 x1 x2 x3 x4).mem = x0.mem := by
  intro x0 x1 x2 x3 x4
  unfold State.retrained
  simp

@[simp] theorem State.routeBuilt_mem : ∀ x0 x1, (State.routeBuilt x0 x1).mem = x0.mem := by
  intro x0 x1
  unfold State.routeBuilt
  simp

@[simp] theorem State.answer_mem : ∀ x0 x1, (State.answer x0 x1).mem = x0.mem := by
  intro x0 x1
  unfold State.answer
  rfl

@[simp] theorem State.readHost_mem : ∀ x0 x1 x2 x3 x4 x5 x6 x7, (State.readHost x0 x1 x2 x3 x4 x5 x6 x7).mem = x0.mem := by
  intro x0 x1 x2 x3 x4 x5 x6 x7
  unfold State.readHost
  simp

@[simp] theorem State.regReadAt_mem : ∀ x0 x1 x2 x3, (State.regReadAt x0 x1 x2 x3).mem = x0.mem := by
  intro x0 x1 x2 x3
  unfold State.regReadAt
  try dsimp -iota only
  (repeat' split) <;> simp

@[simp] theorem State.dbCmd_mem : ∀ x0 x1 x2, (State.dbCmd x0 x1 x2).mem = x0.mem := by
  intro x0 x1 x2
  unfold State.dbCmd
  simp

@[simp] theorem State.dbCpl_mem : ∀ x0 x1 x2, (State.dbCpl x0 x1 x2).mem = x0.mem := by
  intro x0 x1 x2
  unfold State.dbCpl
  simp

@[simp] theorem State.irqDelayed_mem : ∀ x0 x1, (State.irqDelayed x0 x1).mem = x0.mem := by
  intro x0 x1
  unfold State.irqDelayed
  try dsimp -iota only
  (repeat' split) <;> simp

@[simp] theorem State.evqResume_mem : ∀ x0 x1, (State.evqResume x0 x1).mem = x0.mem := by
  intro x0 x1
  unfold State.evqResume
  simp

@[simp] theorem State.dbEvq_mem : ∀ x0 x1 x2, (State.dbEvq x0 x1 x2).mem = x0.mem := by
  intro x0 x1 x2
  unfold State.dbEvq
  simp

@[simp] theorem State.fnCtl_mem : ∀ x0 x1 x2, (State.fnCtl x0 x1 x2).mem = x0.mem := by
  intro x0 x1 x2
  unfold State.fnCtl
  simp

@[simp] theorem State.errClear_mem : ∀ x0 x1 x2, (State.errClear x0 x1 x2).mem = x0.mem := by
  intro x0 x1 x2
  unfold State.errClear
  simp

@[simp] theorem State.discarded_mem : ∀ x0 x1, (State.discarded x0 x1).mem = x0.mem := by
  intro x0 x1
  unfold State.discarded
  try dsimp -iota only
  (repeat' split) <;> simp

@[simp] theorem State.holdHi_mem : ∀ x0 x1 x2 x3, (State.holdHi x0 x1 x2 x3).mem = x0.mem := by
  intro x0 x1 x2 x3
  unfold State.holdHi
  try dsimp -iota only
  (repeat' split) <;> simp

@[simp] theorem State.dropHi_mem : ∀ x0 x1 x2, (State.dropHi x0 x1 x2).mem = x0.mem := by
  intro x0 x1 x2
  unfold State.dropHi
  try dsimp -iota only
  (repeat' split) <;> simp

@[simp] theorem State.startRoute_mem : ∀ x0, (State.startRoute x0).mem = x0.mem := by
  intro x0
  unfold State.startRoute
  simp

@[simp] theorem State.setCoord_mem : ∀ x0 x1 x2, (State.setCoord x0 x1 x2).mem = x0.mem := by
  intro x0 x1 x2
  unfold State.setCoord
  simp

@[simp] theorem State.coordWrite_mem : ∀ x0 x1 x2 x3, (State.coordWrite x0 x1 x2 x3).mem = x0.mem := by
  intro x0 x1 x2 x3
  unfold State.coordWrite
  simp

@[simp] theorem State.recompute0_mem : ∀ x0 x1, (State.recompute0 x0 x1).mem = x0.mem := by
  intro x0 x1
  unfold State.recompute0
  simp

@[simp] theorem State.creditWrite_mem : ∀ x0 x1 x2, (State.creditWrite x0 x1 x2).mem = x0.mem := by
  intro x0 x1 x2
  unfold State.creditWrite
  simp

@[simp] theorem State.write0_mem : ∀ x0 x1 x2 x3, (State.write0 x0 x1 x2 x3).mem = x0.mem := by
  intro x0 x1 x2 x3
  unfold State.write0
  try dsimp -iota only
  (repeat' split) <;> simp

@[simp] theorem State.baseWrite_mem : ∀ x0 x1 x2 x3, (State.baseWrite x0 x1 x2 x3).mem = x0.mem := by
  intro x0 x1 x2 x3
  unfold State.baseWrite
  simp

@[simp] theorem State.msixWrite_mem : ∀ x0 x1 x2 x3, (State.msixWrite x0 x1 x2 x3).mem = x0.mem := by
  intro x0 x1 x2 x3
  unfold State.msixWrite
  rfl

@[simp] theorem State.write2_mem : ∀ x0 x1 x2 x3, (State.write2 x0 x1 x2 x3).mem = x0.mem := by
  intro x0 x1 x2 x3
  unfold State.write2
  try dsimp -iota only
  (repeat' split) <;> simp

@[simp] theorem State.writeSb_mem : ∀ x0 x1 x2, (State.writeSb x0 x1 x2).mem = x0.mem := by
  intro x0 x1 x2
  unfold State.writeSb
  try dsimp -iota only
  (repeat' split) <;> simp

@[simp] theorem State.regWriteAt_mem : ∀ x0 x1 x2 x3, (State.regWriteAt x0 x1 x2 x3).mem = x0.mem := by
  intro x0 x1 x2 x3
  unfold State.regWriteAt
  try dsimp -iota only
  (repeat' split) <;> simp

@[simp] theorem State.logRead_mem : ∀ x0 x1 x2, (State.logRead x0 x1 x2).mem = x0.mem := by
  intro x0 x1 x2
  unfold State.logRead
  try dsimp -iota only
  (repeat' split) <;> simp

@[simp] theorem State.fetchCmd_mem : ∀ x0 x1 x2, (State.fetchCmd x0 x1 x2).mem = x0.mem := by
  intro x0 x1 x2
  unfold State.fetchCmd
  try dsimp -iota only
  (repeat' split) <;> simp

@[simp] theorem State.await_mem : ∀ x0 x1 x2, (State.await x0 x1 x2).mem = x0.mem := by
  intro x0 x1 x2
  unfold State.await
  rfl

theorem State.begin_mem : ∀ s n a b c f, (∀ x t, (f x t).mem = t.mem) → (State.begin s n a b c f).mem = s.mem := by
  intro s n a b c f h; unfold State.begin; (repeat' split) <;> simp [h]

@[simp] theorem State.cmdFault_mem : ∀ x0 x1 x2 x3 x4 x5, (State.cmdFault x0 x1 x2 x3 x4 x5).mem = x0.mem := by
  intro x0 x1 x2 x3 x4 x5
  unfold State.cmdFault
  simp

theorem State.cmdRead_mem : ∀ s n c a m f, (∀ x t, (f x t).mem = t.mem) → (State.cmdRead s n c a m f).mem = s.mem := by
  intro s n c a m f h; unfold State.cmdRead; split <;> simp [h]

@[simp] theorem State.invalid_mem : ∀ x0 x1 x2 x3, (State.invalid x0 x1 x2 x3).mem = x0.mem := by
  intro x0 x1 x2 x3
  unfold State.invalid
  simp

@[simp] theorem State.freeTag_mem : ∀ s, (State.freeTag s).2.mem = s.mem := by
  intros; unfold State.freeTag; rfl

@[simp] theorem State.setPeg_mem : ∀ x0 x1 x2 x3, (State.setPeg x0 x1 x2 x3).mem = x0.mem := by
  intro x0 x1 x2 x3
  unfold State.setPeg
  rfl

@[simp] theorem State.sendBlocks_mem : ∀ s a b c d e, (State.sendBlocks s a b c d e).1.mem = s.mem := fun s a b c d e =>
  keeps_foldl (fun x : State × Bool => x.1.mem) (fun _ _ => by simp) _ _

@[simp] theorem State.sendTail_mem : ∀ r c k d p st b, (State.sendTail r c k d p st b).1.mem = r.1.mem := by
  intro r c k d p st b; unfold State.sendTail
  split
  · rfl
  · extract_lets
    split
    · rfl
    · simp +zetaDelta

@[simp] theorem State.sendWrites_mem : ∀ s c k d p st a b, (State.sendWrites s c k d p st a b).1.mem = s.mem := by
  intro s c k d p st a b
  unfold State.sendWrites
  extract_lets _ _ _ t
  refine (keeps_foldl (fun x : State × Bool => x.1.mem) (fun _ _ => by simp) _ _).trans ?_
  simp [t]

@[simp] theorem State.sendRsig_mem : ∀ x0 x1 x2 x3 x4, (State.sendRsig x0 x1 x2 x3 x4).mem = x0.mem := by
  intro x0 x1 x2 x3 x4
  unfold State.sendRsig
  simp

@[simp] theorem State.sendOwed_mem : ∀ x0 x1 x2 x3 x4 x5, (State.sendOwed x0 x1 x2 x3 x4 x5).mem = x0.mem := by
  intro x0 x1 x2 x3 x4 x5
  unfold State.sendOwed
  try dsimp -iota only
  (repeat' split) <;> simp

@[simp] theorem State.sendControl_mem : ∀ s a b c d e, (State.sendControl s a b c d e).1.mem = s.mem := by
  intros; unfold State.sendControl; simp

@[simp] theorem State.collEvent_mem : ∀ x0 x1 x2 x3 x4, (State.collEvent x0 x1 x2 x3 x4).mem = x0.mem := by
  intro x0 x1 x2 x3 x4
  unfold State.collEvent
  simp

@[simp] theorem State.dropPeg_mem : ∀ x0 x1 x2, (State.dropPeg x0 x1 x2).mem = x0.mem := by
  intro x0 x1 x2
  unfold State.dropPeg
  rfl

theorem State.pegRead_mem : ∀ s c k b w r t, State.pegRead s c k b w r = .ok t → t.2.mem = s.mem := by
  intro s c k b w r t e
  unfold State.pegRead at e
  extract_lets at e
  split at e
  · obtain rfl := Except.ok.inj e; simp
  · cases e

@[simp] theorem State.pegNear_mem : ∀ x0 x1 x2, (State.pegNear x0 x1 x2).mem = x0.mem := by
  intro x0 x1 x2
  unfold State.pegNear
  simp

@[simp] theorem State.committed_mem : ∀ x0 x1 x2, (State.committed x0 x1 x2).mem = x0.mem := by
  intro x0 x1 x2
  unfold State.committed
  simp

@[simp] theorem State.discardRemote_mem : ∀ x0 x1 x2 x3, (State.discardRemote x0 x1 x2 x3).mem = x0.mem := by
  intro x0 x1 x2 x3
  unfold State.discardRemote
  simp

@[simp] theorem State.groupDefine_mem : ∀ x0 x1 x2, (State.groupDefine x0 x1 x2).mem = x0.mem := by
  intro x0 x1 x2
  unfold State.groupDefine
  simp

@[simp] theorem State.pegUnload_mem : ∀ x0 x1 x2, (State.pegUnload x0 x1 x2).mem = x0.mem := by
  intro x0 x1 x2
  unfold State.pegUnload
  simp

@[simp] theorem State.setList_mem : ∀ x0 x1, (State.setList x0 x1).mem = x0.mem := by
  intro x0 x1
  unfold State.setList
  rfl

@[simp] theorem State.setTask_mem : ∀ x0 x1, (State.setTask x0 x1).mem = x0.mem := by
  intro x0 x1
  unfold State.setTask
  try dsimp -iota only
  (repeat' split) <;> simp

@[simp] theorem State.modTask_mem : ∀ x0 x1 x2 x3 x4, (State.modTask x0 x1 x2 x3 x4).mem = x0.mem := by
  intro x0 x1 x2 x3 x4
  unfold State.modTask
  try dsimp -iota only
  (repeat' split) <;> simp

@[simp] theorem State.holdTask_mem : ∀ x0 x1 x2 x3 x4, (State.holdTask x0 x1 x2 x3 x4).mem = x0.mem := by
  intro x0 x1 x2 x3 x4
  unfold State.holdTask
  rfl

@[simp] theorem State.endLaunch_mem : ∀ x0 x1 x2 x3 x4, (State.endLaunch x0 x1 x2 x3 x4).mem = x0.mem := by
  intro x0 x1 x2 x3 x4
  unfold State.endLaunch
  try dsimp -iota only
  (repeat' split) <;> simp

@[simp] theorem State.haltList_mem : ∀ x0 x1 x2 x3 x4 x5, (State.haltList x0 x1 x2 x3 x4 x5).mem = x0.mem := by
  intro x0 x1 x2 x3 x4 x5
  unfold State.haltList
  try dsimp -iota only
  (repeat' split) <;> simp

@[simp] theorem State.sweepSwaps_mem : ∀ x0, (State.sweepSwaps x0).mem = x0.mem := by
  intro x0
  unfold State.sweepSwaps
  simp

@[simp] theorem State.readAhead_mem : ∀ s l i, (State.readAhead s l i).1.mem = s.mem := by
  intros; unfold State.readAhead; dsimp -iota only; (repeat' split) <;> simp

@[simp] theorem State.fetchDescriptor_mem : ∀ x0 x1 x2, (State.fetchDescriptor x0 x1 x2).mem = x0.mem := by
  intro x0 x1 x2
  unfold State.fetchDescriptor
  try dsimp -iota only
  (repeat' split) <;> simp

@[simp] theorem State.enterTask_mem : ∀ x0 x1 x2 x3, (State.enterTask x0 x1 x2 x3).mem = x0.mem := by
  intro x0 x1 x2 x3
  unfold State.enterTask
  try dsimp -iota only
  (repeat' split) <;> simp

@[simp] theorem State.startTask_mem : ∀ x0 x1 x2 x3 x4, (State.startTask x0 x1 x2 x3 x4).mem = x0.mem := by
  intro x0 x1 x2 x3 x4
  unfold State.startTask
  simp

@[simp] theorem State.lostTask_mem : ∀ x0 x1 x2, (State.lostTask x0 x1 x2).mem = x0.mem := by
  intro x0 x1 x2
  unfold State.lostTask
  simp

@[simp] theorem State.lostPair_mem : ∀ x0 x1 x2 x3, (State.lostPair x0 x1 x2 x3).mem = x0.mem := by
  intro x0 x1 x2 x3
  unfold State.lostPair
  simp

@[simp] theorem State.takeTask_mem : ∀ x0 x1 x2, (State.takeTask x0 x1 x2).mem = x0.mem := by
  intro x0 x1 x2
  unfold State.takeTask
  try dsimp -iota only
  (repeat' split) <;> simp

@[simp] theorem State.takeWait_mem : ∀ x0 x1 x2, (State.takeWait x0 x1 x2).mem = x0.mem := by
  intro x0 x1 x2
  unfold State.takeWait
  try dsimp -iota only
  (repeat' split) <;> simp

@[simp] theorem State.addFetch_mem : ∀ x0 x1 x2 x3 x4, (State.addFetch x0 x1 x2 x3 x4).mem = x0.mem := by
  intro x0 x1 x2 x3 x4
  unfold State.addFetch
  simp

@[simp] theorem State.fetchOperand_mem : ∀ x0 x1 x2 x3 x4, (State.fetchOperand x0 x1 x2 x3 x4).mem = x0.mem := by
  intro x0 x1 x2 x3 x4
  unfold State.fetchOperand
  simp

@[simp] theorem State.fetchTiles_mem : ∀ x0 x1 x2 x3, (State.fetchTiles x0 x1 x2 x3).mem = x0.mem := by
  intro x0 x1 x2 x3
  unfold State.fetchTiles
  try dsimp -iota only
  (repeat' split) <;> simp

@[simp] theorem State.fetchWalk_mem : ∀ x0 x1 x2, (State.fetchWalk x0 x1 x2).mem = x0.mem := by
  intro x0 x1 x2
  unfold State.fetchWalk
  try dsimp -iota only
  (repeat' split) <;> simp

@[simp] theorem State.openTask_mem : ∀ x0 x1, (State.openTask x0 x1).mem = x0.mem := by
  intro x0 x1
  unfold State.openTask
  simp

@[simp] theorem State.raceEvent_mem : ∀ x0 x1 x2 x3 x4 x5, (State.raceEvent x0 x1 x2 x3 x4 x5).mem = x0.mem := by
  intro x0 x1 x2 x3 x4 x5
  unfold State.raceEvent
  simp

@[simp] theorem State.loadTasks_mem : ∀ x0 x1 x2, (State.loadTasks x0 x1 x2).mem = x0.mem := by
  intro x0 x1 x2
  unfold State.loadTasks
  simp

@[simp] theorem State.launch_mem : ∀ x0 x1 x2, (State.launch x0 x1 x2).mem = x0.mem := by
  intro x0 x1 x2
  unfold State.launch
  try dsimp -iota only
  (repeat' split) <;> simp

@[simp] theorem State.modScribe_mem : ∀ x0 x1, (State.modScribe x0 x1).mem = x0.mem := by
  intro x0 x1
  unfold State.modScribe
  rfl

@[simp] theorem State.delRun_mem : ∀ x0 x1, (State.delRun x0 x1).mem = x0.mem := by
  intro x0 x1
  unfold State.delRun
  rfl

@[simp] theorem State.setCheck_mem : ∀ x0 x1, (State.setCheck x0 x1).mem = x0.mem := by
  intro x0 x1
  unfold State.setCheck
  rfl

@[simp] theorem State.delCheck_mem : ∀ x0 x1, (State.delCheck x0 x1).mem = x0.mem := by
  intro x0 x1
  unfold State.delCheck
  simp

@[simp] theorem State.endClaim_mem : ∀ x0 x1, (State.endClaim x0 x1).mem = x0.mem := by
  intro x0 x1
  unfold State.endClaim
  try dsimp -iota only
  (repeat' split) <;> simp

@[simp] theorem State.addRun_mem : ∀ x0 x1 x2 x3 x4 x5, (State.addRun x0 x1 x2 x3 x4 x5).mem = x0.mem := by
  intro x0 x1 x2 x3 x4 x5
  unfold State.addRun
  rfl

theorem State.dupBay_mem : ∀ s a b t, State.dupBay s a b = some t → t.2.mem = s.mem := by
  intro s a b t h
  unfold State.dupBay at h
  simp only [Option.map_eq_some_iff] at h
  obtain ⟨b, _, rfl⟩ := h; simp

@[simp] theorem State.startTile_mem : ∀ x0 x1 x2 x3, (State.startTile x0 x1 x2 x3).mem = x0.mem := by
  intro x0 x1 x2 x3
  unfold State.startTile
  try dsimp -iota only
  (repeat' split)
  all_goals first
      | (simp; done)
      | (apply State.forAll_mem; intros; (repeat' split) <;> simp; done)
      | (have hh := State.dupBay_mem _ _ _ _ (by assumption); (try dsimp only at hh); first | (simp [hh]; done) | (simp_all; done))
      | (simp_all; done)

@[simp] theorem State.takeHandles_mem : ∀ x0 x1 x2, (State.takeHandles x0 x1 x2).mem = x0.mem := by
  intro x0 x1 x2
  unfold State.takeHandles
  try dsimp -iota only
  (repeat' split)
  all_goals first
      | (simp; done)
      | (apply State.forAll_mem; intros; (repeat' split) <;> simp; done)
      | (simp_all; done)

@[simp] theorem State.noticeClaim_mem : ∀ x0 x1, (State.noticeClaim x0 x1).mem = x0.mem := by
  intro x0 x1
  unfold State.noticeClaim
  try dsimp -iota only
  (repeat' split) <;> simp

@[simp] theorem State.setRun_mem : ∀ x0 x1, (State.setRun x0 x1).mem = x0.mem := by
  intro x0 x1
  unfold State.setRun
  rfl

@[simp] theorem State.yieldCore_mem : ∀ x0 x1, (State.yieldCore x0 x1).mem = x0.mem := by
  intro x0 x1
  unfold State.yieldCore
  simp

@[simp] theorem State.sdcEvent_mem : ∀ x0 x1 x2 x3 x4, (State.sdcEvent x0 x1 x2 x3 x4).mem = x0.mem := by
  intro x0 x1 x2 x3 x4
  unfold State.sdcEvent
  simp

@[simp] theorem State.agreed_mem : ∀ x0 x1 x2, (State.agreed x0 x1 x2).mem = x0.mem := by
  intro x0 x1 x2
  unfold State.agreed
  rfl

@[simp] theorem State.outvoted_mem : ∀ x0 x1 x2 x3 x4, (State.outvoted x0 x1 x2 x3 x4).mem = x0.mem := by
  intro x0 x1 x2 x3 x4
  unfold State.outvoted
  simp

@[simp] theorem State.taskEvent_mem : ∀ x0 x1 x2, (State.taskEvent x0 x1 x2).mem = x0.mem := by
  intro x0 x1 x2
  unfold State.taskEvent
  simp

@[simp] theorem State.setPlane_mem : ∀ x0 x1 x2 x3, (State.setPlane x0 x1 x2 x3).mem = x0.mem := by
  intro x0 x1 x2 x3
  unfold State.setPlane
  rfl

@[simp] theorem State.freePlane_mem : ∀ x0 x1 x2, (State.freePlane x0 x1 x2).mem = x0.mem := by
  intro x0 x1 x2
  unfold State.freePlane
  rfl

@[simp] theorem State.passRequests_mem : ∀ x0 x1 x2 x3 x4, (State.passRequests x0 x1 x2 x3 x4).mem = x0.mem := by
  intro x0 x1 x2 x3 x4
  unfold State.passRequests
  try dsimp -iota only
  (repeat' split)
  all_goals first
      | (simp; done)
      | (apply State.forAll_mem; intros; (repeat' split) <;> simp; done)
      | (simp_all; done)

@[simp] theorem State.asPass_mem : ∀ x0 x1 x2, (State.asPass x0 x1 x2).mem = x0.mem := by
  intro x0 x1 x2
  unfold State.asPass
  rfl

@[simp] theorem State.mappedAs_mem : ∀ t s, (State.mappedAs t s).mem = t.mem := fun _ _ => rfl

@[simp] theorem State.countPlane_mem : ∀ x0 x1 x2, (State.countPlane x0 x1 x2).mem = x0.mem := by
  intro x0 x1 x2
  unfold State.countPlane
  rfl

@[simp] theorem State.bar4Answer_mem : ∀ x0 x1, (State.bar4Answer x0 x1).mem = x0.mem := by
  intro x0 x1
  unfold State.bar4Answer
  rfl

@[simp] theorem State.bar4Refuse_mem : ∀ x0 x1, (State.bar4Refuse x0 x1).mem = x0.mem := by
  intro x0 x1
  unfold State.bar4Refuse
  simp

@[simp] theorem State.bar4Lost_mem : ∀ x0 x1 x2 x3 x4, (State.bar4Lost x0 x1 x2 x3 x4).mem = x0.mem := by
  intro x0 x1 x2 x3 x4
  unfold State.bar4Lost
  simp

@[simp] theorem State.bar4Fault_mem : ∀ s q f w, (State.bar4Fault s q f w).1.mem = s.mem := by
  intros; unfold State.bar4Fault; split <;> simp

@[simp] theorem State.xferEvent_mem : ∀ x0 x1 x2 x3, (State.xferEvent x0 x1 x2 x3).mem = x0.mem := by
  intro x0 x1 x2 x3
  unfold State.xferEvent
  simp

@[simp] theorem State.hostStore_mem : ∀ x0 x1 x2, (State.hostStore x0 x1 x2).mem = x0.mem := by
  intro x0 x1 x2
  unfold State.hostStore
  rfl

@[simp] theorem State.xferOut_mem : ∀ x0 x1 x2, (State.xferOut x0 x1 x2).mem = x0.mem := by
  intro x0 x1 x2
  unfold State.xferOut
  try dsimp -iota only
  (repeat' split) <;> simp

@[simp] theorem State.xferStart_mem : ∀ x0 x1 x2, (State.xferStart x0 x1 x2).mem = x0.mem := by
  intro x0 x1 x2
  unfold State.xferStart
  try dsimp -iota only
  (repeat' split) <;> simp

@[simp] theorem State.streamUnwritten_mem : ∀ x0 x1 x2 x3, (State.streamUnwritten x0 x1 x2 x3).mem = x0.mem := by
  intro x0 x1 x2 x3
  unfold State.streamUnwritten
  simp

@[simp] theorem State.cmdUnresolved_mem : ∀ x0 x1 x2 x3 x4, (State.cmdUnresolved x0 x1 x2 x3 x4).mem = x0.mem := by
  intro x0 x1 x2 x3 x4
  unfold State.cmdUnresolved
  simp

@[simp] theorem State.addPage_mem : ∀ x0 x1 x2 x3 x4 x5 x6 x7 x8, (State.addPage x0 x1 x2 x3 x4 x5 x6 x7 x8).mem = x0.mem := by
  intro x0 x1 x2 x3 x4 x5 x6 x7 x8
  unfold State.addPage
  rfl

@[simp] theorem State.claimStarts_mem : ∀ x0 x1 x2 x3, (State.claimStarts x0 x1 x2 x3).mem = x0.mem := by
  intro x0 x1 x2 x3
  unfold State.claimStarts
  rfl

@[simp] theorem State.mapSlot_mem : ∀ x0 x1 x2 x3 x4 x5, (State.mapSlot x0 x1 x2 x3 x4 x5).mem = x0.mem := by
  intro x0 x1 x2 x3 x4 x5
  unfold State.mapSlot
  try dsimp -iota only
  (repeat' split)
  all_goals first
      | (simp; done)
      | (apply State.forAll_mem; intros; (repeat' split) <;> simp; done)
      | (simp_all; done)

@[simp] theorem State.admitCtx_mem : ∀ x0 x1, (State.admitCtx x0 x1).mem = x0.mem := by
  intro x0 x1
  unfold State.admitCtx
  rfl

@[simp] theorem State.ctxAdmit_mem : ∀ x0 x1 x2, (State.ctxAdmit x0 x1 x2).mem = x0.mem := by
  intro x0 x1 x2
  unfold State.ctxAdmit
  try dsimp -iota only
  (repeat' split) <;> simp

theorem State.placePages_mem : ∀ l s c a m t, State.placePages s c a m l = some t → t.mem = s.mem := by
  intro l
  induction l with
  | nil => intro s c a m t e; simp only [State.placePages, Option.some.injEq] at e; subst e; rfl
  | cons v r ih =>
    intro s c a m t e
    obtain ⟨v, hf⟩ := v
    simp only [State.placePages] at e
    split at e
    · cases e
    · split at e
      · rw [ih _ _ _ _ _ e]; simp
      · split at e
        · cases e
        · rw [ih _ _ _ _ _ e]; simp

theorem State.mapYard_mem : ∀ s c a l t, State.mapYard s c a l = .ok t → t.mem = s.mem := by
  intro s c a l t e
  unfold State.mapYard at e
  extract_lets at e
  split at e
  · exact absurd e (by simp)
  · split at e
    · rename_i u hu; obtain rfl := Except.ok.inj e; exact State.placePages_mem _ _ _ _ _ _ hu
    · cases e

theorem State.mapLoft_mem : ∀ l s c a t, State.mapLoft s c a l = .ok t → t.mem = s.mem := by
  intro l
  induction l with
  | nil => intro s c a t e; simp only [State.mapLoft, Except.ok.injEq] at e; subst e; rfl
  | cons v r ih =>
    intro s c a t e
    simp only [State.mapLoft] at e
    split at e
    · cases e
    · rw [ih _ _ _ _ e]; simp

@[simp] theorem State.freeLoft_mem : ∀ x0 x1, (State.freeLoft x0 x1).mem = x0.mem := by
  intro x0 x1
  unfold State.freeLoft
  rfl

@[simp] theorem State.dropRuns_mem : ∀ x0 x1, (State.dropRuns x0 x1).mem = x0.mem := by
  intro x0 x1
  unfold State.dropRuns
  simp

@[simp] theorem State.dropClaims_mem : ∀ x0 x1, (State.dropClaims x0 x1).mem = x0.mem := by
  intro x0 x1
  unfold State.dropClaims
  rfl

@[simp] theorem State.abortCmds_mem : ∀ x0 x1 x2, (State.abortCmds x0 x1 x2).mem = x0.mem := by
  intro x0 x1 x2
  unfold State.abortCmds
  simp

theorem State.namedStream_mem : ∀ s n c f, (∀ x, (f x).mem = s.mem) → (State.namedStream s n c f).mem = s.mem := by
  intro s n c f h; unfold State.namedStream; dsimp -iota only; (repeat' split) <;> simp [h]

theorem State.armedStream_mem : ∀ s n c f, (∀ x, (f x).mem = s.mem) → (State.armedStream s n c f).mem = s.mem := by
  intro s n c f h; unfold State.armedStream
  refine State.namedStream_mem _ _ _ _ fun _ => ?_
  split <;> simp [h]

@[simp] theorem State.streamRearm_mem : ∀ x0 x1 x2, (State.streamRearm x0 x1 x2).mem = x0.mem := by
  intro x0 x1 x2
  unfold State.streamRearm
  try dsimp -iota only
  repeat' (first | (refine State.passWrite_mem _ _ _ _ _ _ (fun _ => ?_)) | (refine State.armedStream_mem _ _ _ _ (fun _ => ?_)) | (refine State.blockAgain_mem _ _ _ _ _ (fun _ _ _ => ?_)) | (refine State.cmdRead_mem _ _ _ _ _ _ (fun _ _ => ?_)) | (refine State.seqCmd_mem _ _ _ _ (fun _ => ?_)) | (refine State.namedStream_mem _ _ _ _ (fun _ => ?_)) | (refine State.migStep_mem _ _ _ _ (fun _ _ => ?_)) | (refine State.planeCheck_mem _ _ _ _ _ (fun _ _ => ?_)) | (refine State.forAll_mem _ _ _ _ (fun _ _ => ?_)) | split)
  all_goals first
      | (simp; done)
      | (apply State.forAll_mem; intros; (repeat' split) <;> simp; done)
      | (simp_all; done)

theorem State.seqCmd_mem : ∀ s n c f, (∀ x, (f x).mem = s.mem) → (State.seqCmd s n c f).mem = s.mem := by
  intro s n c f h; unfold State.seqCmd; dsimp -iota only; (repeat' split) <;> simp [h]

@[simp] theorem State.seqControl_mem : ∀ s n c, (State.seqControl s n c).mem = s.mem := by
  intro s n c; unfold State.seqControl
  refine State.seqCmd_mem _ _ _ _ fun _ => State.cmdRead_mem _ _ _ _ _ _ fun _ _ => ?_
  split
  · simp
  · extract_lets; simp +zetaDelta

@[simp] theorem State.seqWrite_mem : ∀ s n c, (State.seqWrite s n c).mem = s.mem := by
  intro s n c; unfold State.seqWrite
  refine State.seqCmd_mem _ _ _ _ fun _ => ?_
  split
  · simp
  · refine State.cmdRead_mem _ _ _ _ _ _ fun _ _ => ?_
    extract_lets
    split <;> simp

@[simp] theorem State.buildStart_mem : ∀ x0 x1, (State.buildStart x0 x1).mem = x0.mem := by
  intro x0 x1
  unfold State.buildStart
  try dsimp -iota only
  (repeat' split) <;> simp

@[simp] theorem State.resetFn_mem : ∀ x0 x1, (State.resetFn x0 x1).mem = x0.mem := by
  intro x0 x1
  unfold State.resetFn
  rfl

@[simp] theorem State.ideClear_mem : ∀ x0 x1, (State.ideClear x0 x1).mem = x0.mem := by
  intro x0 x1
  unfold State.ideClear
  rfl

@[simp] theorem State.dropRequests_mem : ∀ x0 x1, (State.dropRequests x0 x1).mem = x0.mem := by
  intro x0 x1
  unfold State.dropRequests
  rfl

@[simp] theorem State.forgetPf0_mem : ∀ x0, (State.forgetPf0 x0).mem = x0.mem := by
  intro x0
  unfold State.forgetPf0
  rfl

@[simp] theorem State.flrPf0_mem : ∀ x0, (State.flrPf0 x0).mem = x0.mem := by
  intro x0
  unfold State.flrPf0
  rfl

@[simp] theorem State.linkTrained_mem : ∀ x0 x1 x2, (State.linkTrained x0 x1 x2).mem = x0.mem := by
  intro x0 x1 x2
  unfold State.linkTrained
  rfl

@[simp] theorem State.access_mem : ∀ x0 x1 x2, (State.access x0 x1 x2).mem = x0.mem := by
  intro x0 x1 x2
  unfold State.access
  try dsimp -iota only
  (repeat' split) <;> simp

@[simp] theorem State.configure_mem : ∀ x0 x1 x2, (State.configure x0 x1 x2).mem = x0.mem := by
  intro x0 x1 x2
  unfold State.configure
  simp

@[simp] theorem State.giveHost_mem : ∀ s n c a b r, (State.giveHost s n c a b r).mem = s.mem := by
  intro s n c a b r; unfold State.giveHost; extract_lets; split <;> simp +zetaDelta

@[simp] theorem State.floorplanGet_mem : ∀ x0 x1 x2, (State.floorplanGet x0 x1 x2).mem = x0.mem := by
  intro x0 x1 x2
  unfold State.floorplanGet
  simp

@[simp] theorem State.topoGet_mem : ∀ x0 x1 x2, (State.topoGet x0 x1 x2).mem = x0.mem := by
  intro x0 x1 x2
  unfold State.topoGet
  simp

@[simp] theorem State.powerLimit_mem : ∀ x0 x1 x2, (State.powerLimit x0 x1 x2).mem = x0.mem := by
  intro x0 x1 x2
  unfold State.powerLimit
  simp

@[simp] theorem State.attest_mem : ∀ x0 x1 x2, (State.attest x0 x1 x2).mem = x0.mem := by
  intro x0 x1 x2
  unfold State.attest
  simp

@[simp] theorem State.countSignature_mem : ∀ x0, (State.countSignature x0).mem = x0.mem := by
  intro x0
  unfold State.countSignature
  rfl

@[simp] theorem State.attestDone_mem : ∀ x0 x1 x2, (State.attestDone x0 x1 x2).mem = x0.mem := by
  intro x0 x1 x2
  unfold State.attestDone
  try dsimp -iota only
  (repeat' split) <;> simp

@[simp] theorem State.spdmDone_mem : ∀ x0 x1 x2, (State.spdmDone x0 x1 x2).mem = x0.mem := by
  intro x0 x1 x2
  unfold State.spdmDone
  try dsimp -iota only
  (repeat' split) <;> simp

@[simp] theorem State.sillOp_mem : ∀ x0 x1, (State.sillOp x0 x1).mem = x0.mem := by
  intro x0 x1
  unfold State.sillOp
  try dsimp -iota only
  (repeat' split) <;> simp

@[simp] theorem State.fwUpdate_mem : ∀ x0 x1 x2, (State.fwUpdate x0 x1 x2).mem = x0.mem := by
  intro x0 x1 x2
  unfold State.fwUpdate
  simp

@[simp] theorem State.updateEnds_mem : ∀ x0, (State.updateEnds x0).mem = x0.mem := by
  intro x0
  unfold State.updateEnds
  rfl

@[simp] theorem State.imageChecked_mem : ∀ x0 x1, (State.imageChecked x0 x1).mem = x0.mem := by
  intro x0 x1
  unfold State.imageChecked
  try dsimp -iota only
  (repeat' split) <;> simp

@[simp] theorem State.imageWritten_mem : ∀ x0 x1, (State.imageWritten x0 x1).mem = x0.mem := by
  intro x0 x1
  unfold State.imageWritten
  try dsimp -iota only
  (repeat' split) <;> simp

@[simp] theorem State.withFetchWord_mem : ∀ x0 x1 x2, (State.withFetchWord x0 x1 x2).mem = x0.mem := by
  intro x0 x1 x2
  unfold State.withFetchWord
  rfl

end Sys2Proof.Machine
end

