-- ==== Sys2Proof/Laws/FramePending.lean ====
section
/-! SUPPORT. One lemma per operation of the model over State: the queue of waiting commands is unchanged. A meaning keeps it because each operation it calls does. -/

namespace Sys2Proof.Machine

set_option Elab.async false
set_option linter.unusedTactic false
set_option linter.unreachableTactic false

@[simp] theorem State.ite_pending (c : Prop) [Decidable c] (a b : State) : (ite c a b).pending = ite c a.pending b.pending := by split <;> rfl
@[simp] theorem State.forAll_pending (α : Type) (l : List α) (f : α → State → State) (s : State) (h : ∀ a t, (f a t).pending = t.pending) : (forAll l f s).pending = s.pending := by
  unfold forAll
  induction l generalizing s with
  | nil => rfl
  | cons a l ih => simp [List.foldl, ih, h]
@[simp] theorem State.foldl_pending (α : Type) (l : List α) (f : State → α → State) (s : State) (h : ∀ a t, (f t a).pending = t.pending) : (l.foldl f s).pending = s.pending := by
  induction l generalizing s with
  | nil => rfl
  | cons a l ih => simp [List.foldl, ih, h]
@[simp] theorem State.foldr_pending (α : Type) (l : List α) (f : α → State → State) (s : State) (h : ∀ a t, (f a t).pending = t.pending) : (l.foldr f s).pending = s.pending := by
  induction l generalizing s with
  | nil => rfl
  | cons a l ih => simp [List.foldr, ih, h]

theorem State.foldlM_ok_pending {ε α : Type} (l : List α) (f : State → α → Except ε State) (h : ∀ t a u, f t a = .ok u → u.pending = t.pending) :
    ∀ s u, l.foldlM f s = .ok u → u.pending = s.pending := keeps_foldlM (fun s : State => s.pending) h l
theorem State.foldlM_some_pending {α : Type} (l : List α) (f : State → α → Option State) (h : ∀ t a u, f t a = some u → u.pending = t.pending) :
    ∀ s u, l.foldlM f s = some u → u.pending = s.pending := keeps_foldlM_option (fun s : State => s.pending) h l

@[simp] theorem State.setFn_pending : ∀ x0 x1 x2, (State.setFn x0 x1 x2).pending = x0.pending := by
  intro x0 x1 x2
  unfold State.setFn
  rfl

@[simp] theorem State.setCtx_pending : ∀ x0 x1 x2, (State.setCtx x0 x1 x2).pending = x0.pending := by
  intro x0 x1 x2
  unfold State.setCtx
  rfl

@[simp] theorem State.setBay_pending : ∀ x0 x1 x2, (State.setBay x0 x1 x2).pending = x0.pending := by
  intro x0 x1 x2
  unfold State.setBay
  rfl

@[simp] theorem State.setSite_pending : ∀ x0 x1 x2, (State.setSite x0 x1 x2).pending = x0.pending := by
  intro x0 x1 x2
  unfold State.setSite
  rfl

@[simp] theorem State.setPort_pending : ∀ x0 x1 x2, (State.setPort x0 x1 x2).pending = x0.pending := by
  intro x0 x1 x2
  unfold State.setPort
  rfl

@[simp] theorem State.newId_pending (s : State) : (s.newId).2.pending = s.pending := by unfold State.newId; rfl

@[simp] theorem State.hostPut_pending : ∀ s a b, (State.hostPut s a b).1.pending = s.pending := by
  intro s a b; unfold State.hostPut; extract_lets; split <;> rfl

@[simp] theorem State.accessErr_pending : ∀ x0 x1, (State.accessErr x0 x1).pending = x0.pending := by
  intro x0 x1
  unfold State.accessErr
  rfl

@[simp] theorem State.writeCpl_pending : ∀ x0 x1, (State.writeCpl x0 x1).pending = x0.pending := by
  intro x0 x1
  unfold State.writeCpl
  try dsimp -iota only
  (repeat' split) <;> simp

@[simp] theorem State.writeCpls_pending : ∀ x0 x1 x2, (State.writeCpls x0 x1 x2).pending = x0.pending := by
  intro x0 x1 x2
  fun_induction State.writeCpls x0 x1 x2
  all_goals first
      | (simp; done)
      | (simp_all; done)

@[simp] theorem State.flushCpl_pending : ∀ x0 x1, (State.flushCpl x0 x1).pending = x0.pending := by
  intro x0 x1
  unfold State.flushCpl
  simp

@[simp] theorem State.writeEvent_pending : ∀ x0 x1, (State.writeEvent x0 x1).pending = x0.pending := by
  intro x0 x1
  unfold State.writeEvent
  try dsimp -iota only
  (repeat' split) <;> simp

@[simp] theorem State.writeEvents_pending : ∀ x0 x1 x2, (State.writeEvents x0 x1 x2).pending = x0.pending := by
  intro x0 x1 x2
  fun_induction State.writeEvents x0 x1 x2
  all_goals first
      | (simp; done)
      | (simp_all; done)

@[simp] theorem State.flushEvents_pending : ∀ x0 x1, (State.flushEvents x0 x1).pending = x0.pending := by
  intro x0 x1
  unfold State.flushEvents
  simp

@[simp] theorem State.eventsLost_pending : ∀ x0 x1, (State.eventsLost x0 x1).pending = x0.pending := by
  intro x0 x1
  unfold State.eventsLost
  simp

@[simp] theorem State.post_pending : ∀ x0 x1 x2 x3 x4 x5, (State.post x0 x1 x2 x3 x4 x5).pending = x0.pending := by
  intro x0 x1 x2 x3 x4 x5
  unfold State.post
  simp

@[simp] theorem State.postCtx_pending : ∀ x0 x1 x2 x3 x4, (State.postCtx x0 x1 x2 x3 x4).pending = x0.pending := by
  intro x0 x1 x2 x3 x4
  unfold State.postCtx
  simp

@[simp] theorem State.postPf0_pending : ∀ x0 x1 x2 x3 x4, (State.postPf0 x0 x1 x2 x3 x4).pending = x0.pending := by
  intro x0 x1 x2 x3 x4
  unfold State.postPf0
  simp

@[simp] theorem State.setCmd_pending : ∀ x0 x1 x2 x3, (State.setCmd x0 x1 x2 x3).pending = x0.pending := by
  intro x0 x1 x2 x3
  unfold State.setCmd
  rfl

@[simp] theorem State.complete_pending : ∀ x0 x1 x2 x3 x4 x5 x6, (State.complete x0 x1 x2 x3 x4 x5 x6).pending = x0.pending := by
  intro x0 x1 x2 x3 x4 x5 x6
  unfold State.complete
  try dsimp -iota only
  (repeat' split) <;> simp

@[simp] theorem State.done_pending : ∀ x0 x1 x2 x3 x4, (State.done x0 x1 x2 x3 x4).pending = x0.pending := by
  intro x0 x1 x2 x3 x4
  unfold State.done
  simp

@[simp] theorem State.tick_pending : ∀ x0, (State.tick x0).pending = x0.pending := by
  intro x0
  unfold State.tick
  simp

@[simp] theorem State.sillHigh_pending : ∀ x0 x1, (State.sillHigh x0 x1).pending = x0.pending := by
  intro x0 x1
  unfold State.sillHigh
  try dsimp -iota only
  (repeat' split) <;> simp

@[simp] theorem State.sillLow_pending : ∀ x0 x1, (State.sillLow x0 x1).pending = x0.pending := by
  intro x0 x1
  unfold State.sillLow
  try dsimp -iota only
  (repeat' split) <;> simp

@[simp] theorem State.sillNext_pending : ∀ x0, (State.sillNext x0).pending = x0.pending := by
  intro x0
  unfold State.sillNext
  rfl

@[simp] theorem State.modSill_pending : ∀ x0 x1, (State.modSill x0 x1).pending = x0.pending := by
  intro x0 x1
  unfold State.modSill
  rfl

@[simp] theorem State.sillDrop_pending : ∀ x0 x1, (State.sillDrop x0 x1).pending = x0.pending := by
  intro x0 x1
  unfold State.sillDrop
  rfl

@[simp] theorem State.sillAgain_pending : ∀ x0, (State.sillAgain x0).pending = x0.pending := by
  intro x0
  unfold State.sillAgain
  try dsimp -iota only
  (repeat' split) <;> simp

@[simp] theorem State.startService_pending : ∀ x0 x1, (State.startService x0 x1).pending = x0.pending := by
  intro x0 x1
  unfold State.startService
  simp

@[simp] theorem State.oweService_pending : ∀ x0, (State.oweService x0).pending = x0.pending := by
  intro x0
  unfold State.oweService
  simp

@[simp] theorem State.retireCore_pending : ∀ x0 x1 x2, (State.retireCore x0 x1 x2).pending = x0.pending := by
  intro x0 x1 x2
  unfold State.retireCore
  simp

@[simp] theorem State.setSiteEntry_pending : ∀ x0 x1 x2, (State.setSiteEntry x0 x1 x2).pending = x0.pending := by
  intro x0 x1 x2
  unfold State.setSiteEntry
  rfl

@[simp] theorem State.setPortEntry_pending : ∀ x0 x1 x2, (State.setPortEntry x0 x1 x2).pending = x0.pending := by
  intro x0 x1 x2
  unfold State.setPortEntry
  rfl

@[simp] theorem State.setPortUp_pending : ∀ x0 x1 x2, (State.setPortUp x0 x1 x2).pending = x0.pending := by
  intro x0 x1 x2
  unfold State.setPortUp
  rfl

@[simp] theorem State.setPortHalf_pending : ∀ x0 x1 x2, (State.setPortHalf x0 x1 x2).pending = x0.pending := by
  intro x0 x1 x2
  unfold State.setPortHalf
  rfl

@[simp] theorem State.modCtx_pending : ∀ x0 x1 x2, (State.modCtx x0 x1 x2).pending = x0.pending := by
  intro x0 x1 x2
  unfold State.modCtx
  rfl

@[simp] theorem State.semAdd_pending : ∀ x0 x1 x2 x3 x4, (State.semAdd x0 x1 x2 x3 x4).pending = x0.pending := by
  intro x0 x1 x2 x3 x4
  unfold State.semAdd
  rfl

@[simp] theorem State.semTake_pending : ∀ x0 x1 x2 x3 x4, (State.semTake x0 x1 x2 x3 x4).pending = x0.pending := by
  intro x0 x1 x2 x3 x4
  unfold State.semTake
  rfl

@[simp] theorem State.pairAdd_pending : ∀ x0 x1 x2 x3 x4 x5, (State.pairAdd x0 x1 x2 x3 x4 x5).pending = x0.pending := by
  intro x0 x1 x2 x3 x4 x5
  unfold State.pairAdd
  rfl

@[simp] theorem State.pairTake_pending : ∀ x0 x1 x2 x3 x4, (State.pairTake x0 x1 x2 x3 x4).pending = x0.pending := by
  intro x0 x1 x2 x3 x4
  unfold State.pairTake
  rfl

@[simp] theorem State.nearMiss_pending : ∀ x0 x1, (State.nearMiss x0 x1).pending = x0.pending := by
  intro x0 x1
  unfold State.nearMiss
  rfl

@[simp] theorem State.nearMissDev_pending : ∀ x0, (State.nearMissDev x0).pending = x0.pending := by
  intro x0
  unfold State.nearMissDev
  rfl

@[simp] theorem State.strayCount_pending : ∀ x0 x1, (State.strayCount x0 x1).pending = x0.pending := by
  intro x0 x1
  unfold State.strayCount
  rfl

@[simp] theorem State.alert_pending : ∀ x0 x1, (State.alert x0 x1).pending = x0.pending := by
  intro x0 x1
  unfold State.alert
  simp

@[simp] theorem State.modPage_pending : ∀ x0 x1 x2, (State.modPage x0 x1 x2).pending = x0.pending := by
  intro x0 x1 x2
  unfold State.modPage
  rfl

@[simp] theorem State.recompress_pending : ∀ x0 x1 x2, (State.recompress x0 x1 x2).pending = x0.pending := by
  intro x0 x1 x2
  unfold State.recompress
  try dsimp -iota only
  (repeat' split) <;> simp

@[simp] theorem State.packCheck_pending : ∀ x0 x1 x2, (State.packCheck x0 x1 x2).pending = x0.pending := by
  intro x0 x1 x2
  unfold State.packCheck
  simp

@[simp] theorem State.packChecks_pending : ∀ x0 x1, (State.packChecks x0 x1).pending = x0.pending := by
  intro x0 x1
  unfold State.packChecks
  simp

@[simp] theorem State.countLines_pending : ∀ x0 x1 x2 x3, (State.countLines x0 x1 x2 x3).pending = x0.pending := by
  intro x0 x1 x2 x3
  unfold State.countLines
  rfl

@[simp] theorem State.countRange_pending : ∀ x0 x1 x2 x3 x4, (State.countRange x0 x1 x2 x3 x4).pending = x0.pending := by
  intro x0 x1 x2 x3 x4
  unfold State.countRange
  try dsimp -iota only
  (repeat' split)
  all_goals first
      | (simp; done)
      | (apply State.forAll_pending; intros; (repeat' split) <;> simp; done)
      | (simp_all; done)

@[simp] theorem State.countSpans_pending : ∀ x0 x1 x2 x3, (State.countSpans x0 x1 x2 x3).pending = x0.pending := by
  intro x0 x1 x2 x3
  unfold State.countSpans
  simp

@[simp] theorem State.writePiece_pending : ∀ x0 x1 x2 x3 x4, (State.writePiece x0 x1 x2 x3 x4).pending = x0.pending := by
  intro x0 x1 x2 x3 x4
  unfold State.writePiece
  try dsimp -iota only
  (repeat' split) <;> simp

@[simp] theorem State.writeBytes_pending : ∀ s c a b p, (State.writeBytes s c a b p).pending = s.pending := by
  intros; unfold State.writeBytes
  apply State.forAll_pending; intros; split <;> simp

theorem State.commitAll_pending : ∀ s c l n p t, State.commitAll s c l n p = .ok t → t.pending = s.pending := by
  intro s c l n p t e
  unfold State.commitAll at e
  extract_lets t1 t2 t3 at e
  have h1 : t2.pending = s.pending := by
    refine (State.forAll_pending _ _ _ _ fun _ _ => by simp).trans ?_
    exact State.forAll_pending _ _ _ _ fun _ _ => by simp
  have h2 : t3.pending = t2.pending := by
    simp only [t3, State.ite_pending]
    rw [State.forAll_pending]
    · exact ite_self _
    · intros; simp
  split at e
  · cases e
  · split at e
    · cases e
    · obtain rfl := Except.ok.inj e
      simp [h1, h2]

theorem State.commit_pending : ∀ s c a b n p h t, State.commit s c a b n p h = .ok t → t.pending = s.pending := fun s c a b n p h t e =>
  (State.commitAll_pending _ _ _ _ _ _ e).trans (by simp)

theorem State.tryWrite_pending : ∀ s c a b n p h r t, State.tryWrite s c a b n p h r = .ok t → t.pending = s.pending := by
  intro s c a b n p h r t e
  unfold State.tryWrite at e
  split at e
  · cases e
  · exact State.commit_pending _ _ _ _ _ _ _ _ e

@[simp] theorem State.postFault_pending : ∀ s c a w k x h, (State.postFault s c a w k x h).2.pending = s.pending := by
  intros; unfold State.postFault State.newId; rfl

@[simp] theorem State.dropFault_pending : ∀ x0 x1, (State.dropFault x0 x1).pending = x0.pending := by
  intro x0 x1
  unfold State.dropFault
  rfl

@[simp] theorem State.faultEvent_pending : ∀ x0 x1 x2 x3 x4 x5 x6 x7 x8, (State.faultEvent x0 x1 x2 x3 x4 x5 x6 x7 x8).pending = x0.pending := by
  intro x0 x1 x2 x3 x4 x5 x6 x7 x8
  unfold State.faultEvent
  simp

@[simp] theorem State.countResolved_pending : ∀ x0, (State.countResolved x0).pending = x0.pending := by
  intro x0
  unfold State.countResolved
  rfl

@[simp] theorem State.countUnresolved_pending : ∀ x0, (State.countUnresolved x0).pending = x0.pending := by
  intro x0
  unfold State.countUnresolved
  rfl

@[simp] theorem State.logUe_pending : ∀ x0 x1 x2 x3 x4, (State.logUe x0 x1 x2 x3 x4).pending = x0.pending := by
  intro x0 x1 x2 x3 x4
  unfold State.logUe
  rfl

@[simp] theorem State.poisonLine_pending : ∀ x0 x1 x2, (State.poisonLine x0 x1 x2).pending = x0.pending := by
  intro x0 x1 x2
  unfold State.poisonLine
  rfl

@[simp] theorem State.setStream_pending : ∀ x0 x1, (State.setStream x0 x1).pending = x0.pending := by
  intro x0 x1
  unfold State.setStream
  rfl

@[simp] theorem State.delStream_pending : ∀ x0 x1 x2, (State.delStream x0 x1 x2).pending = x0.pending := by
  intro x0 x1 x2
  unfold State.delStream
  rfl

@[simp] theorem State.setFetch_pending : ∀ x0 x1, (State.setFetch x0 x1).pending = x0.pending := by
  intro x0 x1
  unfold State.setFetch
  rfl

@[simp] theorem State.putStream_pending : ∀ s x, (State.putStream s x).pending = s.pending := by
  intro s x; unfold State.putStream
  try dsimp -iota only
  split
  · simp
  · split
    · rename_i t ht; rw [State.tryWrite_pending _ _ _ _ _ _ _ _ _ ht]; simp
    · simp

@[simp] theorem State.issue_pending : ∀ s a b c d e f g h l, (State.issue s a b c d e f g h l).pending = s.pending := by
  intros; unfold State.issue
  apply State.forAll_pending; intros; split <;> simp

@[simp] theorem State.issueEngine_pending : ∀ x0 x1 x2 x3 x4 x5 x6, (State.issueEngine x0 x1 x2 x3 x4 x5 x6).pending = x0.pending := by
  intro x0 x1 x2 x3 x4 x5 x6
  unfold State.issueEngine
  try dsimp -iota only
  (repeat' split)
  all_goals first
      | (simp; done)
      | (apply State.forAll_pending; intros; (repeat' split) <;> simp; done)
      | (simp_all; done)

@[simp] theorem State.dropOwner_pending : ∀ x0 x1, (State.dropOwner x0 x1).pending = x0.pending := by
  intro x0 x1
  unfold State.dropOwner
  rfl

@[simp] theorem State.dropEngines_pending : ∀ x0 x1, (State.dropEngines x0 x1).pending = x0.pending := by
  intro x0 x1
  unfold State.dropEngines
  rfl

@[simp] theorem State.startRefetch_pending : ∀ x0 x1 x2 x3 x4, (State.startRefetch x0 x1 x2 x3 x4).pending = x0.pending := by
  intro x0 x1 x2 x3 x4
  unfold State.startRefetch
  try dsimp -iota only
  (repeat' split)
  all_goals first
      | (simp; done)
      | (apply State.forAll_pending; intros; (repeat' split) <;> simp; done)
      | (simp_all; done)

@[simp] theorem State.endHold_pending : ∀ x0 x1, (State.endHold x0 x1).pending = x0.pending := by
  intro x0 x1
  unfold State.endHold
  rfl

@[simp] theorem State.sweepPages_pending : ∀ x0, (State.sweepPages x0).pending = x0.pending := by
  intro x0
  unfold State.sweepPages
  rfl

@[simp] theorem State.wakeWaiters_pending : ∀ x0 x1, (State.wakeWaiters x0 x1).pending = x0.pending := by
  intro x0 x1
  unfold State.wakeWaiters
  simp

@[simp] theorem State.freeStream_pending : ∀ x0 x1, (State.freeStream x0 x1).pending = x0.pending := by
  intro x0 x1
  unfold State.freeStream
  rfl

@[simp] theorem State.releaseStream_pending : ∀ x0 x1, (State.releaseStream x0 x1).pending = x0.pending := by
  intro x0 x1
  unfold State.releaseStream
  try dsimp -iota only
  (repeat' split) <;> simp

@[simp] theorem State.rearmed_pending : ∀ x0 x1, (State.rearmed x0 x1).pending = x0.pending := by
  intro x0 x1
  unfold State.rearmed
  simp

@[simp] theorem State.passEnd_pending : ∀ x0 x1, (State.passEnd x0 x1).pending = x0.pending := by
  intro x0 x1
  unfold State.passEnd
  simp

@[simp] theorem State.ringBack_pending : ∀ x0 x1 x2 x3, (State.ringBack x0 x1 x2 x3).pending = x0.pending := by
  intro x0 x1 x2 x3
  unfold State.ringBack
  simp

@[simp] theorem State.dropReqs_pending : ∀ x0 x1 x2, (State.dropReqs x0 x1 x2).pending = x0.pending := by
  intro x0 x1 x2
  unfold State.dropReqs
  rfl

@[simp] theorem State.faultStream_pending : ∀ x0 x1 x2 x3 x4 x5, (State.faultStream x0 x1 x2 x3 x4 x5).pending = x0.pending := by
  intro x0 x1 x2 x3 x4 x5
  unfold State.faultStream
  simp

@[simp] theorem State.finishCancel_pending : ∀ x0 x1, (State.finishCancel x0 x1).pending = x0.pending := by
  intro x0 x1
  unfold State.finishCancel
  simp

@[simp] theorem State.cancelStream_pending : ∀ x0 x1, (State.cancelStream x0 x1).pending = x0.pending := by
  intro x0 x1
  unfold State.cancelStream
  simp

@[simp] theorem State.deliverOne_pending : ∀ x0 x1 x2, (State.deliverOne x0 x1 x2).pending = x0.pending := by
  intro x0 x1 x2
  unfold State.deliverOne
  try dsimp -iota only
  (repeat' split) <;> simp

@[simp] theorem State.deliver_pending : ∀ x0 x1 x2 x3, (State.deliver x0 x1 x2 x3).pending = x0.pending := by
  intro x0 x1 x2 x3
  fun_induction State.deliver x0 x1 x2 x3
  all_goals first
      | (simp; done)
      | (simp_all; done)

@[simp] theorem State.checkPassEnd_pending : ∀ x0 x1 x2, (State.checkPassEnd x0 x1 x2).pending = x0.pending := by
  intro x0 x1 x2
  unfold State.checkPassEnd
  try dsimp -iota only
  (repeat' split) <;> simp

@[simp] theorem State.checkStop_pending : ∀ x0 x1 x2, (State.checkStop x0 x1 x2).pending = x0.pending := by
  intro x0 x1 x2
  unfold State.checkStop
  try dsimp -iota only
  (repeat' split) <;> simp

@[simp] theorem State.checkRefetch_pending : ∀ x0 x1 x2, (State.checkRefetch x0 x1 x2).pending = x0.pending := by
  intro x0 x1 x2
  unfold State.checkRefetch
  try dsimp -iota only
  (repeat' split) <;> simp

@[simp] theorem State.loseRing_pending : ∀ s x, (State.loseRing s x).1.pending = s.pending := by
  intro s x; unfold State.loseRing; (repeat' split) <;> simp

@[simp] theorem State.failRefetch_pending : ∀ s x st, (State.failRefetch s x st).pending = s.pending := by
  intro s x st; unfold State.failRefetch
  extract_lets
  simp +zetaDelta only [State.faultStream_pending]
  split <;> simp

@[simp] theorem State.checkReStop_pending : ∀ x0 x1 x2, (State.checkReStop x0 x1 x2).pending = x0.pending := by
  intro x0 x1 x2
  unfold State.checkReStop
  try dsimp -iota only
  (repeat' split) <;> simp

@[simp] theorem State.settleStream_pending : ∀ x0 x1 x2, (State.settleStream x0 x1 x2).pending = x0.pending := by
  intro x0 x1 x2
  unfold State.settleStream
  try dsimp -iota only
  (repeat' split) <;> simp

@[simp] theorem State.settleFetch_pending : ∀ x0 x1, (State.settleFetch x0 x1).pending = x0.pending := by
  intro x0 x1
  unfold State.settleFetch
  try dsimp -iota only
  (repeat' split) <;> simp

@[simp] theorem State.dropFetch_pending : ∀ x0 x1, (State.dropFetch x0 x1).pending = x0.pending := by
  intro x0 x1
  unfold State.dropFetch
  rfl

@[simp] theorem State.cancelFetch_pending : ∀ x0 x1, (State.cancelFetch x0 x1).pending = x0.pending := by
  intro x0 x1
  unfold State.cancelFetch
  rfl

@[simp] theorem State.settle_pending : ∀ x0 x1, (State.settle x0 x1).pending = x0.pending := by
  intro x0 x1
  unfold State.settle
  try dsimp -iota only
  (repeat' split) <;> simp

@[simp] theorem State.popHandle_pending : ∀ x0 x1, (State.popHandle x0 x1).pending = x0.pending := by
  intro x0 x1
  unfold State.popHandle
  rfl

@[simp] theorem State.returnBuf_pending : ∀ x0 x1 x2 x3, (State.returnBuf x0 x1 x2 x3).pending = x0.pending := by
  intro x0 x1 x2 x3
  unfold State.returnBuf
  try dsimp -iota only
  (repeat' split) <;> simp

@[simp] theorem State.laneSpared_pending : ∀ x0 x1 x2 x3 x4, (State.laneSpared x0 x1 x2 x3 x4).pending = x0.pending := by
  intro x0 x1 x2 x3 x4
  unfold State.laneSpared
  simp

@[simp] theorem State.spareTrigger_pending : ∀ x0 x1 x2 x3, (State.spareTrigger x0 x1 x2 x3).pending = x0.pending := by
  intro x0 x1 x2 x3
  unfold State.spareTrigger
  simp

@[simp] theorem State.spareTriggers_pending : ∀ x0 x1 x2, (State.spareTriggers x0 x1 x2).pending = x0.pending := by
  intro x0 x1 x2
  unfold State.spareTriggers
  simp

@[simp] theorem State.rollSpare_pending : ∀ x0 x1, (State.rollSpare x0 x1).pending = x0.pending := by
  intro x0 x1
  unfold State.rollSpare
  simp

@[simp] theorem State.laneCorrected_pending : ∀ x0 x1 x2 x3, (State.laneCorrected x0 x1 x2 x3).pending = x0.pending := by
  intro x0 x1 x2 x3
  unfold State.laneCorrected
  simp

@[simp] theorem State.lineCorrected_pending : ∀ x0 x1 x2 x3, (State.lineCorrected x0 x1 x2 x3).pending = x0.pending := by
  intro x0 x1 x2 x3
  unfold State.lineCorrected
  try dsimp -iota only
  (repeat' split) <;> simp

@[simp] theorem State.startPass_pending : ∀ x0 x1 x2, (State.startPass x0 x1 x2).pending = x0.pending := by
  intro x0 x1 x2
  unfold State.startPass
  try dsimp -iota only
  (repeat' split) <;> simp

@[simp] theorem State.stopStream_pending : ∀ x0 x1 x2, (State.stopStream x0 x1 x2).pending = x0.pending := by
  intro x0 x1 x2
  unfold State.stopStream
  simp

@[simp] theorem State.stopRefetch_pending : ∀ x0 x1 x2, (State.stopRefetch x0 x1 x2).pending = x0.pending := by
  intro x0 x1 x2
  unfold State.stopRefetch
  simp

@[simp] theorem State.issueBlock_pending : ∀ s x i b k base e ag, (State.issueBlock s x i b k base e ag).pending = s.pending := by
  intro s x i b k base e ag; unfold State.issueBlock
  extract_lets
  split <;> simp +zetaDelta only [State.stopStream_pending, State.settleStream_pending, State.issue_pending, State.setStream_pending, State.ite_pending, ite_self]

@[simp] theorem State.nextBlock_pending : ∀ x0 x1 x2 x3, (State.nextBlock x0 x1 x2 x3).pending = x0.pending := by
  intro x0 x1 x2 x3
  unfold State.nextBlock
  try dsimp -iota only
  (repeat' split) <;> simp

theorem State.blockAgain_pending : ∀ s x i b f, (∀ t y st, (f t y st).pending = t.pending) → (State.blockAgain s x i b f).pending = s.pending := by
  intro s x i b f h; unfold State.blockAgain
  extract_lets
  (repeat' split) <;> simp [h]

@[simp] theorem State.translateStream_pending : ∀ s b c, (State.translateStream s b c).pending = s.pending := by
  intro s b c; unfold State.translateStream
  extract_lets
  (repeat' split) <;> first | (simp; done) | (refine State.blockAgain_pending _ _ _ _ _ fun _ _ _ => ?_; simp)

@[simp] theorem State.translateFetch_pending : ∀ s i, (State.translateFetch s i).pending = s.pending := by
  intro s i; unfold State.translateFetch
  split
  · rfl
  · split
    · rfl
    · extract_lets
      split
      · rfl
      · split
        · rfl
        · split
          · simp
          · extract_lets; simp

@[simp] theorem State.setReq_pending : ∀ x0 x1 x2, (State.setReq x0 x1 x2).pending = x0.pending := by
  intro x0 x1 x2
  unfold State.setReq
  rfl

@[simp] theorem State.grantReq_pending : ∀ x0 x1, (State.grantReq x0 x1).pending = x0.pending := by
  intro x0 x1
  unfold State.grantReq
  rfl

@[simp] theorem State.grantBay_pending : ∀ s m b l, (State.grantBay s m b l).1.pending = s.pending := by
  intro s m b l
  fun_induction State.grantBay s m b l <;> simp_all +zetaDelta

@[simp] theorem State.grantBays_pending : ∀ s m l, (State.grantBays s m l).pending = s.pending := by
  intro s m l
  induction l generalizing s with
  | nil => rfl
  | cons b r ih => unfold State.grantBays; dsimp -iota only; split <;> simp [ih]

@[simp] theorem State.slotGrant_pending : ∀ x0 x1, (State.slotGrant x0 x1).pending = x0.pending := by
  intro x0 x1
  unfold State.slotGrant
  try dsimp -iota only
  (repeat' split) <;> simp

@[simp] theorem State.passSlot_pending : ∀ x0 x1, (State.passSlot x0 x1).pending = x0.pending := by
  intro x0 x1
  unfold State.passSlot
  try dsimp -iota only
  (repeat' split) <;> simp

@[simp] theorem State.leaveReqs_pending : ∀ x0 x1 x2, (State.leaveReqs x0 x1 x2).pending = x0.pending := by
  intro x0 x1 x2
  unfold State.leaveReqs
  try dsimp -iota only
  (repeat' split) <;> simp

@[simp] theorem State.endReq_pending : ∀ x0 x1, (State.endReq x0 x1).pending = x0.pending := by
  intro x0 x1
  unfold State.endReq
  simp

@[simp] theorem State.fillRaw_pending : ∀ x0 x1, (State.fillRaw x0 x1).pending = x0.pending := by
  intro x0 x1
  unfold State.fillRaw
  try dsimp -iota only
  (repeat' split) <;> simp

@[simp] theorem State.stopReq_pending : ∀ x0 x1 x2 x3 x4, (State.stopReq x0 x1 x2 x3 x4).pending = x0.pending := by
  intro x0 x1 x2 x3 x4
  unfold State.stopReq
  try dsimp -iota only
  (repeat' split) <;> simp

@[simp] theorem State.clearLine_pending : ∀ x0 x1 x2, (State.clearLine x0 x1 x2).pending = x0.pending := by
  intro x0 x1 x2
  unfold State.clearLine
  rfl

@[simp] theorem State.storeReq_pending : ∀ x0 x1, (State.storeReq x0 x1).pending = x0.pending := by
  intro x0 x1
  unfold State.storeReq
  simp

@[simp] theorem State.refuseBlock_pending : ∀ x0 x1, (State.refuseBlock x0 x1).pending = x0.pending := by
  intro x0 x1
  unfold State.refuseBlock
  try dsimp -iota only
  (repeat' split) <;> simp

@[simp] theorem State.commitBlock_pending : ∀ x0 x1 x2, (State.commitBlock x0 x1 x2).pending = x0.pending := by
  intro x0 x1 x2
  unfold State.commitBlock
  simp

@[simp] theorem State.accept_pending : ∀ x0 x1, (State.accept x0 x1).pending = x0.pending := by
  intro x0 x1
  unfold State.accept
  simp

@[simp] theorem State.serve_pending : ∀ x0 x1, (State.serve x0 x1).pending = x0.pending := by
  intro x0 x1
  unfold State.serve
  simp

@[simp] theorem State.dropBlock_pending : ∀ x0 x1, (State.dropBlock x0 x1).pending = x0.pending := by
  intro x0 x1
  unfold State.dropBlock
  rfl

@[simp] theorem State.servePoisoned_pending : ∀ x0 x1 x2, (State.servePoisoned x0 x1 x2).pending = x0.pending := by
  intro x0 x1 x2
  unfold State.servePoisoned
  simp

@[simp] theorem State.lineLost_pending : ∀ x0 x1 x2, (State.lineLost x0 x1 x2).pending = x0.pending := by
  intro x0 x1 x2
  unfold State.lineLost
  simp

@[simp] theorem State.completeReq_pending : ∀ x0 x1 x2, (State.completeReq x0 x1 x2).pending = x0.pending := by
  intro x0 x1 x2
  unfold State.completeReq
  try dsimp -iota only
  (repeat' split) <;> simp

@[simp] theorem State.retryDone_pending : ∀ x0 x1 x2, (State.retryDone x0 x1 x2).pending = x0.pending := by
  intro x0 x1 x2
  unfold State.retryDone
  try dsimp -iota only
  (repeat' split) <;> simp

@[simp] theorem State.augerTake_pending : ∀ x0 x1 x2, (State.augerTake x0 x1 x2).pending = x0.pending := by
  intro x0 x1 x2
  unfold State.augerTake
  try dsimp -iota only
  (repeat' split) <;> simp

@[simp] theorem State.planeGets_pending : ∀ x0 x1 x2 x3 x4, (State.planeGets x0 x1 x2 x3 x4).pending = x0.pending := by
  intro x0 x1 x2 x3 x4
  unfold State.planeGets
  rfl

@[simp] theorem State.agentTake_pending : ∀ x0 x1 x2 x3 x4, (State.agentTake x0 x1 x2 x3 x4).pending = x0.pending := by
  intro x0 x1 x2 x3 x4
  unfold State.agentTake
  try dsimp -iota only
  (repeat' split) <;> simp

@[simp] theorem State.spareSwitched_pending : ∀ x0 x1 x2, (State.spareSwitched x0 x1 x2).pending = x0.pending := by
  intro x0 x1 x2
  unfold State.spareSwitched
  try dsimp -iota only
  (repeat' split) <;> simp

@[simp] theorem State.spareWindow_pending : ∀ x0 x1, (State.spareWindow x0 x1).pending = x0.pending := by
  intro x0 x1
  unfold State.spareWindow
  simp

@[simp] theorem State.patrolLost_pending : ∀ x0 x1 x2, (State.patrolLost x0 x1 x2).pending = x0.pending := by
  intro x0 x1 x2
  unfold State.patrolLost
  try dsimp -iota only
  (repeat' split) <;> simp

@[simp] theorem State.patrol_pending : ∀ x0 x1 x2 x3, (State.patrol x0 x1 x2 x3).pending = x0.pending := by
  intro x0 x1 x2 x3
  unfold State.patrol
  try dsimp -iota only
  (repeat' split) <;> simp

@[simp] theorem State.loftPatrol_pending : ∀ x0 x1 x2, (State.loftPatrol x0 x1 x2).pending = x0.pending := by
  intro x0 x1 x2
  unfold State.loftPatrol
  simp

@[simp] theorem State.loftStream_pending : ∀ s x i f, (State.loftStream s x i f).pending = s.pending := by
  intro s x i f; unfold State.loftStream
  split
  · simp
  · split
    · split <;> simp
    · simp

@[simp] theorem State.loftBad_pending : ∀ x0 x1, (State.loftBad x0 x1).pending = x0.pending := by
  intro x0 x1
  unfold State.loftBad
  try dsimp -iota only
  (repeat' split) <;> simp

@[simp] theorem State.startMig_pending : ∀ x0 x1 x2, (State.startMig x0 x1 x2).pending = x0.pending := by
  intro x0 x1 x2
  unfold State.startMig
  try dsimp -iota only
  (repeat' split) <;> simp

@[simp] theorem State.epochEnd_pending : ∀ x0 x1, (State.epochEnd x0 x1).pending = x0.pending := by
  intro x0 x1
  unfold State.epochEnd
  simp

theorem State.migStep_pending : ∀ s p x f, (∀ a b, (f a b).pending = s.pending) → (State.migStep s p x f).pending = s.pending := by
  intro s p x f h; unfold State.migStep; (repeat' split) <;> simp [h]

@[simp] theorem State.setMig_pending : ∀ x0 x1 x2, (State.setMig x0 x1 x2).pending = x0.pending := by
  intro x0 x1 x2
  unfold State.setMig
  rfl

@[simp] theorem State.cutover_pending : ∀ x0 x1, (State.cutover x0 x1).pending = x0.pending := by
  intro x0 x1
  unfold State.cutover
  try dsimp -iota only
  repeat' (first | (refine State.passWrite_pending _ _ _ _ _ _ (fun _ => ?_)) | (refine State.armedStream_pending _ _ _ _ (fun _ => ?_)) | (refine State.blockAgain_pending _ _ _ _ _ (fun _ _ _ => ?_)) | (refine State.cmdRead_pending _ _ _ _ _ _ (fun _ _ => ?_)) | (refine State.seqCmd_pending _ _ _ _ (fun _ => ?_)) | (refine State.namedStream_pending _ _ _ _ (fun _ => ?_)) | (refine State.migStep_pending _ _ _ _ (fun _ _ => ?_)) | (refine State.planeCheck_pending _ _ _ _ _ (fun _ _ => ?_)) | (refine State.forAll_pending _ _ _ _ (fun _ _ => ?_)) | split)
  all_goals first
      | (simp; done)
      | (apply State.forAll_pending; intros; (repeat' split) <;> simp; done)
      | (simp_all; done)

@[simp] theorem State.modAon_pending : ∀ x0 x1, (State.modAon x0 x1).pending = x0.pending := by
  intro x0 x1
  unfold State.modAon
  rfl

@[simp] theorem State.modPower_pending : ∀ x0 x1, (State.modPower x0 x1).pending = x0.pending := by
  intro x0 x1
  unfold State.modPower
  rfl

@[simp] theorem State.modThermal_pending : ∀ x0 x1, (State.modThermal x0 x1).pending = x0.pending := by
  intro x0 x1
  unfold State.modThermal
  rfl

@[simp] theorem State.modBoot_pending : ∀ x0 x1, (State.modBoot x0 x1).pending = x0.pending := by
  intro x0 x1
  unfold State.modBoot
  rfl

@[simp] theorem State.postPower_pending : ∀ x0 x1 x2, (State.postPower x0 x1 x2).pending = x0.pending := by
  intro x0 x1 x2
  unfold State.postPower
  simp

@[simp] theorem State.postThermal_pending : ∀ x0 x1 x2 x3, (State.postThermal x0 x1 x2 x3).pending = x0.pending := by
  intro x0 x1 x2 x3
  unfold State.postThermal
  simp

@[simp] theorem State.limitReached_pending : ∀ x0, (State.limitReached x0).pending = x0.pending := by
  intro x0
  unfold State.limitReached
  simp

@[simp] theorem State.throttle_pending : ∀ x0, (State.throttle x0).pending = x0.pending := by
  intro x0
  unfold State.throttle
  try dsimp -iota only
  (repeat' split) <;> simp

@[simp] theorem State.throttleEvent_pending : ∀ s t, (State.throttleEvent s t).pending = s.pending := by
  intro s t; unfold State.throttleEvent; try dsimp -iota only
  (repeat' split) <;> simp

@[simp] theorem State.evaluate_pending : ∀ x0 x1 x2 x3, (State.evaluate x0 x1 x2 x3).pending = x0.pending := by
  intro x0 x1 x2 x3
  unfold State.evaluate
  simp

@[simp] theorem State.settled_pending : ∀ x0, (State.settled x0).pending = x0.pending := by
  intro x0
  unfold State.settled
  try dsimp -iota only
  (repeat' split) <;> simp

@[simp] theorem State.setRail_pending : ∀ x0 x1 x2, (State.setRail x0 x1 x2).pending = x0.pending := by
  intro x0 x1 x2
  unfold State.setRail
  rfl

@[simp] theorem State.nextRails_pending : ∀ s l, (State.nextRails s l).1.pending = s.pending := by
  intro s l
  fun_induction State.nextRails s l <;> simp_all

@[simp] theorem State.railsDown_pending : ∀ x0, (State.railsDown x0).pending = x0.pending := by
  intro x0
  unfold State.railsDown
  try dsimp -iota only
  (repeat' split) <;> simp

@[simp] theorem State.loseAll_pending : ∀ x0, (State.loseAll x0).pending = x0.pending := by
  intro x0
  unfold State.loseAll
  rfl

@[simp] theorem State.railsOff_pending : ∀ x0, (State.railsOff x0).pending = x0.pending := by
  intro x0
  unfold State.railsOff
  simp

@[simp] theorem State.moduleFault_pending : ∀ x0 x1 x2, (State.moduleFault x0 x1 x2).pending = x0.pending := by
  intro x0 x1 x2
  unfold State.moduleFault
  simp

@[simp] theorem State.postTrip_pending : ∀ x0, (State.postTrip x0).pending = x0.pending := by
  intro x0
  unfold State.postTrip
  try dsimp -iota only
  (repeat' split) <;> simp

@[simp] theorem State.trip_pending : ∀ x0 x1 x2, (State.trip x0 x1 x2).pending = x0.pending := by
  intro x0 x1 x2
  unfold State.trip
  simp

@[simp] theorem State.conflict_pending : ∀ x0 x1 x2 x3, (State.conflict x0 x1 x2 x3).pending = x0.pending := by
  intro x0 x1 x2 x3
  unfold State.conflict
  simp

@[simp] theorem State.checkClaim_pending : ∀ x0 x1 x2 x3, (State.checkClaim x0 x1 x2 x3).pending = x0.pending := by
  intro x0 x1 x2 x3
  unfold State.checkClaim
  simp

@[simp] theorem State.ungate_pending : ∀ x0 x1, (State.ungate x0 x1).pending = x0.pending := by
  intro x0 x1
  unfold State.ungate
  simp

@[simp] theorem State.gate_pending : ∀ x0 x1, (State.gate x0 x1).pending = x0.pending := by
  intro x0 x1
  unfold State.gate
  try dsimp -iota only
  (repeat' split) <;> simp

@[simp] theorem State.idleTick_pending : ∀ x0 x1, (State.idleTick x0 x1).pending = x0.pending := by
  intro x0 x1
  unfold State.idleTick
  simp

@[simp] theorem State.idle_pending : ∀ x0, (State.idle x0).pending = x0.pending := by
  intro x0
  unfold State.idle
  simp

@[simp] theorem State.commitImage_pending : ∀ x0, (State.commitImage x0).pending = x0.pending := by
  intro x0
  unfold State.commitImage
  simp

@[simp] theorem State.setStage_pending : ∀ x0 x1, (State.setStage x0 x1).pending = x0.pending := by
  intro x0 x1
  unfold State.setStage
  rfl

@[simp] theorem State.recover_pending : ∀ x0 x1, (State.recover x0 x1).pending = x0.pending := by
  intro x0 x1
  unfold State.recover
  rfl

@[simp] theorem State.makeReady_pending : ∀ x0, (State.makeReady x0).pending = x0.pending := by
  intro x0
  unfold State.makeReady
  simp

@[simp] theorem State.finishBoot_pending : ∀ x0, (State.finishBoot x0).pending = x0.pending := by
  intro x0
  unfold State.finishBoot
  simp

@[simp] theorem State.resumeBoot_pending : ∀ x0, (State.resumeBoot x0).pending = x0.pending := by
  intro x0
  unfold State.resumeBoot
  simp

@[simp] theorem State.bootCores_pending : ∀ x0, (State.bootCores x0).pending = x0.pending := by
  intro x0
  unfold State.bootCores
  simp

@[simp] theorem State.bootLinks_pending : ∀ x0, (State.bootLinks x0).pending = x0.pending := by
  intro x0
  unfold State.bootLinks
  simp

@[simp] theorem State.bootYard_pending : ∀ x0, (State.bootYard x0).pending = x0.pending := by
  intro x0
  unfold State.bootYard
  simp

@[simp] theorem State.belowGuarantee_pending : ∀ x0, (State.belowGuarantee x0).pending = x0.pending := by
  intro x0
  unfold State.belowGuarantee
  simp

@[simp] theorem State.railsGood_pending : ∀ x0, (State.railsGood x0).pending = x0.pending := by
  intro x0
  unfold State.railsGood
  rfl

@[simp] theorem State.startRails_pending : ∀ x0, (State.startRails x0).pending = x0.pending := by
  intro x0
  unfold State.startRails
  simp

@[simp] theorem State.powerOn_pending : ∀ x0 x1 x2, (State.powerOn x0 x1 x2).pending = x0.pending := by
  intro x0 x1 x2
  unfold State.powerOn
  simp

@[simp] theorem State.powerOff_pending : ∀ x0, (State.powerOff x0).pending = x0.pending := by
  intro x0
  unfold State.powerOff
  simp

@[simp] theorem State.railGood_pending : ∀ x0 x1, (State.railGood x0 x1).pending = x0.pending := by
  intro x0 x1
  unfold State.railGood
  simp

@[simp] theorem State.railLate_pending : ∀ x0 x1 x2, (State.railLate x0 x1 x2).pending = x0.pending := by
  intro x0 x1 x2
  unfold State.railLate
  simp

@[simp] theorem State.railDown_pending : ∀ x0 x1, (State.railDown x0 x1).pending = x0.pending := by
  intro x0 x1
  unfold State.railDown
  simp

@[simp] theorem State.sillBoot_pending : ∀ x0 x1, (State.sillBoot x0 x1).pending = x0.pending := by
  intro x0 x1
  unfold State.sillBoot
  try dsimp -iota only
  (repeat' split) <;> simp

@[simp] theorem State.halfTested_pending : ∀ x0 x1 x2, (State.halfTested x0 x1 x2).pending = x0.pending := by
  intro x0 x1 x2
  unfold State.halfTested
  simp

@[simp] theorem State.firstClaim_pending : ∀ x0 x1 x2 x3, (State.firstClaim x0 x1 x2 x3).pending = x0.pending := by
  intro x0 x1 x2 x3
  unfold State.firstClaim
  simp

@[simp] theorem State.grant_pending : ∀ x0 x1 x2 x3 x4, (State.grant x0 x1 x2 x3 x4).pending = x0.pending := by
  intro x0 x1 x2 x3 x4
  unfold State.grant
  simp

@[simp] theorem State.planBuild_pending : ∀ x0, (State.planBuild x0).pending = x0.pending := by
  intro x0
  unfold State.planBuild
  simp

@[simp] theorem State.siteFails_pending : ∀ x0 x1, (State.siteFails x0 x1).pending = x0.pending := by
  intro x0 x1
  unfold State.siteFails
  simp

@[simp] theorem State.siteInit_pending : ∀ x0 x1 x2, (State.siteInit x0 x1 x2).pending = x0.pending := by
  intro x0 x1 x2
  unfold State.siteInit
  simp

@[simp] theorem State.siteRound_pending : ∀ x0 x1 x2, (State.siteRound x0 x1 x2).pending = x0.pending := by
  intro x0 x1 x2
  unfold State.siteRound
  try dsimp -iota only
  (repeat' split) <;> simp

@[simp] theorem State.wave_pending : ∀ x0, (State.wave x0).pending = x0.pending := by
  intro x0
  unfold State.wave
  simp

@[simp] theorem State.broadcast_pending : ∀ x0 x1 x2, (State.broadcast x0 x1 x2).pending = x0.pending := by
  intro x0 x1 x2
  unfold State.broadcast
  simp

@[simp] theorem State.repair_pending : ∀ x0 x1 x2, (State.repair x0 x1 x2).pending = x0.pending := by
  intro x0 x1 x2
  unfold State.repair
  simp

@[simp] theorem State.coreTested_pending : ∀ x0 x1 x2, (State.coreTested x0 x1 x2).pending = x0.pending := by
  intro x0 x1 x2
  unfold State.coreTested
  simp

@[simp] theorem State.planSigned_pending : ∀ x0, (State.planSigned x0).pending = x0.pending := by
  intro x0
  unfold State.planSigned
  try dsimp -iota only
  (repeat' split) <;> simp

@[simp] theorem State.planFlashed_pending : ∀ x0, (State.planFlashed x0).pending = x0.pending := by
  intro x0
  unfold State.planFlashed
  try dsimp -iota only
  (repeat' split) <;> simp

@[simp] theorem State.modJoiner_pending : ∀ x0 x1 x2, (State.modJoiner x0 x1 x2).pending = x0.pending := by
  intro x0 x1 x2
  unfold State.modJoiner
  rfl

@[simp] theorem State.heartbeat_pending : ∀ x0 x1 x2 x3, (State.heartbeat x0 x1 x2 x3).pending = x0.pending := by
  intro x0 x1 x2 x3
  unfold State.heartbeat
  simp

@[simp] theorem State.abortHeld_pending : ∀ x0 x1, (State.abortHeld x0 x1).pending = x0.pending := by
  intro x0 x1
  unfold State.abortHeld
  simp

@[simp] theorem State.leaveStopped_pending : ∀ x0 x1, (State.leaveStopped x0 x1).pending = x0.pending := by
  intro x0 x1
  unfold State.leaveStopped
  simp

@[simp] theorem State.heartbeatLate_pending : ∀ x0 x1, (State.heartbeatLate x0 x1).pending = x0.pending := by
  intro x0 x1
  unfold State.heartbeatLate
  simp

@[simp] theorem State.restarted_pending : ∀ x0 x1, (State.restarted x0 x1).pending = x0.pending := by
  intro x0 x1
  unfold State.restarted
  simp

@[simp] theorem State.healthFail_pending : ∀ x0, (State.healthFail x0).pending = x0.pending := by
  intro x0
  unfold State.healthFail
  simp

@[simp] theorem State.poll_pending : ∀ x0 x1, (State.poll x0 x1).pending = x0.pending := by
  intro x0 x1
  unfold State.poll
  try dsimp -iota only
  (repeat' split) <;> simp

@[simp] theorem State.protect__pending : ∀ x0 x1 x2, (State.protect_ x0 x1 x2).pending = x0.pending := by
  intro x0 x1 x2
  unfold State.protect_
  simp

@[simp] theorem State.tripShutdown_pending : ∀ x0, (State.tripShutdown x0).pending = x0.pending := by
  intro x0
  unfold State.tripShutdown
  try dsimp -iota only
  (repeat' split) <;> simp

@[simp] theorem State.sbSet_pending : ∀ x0 x1, (State.sbSet x0 x1).pending = x0.pending := by
  intro x0 x1
  unfold State.sbSet
  rfl

@[simp] theorem State.boardMax_pending : ∀ x0 x1, (State.boardMax x0 x1).pending = x0.pending := by
  intro x0 x1
  unfold State.boardMax
  simp

@[simp] theorem State.sbClear_pending : ∀ x0 x1, (State.sbClear x0 x1).pending = x0.pending := by
  intro x0 x1
  unfold State.sbClear
  simp

@[simp] theorem State.modLinks_pending : ∀ x0 x1, (State.modLinks x0 x1).pending = x0.pending := by
  intro x0 x1
  unfold State.modLinks
  rfl

@[simp] theorem State.flit_pending : ∀ x0 x1 x2, (State.flit x0 x1 x2).pending = x0.pending := by
  intro x0 x1 x2
  unfold State.flit
  simp

@[simp] theorem State.bridgeDone_pending : ∀ x0, (State.bridgeDone x0).pending = x0.pending := by
  intro x0
  unfold State.bridgeDone
  try dsimp -iota only
  (repeat' split) <;> simp

@[simp] theorem State.bridgeLate_pending : ∀ x0, (State.bridgeLate x0).pending = x0.pending := by
  intro x0
  unfold State.bridgeLate
  try dsimp -iota only
  (repeat' split) <;> simp

@[simp] theorem State.meterEnd_pending : ∀ x0 x1, (State.meterEnd x0 x1).pending = x0.pending := by
  intro x0 x1
  unfold State.meterEnd
  simp

@[simp] theorem State.modPort_pending : ∀ x0 x1 x2, (State.modPort x0 x1 x2).pending = x0.pending := by
  intro x0 x1 x2
  unfold State.modPort
  rfl

@[simp] theorem State.discard_pending : ∀ x0 x1, (State.discard x0 x1).pending = x0.pending := by
  intro x0 x1
  unfold State.discard
  rfl

@[simp] theorem State.writePortEntry_pending : ∀ x0 x1, (State.writePortEntry x0 x1).pending = x0.pending := by
  intro x0 x1
  unfold State.writePortEntry
  rfl

@[simp] theorem State.linkDegraded_pending : ∀ x0 x1 x2 x3, (State.linkDegraded x0 x1 x2 x3).pending = x0.pending := by
  intro x0 x1 x2 x3
  unfold State.linkDegraded
  simp

@[simp] theorem State.degradedIf_pending : ∀ x0 x1, (State.degradedIf x0 x1).pending = x0.pending := by
  intro x0 x1
  unfold State.degradedIf
  simp

@[simp] theorem State.laneReset_pending : ∀ x0 x1 x2, (State.laneReset x0 x1 x2).pending = x0.pending := by
  intro x0 x1 x2
  unfold State.laneReset
  simp

@[simp] theorem State.masksExchanged_pending : ∀ x0 x1 x2, (State.masksExchanged x0 x1 x2).pending = x0.pending := by
  intro x0 x1 x2
  unfold State.masksExchanged
  simp

@[simp] theorem State.enqueue_pending : ∀ x0 x1 x2, (State.enqueue x0 x1 x2).pending = x0.pending := by
  intro x0 x1 x2
  unfold State.enqueue
  rfl

@[simp] theorem State.sayIdentity_pending : ∀ x0 x1, (State.sayIdentity x0 x1).pending = x0.pending := by
  intro x0 x1
  unfold State.sayIdentity
  simp

@[simp] theorem State.locked_pending : ∀ x0 x1 x2, (State.locked x0 x1 x2).pending = x0.pending := by
  intro x0 x1 x2
  unfold State.locked
  simp

@[simp] theorem State.identity_pending : ∀ x0 x1 x2 x3 x4, (State.identity x0 x1 x2 x3 x4).pending = x0.pending := by
  intro x0 x1 x2 x3 x4
  unfold State.identity
  simp

@[simp] theorem State.freeCredits_pending : ∀ x0 x1, (State.freeCredits x0 x1).pending = x0.pending := by
  intro x0 x1
  unfold State.freeCredits
  try dsimp -iota only
  (repeat' split) <;> simp

@[simp] theorem State.sendFirm_pending : ∀ x0 x1 x2 x3 x4 x5 x6, (State.sendFirm x0 x1 x2 x3 x4 x5 x6).pending = x0.pending := by
  intro x0 x1 x2 x3 x4 x5 x6
  unfold State.sendFirm
  try dsimp -iota only
  (repeat' split) <;> simp

@[simp] theorem State.deliverHere_pending : ∀ x0 x1 x2, (State.deliverHere x0 x1 x2).pending = x0.pending := by
  intro x0 x1 x2
  unfold State.deliverHere
  simp

@[simp] theorem State.forward_pending : ∀ s p q, (State.forward s p q).1.pending = s.pending := by
  intros; unfold State.forward; (repeat' split) <;> simp

@[simp] theorem State.send_pending : ∀ s a b c d e f g, (State.send s a b c d e f g).1.pending = s.pending := by
  intros; unfold State.send; (repeat' split) <;> simp

@[simp] theorem State.packetStart_pending : ∀ x0 x1, (State.packetStart x0 x1).pending = x0.pending := by
  intro x0 x1
  unfold State.packetStart
  try dsimp -iota only
  (repeat' split) <;> simp

@[simp] theorem State.framePeriod_pending : ∀ s n, (State.framePeriod s n).pending = s.pending := by
  intro s n; unfold State.framePeriod
  lift_lets
  extract_lets
  split
  · rfl
  · rw [State.setPort_pending]

@[simp] theorem State.retrain_pending : ∀ x0 x1, (State.retrain x0 x1).pending = x0.pending := by
  intro x0 x1
  unfold State.retrain
  simp

@[simp] theorem State.replay_pending : ∀ x0 x1, (State.replay x0 x1).pending = x0.pending := by
  intro x0 x1
  unfold State.replay
  simp

@[simp] theorem State.replayLate_pending : ∀ x0 x1, (State.replayLate x0 x1).pending = x0.pending := by
  intro x0 x1
  unfold State.replayLate
  simp

@[simp] theorem State.ackFrames_pending : ∀ x0 x1 x2, (State.ackFrames x0 x1 x2).pending = x0.pending := by
  intro x0 x1 x2
  unfold State.ackFrames
  try dsimp -iota only
  (repeat' split) <;> simp

@[simp] theorem State.addCredits_pending : ∀ x0 x1 x2, (State.addCredits x0 x1 x2).pending = x0.pending := by
  intro x0 x1 x2
  unfold State.addCredits
  rfl

@[simp] theorem State.arrive_pending : ∀ x0 x1 x2 x3, (State.arrive x0 x1 x2 x3).pending = x0.pending := by
  intro x0 x1 x2 x3
  unfold State.arrive
  simp

@[simp] theorem State.takePackets_pending : ∀ x0 x1 x2 x3, (State.takePackets x0 x1 x2 x3).pending = x0.pending := by
  intro x0 x1 x2 x3
  unfold State.takePackets
  try dsimp -iota only
  (repeat' split) <;> simp

@[simp] theorem State.rollLane_pending : ∀ x0 x1, (State.rollLane x0 x1).pending = x0.pending := by
  intro x0 x1
  unfold State.rollLane
  simp

@[simp] theorem State.countFec_pending : ∀ x0 x1 x2, (State.countFec x0 x1 x2).pending = x0.pending := by
  intro x0 x1 x2
  unfold State.countFec
  simp

@[simp] theorem State.badFrame_pending : ∀ x0 x1, (State.badFrame x0 x1).pending = x0.pending := by
  intro x0 x1
  unfold State.badFrame
  rfl

@[simp] theorem State.frameState_pending : ∀ x0 x1 x2, (State.frameState x0 x1 x2).pending = x0.pending := by
  intro x0 x1 x2
  unfold State.frameState
  simp

@[simp] theorem State.sequenced_pending : ∀ x0 x1 x2, (State.sequenced x0 x1 x2).pending = x0.pending := by
  intro x0 x1 x2
  unfold State.sequenced
  simp

@[simp] theorem State.frameIn_pending : ∀ x0 x1 x2 x3, (State.frameIn x0 x1 x2 x3).pending = x0.pending := by
  intro x0 x1 x2 x3
  unfold State.frameIn
  simp

@[simp] theorem State.laneWindow_pending : ∀ x0 x1, (State.laneWindow x0 x1).pending = x0.pending := by
  intro x0 x1
  unfold State.laneWindow
  simp

@[simp] theorem State.portDown_pending : ∀ x0 x1 x2, (State.portDown x0 x1 x2).pending = x0.pending := by
  intro x0 x1 x2
  unfold State.portDown
  simp

@[simp] theorem State.retrained_pending : ∀ x0 x1 x2 x3 x4, (State.retrained x0 x1 x2 x3 x4).pending = x0.pending := by
  intro x0 x1 x2 x3 x4
  unfold State.retrained
  simp

@[simp] theorem State.routeBuilt_pending : ∀ x0 x1, (State.routeBuilt x0 x1).pending = x0.pending := by
  intro x0 x1
  unfold State.routeBuilt
  simp

@[simp] theorem State.answer_pending : ∀ x0 x1, (State.answer x0 x1).pending = x0.pending := by
  intro x0 x1
  unfold State.answer
  rfl

@[simp] theorem State.readHost_pending : ∀ x0 x1 x2 x3 x4 x5 x6 x7, (State.readHost x0 x1 x2 x3 x4 x5 x6 x7).pending = x0.pending := by
  intro x0 x1 x2 x3 x4 x5 x6 x7
  unfold State.readHost
  simp

@[simp] theorem State.regReadAt_pending : ∀ x0 x1 x2 x3, (State.regReadAt x0 x1 x2 x3).pending = x0.pending := by
  intro x0 x1 x2 x3
  unfold State.regReadAt
  try dsimp -iota only
  (repeat' split) <;> simp

@[simp] theorem State.dbCmd_pending : ∀ x0 x1 x2, (State.dbCmd x0 x1 x2).pending = x0.pending := by
  intro x0 x1 x2
  unfold State.dbCmd
  simp

@[simp] theorem State.dbCpl_pending : ∀ x0 x1 x2, (State.dbCpl x0 x1 x2).pending = x0.pending := by
  intro x0 x1 x2
  unfold State.dbCpl
  simp

@[simp] theorem State.irqDelayed_pending : ∀ x0 x1, (State.irqDelayed x0 x1).pending = x0.pending := by
  intro x0 x1
  unfold State.irqDelayed
  try dsimp -iota only
  (repeat' split) <;> simp

@[simp] theorem State.evqResume_pending : ∀ x0 x1, (State.evqResume x0 x1).pending = x0.pending := by
  intro x0 x1
  unfold State.evqResume
  simp

@[simp] theorem State.dbEvq_pending : ∀ x0 x1 x2, (State.dbEvq x0 x1 x2).pending = x0.pending := by
  intro x0 x1 x2
  unfold State.dbEvq
  simp

@[simp] theorem State.fnCtl_pending : ∀ x0 x1 x2, (State.fnCtl x0 x1 x2).pending = x0.pending := by
  intro x0 x1 x2
  unfold State.fnCtl
  simp

@[simp] theorem State.errClear_pending : ∀ x0 x1 x2, (State.errClear x0 x1 x2).pending = x0.pending := by
  intro x0 x1 x2
  unfold State.errClear
  simp

@[simp] theorem State.discarded_pending : ∀ x0 x1, (State.discarded x0 x1).pending = x0.pending := by
  intro x0 x1
  unfold State.discarded
  try dsimp -iota only
  (repeat' split) <;> simp

@[simp] theorem State.holdHi_pending : ∀ x0 x1 x2 x3, (State.holdHi x0 x1 x2 x3).pending = x0.pending := by
  intro x0 x1 x2 x3
  unfold State.holdHi
  try dsimp -iota only
  (repeat' split) <;> simp

@[simp] theorem State.dropHi_pending : ∀ x0 x1 x2, (State.dropHi x0 x1 x2).pending = x0.pending := by
  intro x0 x1 x2
  unfold State.dropHi
  try dsimp -iota only
  (repeat' split) <;> simp

@[simp] theorem State.startRoute_pending : ∀ x0, (State.startRoute x0).pending = x0.pending := by
  intro x0
  unfold State.startRoute
  simp

@[simp] theorem State.setCoord_pending : ∀ x0 x1 x2, (State.setCoord x0 x1 x2).pending = x0.pending := by
  intro x0 x1 x2
  unfold State.setCoord
  simp

@[simp] theorem State.coordWrite_pending : ∀ x0 x1 x2 x3, (State.coordWrite x0 x1 x2 x3).pending = x0.pending := by
  intro x0 x1 x2 x3
  unfold State.coordWrite
  simp

@[simp] theorem State.recompute0_pending : ∀ x0 x1, (State.recompute0 x0 x1).pending = x0.pending := by
  intro x0 x1
  unfold State.recompute0
  simp

@[simp] theorem State.creditWrite_pending : ∀ x0 x1 x2, (State.creditWrite x0 x1 x2).pending = x0.pending := by
  intro x0 x1 x2
  unfold State.creditWrite
  simp

@[simp] theorem State.write0_pending : ∀ x0 x1 x2 x3, (State.write0 x0 x1 x2 x3).pending = x0.pending := by
  intro x0 x1 x2 x3
  unfold State.write0
  try dsimp -iota only
  (repeat' split) <;> simp

@[simp] theorem State.baseWrite_pending : ∀ x0 x1 x2 x3, (State.baseWrite x0 x1 x2 x3).pending = x0.pending := by
  intro x0 x1 x2 x3
  unfold State.baseWrite
  simp

@[simp] theorem State.msixWrite_pending : ∀ x0 x1 x2 x3, (State.msixWrite x0 x1 x2 x3).pending = x0.pending := by
  intro x0 x1 x2 x3
  unfold State.msixWrite
  rfl

@[simp] theorem State.write2_pending : ∀ x0 x1 x2 x3, (State.write2 x0 x1 x2 x3).pending = x0.pending := by
  intro x0 x1 x2 x3
  unfold State.write2
  try dsimp -iota only
  (repeat' split) <;> simp

@[simp] theorem State.writeSb_pending : ∀ x0 x1 x2, (State.writeSb x0 x1 x2).pending = x0.pending := by
  intro x0 x1 x2
  unfold State.writeSb
  try dsimp -iota only
  (repeat' split) <;> simp

@[simp] theorem State.regWriteAt_pending : ∀ x0 x1 x2 x3, (State.regWriteAt x0 x1 x2 x3).pending = x0.pending := by
  intro x0 x1 x2 x3
  unfold State.regWriteAt
  try dsimp -iota only
  (repeat' split) <;> simp

@[simp] theorem State.logRead_pending : ∀ x0 x1 x2, (State.logRead x0 x1 x2).pending = x0.pending := by
  intro x0 x1 x2
  unfold State.logRead
  try dsimp -iota only
  (repeat' split) <;> simp

@[simp] theorem State.fetchCmd_pending : ∀ x0 x1 x2, (State.fetchCmd x0 x1 x2).pending = x0.pending := by
  intro x0 x1 x2
  unfold State.fetchCmd
  try dsimp -iota only
  (repeat' split) <;> simp

@[simp] theorem State.await_pending : ∀ x0 x1 x2, (State.await x0 x1 x2).pending = x0.pending := by
  intro x0 x1 x2
  unfold State.await
  rfl

theorem State.begin_pending : ∀ s n a b c f, (∀ x t, (f x t).pending = t.pending) → (State.begin s n a b c f).pending = s.pending := by
  intro s n a b c f h; unfold State.begin; (repeat' split) <;> simp [h]

@[simp] theorem State.cmdFault_pending : ∀ x0 x1 x2 x3 x4 x5, (State.cmdFault x0 x1 x2 x3 x4 x5).pending = x0.pending := by
  intro x0 x1 x2 x3 x4 x5
  unfold State.cmdFault
  simp

theorem State.cmdRead_pending : ∀ s n c a m f, (∀ x t, (f x t).pending = t.pending) → (State.cmdRead s n c a m f).pending = s.pending := by
  intro s n c a m f h; unfold State.cmdRead; split <;> simp [h]

@[simp] theorem State.invalid_pending : ∀ x0 x1 x2 x3, (State.invalid x0 x1 x2 x3).pending = x0.pending := by
  intro x0 x1 x2 x3
  unfold State.invalid
  simp

@[simp] theorem State.freeTag_pending : ∀ s, (State.freeTag s).2.pending = s.pending := by
  intros; unfold State.freeTag; rfl

@[simp] theorem State.setPeg_pending : ∀ x0 x1 x2 x3, (State.setPeg x0 x1 x2 x3).pending = x0.pending := by
  intro x0 x1 x2 x3
  unfold State.setPeg
  rfl

@[simp] theorem State.putPeg_pending : ∀ s c k p, (State.putPeg s c k p).pending = s.pending := by
  intro s c k p; unfold State.putPeg
  try dsimp -iota only
  split
  · simp
  · split
    · rename_i t ht; rw [State.tryWrite_pending _ _ _ _ _ _ _ _ _ ht]; simp
    · simp

@[simp] theorem State.sendBlocks_pending : ∀ s a b c d e, (State.sendBlocks s a b c d e).1.pending = s.pending := fun s a b c d e =>
  keeps_foldl (fun x : State × Bool => x.1.pending) (fun _ _ => by simp) _ _

@[simp] theorem State.sendTail_pending : ∀ r c k d p st b, (State.sendTail r c k d p st b).1.pending = r.1.pending := by
  intro r c k d p st b; unfold State.sendTail
  split
  · rfl
  · extract_lets
    split
    · rfl
    · simp +zetaDelta

@[simp] theorem State.sendWrites_pending : ∀ s c k d p st a b, (State.sendWrites s c k d p st a b).1.pending = s.pending := by
  intro s c k d p st a b
  unfold State.sendWrites
  extract_lets _ _ _ t
  refine (keeps_foldl (fun x : State × Bool => x.1.pending) (fun _ _ => by simp) _ _).trans ?_
  simp [t]

@[simp] theorem State.sendRsig_pending : ∀ x0 x1 x2 x3 x4, (State.sendRsig x0 x1 x2 x3 x4).pending = x0.pending := by
  intro x0 x1 x2 x3 x4
  unfold State.sendRsig
  simp

@[simp] theorem State.sendOwed_pending : ∀ x0 x1 x2 x3 x4 x5, (State.sendOwed x0 x1 x2 x3 x4 x5).pending = x0.pending := by
  intro x0 x1 x2 x3 x4 x5
  unfold State.sendOwed
  try dsimp -iota only
  (repeat' split) <;> simp

@[simp] theorem State.sendControl_pending : ∀ s a b c d e, (State.sendControl s a b c d e).1.pending = s.pending := by
  intros; unfold State.sendControl; simp

@[simp] theorem State.collEvent_pending : ∀ x0 x1 x2 x3 x4, (State.collEvent x0 x1 x2 x3 x4).pending = x0.pending := by
  intro x0 x1 x2 x3 x4
  unfold State.collEvent
  simp

@[simp] theorem State.spoilScratch_pending : ∀ x0 x1 x2, (State.spoilScratch x0 x1 x2).pending = x0.pending := by
  intro x0 x1 x2
  unfold State.spoilScratch
  try dsimp -iota only
  repeat' (first | (refine State.passWrite_pending _ _ _ _ _ _ (fun _ => ?_)) | (refine State.armedStream_pending _ _ _ _ (fun _ => ?_)) | (refine State.blockAgain_pending _ _ _ _ _ (fun _ _ _ => ?_)) | (refine State.cmdRead_pending _ _ _ _ _ _ (fun _ _ => ?_)) | (refine State.seqCmd_pending _ _ _ _ (fun _ => ?_)) | (refine State.namedStream_pending _ _ _ _ (fun _ => ?_)) | (refine State.migStep_pending _ _ _ _ (fun _ _ => ?_)) | (refine State.planeCheck_pending _ _ _ _ _ (fun _ _ => ?_)) | (refine State.forAll_pending _ _ _ _ (fun _ _ => ?_)) | split)
  all_goals first
      | (simp; done)
      | (apply State.forAll_pending; intros; (repeat' split) <;> simp; done)
      | (have hh := State.tryWrite_pending _ _ _ _ _ _ _ _ _ (by assumption); (try dsimp only at hh); first | (simp [hh]; done) | (simp_all; done))
      | (simp_all; done)

@[simp] theorem State.dropPeg_pending : ∀ x0 x1 x2, (State.dropPeg x0 x1 x2).pending = x0.pending := by
  intro x0 x1 x2
  unfold State.dropPeg
  rfl

@[simp] theorem State.pegFail_pending : ∀ x0 x1 x2 x3 x4, (State.pegFail x0 x1 x2 x3 x4).pending = x0.pending := by
  intro x0 x1 x2 x3 x4
  unfold State.pegFail
  simp

@[simp] theorem State.pegPageFault_pending : ∀ x0 x1 x2 x3 x4 x5, (State.pegPageFault x0 x1 x2 x3 x4 x5).pending = x0.pending := by
  intro x0 x1 x2 x3 x4 x5
  unfold State.pegPageFault
  try dsimp -iota only
  (repeat' split) <;> simp

@[simp] theorem State.pegMeets_pending : ∀ x0 x1 x2 x3 x4, (State.pegMeets x0 x1 x2 x3 x4).pending = x0.pending := by
  intro x0 x1 x2 x3 x4
  unfold State.pegMeets
  simp

theorem State.pegRead_pending : ∀ s c k b w r t, State.pegRead s c k b w r = .ok t → t.2.pending = s.pending := by
  intro s c k b w r t e
  unfold State.pegRead at e
  extract_lets at e
  split at e
  · obtain rfl := Except.ok.inj e; simp
  · cases e

theorem State.portWrite_pending : ∀ s c k a b n p h t, State.portWrite s c k a b n p h = .ok t → t.pending = s.pending := by
  intro s c k a b n p h t e
  unfold State.portWrite at e
  split at e
  · cases e
  · split at e
    · rename_i u hu
      obtain rfl := Except.ok.inj e
      simp [State.commitAll_pending _ _ _ _ _ _ hu]
    · cases e

theorem State.pegWrite_pending : ∀ s c k a b t, State.pegWrite s c k a b = .ok t → t.pending = s.pending := fun _ _ _ _ _ _ e =>
  State.portWrite_pending _ _ _ _ _ _ _ _ _ e

@[simp] theorem State.pegSent_pending : ∀ r c k, (State.pegSent r c k).pending = r.1.pending := by
  intro r c k; unfold State.pegSent; (repeat' split) <;> simp

theorem State.formResult_pending : ∀ s c k p g r v t, State.formResult s c k p g r v = .ok t → t.pending = s.pending := by
  intro s c k p g r v t e
  obtain ⟨u, hu, e⟩ := ok_of_bind e
  obtain rfl := Except.ok.inj e
  rw [← State.pegWrite_pending _ _ _ _ _ _ hu]
  split <;> simp

@[simp] theorem State.sendPartial_pending : ∀ s c k p g r v, (State.sendPartial s c k p g r v).pending = s.pending := by
  intro s c k p g r v; unfold State.sendPartial
  extract_lets; simp +zetaDelta [State.pegSent_pending]

@[simp] theorem State.reduceOwn_pending : ∀ s c k p g n, (State.reduceOwn s c k p g n).pending = s.pending := by
  intro s c k p g n; unfold State.reduceOwn
  extract_lets
  split
  · rfl
  · split
    · simp
    · rename_i hr
      have h1 := State.pegRead_pending _ _ _ _ _ _ _ hr
      dsimp only at h1
      extract_lets
      split
      · split
        · rename_i ht; rw [State.formResult_pending _ _ _ _ _ _ _ _ ht, h1]
        · simp [h1]
      · simp [h1]

@[simp] theorem State.reduceArrival_pending : ∀ s c k p g n, (State.reduceArrival s c k p g n).pending = s.pending := by
  intro s c k p g n; unfold State.reduceArrival
  extract_lets
  split
  · rfl
  · split
    · simp
    · rename_i hr
      have h1 := State.pegRead_pending _ _ _ _ _ _ _ hr
      dsimp only at h1
      extract_lets
      split
      · split
        · rename_i ht; rw [State.formResult_pending _ _ _ _ _ _ _ _ ht, h1]
        · simp [h1]
      · simp [h1]

@[simp] theorem State.finalDone_pending : ∀ s c k p g n, (State.finalDone s c k p g n).pending = s.pending := by
  intro s c k p g n; unfold State.finalDone
  extract_lets
  split <;> simp +zetaDelta [State.pegSent_pending]

@[simp] theorem State.takeArrival_pending : ∀ x0 x1 x2 x3, (State.takeArrival x0 x1 x2 x3).pending = x0.pending := by
  intro x0 x1 x2 x3
  unfold State.takeArrival
  try dsimp -iota only
  (repeat' split) <;> simp

@[simp] theorem State.moveOwn_pending : ∀ s c k p g n, (State.moveOwn s c k p g n).pending = s.pending := by
  intro s c k p g n; unfold State.moveOwn
  extract_lets
  split
  · rfl
  · split
    · simp
    · rename_i hr
      have h1 := State.pegRead_pending _ _ _ _ _ _ _ hr
      dsimp only at h1
      extract_lets
      split
      · simp +zetaDelta [State.pegSent_pending, h1]
      · split
        · split
          · simp [h1]
          · rename_i ht
            split <;> simp +zetaDelta [State.pegSent_pending, State.pegWrite_pending _ _ _ _ _ _ ht, h1]
        · split
          · simp [h1]
          · rename_i ht
            have h2 := State.foldlM_ok_pending _ _ (fun t a u x => State.pegWrite_pending _ _ _ _ _ _ x) _ _ ht
            rw [State.pegSent_pending]
            refine (keeps_foldl (fun x : State × Bool => x.1.pending) (fun _ _ => by simp) _ _).trans ?_
            simp +zetaDelta [h1, h2]

@[simp] theorem State.circulate_pending : ∀ n s c k, (State.circulate s c k n).pending = s.pending := by
  intro n
  induction n with
  | zero => intros; rfl
  | succ n ih =>
    intro s c k
    unfold State.circulate
    split
    · rfl
    · extract_lets
      split
      · simp +zetaDelta [ih]
      · split
        · rfl
        · split
          · simp
          · rename_i hr
            have h1 := State.pegRead_pending _ _ _ _ _ _ _ hr
            dsimp only at h1
            extract_lets
            rw [ih, State.pegSent_pending]
            simp +zetaDelta [h1]

@[simp] theorem State.pegWork_pending : ∀ s c k, (State.pegWork s c k).pending = s.pending := by
  intro s c k
  unfold State.pegWork
  split
  · rfl
  · extract_lets e t
    have ht : t.pending = s.pending := by simp +zetaDelta
    split
    · simp [ht]
    · split
      · exact ht
      · rw [State.forAll_pending]
        · exact ht
        · intro a x
          split
          · rfl
          · extract_lets; split <;> simp

@[simp] theorem State.pegGo_pending : ∀ s c k p, (State.pegGo s c k p).pending = s.pending := by
  intro s c k p; unfold State.pegGo; extract_lets; simp +zetaDelta

@[simp] theorem State.compareOpens_pending : ∀ x0 x1 x2 x3, (State.compareOpens x0 x1 x2 x3).pending = x0.pending := by
  intro x0 x1 x2 x3
  unfold State.compareOpens
  try dsimp -iota only
  (repeat' split) <;> simp

@[simp] theorem State.signIn_pending : ∀ x0 x1 x2 x3, (State.signIn x0 x1 x2 x3).pending = x0.pending := by
  intro x0 x1 x2 x3
  unfold State.signIn
  simp

@[simp] theorem State.pegPump_pending : ∀ s c k, (State.pegPump s c k).pending = s.pending := by
  intro s c k; unfold State.pegPump; (repeat' split) <;> simp

@[simp] theorem State.pegCheck_pending : ∀ x0 x1 x2, (State.pegCheck x0 x1 x2).pending = x0.pending := by
  intro x0 x1 x2
  unfold State.pegCheck
  try dsimp -iota only
  (repeat' split) <;> simp

@[simp] theorem State.raisePeg_pending : ∀ x0 x1 x2 x3, (State.raisePeg x0 x1 x2 x3).pending = x0.pending := by
  intro x0 x1 x2 x3
  unfold State.raisePeg
  try dsimp -iota only
  (repeat' split) <;> simp

@[simp] theorem State.raiseTile_pending : ∀ x0 x1 x2 x3, (State.raiseTile x0 x1 x2 x3).pending = x0.pending := by
  intro x0 x1 x2 x3
  unfold State.raiseTile
  try dsimp -iota only
  (repeat' split) <;> simp

@[simp] theorem State.tilesOver_pending : ∀ x0 x1 x2, (State.tilesOver x0 x1 x2).pending = x0.pending := by
  intro x0 x1 x2
  unfold State.tilesOver
  try dsimp -iota only
  (repeat' split) <;> simp

@[simp] theorem State.signal_pending : ∀ x0 x1 x2 x3, (State.signal x0 x1 x2 x3).pending = x0.pending := by
  intro x0 x1 x2 x3
  unfold State.signal
  simp

@[simp] theorem State.pegFinish_pending : ∀ x0 x1 x2, (State.pegFinish x0 x1 x2).pending = x0.pending := by
  intro x0 x1 x2
  unfold State.pegFinish
  try dsimp -iota only
  (repeat' split) <;> simp

@[simp] theorem State.pegComplete_pending : ∀ x0 x1 x2, (State.pegComplete x0 x1 x2).pending = x0.pending := by
  intro x0 x1 x2
  unfold State.pegComplete
  try dsimp -iota only
  (repeat' split) <;> simp

@[simp] theorem State.pegResume_pending : ∀ x0 x1 x2 x3, (State.pegResume x0 x1 x2 x3).pending = x0.pending := by
  intro x0 x1 x2 x3
  unfold State.pegResume
  try dsimp -iota only
  (repeat' split) <;> simp

@[simp] theorem State.pegNear_pending : ∀ x0 x1 x2, (State.pegNear x0 x1 x2).pending = x0.pending := by
  intro x0 x1 x2
  unfold State.pegNear
  simp

@[simp] theorem State.openIn_pending : ∀ x0 x1 x2 x3 x4 x5, (State.openIn x0 x1 x2 x3 x4 x5).pending = x0.pending := by
  intro x0 x1 x2 x3 x4 x5
  unfold State.openIn
  try dsimp -iota only
  (repeat' split) <;> simp

@[simp] theorem State.grantIn_pending : ∀ x0 x1 x2 x3, (State.grantIn x0 x1 x2 x3).pending = x0.pending := by
  intro x0 x1 x2 x3
  unfold State.grantIn
  try dsimp -iota only
  (repeat' split) <;> simp

@[simp] theorem State.pegLanded_pending : ∀ x0 x1 x2 x3 x4, (State.pegLanded x0 x1 x2 x3 x4).pending = x0.pending := by
  intro x0 x1 x2 x3 x4
  unfold State.pegLanded
  try dsimp -iota only
  (repeat' split) <;> simp

@[simp] theorem State.pegLate_pending : ∀ x0 x1 x2, (State.pegLate x0 x1 x2).pending = x0.pending := by
  intro x0 x1 x2
  unfold State.pegLate
  try dsimp -iota only
  (repeat' split) <;> simp

@[simp] theorem State.committed_pending : ∀ x0 x1 x2, (State.committed x0 x1 x2).pending = x0.pending := by
  intro x0 x1 x2
  unfold State.committed
  simp

@[simp] theorem State.discardRemote_pending : ∀ x0 x1 x2 x3, (State.discardRemote x0 x1 x2 x3).pending = x0.pending := by
  intro x0 x1 x2 x3
  unfold State.discardRemote
  simp

@[simp] theorem State.remoteWrite_pending : ∀ s c k, (State.remoteWrite s c k).pending = s.pending := by
  intro s c k; unfold State.remoteWrite
  split
  · rfl
  · extract_lets
    split
    · simp
    · split
      · rfl
      · split
        · rename_i ht; simp [State.portWrite_pending _ _ _ _ _ _ _ _ _ ht]
        · split <;> simp

@[simp] theorem State.remoteSignal_pending : ∀ x0 x1 x2, (State.remoteSignal x0 x1 x2).pending = x0.pending := by
  intro x0 x1 x2
  unfold State.remoteSignal
  try dsimp -iota only
  (repeat' split) <;> simp

@[simp] theorem State.dataIn_pending : ∀ x0 x1 x2 x3 x4 x5 x6 x7, (State.dataIn x0 x1 x2 x3 x4 x5 x6 x7).pending = x0.pending := by
  intro x0 x1 x2 x3 x4 x5 x6 x7
  unfold State.dataIn
  try dsimp -iota only
  (repeat' split) <;> simp

@[simp] theorem State.takeReports_pending : ∀ x0, (State.takeReports x0).pending = x0.pending := by
  intro x0
  unfold State.takeReports
  try dsimp -iota only
  (repeat' split)
  all_goals first
      | (simp; done)
      | (apply State.forAll_pending; intros; (repeat' split) <;> simp; done)
      | (simp_all; done)

@[simp] theorem State.groupDefine_pending : ∀ x0 x1 x2, (State.groupDefine x0 x1 x2).pending = x0.pending := by
  intro x0 x1 x2
  unfold State.groupDefine
  simp

@[simp] theorem State.pegLoad_pending : ∀ s n c, (State.pegLoad s n c).pending = s.pending := by
  intro s n c; unfold State.pegLoad
  extract_lets
  simp only [State.ite_pending, State.invalid_pending, State.done_pending]
  rw [State.cmdRead_pending]
  · simp only [ite_self]
  · intro bs t
    extract_lets
    simp only [State.ite_pending, State.done_pending]
    rw [State.forAll_pending]
    · simp +zetaDelta
    · intros; simp

@[simp] theorem State.pegRearm_pending : ∀ x0 x1 x2, (State.pegRearm x0 x1 x2).pending = x0.pending := by
  intro x0 x1 x2
  unfold State.pegRearm
  try dsimp -iota only
  (repeat' split) <;> simp

@[simp] theorem State.pegUnload_pending : ∀ x0 x1 x2, (State.pegUnload x0 x1 x2).pending = x0.pending := by
  intro x0 x1 x2
  unfold State.pegUnload
  simp

@[simp] theorem State.setList_pending : ∀ x0 x1, (State.setList x0 x1).pending = x0.pending := by
  intro x0 x1
  unfold State.setList
  rfl

@[simp] theorem State.setTask_pending : ∀ x0 x1, (State.setTask x0 x1).pending = x0.pending := by
  intro x0 x1
  unfold State.setTask
  try dsimp -iota only
  (repeat' split) <;> simp

@[simp] theorem State.modTask_pending : ∀ x0 x1 x2 x3 x4, (State.modTask x0 x1 x2 x3 x4).pending = x0.pending := by
  intro x0 x1 x2 x3 x4
  unfold State.modTask
  try dsimp -iota only
  (repeat' split) <;> simp

@[simp] theorem State.holdTask_pending : ∀ x0 x1 x2 x3 x4, (State.holdTask x0 x1 x2 x3 x4).pending = x0.pending := by
  intro x0 x1 x2 x3 x4
  unfold State.holdTask
  rfl

@[simp] theorem State.cancelPasses_pending : ∀ x0 x1 x2, (State.cancelPasses x0 x1 x2).pending = x0.pending := by
  intro x0 x1 x2
  unfold State.cancelPasses
  try dsimp -iota only
  (repeat' split)
  all_goals first
      | (simp; done)
      | (apply State.forAll_pending; intros; (repeat' split) <;> simp; done)
      | (simp_all; done)

@[simp] theorem State.endLaunch_pending : ∀ x0 x1 x2 x3 x4, (State.endLaunch x0 x1 x2 x3 x4).pending = x0.pending := by
  intro x0 x1 x2 x3 x4
  unfold State.endLaunch
  try dsimp -iota only
  (repeat' split) <;> simp

@[simp] theorem State.checkHalt_pending : ∀ x0 x1 x2, (State.checkHalt x0 x1 x2).pending = x0.pending := by
  intro x0 x1 x2
  unfold State.checkHalt
  try dsimp -iota only
  (repeat' split) <;> simp

@[simp] theorem State.haltList_pending : ∀ x0 x1 x2 x3 x4 x5, (State.haltList x0 x1 x2 x3 x4 x5).pending = x0.pending := by
  intro x0 x1 x2 x3 x4 x5
  unfold State.haltList
  try dsimp -iota only
  (repeat' split) <;> simp

@[simp] theorem State.sweepSwaps_pending : ∀ x0, (State.sweepSwaps x0).pending = x0.pending := by
  intro x0
  unfold State.sweepSwaps
  simp

@[simp] theorem State.freeTile_pending : ∀ x0 x1 x2, (State.freeTile x0 x1 x2).pending = x0.pending := by
  intro x0 x1 x2
  unfold State.freeTile
  simp

@[simp] theorem State.returnTile_pending : ∀ x0 x1 x2, (State.returnTile x0 x1 x2).pending = x0.pending := by
  intro x0 x1 x2
  unfold State.returnTile
  simp

@[simp] theorem State.failTask_pending : ∀ x0 x1 x2 x3 x4 x5, (State.failTask x0 x1 x2 x3 x4 x5).pending = x0.pending := by
  intro x0 x1 x2 x3 x4 x5
  unfold State.failTask
  try dsimp -iota only
  (repeat' split) <;> simp

@[simp] theorem State.failTaskFault_pending : ∀ x0 x1 x2 x3 x4 x5, (State.failTaskFault x0 x1 x2 x3 x4 x5).pending = x0.pending := by
  intro x0 x1 x2 x3 x4 x5
  unfold State.failTaskFault
  try dsimp -iota only
  (repeat' split) <;> simp

@[simp] theorem State.taskFault_pending : ∀ x0 x1 x2 x3 x4, (State.taskFault x0 x1 x2 x3 x4).pending = x0.pending := by
  intro x0 x1 x2 x3 x4
  unfold State.taskFault
  simp

@[simp] theorem State.readAhead_pending : ∀ s l i, (State.readAhead s l i).1.pending = s.pending := by
  intros; unfold State.readAhead; dsimp -iota only; (repeat' split) <;> simp

@[simp] theorem State.fetchDescriptor_pending : ∀ x0 x1 x2, (State.fetchDescriptor x0 x1 x2).pending = x0.pending := by
  intro x0 x1 x2
  unfold State.fetchDescriptor
  try dsimp -iota only
  (repeat' split) <;> simp

@[simp] theorem State.enterTask_pending : ∀ x0 x1 x2 x3, (State.enterTask x0 x1 x2 x3).pending = x0.pending := by
  intro x0 x1 x2 x3
  unfold State.enterTask
  try dsimp -iota only
  (repeat' split) <;> simp

@[simp] theorem State.startTask_pending : ∀ x0 x1 x2 x3 x4, (State.startTask x0 x1 x2 x3 x4).pending = x0.pending := by
  intro x0 x1 x2 x3 x4
  unfold State.startTask
  simp

@[simp] theorem State.lostTask_pending : ∀ x0 x1 x2, (State.lostTask x0 x1 x2).pending = x0.pending := by
  intro x0 x1 x2
  unfold State.lostTask
  simp

@[simp] theorem State.lostPair_pending : ∀ x0 x1 x2 x3, (State.lostPair x0 x1 x2 x3).pending = x0.pending := by
  intro x0 x1 x2 x3
  unfold State.lostPair
  simp

@[simp] theorem State.takeTask_pending : ∀ x0 x1 x2, (State.takeTask x0 x1 x2).pending = x0.pending := by
  intro x0 x1 x2
  unfold State.takeTask
  try dsimp -iota only
  (repeat' split) <;> simp

@[simp] theorem State.takeWait_pending : ∀ x0 x1 x2, (State.takeWait x0 x1 x2).pending = x0.pending := by
  intro x0 x1 x2
  unfold State.takeWait
  try dsimp -iota only
  (repeat' split) <;> simp

@[simp] theorem State.waitLate_pending : ∀ x0 x1 x2, (State.waitLate x0 x1 x2).pending = x0.pending := by
  intro x0 x1 x2
  unfold State.waitLate
  try dsimp -iota only
  (repeat' split) <;> simp

@[simp] theorem State.addFetch_pending : ∀ x0 x1 x2 x3 x4, (State.addFetch x0 x1 x2 x3 x4).pending = x0.pending := by
  intro x0 x1 x2 x3 x4
  unfold State.addFetch
  simp

@[simp] theorem State.fetchOperand_pending : ∀ x0 x1 x2 x3 x4, (State.fetchOperand x0 x1 x2 x3 x4).pending = x0.pending := by
  intro x0 x1 x2 x3 x4
  unfold State.fetchOperand
  simp

@[simp] theorem State.fetchTiles_pending : ∀ x0 x1 x2 x3, (State.fetchTiles x0 x1 x2 x3).pending = x0.pending := by
  intro x0 x1 x2 x3
  unfold State.fetchTiles
  try dsimp -iota only
  (repeat' split) <;> simp

@[simp] theorem State.fetchWalk_pending : ∀ x0 x1 x2, (State.fetchWalk x0 x1 x2).pending = x0.pending := by
  intro x0 x1 x2
  unfold State.fetchWalk
  try dsimp -iota only
  (repeat' split) <;> simp

@[simp] theorem State.openTask_pending : ∀ x0 x1, (State.openTask x0 x1).pending = x0.pending := by
  intro x0 x1
  unfold State.openTask
  simp

@[simp] theorem State.readTask_pending : ∀ x0 x1 x2, (State.readTask x0 x1 x2).pending = x0.pending := by
  intro x0 x1 x2
  unfold State.readTask
  try dsimp -iota only
  (repeat' split) <;> simp

theorem State.writeUnit_pending : ∀ s c a r l q b h t, State.writeUnit s c a r l q b h = .ok t → t.pending = s.pending := by
  intro s c a r l q b h t e
  unfold State.writeUnit at e
  split at e
  · rename_i u hu
    have hh := State.tryWrite_pending _ _ _ _ _ _ _ _ _ hu
    obtain rfl := Except.ok.inj e; exact hh
  · cases e

theorem State.lockAnchor_pending : ∀ k a e t, State.lockAnchor k a e = .ok t → t.1.pending = a.1.pending := by
  intro k a e t h
  unfold State.lockAnchor at h
  try dsimp -iota only [bind, Except.bind, pure, Except.pure, throw, throwThe, MonadExceptOf.throw] at h
  (repeat' split at h) <;> (first | cases h; done | skip)
  all_goals first
    | (rename_i u hu; have hh := State.writeUnit_pending _ _ _ _ _ _ _ _ _ hu; obtain rfl := Except.ok.inj h; exact hh)
theorem State.lockAll_pending (k : Task) (l : List (Nat × Nat)) : ∀ a t, l.foldlM (State.lockAnchor k) a = .ok t → t.1.pending = a.1.pending :=
  keeps_foldlM (fun a : State × List (Nat × Nat × Nat × Nat) => a.1.pending) (fun _ _ _ e => State.lockAnchor_pending _ _ _ _ e) l

@[simp] theorem State.raceEvent_pending : ∀ x0 x1 x2 x3 x4 x5, (State.raceEvent x0 x1 x2 x3 x4 x5).pending = x0.pending := by
  intro x0 x1 x2 x3 x4 x5
  unfold State.raceEvent
  simp

@[simp] theorem State.lockTask_pending : ∀ s b c, (State.lockTask s b c).pending = s.pending := by
  intro s b c; unfold State.lockTask
  split
  · rfl
  · split
    · rfl
    · split
      · simp
      · split <;> simp
      · rename_i hr
        obtain ⟨_, _, hr⟩ := ok_of_bind hr
        obtain ⟨r, hl, hr⟩ := ok_of_bind hr
        obtain ⟨_, _, hr⟩ := ok_of_bind hr
        obtain rfl := Except.ok.inj hr
        simp [State.lockAll_pending _ _ _ _ hl]

@[simp] theorem State.loadTasks_pending : ∀ x0 x1 x2, (State.loadTasks x0 x1 x2).pending = x0.pending := by
  intro x0 x1 x2
  unfold State.loadTasks
  simp

@[simp] theorem State.launch_pending : ∀ x0 x1 x2, (State.launch x0 x1 x2).pending = x0.pending := by
  intro x0 x1 x2
  unfold State.launch
  try dsimp -iota only
  (repeat' split) <;> simp

@[simp] theorem State.haltLaunch_pending : ∀ x0 x1 x2, (State.haltLaunch x0 x1 x2).pending = x0.pending := by
  intro x0 x1 x2
  unfold State.haltLaunch
  try dsimp -iota only
  (repeat' split) <;> simp

@[simp] theorem State.modScribe_pending : ∀ x0 x1, (State.modScribe x0 x1).pending = x0.pending := by
  intro x0 x1
  unfold State.modScribe
  rfl

@[simp] theorem State.delRun_pending : ∀ x0 x1, (State.delRun x0 x1).pending = x0.pending := by
  intro x0 x1
  unfold State.delRun
  rfl

@[simp] theorem State.setCheck_pending : ∀ x0 x1, (State.setCheck x0 x1).pending = x0.pending := by
  intro x0 x1
  unfold State.setCheck
  rfl

@[simp] theorem State.delCheck_pending : ∀ x0 x1, (State.delCheck x0 x1).pending = x0.pending := by
  intro x0 x1
  unfold State.delCheck
  simp

theorem State.passOne_pending : ∀ s k n t, State.passOne s k n = some t → t.pending = s.pending := by
  intro s k n t h
  unfold State.passOne at h
  refine State.foldlM_some_pending _ _ ?_ _ _ h
  intro t a u x
  try dsimp -iota only at x
  split at x
  · obtain rfl := Option.some.inj x; simp
  · cases x

@[simp] theorem State.passPos_pending : ∀ n s b c i sl, (State.passPos s b c i sl n).pending = s.pending := by
  intro n
  induction n with
  | zero => intros; rfl
  | succ n ih =>
    intro s b c i sl
    unfold State.passPos
    (repeat' split) <;> first | (simp +zetaDelta; done) | (have hh := State.passOne_pending _ _ _ _ (by assumption); simp +zetaDelta [ih, hh])

@[simp] theorem State.passList_pending : ∀ x0 x1 x2, (State.passList x0 x1 x2).pending = x0.pending := by
  intro x0 x1 x2
  unfold State.passList
  try dsimp -iota only
  (repeat' split) <;> simp

@[simp] theorem State.endClaim_pending : ∀ x0 x1, (State.endClaim x0 x1).pending = x0.pending := by
  intro x0 x1
  unfold State.endClaim
  try dsimp -iota only
  (repeat' split) <;> simp

@[simp] theorem State.returnRun_pending : ∀ x0 x1, (State.returnRun x0 x1).pending = x0.pending := by
  intro x0 x1
  unfold State.returnRun
  try dsimp -iota only
  (repeat' split) <;> simp

@[simp] theorem State.abandon_pending : ∀ x0 x1, (State.abandon x0 x1).pending = x0.pending := by
  intro x0 x1
  unfold State.abandon
  simp

@[simp] theorem State.forceClaim_pending : ∀ x0 x1, (State.forceClaim x0 x1).pending = x0.pending := by
  intro x0 x1
  unfold State.forceClaim
  try dsimp -iota only
  (repeat' split) <;> simp

@[simp] theorem State.addRun_pending : ∀ x0 x1 x2 x3 x4 x5, (State.addRun x0 x1 x2 x3 x4 x5).pending = x0.pending := by
  intro x0 x1 x2 x3 x4 x5
  unfold State.addRun
  rfl

theorem State.dupBay_pending : ∀ s a b t, State.dupBay s a b = some t → t.2.pending = s.pending := by
  intro s a b t h
  unfold State.dupBay at h
  simp only [Option.map_eq_some_iff] at h
  obtain ⟨b, _, rfl⟩ := h; simp

@[simp] theorem State.startTile_pending : ∀ x0 x1 x2 x3, (State.startTile x0 x1 x2 x3).pending = x0.pending := by
  intro x0 x1 x2 x3
  unfold State.startTile
  try dsimp -iota only
  (repeat' split)
  all_goals first
      | (simp; done)
      | (apply State.forAll_pending; intros; (repeat' split) <;> simp; done)
      | (have hh := State.dupBay_pending _ _ _ _ (by assumption); (try dsimp only at hh); first | (simp [hh]; done) | (simp_all; done))
      | (simp_all; done)

@[simp] theorem State.takeHandles_pending : ∀ x0 x1 x2, (State.takeHandles x0 x1 x2).pending = x0.pending := by
  intro x0 x1 x2
  unfold State.takeHandles
  try dsimp -iota only
  (repeat' split)
  all_goals first
      | (simp; done)
      | (apply State.forAll_pending; intros; (repeat' split) <;> simp; done)
      | (simp_all; done)

@[simp] theorem State.issueTile_pending : ∀ x0 x1 x2 x3 x4 x5, (State.issueTile x0 x1 x2 x3 x4 x5).pending = x0.pending := by
  intro x0 x1 x2 x3 x4 x5
  unfold State.issueTile
  try dsimp -iota only
  (repeat' split) <;> simp

@[simp] theorem State.runCand_pending : ∀ x0 x1 x2, (State.runCand x0 x1 x2).pending = x0.pending := by
  intro x0 x1 x2
  unfold State.runCand
  try dsimp -iota only
  (repeat' split) <;> simp

@[simp] theorem State.failStarved_pending : ∀ x0 x1, (State.failStarved x0 x1).pending = x0.pending := by
  intro x0 x1
  unfold State.failStarved
  try dsimp -iota only
  (repeat' split)
  all_goals first
      | (simp; done)
      | (apply State.forAll_pending; intros; (repeat' split) <;> simp; done)
      | (simp_all; done)

@[simp] theorem State.issueLc_pending : ∀ x0 x1 x2 x3, (State.issueLc x0 x1 x2 x3).pending = x0.pending := by
  intro x0 x1 x2 x3
  unfold State.issueLc
  try dsimp -iota only
  (repeat' split) <;> simp

@[simp] theorem State.tileIssue_pending : ∀ x0 x1, (State.tileIssue x0 x1).pending = x0.pending := by
  intro x0 x1
  unfold State.tileIssue
  try dsimp -iota only
  (repeat' split) <;> simp

@[simp] theorem State.noticeClaim_pending : ∀ x0 x1, (State.noticeClaim x0 x1).pending = x0.pending := by
  intro x0 x1
  unfold State.noticeClaim
  try dsimp -iota only
  (repeat' split) <;> simp

@[simp] theorem State.handleLate_pending : ∀ x0 x1 x2 x3, (State.handleLate x0 x1 x2 x3).pending = x0.pending := by
  intro x0 x1 x2 x3
  unfold State.handleLate
  try dsimp -iota only
  (repeat' split) <;> simp

theorem State.writeOut_pending : ∀ s c o h t, State.writeOut s c o h = .ok t → t.pending = s.pending := by
  intro s c o h t e
  exact State.foldlM_ok_pending _ _ (fun t a u x => State.tryWrite_pending _ _ _ _ _ _ _ _ _ x) _ _ e

theorem State.release_pending : ∀ s k x o t, State.release s k x o = .ok t → t.pending = s.pending := by
  intro s k x o t h
  unfold State.release at h
  dsimp -iota only [bind, Except.bind, pure, Except.pure, throw, throwThe, MonadExceptOf.throw] at h
  split at h
  · cases h
  · split at h
    · cases h
    · rename_i u hu
      have hh := State.writeOut_pending _ _ _ _ _ hu
      obtain rfl := Except.ok.inj h
      split <;> simp [hh]

@[simp] theorem State.dropTile_pending : ∀ x0 x1, (State.dropTile x0 x1).pending = x0.pending := by
  intro x0 x1
  unfold State.dropTile
  try dsimp -iota only
  (repeat' split) <;> simp

@[simp] theorem State.tileFault_pending : ∀ x0 x1 x2 x3 x4, (State.tileFault x0 x1 x2 x3 x4).pending = x0.pending := by
  intro x0 x1 x2 x3 x4
  unfold State.tileFault
  simp

@[simp] theorem State.setRun_pending : ∀ x0 x1, (State.setRun x0 x1).pending = x0.pending := by
  intro x0 x1
  unfold State.setRun
  rfl

@[simp] theorem State.yieldCore_pending : ∀ x0 x1, (State.yieldCore x0 x1).pending = x0.pending := by
  intro x0 x1
  unfold State.yieldCore
  simp

@[simp] theorem State.endRun_pending : ∀ s k r o, (State.endRun s k r o).pending = s.pending := by
  intro s k r o
  unfold State.endRun
  split
  · extract_lets t
    have ht : t.pending = s.pending := by simp +zetaDelta
    split <;> simp [ht]
  · split
    · simp
    · rename_i t ht; have hh := State.release_pending _ _ _ _ _ ht; simp [hh]

@[simp] theorem State.stopRun_pending : ∀ x0 x1 x2, (State.stopRun x0 x1 x2).pending = x0.pending := by
  intro x0 x1 x2
  unfold State.stopRun
  try dsimp -iota only
  (repeat' split) <;> simp

@[simp] theorem State.tileDone_pending : ∀ x0 x1 x2, (State.tileDone x0 x1 x2).pending = x0.pending := by
  intro x0 x1 x2
  unfold State.tileDone
  try dsimp -iota only
  (repeat' split) <;> simp

@[simp] theorem State.recheck_pending : ∀ x0 x1, (State.recheck x0 x1).pending = x0.pending := by
  intro x0 x1
  unfold State.recheck
  try dsimp -iota only
  (repeat' split) <;> simp

@[simp] theorem State.parityFail_pending : ∀ x0 x1, (State.parityFail x0 x1).pending = x0.pending := by
  intro x0 x1
  unfold State.parityFail
  try dsimp -iota only
  (repeat' split) <;> simp

@[simp] theorem State.sdcEvent_pending : ∀ x0 x1 x2 x3 x4, (State.sdcEvent x0 x1 x2 x3 x4).pending = x0.pending := by
  intro x0 x1 x2 x3 x4
  unfold State.sdcEvent
  simp

@[simp] theorem State.agreed_pending : ∀ x0 x1 x2, (State.agreed x0 x1 x2).pending = x0.pending := by
  intro x0 x1 x2
  unfold State.agreed
  rfl

@[simp] theorem State.dropCheck_pending : ∀ x0 x1 x2, (State.dropCheck x0 x1 x2).pending = x0.pending := by
  intro x0 x1 x2
  unfold State.dropCheck
  simp

@[simp] theorem State.releaseCheck_pending : ∀ s k c o, (State.releaseCheck s k c o).pending = s.pending := by
  intro s k c o; unfold State.releaseCheck
  split
  · split <;> simp
  · rename_i ht; simp [State.release_pending _ _ _ _ _ ht]

@[simp] theorem State.spotCompare_pending : ∀ s i, (State.spotCompare s i).pending = s.pending := by
  intro s i; unfold State.spotCompare
  split
  · rfl
  · split
    · split
      · rfl
      · split
        · split <;> simp
        · split
          · rfl
          · rename_i hb; simp [State.dupBay_pending _ _ _ _ hb]
    · rfl

@[simp] theorem State.outvoted_pending : ∀ x0 x1 x2 x3 x4, (State.outvoted x0 x1 x2 x3 x4).pending = x0.pending := by
  intro x0 x1 x2 x3 x4
  unfold State.outvoted
  simp

@[simp] theorem State.majority_pending : ∀ s k c o a b, (State.majority s k c o a b).pending = s.pending := by
  intro s k c o a b
  unfold State.majority
  split <;> simp

@[simp] theorem State.thirdCompare_pending : ∀ s i, (State.thirdCompare s i).pending = s.pending := by
  intro s i; unfold State.thirdCompare
  split
  · rfl
  · split
    · simp only [State.ite_pending, State.majority_pending, State.failTask_pending, State.sdcEvent_pending, State.modScribe_pending, State.dropCheck_pending, ite_self]
    · rfl

@[simp] theorem State.loftHit_pending : ∀ x0 x1, (State.loftHit x0 x1).pending = x0.pending := by
  intro x0 x1
  unfold State.loftHit
  try dsimp -iota only
  (repeat' split) <;> simp

theorem State.writeStats_pending : ∀ s k t, State.writeStats s k = .ok t → t.pending = s.pending := by
  intro s k t h
  unfold State.writeStats at h
  try dsimp -iota only [bind, Except.bind, pure, Except.pure, throw, throwThe, MonadExceptOf.throw] at h
  split at h
  · cases h
  · split at h
    · cases h
    · rename_i w hw
      split at h
      · cases h
      · rename_i v hv
        obtain rfl := Except.ok.inj h
        have step : ∀ (c : Nat) (hf : Sys2Proof.Half) (t u : State) (a : Nat) (bs : List Byte), (match t.tryWrite c a bs false false hf .module with
          | .ok u => Except.ok u
          | .error f => Except.error (TileStop.fault f.1 f.2)) = Except.ok u → u.pending = t.pending := by
          intro c hf t u a bs x
          split at x
          · rename_i y hy; obtain rfl := Except.ok.inj x; exact State.tryWrite_pending _ _ _ _ _ _ _ _ _ hy
          · cases x
        have e1 := State.foldlM_ok_pending _ _ (fun t a u x => step _ _ _ _ _ _ x) _ _ hw
        have e2 := State.foldlM_ok_pending _ _ (fun t a u x => step _ _ _ _ _ _ x) _ _ hv
        simp [e1, e2]

@[simp] theorem State.mergeStats_pending : ∀ x0 x1 x2 x3, (State.mergeStats x0 x1 x2 x3).pending = x0.pending := by
  intro x0 x1 x2 x3
  unfold State.mergeStats
  try dsimp -iota only
  (repeat' split)
  all_goals first
      | (simp; done)
      | (apply State.forAll_pending; intros; (repeat' split) <;> simp; done)
      | (have hh := State.writeStats_pending _ _ _ (by assumption); (try dsimp only at hh); first | (simp [hh]; done) | (simp_all; done))
      | (simp_all; done)

theorem State.unlock_pending : ∀ s k g t, State.unlock s k g = .ok t → t.pending = s.pending := by
  intro s k g t h
  unfold State.unlock at h
  refine State.foldlM_ok_pending _ _ ?_ _ _ h
  intro t a u x
  try dsimp -iota only [bind, Except.bind] at x
  split at x
  · cases x
  · exact State.writeUnit_pending _ _ _ _ _ _ _ _ _ x

@[simp] theorem State.leaveTask_pending : ∀ x0 x1 x2 x3 x4, (State.leaveTask x0 x1 x2 x3 x4).pending = x0.pending := by
  intro x0 x1 x2 x3 x4
  unfold State.leaveTask
  try dsimp -iota only
  (repeat' split) <;> simp

@[simp] theorem State.taskEvent_pending : ∀ x0 x1 x2, (State.taskEvent x0 x1 x2).pending = x0.pending := by
  intro x0 x1 x2
  unfold State.taskEvent
  simp

@[simp] theorem State.endUnwritten_pending : ∀ x0 x1 x2 x3, (State.endUnwritten x0 x1 x2 x3).pending = x0.pending := by
  intro x0 x1 x2 x3
  unfold State.endUnwritten
  simp

@[simp] theorem State.afterRecord_pending : ∀ x0 x1 x2, (State.afterRecord x0 x1 x2).pending = x0.pending := by
  intro x0 x1 x2
  unfold State.afterRecord
  simp

@[simp] theorem State.writeRecord_pending : ∀ x0 x1 x2, (State.writeRecord x0 x1 x2).pending = x0.pending := by
  intro x0 x1 x2
  unfold State.writeRecord
  (repeat' split)
  all_goals first
      | (simp; done)
      | (have hh := State.tryWrite_pending _ _ _ _ _ _ _ _ _ (by assumption); (try dsimp only at hh); first | (simp [hh]; done) | (simp_all; done))
      | (simp_all; done)

@[simp] theorem State.endTask_pending : ∀ x0 x1 x2, (State.endTask x0 x1 x2).pending = x0.pending := by
  intro x0 x1 x2
  unfold State.endTask
  (repeat' split)
  all_goals first
      | (simp; done)
      | (have hh := State.unlock_pending _ _ _ _ (by assumption); (try dsimp only at hh); first | (simp [hh]; done) | (simp_all; done))
      | (simp_all; done)

@[simp] theorem State.completeTask_pending : ∀ x0 x1 x2 x3, (State.completeTask x0 x1 x2 x3).pending = x0.pending := by
  intro x0 x1 x2 x3
  unfold State.completeTask
  try dsimp -iota only
  (repeat' split) <;> simp

@[simp] theorem State.setPlane_pending : ∀ x0 x1 x2 x3, (State.setPlane x0 x1 x2 x3).pending = x0.pending := by
  intro x0 x1 x2 x3
  unfold State.setPlane
  rfl

@[simp] theorem State.putPlane_pending : ∀ s c k p, (State.putPlane s c k p).pending = s.pending := by
  intro s c k p; unfold State.putPlane
  try dsimp -iota only
  split
  · rename_i t ht; rw [State.tryWrite_pending _ _ _ _ _ _ _ _ _ ht]; simp
  · simp

@[simp] theorem State.freePlane_pending : ∀ x0 x1 x2, (State.freePlane x0 x1 x2).pending = x0.pending := by
  intro x0 x1 x2
  unfold State.freePlane
  rfl

@[simp] theorem State.releasePlane_pending : ∀ x0 x1 x2 x3, (State.releasePlane x0 x1 x2 x3).pending = x0.pending := by
  intro x0 x1 x2 x3
  unfold State.releasePlane
  try dsimp -iota only
  (repeat' split) <;> simp

@[simp] theorem State.planeEnded_pending : ∀ x0 x1 x2, (State.planeEnded x0 x1 x2).pending = x0.pending := by
  intro x0 x1 x2
  unfold State.planeEnded
  try dsimp -iota only
  (repeat' split) <;> simp

@[simp] theorem State.endPlane_pending : ∀ x0 x1 x2 x3 x4, (State.endPlane x0 x1 x2 x3 x4).pending = x0.pending := by
  intro x0 x1 x2 x3 x4
  unfold State.endPlane
  simp

@[simp] theorem State.failPlane_pending : ∀ x0 x1 x2 x3 x4 x5, (State.failPlane x0 x1 x2 x3 x4 x5).pending = x0.pending := by
  intro x0 x1 x2 x3 x4 x5
  unfold State.failPlane
  simp

@[simp] theorem State.failPlaneFault_pending : ∀ x0 x1 x2 x3 x4 x5, (State.failPlaneFault x0 x1 x2 x3 x4 x5).pending = x0.pending := by
  intro x0 x1 x2 x3 x4 x5
  unfold State.failPlaneFault
  try dsimp -iota only
  (repeat' split) <;> simp

@[simp] theorem State.planeMeets_pending : ∀ x0 x1 x2 x3 x4, (State.planeMeets x0 x1 x2 x3 x4).pending = x0.pending := by
  intro x0 x1 x2 x3 x4
  unfold State.planeMeets
  simp

@[simp] theorem State.passRequests_pending : ∀ x0 x1 x2 x3 x4, (State.passRequests x0 x1 x2 x3 x4).pending = x0.pending := by
  intro x0 x1 x2 x3 x4
  unfold State.passRequests
  try dsimp -iota only
  (repeat' split)
  all_goals first
      | (simp; done)
      | (apply State.forAll_pending; intros; (repeat' split) <;> simp; done)
      | (simp_all; done)

@[simp] theorem State.planeBegin_pending : ∀ x0 x1 x2 x3, (State.planeBegin x0 x1 x2 x3).pending = x0.pending := by
  intro x0 x1 x2 x3
  unfold State.planeBegin
  try dsimp -iota only
  (repeat' split) <;> simp

@[simp] theorem State.planeWritten_pending : ∀ x0 x1 x2, (State.planeWritten x0 x1 x2).pending = x0.pending := by
  intro x0 x1 x2
  unfold State.planeWritten
  try dsimp -iota only
  (repeat' split) <;> simp

@[simp] theorem State.startPlane_pending : ∀ s c k, (State.startPlane s c k).pending = s.pending := by
  intro s c k; unfold State.startPlane
  split
  · rfl
  · split
    · rfl
    · extract_lets; split <;> simp +zetaDelta

@[simp] theorem State.asPass_pending : ∀ x0 x1 x2, (State.asPass x0 x1 x2).pending = x0.pending := by
  intro x0 x1 x2
  unfold State.asPass
  rfl

@[simp] theorem State.mappedAs_pending : ∀ t s, (State.mappedAs t s).pending = t.pending := fun _ _ => rfl

theorem State.passWrite_pending : ∀ s c i p l f, (∀ t, (f t).pending = t.pending) → (State.passWrite s c i p l f).pending = s.pending := by
  intro s c i p l f h; unfold State.passWrite
  split
  · simp
  · rename_i ht; rw [h]; exact (State.commitAll_pending _ _ _ _ _ _ ht).trans (by simp)

@[simp] theorem State.finishPlane_pending : ∀ x0 x1 x2 x3 x4 x5, (State.finishPlane x0 x1 x2 x3 x4 x5).pending = x0.pending := by
  intro x0 x1 x2 x3 x4 x5
  unfold State.finishPlane
  simp

@[simp] theorem State.normPass_pending : ∀ s c i p l, (State.normPass s c i p l).pending = s.pending := by
  intro s c i p l; unfold State.normPass
  split
  · simp
  · extract_lets; exact (State.passWrite_pending _ _ _ _ _ _ fun _ => by simp).trans (State.newId_pending s)

@[simp] theorem State.countPlane_pending : ∀ x0 x1 x2, (State.countPlane x0 x1 x2).pending = x0.pending := by
  intro x0 x1 x2
  unfold State.countPlane
  rfl

@[simp] theorem State.updatePass_pending : ∀ s c i p l, (State.updatePass s c i p l).pending = s.pending := by
  intro s c i p l; unfold State.updatePass
  extract_lets; exact State.passWrite_pending _ _ _ _ _ _ fun _ => by simp

@[simp] theorem State.endPass_pending : ∀ x0 x1 x2, (State.endPass x0 x1 x2).pending = x0.pending := by
  intro x0 x1 x2
  unfold State.endPass
  try dsimp -iota only
  (repeat' split) <;> simp

@[simp] theorem State.planeArm_pending : ∀ s n c, (State.planeArm s n c).pending = s.pending := by
  intro s n c; unfold State.planeArm
  extract_lets
  split
  · simp
  · refine State.cmdRead_pending _ _ _ _ _ _ fun _ _ => ?_
    split
    · simp
    · refine State.cmdRead_pending _ _ _ _ _ _ fun _ _ => ?_
      split
      · simp
      · split
        · simp
        · extract_lets; simp +zetaDelta

@[simp] theorem State.planeRelease_pending : ∀ x0 x1 x2, (State.planeRelease x0 x1 x2).pending = x0.pending := by
  intro x0 x1 x2
  unfold State.planeRelease
  try dsimp -iota only
  (repeat' split) <;> simp

@[simp] theorem State.bar4Answer_pending : ∀ x0 x1, (State.bar4Answer x0 x1).pending = x0.pending := by
  intro x0 x1
  unfold State.bar4Answer
  rfl

@[simp] theorem State.bar4Refuse_pending : ∀ x0 x1, (State.bar4Refuse x0 x1).pending = x0.pending := by
  intro x0 x1
  unfold State.bar4Refuse
  simp

@[simp] theorem State.bar4Lost_pending : ∀ x0 x1 x2 x3 x4, (State.bar4Lost x0 x1 x2 x3 x4).pending = x0.pending := by
  intro x0 x1 x2 x3 x4
  unfold State.bar4Lost
  simp

@[simp] theorem State.bar4Fault_pending : ∀ s q f w, (State.bar4Fault s q f w).1.pending = s.pending := by
  intros; unfold State.bar4Fault; split <;> simp

@[simp] theorem State.bar4Serve_pending : ∀ s q, (State.bar4Serve s q).1.pending = s.pending := by
  intros; unfold State.bar4Serve; dsimp -iota only
  (repeat' split) <;> first | (simp; done) | (rename_i t ht; exact State.tryWrite_pending _ _ _ _ _ _ _ _ _ ht)

@[simp] theorem State.bar4Pump_pending : ∀ n s, (State.bar4Pump s n).pending = s.pending := by
  intro n
  induction n with
  | zero => intros; rfl
  | succ n ih =>
    intro s
    unfold State.bar4Pump
    split
    · rfl
    · extract_lets; split <;> simp +zetaDelta [ih]

@[simp] theorem State.bar4Run_pending : ∀ x0, (State.bar4Run x0).pending = x0.pending := by
  intro x0
  unfold State.bar4Run
  simp

@[simp] theorem State.bar4Take_pending : ∀ x0 x1 x2 x3 x4, (State.bar4Take x0 x1 x2 x3 x4).pending = x0.pending := by
  intro x0 x1 x2 x3 x4
  unfold State.bar4Take
  simp

@[simp] theorem State.idleAll_pending : ∀ x0, (State.idleAll x0).pending = x0.pending := by
  intro x0
  unfold State.idleAll
  simp

@[simp] theorem State.xferEvent_pending : ∀ x0 x1 x2 x3, (State.xferEvent x0 x1 x2 x3).pending = x0.pending := by
  intro x0 x1 x2 x3
  unfold State.xferEvent
  simp

@[simp] theorem State.hostStore_pending : ∀ x0 x1 x2, (State.hostStore x0 x1 x2).pending = x0.pending := by
  intro x0 x1 x2
  unfold State.hostStore
  rfl

@[simp] theorem State.xferOut_pending : ∀ x0 x1 x2, (State.xferOut x0 x1 x2).pending = x0.pending := by
  intro x0 x1 x2
  unfold State.xferOut
  try dsimp -iota only
  (repeat' split) <;> simp

@[simp] theorem State.xferStart_pending : ∀ x0 x1 x2, (State.xferStart x0 x1 x2).pending = x0.pending := by
  intro x0 x1 x2
  unfold State.xferStart
  try dsimp -iota only
  (repeat' split) <;> simp

@[simp] theorem State.hostData_pending : ∀ x0 x1 x2 x3, (State.hostData x0 x1 x2 x3).pending = x0.pending := by
  intro x0 x1 x2 x3
  unfold State.hostData
  try dsimp -iota only
  (repeat' split)
  all_goals first
      | (simp; done)
      | (apply State.forAll_pending; intros; (repeat' split) <;> simp; done)
      | (have hh := State.tryWrite_pending _ _ _ _ _ _ _ _ _ (by assumption); (try dsimp only at hh); first | (simp [hh]; done) | (simp_all; done))
      | (simp_all; done)

@[simp] theorem State.writeStash_pending : ∀ s c, (State.writeStash s c).pending = s.pending := by
  intro s c; unfold State.writeStash
  split
  · rfl
  · split
    · rename_i t ht; rw [State.tryWrite_pending _ _ _ _ _ _ _ _ _ ht]
    · simp

@[simp] theorem State.resumeStream_pending : ∀ x0 x1 x2 x3, (State.resumeStream x0 x1 x2 x3).pending = x0.pending := by
  intro x0 x1 x2 x3
  unfold State.resumeStream
  try dsimp -iota only
  (repeat' split) <;> simp

@[simp] theorem State.resume_pending : ∀ x0 x1, (State.resume x0 x1).pending = x0.pending := by
  intro x0 x1
  unfold State.resume
  try dsimp -iota only
  (repeat' split) <;> simp

@[simp] theorem State.resolveFault_pending : ∀ x0 x1, (State.resolveFault x0 x1).pending = x0.pending := by
  intro x0 x1
  unfold State.resolveFault
  try dsimp -iota only
  (repeat' split) <;> simp

@[simp] theorem State.streamUnwritten_pending : ∀ x0 x1 x2 x3, (State.streamUnwritten x0 x1 x2 x3).pending = x0.pending := by
  intro x0 x1 x2 x3
  unfold State.streamUnwritten
  simp

@[simp] theorem State.taskUnresolved_pending : ∀ x0 x1 x2 x3 x4, (State.taskUnresolved x0 x1 x2 x3 x4).pending = x0.pending := by
  intro x0 x1 x2 x3 x4
  unfold State.taskUnresolved
  try dsimp -iota only
  (repeat' split) <;> simp

@[simp] theorem State.tileUnresolved_pending : ∀ x0 x1 x2 x3 x4 x5 x6, (State.tileUnresolved x0 x1 x2 x3 x4 x5 x6).pending = x0.pending := by
  intro x0 x1 x2 x3 x4 x5 x6
  unfold State.tileUnresolved
  simp

@[simp] theorem State.cmdUnresolved_pending : ∀ x0 x1 x2 x3 x4, (State.cmdUnresolved x0 x1 x2 x3 x4).pending = x0.pending := by
  intro x0 x1 x2 x3 x4
  unfold State.cmdUnresolved
  simp

@[simp] theorem State.giveUp_pending : ∀ x0 x1 x2 x3, (State.giveUp x0 x1 x2 x3).pending = x0.pending := by
  intro x0 x1 x2 x3
  unfold State.giveUp
  try dsimp -iota only
  (repeat' split) <;> simp

@[simp] theorem State.faultLate_pending : ∀ x0 x1, (State.faultLate x0 x1).pending = x0.pending := by
  intro x0 x1
  unfold State.faultLate
  try dsimp -iota only
  (repeat' split) <;> simp

@[simp] theorem State.addPage_pending : ∀ x0 x1 x2 x3 x4 x5 x6 x7 x8, (State.addPage x0 x1 x2 x3 x4 x5 x6 x7 x8).pending = x0.pending := by
  intro x0 x1 x2 x3 x4 x5 x6 x7 x8
  unfold State.addPage
  rfl

@[simp] theorem State.unmapWhere_pending : ∀ x0 x1, (State.unmapWhere x0 x1).pending = x0.pending := by
  intro x0 x1
  unfold State.unmapWhere
  rfl

theorem State.clearLayers_pending : ∀ s c d l h t, State.clearLayers s c d l h = .ok t → t.pending = s.pending := by
  intro s c d l h t e
  refine State.foldlM_ok_pending _ _ (fun t a u x => ?_) _ _ e
  obtain ⟨v, hv, x⟩ := ok_of_bind x
  rw [State.tryWrite_pending _ _ _ _ _ _ _ _ _ x, State.tryWrite_pending _ _ _ _ _ _ _ _ _ hv]

@[simp] theorem State.stashArm_pending : ∀ s n c, (State.stashArm s n c).pending = s.pending := by
  intro s n c; unfold State.stashArm
  extract_lets
  split
  · simp
  · split
    · simp
    · refine State.cmdRead_pending _ _ _ _ _ _ fun _ _ => ?_
      split
      · simp
      · refine State.cmdRead_pending _ _ _ _ _ _ fun _ _ => ?_
        extract_lets
        split
        · simp
        · split
          · simp
          · split
            · simp
            · rename_i ht; simp [State.clearLayers_pending _ _ _ _ _ _ ht]

@[simp] theorem State.stashReset_pending : ∀ s n c, (State.stashReset s n c).pending = s.pending := by
  intro s n c; unfold State.stashReset
  split
  · simp
  · split
    · simp
    · refine State.cmdRead_pending _ _ _ _ _ _ fun _ _ => ?_
      split
      · simp
      · rename_i ht; extract_lets; simp +zetaDelta [State.clearLayers_pending _ _ _ _ _ _ ht]

@[simp] theorem State.stashRelease_pending : ∀ x0 x1 x2, (State.stashRelease x0 x1 x2).pending = x0.pending := by
  intro x0 x1 x2
  unfold State.stashRelease
  try dsimp -iota only
  (repeat' split) <;> simp

@[simp] theorem State.slotGivesUp_pending : ∀ x0 x1 x2 x3 x4, (State.slotGivesUp x0 x1 x2 x3 x4).pending = x0.pending := by
  intro x0 x1 x2 x3 x4
  unfold State.slotGivesUp
  simp

@[simp] theorem State.claimStarts_pending : ∀ x0 x1 x2 x3, (State.claimStarts x0 x1 x2 x3).pending = x0.pending := by
  intro x0 x1 x2 x3
  unfold State.claimStarts
  rfl

@[simp] theorem State.claimFull_pending : ∀ x0 x1 x2 x3 x4, (State.claimFull x0 x1 x2 x3 x4).pending = x0.pending := by
  intro x0 x1 x2 x3 x4
  unfold State.claimFull
  simp

@[simp] theorem State.claimSized_pending : ∀ x0 x1 x2 x3 x4 x5, (State.claimSized x0 x1 x2 x3 x4 x5).pending = x0.pending := by
  intro x0 x1 x2 x3 x4 x5
  unfold State.claimSized
  simp

@[simp] theorem State.stashClaim_pending : ∀ x0 x1, (State.stashClaim x0 x1).pending = x0.pending := by
  intro x0 x1
  unfold State.stashClaim
  try dsimp -iota only
  (repeat' split) <;> simp

@[simp] theorem State.mapSlot_pending : ∀ x0 x1 x2 x3 x4 x5, (State.mapSlot x0 x1 x2 x3 x4 x5).pending = x0.pending := by
  intro x0 x1 x2 x3 x4 x5
  unfold State.mapSlot
  try dsimp -iota only
  (repeat' split)
  all_goals first
      | (simp; done)
      | (apply State.forAll_pending; intros; (repeat' split) <;> simp; done)
      | (simp_all; done)

@[simp] theorem State.writeOr_pending : ∀ x0 x1 x2 x3, (State.writeOr x0 x1 x2 x3).pending = x0.pending := by
  intro x0 x1 x2 x3
  unfold State.writeOr
  (repeat' split)
  all_goals first
      | (simp; done)
      | (have hh := State.tryWrite_pending _ _ _ _ _ _ _ _ _ (by assumption); (try dsimp only at hh); first | (simp [hh]; done) | (simp_all; done))
      | (simp_all; done)

@[simp] theorem State.writeLayer_pending : ∀ x0 x1 x2 x3 x4, (State.writeLayer x0 x1 x2 x3 x4).pending = x0.pending := by
  intro x0 x1 x2 x3 x4
  unfold State.writeLayer
  try dsimp -iota only
  (repeat' split) <;> simp

@[simp] theorem State.claimResumes_pending : ∀ x0, (State.claimResumes x0).pending = x0.pending := by
  intro x0
  unfold State.claimResumes
  simp

@[simp] theorem State.claimMapped_pending : ∀ x0 x1, (State.claimMapped x0 x1).pending = x0.pending := by
  intro x0 x1
  unfold State.claimMapped
  try dsimp -iota only
  (repeat' split) <;> simp

@[simp] theorem State.copyShapes_pending : ∀ x0 x1 x2, (State.copyShapes x0 x1 x2).pending = x0.pending := by
  intro x0 x1 x2
  unfold State.copyShapes
  (repeat' split)
  all_goals first
      | (simp; done)
      | (have hh := State.tryWrite_pending _ _ _ _ _ _ _ _ _ (by assumption); (try dsimp only at hh); first | (simp [hh]; done) | (simp_all; done))
      | (simp_all; done)

@[simp] theorem State.dropDone_pending : ∀ x0 x1, (State.dropDone x0 x1).pending = x0.pending := by
  intro x0 x1
  unfold State.dropDone
  try dsimp -iota only
  (repeat' split) <;> simp

@[simp] theorem State.slotRelease_pending : ∀ x0 x1 x2 x3, (State.slotRelease x0 x1 x2 x3).pending = x0.pending := by
  intro x0 x1 x2 x3
  unfold State.slotRelease
  simp

@[simp] theorem State.admitCtx_pending : ∀ x0 x1, (State.admitCtx x0 x1).pending = x0.pending := by
  intro x0 x1
  unfold State.admitCtx
  rfl

@[simp] theorem State.ctxAdmit_pending : ∀ x0 x1 x2, (State.ctxAdmit x0 x1 x2).pending = x0.pending := by
  intro x0 x1 x2
  unfold State.ctxAdmit
  try dsimp -iota only
  (repeat' split) <;> simp

theorem State.placePages_pending : ∀ l s c a m t, State.placePages s c a m l = some t → t.pending = s.pending := by
  intro l
  induction l with
  | nil => intro s c a m t e; simp only [State.placePages, Option.some.injEq] at e; subst e; rfl
  | cons v r ih =>
    intro s c a m t e
    obtain ⟨v, hf⟩ := v
    simp only [State.placePages] at e
    split at e
    · cases e
    · split at e
      · rw [ih _ _ _ _ _ e]; simp
      · split at e
        · cases e
        · rw [ih _ _ _ _ _ e]; simp

theorem State.mapYard_pending : ∀ s c a l t, State.mapYard s c a l = .ok t → t.pending = s.pending := by
  intro s c a l t e
  unfold State.mapYard at e
  extract_lets at e
  split at e
  · exact absurd e (by simp)
  · split at e
    · rename_i u hu; obtain rfl := Except.ok.inj e; exact State.placePages_pending _ _ _ _ _ _ hu
    · cases e

theorem State.mapLoft_pending : ∀ l s c a t, State.mapLoft s c a l = .ok t → t.pending = s.pending := by
  intro l
  induction l with
  | nil => intro s c a t e; simp only [State.mapLoft, Except.ok.injEq] at e; subst e; rfl
  | cons v r ih =>
    intro s c a t e
    simp only [State.mapLoft] at e
    split at e
    · cases e
    · rw [ih _ _ _ _ e]; simp

@[simp] theorem State.mapBench_pending : ∀ x0 x1 x2 x3, (State.mapBench x0 x1 x2 x3).pending = x0.pending := by
  intro x0 x1 x2 x3
  unfold State.mapBench
  rfl

@[simp] theorem State.mapCmd_pending : ∀ s n c, (State.mapCmd s n c).pending = s.pending := by
  intro s n c
  unfold State.mapCmd
  extract_lets a len attr
  split
  · simp +zetaDelta
  · split
    · rename_i t ht
      have hh : t.pending = s.pending := by
        split at ht
        · obtain rfl := Except.ok.inj ht; simp +zetaDelta
        · split at ht
          · exact State.mapLoft_pending _ _ _ _ _ ht
          · exact State.mapYard_pending _ _ _ _ _ ht
      simp +zetaDelta [hh]
    · simp +zetaDelta

@[simp] theorem State.freeLoft_pending : ∀ x0 x1, (State.freeLoft x0 x1).pending = x0.pending := by
  intro x0 x1
  unfold State.freeLoft
  rfl

@[simp] theorem State.unmapRange_pending : ∀ x0 x1 x2 x3, (State.unmapRange x0 x1 x2 x3).pending = x0.pending := by
  intro x0 x1 x2 x3
  unfold State.unmapRange
  simp

@[simp] theorem State.unmapCmd_pending : ∀ x0 x1 x2, (State.unmapCmd x0 x1 x2).pending = x0.pending := by
  intro x0 x1 x2
  unfold State.unmapCmd
  try dsimp -iota only
  (repeat' split) <;> simp

@[simp] theorem State.dropRuns_pending : ∀ x0 x1, (State.dropRuns x0 x1).pending = x0.pending := by
  intro x0 x1
  unfold State.dropRuns
  simp

@[simp] theorem State.dropClaims_pending : ∀ x0 x1, (State.dropClaims x0 x1).pending = x0.pending := by
  intro x0 x1
  unfold State.dropClaims
  rfl

@[simp] theorem State.endStream_pending : ∀ x0 x1 x2, (State.endStream x0 x1 x2).pending = x0.pending := by
  intro x0 x1 x2
  unfold State.endStream
  try dsimp -iota only
  (repeat' split) <;> simp

@[simp] theorem State.startSwitch_pending : ∀ x0 x1 x2 x3, (State.startSwitch x0 x1 x2 x3).pending = x0.pending := by
  intro x0 x1 x2 x3
  unfold State.startSwitch
  simp

@[simp] theorem State.ctxRelease_pending : ∀ x0 x1 x2, (State.ctxRelease x0 x1 x2).pending = x0.pending := by
  intro x0 x1 x2
  unfold State.ctxRelease
  simp

@[simp] theorem State.abortCmds_pending : ∀ x0 x1 x2, (State.abortCmds x0 x1 x2).pending = x0.pending := by
  intro x0 x1 x2
  unfold State.abortCmds
  simp

@[simp] theorem State.clearCtx_pending : ∀ x0 x1, (State.clearCtx x0 x1).pending = x0.pending := by
  intro x0 x1
  unfold State.clearCtx
  try dsimp -iota only
  (repeat' split) <;> simp

@[simp] theorem State.armStream_pending : ∀ x0 x1 x2 x3 x4 x5 x6 x7, (State.armStream x0 x1 x2 x3 x4 x5 x6 x7).pending = x0.pending := by
  intro x0 x1 x2 x3 x4 x5 x6 x7
  unfold State.armStream
  simp

@[simp] theorem State.streamArm_pending : ∀ s n c, (State.streamArm s n c).pending = s.pending := by
  intro s n c; unfold State.streamArm
  extract_lets
  split
  · simp
  · refine State.cmdRead_pending _ _ _ _ _ _ fun _ _ => ?_
    (repeat' split) <;> simp

theorem State.namedStream_pending : ∀ s n c f, (∀ x, (f x).pending = s.pending) → (State.namedStream s n c f).pending = s.pending := by
  intro s n c f h; unfold State.namedStream; dsimp -iota only; (repeat' split) <;> simp [h]

theorem State.armedStream_pending : ∀ s n c f, (∀ x, (f x).pending = s.pending) → (State.armedStream s n c f).pending = s.pending := by
  intro s n c f h; unfold State.armedStream
  refine State.namedStream_pending _ _ _ _ fun _ => ?_
  split <;> simp [h]

@[simp] theorem State.streamRearm_pending : ∀ x0 x1 x2, (State.streamRearm x0 x1 x2).pending = x0.pending := by
  intro x0 x1 x2
  unfold State.streamRearm
  try dsimp -iota only
  repeat' (first | (refine State.passWrite_pending _ _ _ _ _ _ (fun _ => ?_)) | (refine State.armedStream_pending _ _ _ _ (fun _ => ?_)) | (refine State.blockAgain_pending _ _ _ _ _ (fun _ _ _ => ?_)) | (refine State.cmdRead_pending _ _ _ _ _ _ (fun _ _ => ?_)) | (refine State.seqCmd_pending _ _ _ _ (fun _ => ?_)) | (refine State.namedStream_pending _ _ _ _ (fun _ => ?_)) | (refine State.migStep_pending _ _ _ _ (fun _ _ => ?_)) | (refine State.planeCheck_pending _ _ _ _ _ (fun _ _ => ?_)) | (refine State.forAll_pending _ _ _ _ (fun _ _ => ?_)) | split)
  all_goals first
      | (simp; done)
      | (apply State.forAll_pending; intros; (repeat' split) <;> simp; done)
      | (simp_all; done)

@[simp] theorem State.streamCancel_pending : ∀ x0 x1 x2, (State.streamCancel x0 x1 x2).pending = x0.pending := by
  intro x0 x1 x2
  unfold State.streamCancel
  try dsimp -iota only
  repeat' (first | (refine State.passWrite_pending _ _ _ _ _ _ (fun _ => ?_)) | (refine State.armedStream_pending _ _ _ _ (fun _ => ?_)) | (refine State.blockAgain_pending _ _ _ _ _ (fun _ _ _ => ?_)) | (refine State.cmdRead_pending _ _ _ _ _ _ (fun _ _ => ?_)) | (refine State.seqCmd_pending _ _ _ _ (fun _ => ?_)) | (refine State.namedStream_pending _ _ _ _ (fun _ => ?_)) | (refine State.migStep_pending _ _ _ _ (fun _ _ => ?_)) | (refine State.planeCheck_pending _ _ _ _ _ (fun _ _ => ?_)) | (refine State.forAll_pending _ _ _ _ (fun _ _ => ?_)) | split)
  all_goals first
      | (simp; done)
      | (apply State.forAll_pending; intros; (repeat' split) <;> simp; done)
      | (simp_all; done)

@[simp] theorem State.streamRestart_pending : ∀ x0 x1 x2, (State.streamRestart x0 x1 x2).pending = x0.pending := by
  intro x0 x1 x2
  unfold State.streamRestart
  try dsimp -iota only
  repeat' (first | (refine State.passWrite_pending _ _ _ _ _ _ (fun _ => ?_)) | (refine State.armedStream_pending _ _ _ _ (fun _ => ?_)) | (refine State.blockAgain_pending _ _ _ _ _ (fun _ _ _ => ?_)) | (refine State.cmdRead_pending _ _ _ _ _ _ (fun _ _ => ?_)) | (refine State.seqCmd_pending _ _ _ _ (fun _ => ?_)) | (refine State.namedStream_pending _ _ _ _ (fun _ => ?_)) | (refine State.migStep_pending _ _ _ _ (fun _ _ => ?_)) | (refine State.planeCheck_pending _ _ _ _ _ (fun _ _ => ?_)) | (refine State.forAll_pending _ _ _ _ (fun _ _ => ?_)) | split)
  all_goals first
      | (simp; done)
      | (apply State.forAll_pending; intros; (repeat' split) <;> simp; done)
      | (simp_all; done)

@[simp] theorem State.streamRelease_pending : ∀ x0 x1 x2, (State.streamRelease x0 x1 x2).pending = x0.pending := by
  intro x0 x1 x2
  unfold State.streamRelease
  try dsimp -iota only
  repeat' (first | (refine State.passWrite_pending _ _ _ _ _ _ (fun _ => ?_)) | (refine State.armedStream_pending _ _ _ _ (fun _ => ?_)) | (refine State.blockAgain_pending _ _ _ _ _ (fun _ _ _ => ?_)) | (refine State.cmdRead_pending _ _ _ _ _ _ (fun _ _ => ?_)) | (refine State.seqCmd_pending _ _ _ _ (fun _ => ?_)) | (refine State.namedStream_pending _ _ _ _ (fun _ => ?_)) | (refine State.migStep_pending _ _ _ _ (fun _ _ => ?_)) | (refine State.planeCheck_pending _ _ _ _ _ (fun _ _ => ?_)) | (refine State.forAll_pending _ _ _ _ (fun _ _ => ?_)) | split)
  all_goals first
      | (simp; done)
      | (apply State.forAll_pending; intros; (repeat' split) <;> simp; done)
      | (simp_all; done)

theorem State.seqCmd_pending : ∀ s n c f, (∀ x, (f x).pending = s.pending) → (State.seqCmd s n c f).pending = s.pending := by
  intro s n c f h; unfold State.seqCmd; dsimp -iota only; (repeat' split) <;> simp [h]

@[simp] theorem State.seqControl_pending : ∀ s n c, (State.seqControl s n c).pending = s.pending := by
  intro s n c; unfold State.seqControl
  refine State.seqCmd_pending _ _ _ _ fun _ => State.cmdRead_pending _ _ _ _ _ _ fun _ _ => ?_
  split
  · simp
  · extract_lets; simp +zetaDelta

@[simp] theorem State.seqWrite_pending : ∀ s n c, (State.seqWrite s n c).pending = s.pending := by
  intro s n c; unfold State.seqWrite
  refine State.seqCmd_pending _ _ _ _ fun _ => ?_
  split
  · simp
  · refine State.cmdRead_pending _ _ _ _ _ _ fun _ _ => ?_
    extract_lets
    split <;> simp

@[simp] theorem State.seqRead_pending : ∀ x0 x1 x2, (State.seqRead x0 x1 x2).pending = x0.pending := by
  intro x0 x1 x2
  unfold State.seqRead
  try dsimp -iota only
  repeat' (first | (refine State.passWrite_pending _ _ _ _ _ _ (fun _ => ?_)) | (refine State.armedStream_pending _ _ _ _ (fun _ => ?_)) | (refine State.blockAgain_pending _ _ _ _ _ (fun _ _ _ => ?_)) | (refine State.cmdRead_pending _ _ _ _ _ _ (fun _ _ => ?_)) | (refine State.seqCmd_pending _ _ _ _ (fun _ => ?_)) | (refine State.namedStream_pending _ _ _ _ (fun _ => ?_)) | (refine State.migStep_pending _ _ _ _ (fun _ _ => ?_)) | (refine State.planeCheck_pending _ _ _ _ _ (fun _ _ => ?_)) | (refine State.forAll_pending _ _ _ _ (fun _ _ => ?_)) | split)
  all_goals first
      | (simp; done)
      | (apply State.forAll_pending; intros; (repeat' split) <;> simp; done)
      | (have hh := State.tryWrite_pending _ _ _ _ _ _ _ _ _ (by assumption); (try dsimp only at hh); first | (simp [hh]; done) | (simp_all; done))
      | (simp_all; done)

@[simp] theorem State.buildStart_pending : ∀ x0 x1, (State.buildStart x0 x1).pending = x0.pending := by
  intro x0 x1
  unfold State.buildStart
  try dsimp -iota only
  (repeat' split) <;> simp

theorem State.buildAll_pending : ∀ s c r n t, State.buildAll s c r n = .ok t → t.1.pending = s.pending := by
  intro s c r n t e
  obtain ⟨_, _, e⟩ := ok_of_bind e
  obtain ⟨u, hu, e⟩ := ok_of_bind e
  obtain ⟨v, hv, e⟩ := ok_of_bind e
  obtain rfl := Except.ok.inj e
  simp [State.tryWrite_pending _ _ _ _ _ _ _ _ _ hv, State.tryWrite_pending _ _ _ _ _ _ _ _ _ hu]

@[simp] theorem State.buildDone_pending : ∀ s c, (State.buildDone s c).pending = s.pending := by
  intro s c
  unfold State.buildDone
  extract_lets
  split
  · rfl
  · split
    · rfl
    · split
      · rfl
      · rename_i ht; have hh := State.buildAll_pending _ _ _ _ _ ht
        dsimp only at hh
        simp +zetaDelta only [State.ite_pending, State.postCtx_pending, State.raisePeg_pending, State.semAdd_pending, State.modCtx_pending, State.newId_pending, hh, ite_self]

theorem State.swapWrites_pending : ∀ s c a x t, State.swapWrites s c a x = .ok t → t.pending = s.pending := by
  intro s c a x t e
  obtain ⟨u, hu, e⟩ := ok_of_bind e
  rw [State.tryWrite_pending _ _ _ _ _ _ _ _ _ e, State.tryWrite_pending _ _ _ _ _ _ _ _ _ hu]

@[simp] theorem State.ledgerSwap_pending : ∀ s n c, (State.ledgerSwap s n c).pending = s.pending := by
  intro s n c; unfold State.ledgerSwap
  extract_lets
  split
  · simp
  · refine State.cmdRead_pending _ _ _ _ _ _ fun _ _ => ?_
    extract_lets
    split
    · simp
    · split
      · simp
      · split
        · simp
        · rename_i ht; simp [State.swapWrites_pending _ _ _ _ _ ht]

@[simp] theorem State.resetFn_pending : ∀ x0 x1, (State.resetFn x0 x1).pending = x0.pending := by
  intro x0 x1
  unfold State.resetFn
  rfl

@[simp] theorem State.ideClear_pending : ∀ x0 x1, (State.ideClear x0 x1).pending = x0.pending := by
  intro x0 x1
  unfold State.ideClear
  rfl

@[simp] theorem State.dropRequests_pending : ∀ x0 x1, (State.dropRequests x0 x1).pending = x0.pending := by
  intro x0 x1
  unfold State.dropRequests
  rfl

@[simp] theorem State.flrVf_pending : ∀ x0 x1, (State.flrVf x0 x1).pending = x0.pending := by
  intro x0 x1
  unfold State.flrVf
  try dsimp -iota only
  (repeat' split) <;> simp

@[simp] theorem State.forgetPf0_pending : ∀ x0, (State.forgetPf0 x0).pending = x0.pending := by
  intro x0
  unfold State.forgetPf0
  rfl

@[simp] theorem State.flrPf0_pending : ∀ x0, (State.flrPf0 x0).pending = x0.pending := by
  intro x0
  unfold State.flrPf0
  rfl

@[simp] theorem State.flrVfs_pending : ∀ x0, (State.flrVfs x0).pending = x0.pending := by
  intro x0
  unfold State.flrVfs
  simp

@[simp] theorem State.vfOff_pending : ∀ x0, (State.vfOff x0).pending = x0.pending := by
  intro x0
  unfold State.vfOff
  simp

@[simp] theorem State.conventional_pending : ∀ x0 x1, (State.conventional x0 x1).pending = x0.pending := by
  intro x0 x1
  unfold State.conventional
  try dsimp -iota only
  (repeat' split) <;> simp

@[simp] theorem State.linkTrained_pending : ∀ x0 x1 x2, (State.linkTrained x0 x1 x2).pending = x0.pending := by
  intro x0 x1 x2
  unfold State.linkTrained
  rfl

@[simp] theorem State.access_pending : ∀ x0 x1 x2, (State.access x0 x1 x2).pending = x0.pending := by
  intro x0 x1 x2
  unfold State.access
  try dsimp -iota only
  (repeat' split) <;> simp

@[simp] theorem State.configure_pending : ∀ x0 x1 x2, (State.configure x0 x1 x2).pending = x0.pending := by
  intro x0 x1 x2
  unfold State.configure
  simp

@[simp] theorem State.giveHost_pending : ∀ s n c a b r, (State.giveHost s n c a b r).pending = s.pending := by
  intro s n c a b r; unfold State.giveHost; extract_lets; split <;> simp +zetaDelta

@[simp] theorem State.floorplanGet_pending : ∀ x0 x1 x2, (State.floorplanGet x0 x1 x2).pending = x0.pending := by
  intro x0 x1 x2
  unfold State.floorplanGet
  simp

@[simp] theorem State.topoGet_pending : ∀ x0 x1 x2, (State.topoGet x0 x1 x2).pending = x0.pending := by
  intro x0 x1 x2
  unfold State.topoGet
  simp

@[simp] theorem State.powerLimit_pending : ∀ x0 x1 x2, (State.powerLimit x0 x1 x2).pending = x0.pending := by
  intro x0 x1 x2
  unfold State.powerLimit
  simp

@[simp] theorem State.attest_pending : ∀ x0 x1 x2, (State.attest x0 x1 x2).pending = x0.pending := by
  intro x0 x1 x2
  unfold State.attest
  simp

@[simp] theorem State.countSignature_pending : ∀ x0, (State.countSignature x0).pending = x0.pending := by
  intro x0
  unfold State.countSignature
  rfl

@[simp] theorem State.attestDone_pending : ∀ x0 x1 x2, (State.attestDone x0 x1 x2).pending = x0.pending := by
  intro x0 x1 x2
  unfold State.attestDone
  try dsimp -iota only
  (repeat' split) <;> simp

@[simp] theorem State.spdmDone_pending : ∀ x0 x1 x2, (State.spdmDone x0 x1 x2).pending = x0.pending := by
  intro x0 x1 x2
  unfold State.spdmDone
  try dsimp -iota only
  (repeat' split) <;> simp

@[simp] theorem State.sillOp_pending : ∀ x0 x1, (State.sillOp x0 x1).pending = x0.pending := by
  intro x0 x1
  unfold State.sillOp
  try dsimp -iota only
  (repeat' split) <;> simp

@[simp] theorem State.fwUpdate_pending : ∀ x0 x1 x2, (State.fwUpdate x0 x1 x2).pending = x0.pending := by
  intro x0 x1 x2
  unfold State.fwUpdate
  simp

@[simp] theorem State.updateEnds_pending : ∀ x0, (State.updateEnds x0).pending = x0.pending := by
  intro x0
  unfold State.updateEnds
  rfl

@[simp] theorem State.imageChecked_pending : ∀ x0 x1, (State.imageChecked x0 x1).pending = x0.pending := by
  intro x0 x1
  unfold State.imageChecked
  try dsimp -iota only
  (repeat' split) <;> simp

@[simp] theorem State.imageWritten_pending : ∀ x0 x1, (State.imageWritten x0 x1).pending = x0.pending := by
  intro x0 x1
  unfold State.imageWritten
  try dsimp -iota only
  (repeat' split) <;> simp

@[simp] theorem State.withFetchWord_pending : ∀ x0 x1 x2, (State.withFetchWord x0 x1 x2).pending = x0.pending := by
  intro x0 x1 x2
  unfold State.withFetchWord
  rfl

end Sys2Proof.Machine
end

