-- ==== Sys2Proof/Laws/Memory.lean ====
section
/-! SUPPORT. Memory: the canonical form is kept by every operation, a byte reads as it was written, and every other byte as before. -/

namespace Sys2Proof.Machine

set_option Elab.async false

/-- Every listed address lies above a bound. -/
def memAbove (a : Nat) (m : Memory) : Prop := ∀ c ∈ m, a < c.1

theorem memWf_nil : memWf [] = true := rfl

theorem memWf_cons (c : Nat × Byte) (m : Memory) : memWf (c :: m) = true ↔ memAbove c.1 m ∧ c.2 ≠ 0 ∧ memWf m = true := by
  induction m generalizing c with
  | nil => simp [memWf, tsorted, memAbove]
  | cons d r ih =>
    have hd := ih d
    simp only [memWf, tsorted, List.all_cons, Bool.and_eq_true, decide_eq_true_eq, bne_iff_ne, ne_eq, memAbove, List.mem_cons] at hd ⊢
    constructor
    · rintro ⟨⟨h1, h2⟩, h3, h4, h5⟩
      refine ⟨?_, h3, h2, h4, h5⟩
      rintro x (rfl | hx)
      · exact h1
      · exact Nat.lt_trans h1 ((hd.1 ⟨h2, h4, h5⟩).1 x hx)
    · rintro ⟨h1, h2, h3, h4, h5⟩
      exact ⟨⟨h1 d (Or.inl rfl), h3⟩, h2, h4, h5⟩

/-- An address below every listed one reads 0. -/
theorem memRead_above (a : Nat) (m : Memory) (h : memAbove a m) : memRead m a = 0 := by
  induction m with
  | nil => rfl
  | cons c r ih =>
    have h1 := h c (List.mem_cons_self ..)
    have h2 : memAbove a r := fun x hx => h x (List.mem_cons_of_mem _ hx)
    show (if c.1 = a then c.2 else tget r a 0) = 0
    rw [if_neg (Nat.ne_of_gt h1)]
    exact ih h2

theorem memWrite_above (l a : Nat) (b : Byte) (m : Memory) (hm : memAbove l m) (ha : l < a) : memAbove l (memWrite m a b) := by
  induction m with
  | nil =>
    intro c hc
    unfold memWrite at hc
    split at hc
    · simp at hc
    · simp only [List.mem_singleton] at hc; rw [hc]; exact ha
  | cons e r ih =>
    obtain ⟨j, w⟩ := e
    have h2 : memAbove l r := fun x hx => hm x (List.mem_cons_of_mem _ hx)
    intro c hc
    unfold memWrite at hc
    (repeat' split at hc) <;> try simp only [List.mem_cons] at hc
    · rcases hc with rfl | hc
      · exact hm _ (List.mem_cons_self ..)
      · exact ih h2 c hc
    · exact h2 c hc
    · rcases hc with rfl | hc
      · exact ha
      · exact h2 c hc
    · rcases hc with rfl | hc
      · exact hm _ (List.mem_cons_self ..)
      · exact h2 c hc
    · rcases hc with rfl | rfl | hc
      · exact ha
      · exact hm _ (List.mem_cons_self ..)
      · exact h2 c hc

/-- Storing a byte keeps the canonical form. -/
theorem memWrite_wf (m : Memory) (a : Nat) (b : Byte) (h : memWf m = true) : memWf (memWrite m a b) = true := by
  induction m with
  | nil => unfold memWrite; split <;> simp_all [memWf, tsorted]
  | cons e r ih =>
    obtain ⟨j, w⟩ := e
    obtain ⟨h1, h2, h3⟩ := (memWf_cons _ _).1 h
    unfold memWrite
    split
    · rename_i hj
      exact (memWf_cons _ _).2 ⟨memWrite_above j a b r h1 hj, h2, ih h3⟩
    · split
      · rename_i hj
        split
        · exact h3
        · rename_i hb
          exact (memWf_cons _ _).2 ⟨hj ▸ h1, hb, h3⟩
      · rename_i hl hj
        split
        · exact h
        · rename_i hb
          have hlt : a < j := by omega
          refine (memWf_cons _ _).2 ⟨?_, hb, h⟩
          intro c hc
          rcases List.mem_cons.1 hc with rfl | hc
          · exact hlt
          · exact Nat.lt_trans hlt (h1 c hc)

/-- A stored byte reads as stored. -/
theorem memRead_memWrite_same (m : Memory) (a : Nat) (b : Byte) (h : memWf m = true) : memRead (memWrite m a b) a = b := by
  induction m with
  | nil => unfold memWrite; split <;> simp_all [memRead, tget]
  | cons e r ih =>
    obtain ⟨j, w⟩ := e
    obtain ⟨h1, -, h3⟩ := (memWf_cons _ _).1 h
    unfold memWrite
    split
    · rename_i hj
      show (if j = a then w else tget _ a 0) = b
      rw [if_neg (Nat.ne_of_lt hj)]
      exact ih h3
    · split
      · rename_i hj
        split
        · rename_i hb; rw [hb]; exact memRead_above a r (hj ▸ h1)
        · simp [memRead, tget]
      · rename_i hl hj
        split
        · rename_i hb
          have hlt : a < j := by omega
          rw [hb]
          refine memRead_above a _ ?_
          intro c hc
          rcases List.mem_cons.1 hc with rfl | hc
          · exact hlt
          · exact Nat.lt_trans hlt (h1 c hc)
        · simp [memRead, tget]

/-- Every other byte reads as before. -/
theorem memRead_memWrite_ne (m : Memory) {a n : Nat} (b : Byte) (h : n ≠ a) : memRead (memWrite m a b) n = memRead m n := by
  induction m with
  | nil => unfold memWrite; split <;> simp [memRead, tget, h.symm]
  | cons e r ih =>
    obtain ⟨j, w⟩ := e
    unfold memRead at ih ⊢
    unfold memWrite
    (repeat' split) <;> simp_all [tget, h.symm, Ne.symm]

/-- Storing bytes keeps the canonical form. -/
theorem memWriteN_wf (bs : List Byte) (m : Memory) (a : Nat) (h : memWf m = true) : memWf (memWriteN m a bs) = true := by
  induction bs generalizing m a with
  | nil => exact h
  | cons b r ih => exact ih _ _ (memWrite_wf m a b h)

/-- Bytes outside the stored range read as before. -/
theorem memRead_memWriteN_outside (bs : List Byte) (m : Memory) (a n : Nat) (h : n < a ∨ a + bs.length ≤ n) :
    memRead (memWriteN m a bs) n = memRead m n := by
  induction bs generalizing m a with
  | nil => rfl
  | cons b r ih =>
    simp only [List.length_cons] at h
    unfold memWriteN
    rw [ih _ _ (by omega), memRead_memWrite_ne _ _ (by omega)]

/-- The bytes of the stored range read as stored. -/
theorem memRead_memWriteN_inside (bs : List Byte) (m : Memory) (a i : Nat) (h : memWf m = true) (hi : i < bs.length) :
    memRead (memWriteN m a bs) (a + i) = bs.getD i 0 := by
  induction bs generalizing m a i with
  | nil => simp at hi
  | cons b r ih =>
    unfold memWriteN
    cases i with
    | zero =>
      rw [memRead_memWriteN_outside _ _ _ _ (by omega), Nat.add_zero, memRead_memWrite_same _ _ _ h]
      simp
    | succ i =>
      have := ih (memWrite m a b) (a + 1) i (memWrite_wf m a b h) (by simpa using hi)
      rw [show a + (i + 1) = a + 1 + i by omega, this]
      simp

/-- Taking cells off keeps the canonical form. -/
theorem memWf_filter (m : Memory) (p : Nat × Byte → Bool) (h : memWf m = true) : memWf (m.filter p) = true := by
  induction m with
  | nil => exact h
  | cons c r ih =>
    obtain ⟨h1, h2, h3⟩ := (memWf_cons _ _).1 h
    rw [List.filter_cons]
    split
    · exact (memWf_cons _ _).2 ⟨fun x hx => h1 x (List.mem_filter.1 hx).1, h2, ih h3⟩
    · exact ih h3

/-- Zeroing bytes keeps the canonical form. -/
theorem memZero_wf (m : Memory) (a n : Nat) (h : memWf m = true) : memWf (memZero m a n) = true := memWf_filter _ _ h

/-- The memory of reset is in canonical form. -/
theorem reset_memWf : memWf State.reset.mem = true ∧ memWf State.reset.hif.host = true := by decide

end Sys2Proof.Machine
end

