-- ==== Sys2Proof/Laws/PerInstr.lean ====
section
/-! SUPPORT. Per command: no word of the opcode table spells it, since the table gives no row any bits (98_reader.md). -/

namespace Sys2Proof.Laws.NoWord

set_option Elab.async false

/-- No word of any length spells the command. -/
def Statement (i : Instr) : Prop := ∀ nbits w, decodeTableWord nbits w ≠ some i

/-- The table's decoder spells nothing. -/
theorem none_spelled (i : Instr) : Statement i := fun _ _ h => nomatch h

theorem aonPwrgdAssert (sbMode : Bool) (sbAddr : BitVec 3) : Statement (.aonPwrgdAssert sbMode sbAddr) := none_spelled _
theorem aonPwrgdDeassert : Statement (.aonPwrgdDeassert) := none_spelled _
theorem railPowerGood (rail : Rail) : Statement (.railPowerGood rail) := none_spelled _
theorem railStartTimeout (rail : Rail) (answers : Bool) : Statement (.railStartTimeout rail answers) := none_spelled _
theorem sillBootVerifyDone (failing : Fin 7) : Statement (.sillBootVerifyDone failing) := none_spelled _
theorem halfSelftestDone (half : Half) (passed : Bool) : Statement (.halfSelftestDone half passed) := none_spelled _
theorem kingPostGrant (claimH0 claimH1 : Claim) (seenH0 seenH1 : BitVec 2) : Statement (.kingPostGrant claimH0 claimH1 seenH0 seenH1) := none_spelled _
theorem floorplanBuildDone : Statement (.floorplanBuildDone) := none_spelled _
theorem yardInitDone (site : Fin 12) (listed : Bool) : Statement (.yardInitDone site listed) := none_spelled _
theorem yardTrainingRoundDone (site : Fin 12) (failed : List (Fin 32 × BitVec 13)) : Statement (.yardTrainingRoundDone site failed) := none_spelled _
theorem bayWaveStart : Statement (.bayWaveStart) := none_spelled _
theorem microcodeBroadcastDone (half : Half) (missing : List (CoreId × BitVec 16)) : Statement (.microcodeBroadcastDone half missing) := none_spelled _
theorem microcodeRepairDone (half : Half) (missing : List (CoreId × BitVec 16)) : Statement (.microcodeRepairDone half missing) := none_spelled _
theorem coreSelftestDone (core : CoreId) (crc : BitVec 64) : Statement (.coreSelftestDone core crc) := none_spelled _
theorem coreSelftestTimeout (core : CoreId) : Statement (.coreSelftestTimeout core) := none_spelled _
theorem perstAssert (kind : ResetKind) : Statement (.perstAssert kind) := none_spelled _
theorem perstDeassert : Statement .perstDeassert := none_spelled _
theorem configRequest (request : ConfigRequest) : Statement (.configRequest request) := none_spelled _
theorem vfEnableClear : Statement (.vfEnableClear) := none_spelled _
theorem functionLevelResetVf (vf : Fin 8) : Statement (.functionLevelResetVf vf) := none_spelled _
theorem functionLevelResetPf0 : Statement (.functionLevelResetPf0) := none_spelled _
theorem hifDbCmdWrite (fn : Fin 9) (value : Word) : Statement (.hifDbCmdWrite fn value) := none_spelled _
theorem commandFetch (fn : Fin 9) (entry : HostData) : Statement (.commandFetch fn entry) := none_spelled _
theorem hifDbCplWrite (fn : Fin 9) (value : Word) : Statement (.hifDbCplWrite fn value) := none_spelled _
theorem msixDelayExpiry (fn : Fin 9) : Statement (.msixDelayExpiry fn) := none_spelled _
theorem hifDbEvqWrite (fn : Fin 9) (value : Word) : Statement (.hifDbEvqWrite fn value) := none_spelled _
theorem hifFnCtlWrite (fn : Fin 9) (value : Word) : Statement (.hifFnCtlWrite fn value) := none_spelled _
theorem hifErrStatusWrite (fn : Fin 9) (value : Word) : Statement (.hifErrStatusWrite fn value) := none_spelled _
theorem registerWrite (port : RegPort) (offset : Nat) (bytes : List Byte) : Statement (.registerWrite port offset bytes) := none_spelled _
theorem bar4Read (offset len : Nat) : Statement (.bar4Read offset len) := none_spelled _
theorem bar4Write (offset : Nat) (bytes : List Byte) (poisoned : Bool) : Statement (.bar4Write offset bytes poisoned) := none_spelled _
theorem spdmRequest (fn : Fin 9) (request : SpdmRequest) : Statement (.spdmRequest fn request) := none_spelled _
theorem floorplanGet (fn : Fin 9) (slot : Fin 4096) : Statement (.floorplanGet fn slot) := none_spelled _
theorem topoGet (fn : Fin 9) (slot : Fin 4096) : Statement (.topoGet fn slot) := none_spelled _
theorem attest (fn : Fin 9) (slot : Fin 4096) : Statement (.attest fn slot) := none_spelled _
theorem powerLimit (fn : Fin 9) (slot : Fin 4096) : Statement (.powerLimit fn slot) := none_spelled _
theorem fwUpdate (fn : Fin 9) (slot : Fin 4096) : Statement (.fwUpdate fn slot) := none_spelled _
theorem fwUpdateImageChecked (image : HostData) : Statement (.fwUpdateImageChecked image) := none_spelled _
theorem fwUpdateImageWritten (readback : Bool) : Statement (.fwUpdateImageWritten readback) := none_spelled _
theorem ctxAdmit (fn : Fin 9) (slot : Fin 4096) : Statement (.ctxAdmit fn slot) := none_spelled _
theorem ctxRelease (fn : Fin 9) (slot : Fin 4096) : Statement (.ctxRelease fn slot) := none_spelled _
theorem contextStateClear (ctx : Fin 8) : Statement (.contextStateClear ctx) := none_spelled _
theorem map (fn : Fin 9) (slot : Fin 4096) : Statement (.map fn slot) := none_spelled _
theorem unmap (fn : Fin 9) (slot : Fin 4096) : Statement (.unmap fn slot) := none_spelled _
theorem xfer (fn : Fin 9) (slot : Fin 4096) : Statement (.xfer fn slot) := none_spelled _
theorem loadTasks (fn : Fin 9) (slot : Fin 4096) : Statement (.loadTasks fn slot) := none_spelled _
theorem launchStart (fn : Fin 9) (slot : Fin 4096) : Statement (.launchStart fn slot) := none_spelled _
theorem launchHalt (fn : Fin 9) (slot : Fin 4096) : Statement (.launchHalt fn slot) := none_spelled _
theorem streamArm (fn : Fin 9) (slot : Fin 4096) : Statement (.streamArm fn slot) := none_spelled _
theorem streamArmRearm (fn : Fin 9) (slot : Fin 4096) : Statement (.streamArmRearm fn slot) := none_spelled _
theorem streamArmCancel (fn : Fin 9) (slot : Fin 4096) : Statement (.streamArmCancel fn slot) := none_spelled _
theorem streamArmRestart (fn : Fin 9) (slot : Fin 4096) : Statement (.streamArmRestart fn slot) := none_spelled _
theorem streamArmRelease (fn : Fin 9) (slot : Fin 4096) : Statement (.streamArmRelease fn slot) := none_spelled _
theorem stashArm (fn : Fin 9) (slot : Fin 4096) : Statement (.stashArm fn slot) := none_spelled _
theorem stashArmReset (fn : Fin 9) (slot : Fin 4096) : Statement (.stashArmReset fn slot) := none_spelled _
theorem stashArmRelease (fn : Fin 9) (slot : Fin 4096) : Statement (.stashArmRelease fn slot) := none_spelled _
theorem planeArm (fn : Fin 9) (slot : Fin 4096) : Statement (.planeArm fn slot) := none_spelled _
theorem planeArmRelease (fn : Fin 9) (slot : Fin 4096) : Statement (.planeArmRelease fn slot) := none_spelled _
theorem groupDefine (fn : Fin 9) (slot : Fin 4096) : Statement (.groupDefine fn slot) := none_spelled _
theorem pegLoad (fn : Fin 9) (slot : Fin 4096) : Statement (.pegLoad fn slot) := none_spelled _
theorem pegLoadRearm (fn : Fin 9) (slot : Fin 4096) : Statement (.pegLoadRearm fn slot) := none_spelled _
theorem pegLoadUnload (fn : Fin 9) (slot : Fin 4096) : Statement (.pegLoadUnload fn slot) := none_spelled _
theorem seqTableEditControl (fn : Fin 9) (slot : Fin 4096) : Statement (.seqTableEditControl fn slot) := none_spelled _
theorem seqTableEditWrite (fn : Fin 9) (slot : Fin 4096) : Statement (.seqTableEditWrite fn slot) := none_spelled _
theorem seqTableEditRead (fn : Fin 9) (slot : Fin 4096) : Statement (.seqTableEditRead fn slot) := none_spelled _
theorem ledgerSwap (fn : Fin 9) (slot : Fin 4096) : Statement (.ledgerSwap fn slot) := none_spelled _
theorem descriptorFetch (bay : Fin 64) (ctx : Fin 8) : Statement (.descriptorFetch bay ctx) := none_spelled _
theorem taskTake (bay : Fin 64) (ctx : Fin 8) : Statement (.taskTake bay ctx) := none_spelled _
theorem taskWaitTake (bay : Fin 64) (ctx : Fin 8) : Statement (.taskWaitTake bay ctx) := none_spelled _
theorem taskWaitTimeout (bay : Fin 64) (ctx : Fin 8) : Statement (.taskWaitTimeout bay ctx) := none_spelled _
theorem taskStartRead (bay : Fin 64) (ctx : Fin 8) : Statement (.taskStartRead bay ctx) := none_spelled _
theorem lcClaimTimeout (bay : Fin 64) : Statement (.lcClaimTimeout bay) := none_spelled _
theorem ledgerAppendLock (bay : Fin 64) (ctx : Fin 8) : Statement (.ledgerAppendLock bay ctx) := none_spelled _
theorem tileIssue (bay : Fin 64) : Statement (.tileIssue bay) := none_spelled _
theorem handleWaitTimeout (bay : Fin 64) (ctx : Fin 8) (index : Fin 65536) : Statement (.handleWaitTimeout bay ctx index) := none_spelled _
theorem tileDone (core : CoreId) (wrong : List (Nat × BitVec 64)) : Statement (.tileDone core wrong) := none_spelled _
theorem ledgerRecheckDone (core : CoreId) : Statement (.ledgerRecheckDone core) := none_spelled _
theorem benchParityFail (core : CoreId) : Statement (.benchParityFail core) := none_spelled _
theorem spotCheckCompare (check : Nat) : Statement (.spotCheckCompare check) := none_spelled _
theorem spotCheckThirdCompare (check : Nat) : Statement (.spotCheckThirdCompare check) := none_spelled _
theorem serviceWriteSigned : Statement (.serviceWriteSigned) := none_spelled _
theorem serviceWriteFlashed : Statement (.serviceWriteFlashed) := none_spelled _
theorem rowStatsMergeDone (bay : Fin 64) (ctx : Fin 8) (index : Fin 65536) : Statement (.rowStatsMergeDone bay ctx index) := none_spelled _
theorem taskComplete (bay : Fin 64) (ctx : Fin 8) (index : Fin 65536) : Statement (.taskComplete bay ctx index) := none_spelled _
theorem streamPassStart (bay : Fin 64) (slot : Fin 64) : Statement (.streamPassStart bay slot) := none_spelled _
theorem blockTranslate (x : XferId) : Statement (.blockTranslate x) := none_spelled _
theorem slotGrant (site : Fin 12) : Statement (.slotGrant site) := none_spelled _
theorem lineRequestComplete (request : Nat) (outcome : LineOutcome) : Statement (.lineRequestComplete request outcome) := none_spelled _
theorem semPairAugerTake (bay : Fin 64) (slot : Fin 64) : Statement (.semPairAugerTake bay slot) := none_spelled _
theorem semPairAgentTake (agent : PairAgent) (bay : Fin 64) (slot : Fin 64) (fill : List Byte) : Statement (.semPairAgentTake agent bay slot fill) := none_spelled _
theorem joinerFaultResolve (fault : Nat) : Statement (.joinerFaultResolve fault) := none_spelled _
theorem faultResolveTimeout (fault : Nat) : Statement (.faultResolveTimeout fault) := none_spelled _
theorem stashClaim (ctx : Fin 8) : Statement (.stashClaim ctx) := none_spelled _
theorem stashClaimMapped (ctx : Fin 8) : Statement (.stashClaimMapped ctx) := none_spelled _
theorem stashDropDone (ctx : Fin 8) : Statement (.stashDropDone ctx) := none_spelled _
theorem yardReadRetryDone (request : Nat) (outcome : LineOutcome) : Statement (.yardReadRetryDone request outcome) := none_spelled _
theorem laneSpareSwitched (site : Fin 12) (sub : Fin 32) : Statement (.laneSpareSwitched site sub) := none_spelled _
theorem laneSparingWindowEnd (site : Fin 12) : Statement (.laneSparingWindowEnd site) := none_spelled _
theorem yardPatrolRead (half : Half) (site : Fin 6) (outcome retry : LineOutcome) : Statement (.yardPatrolRead half site outcome retry) := none_spelled _
theorem loftPatrolRead (bay : Fin 64) (singleBit : Bool) : Statement (.loftPatrolRead bay singleBit) := none_spelled _
theorem loftUncorrectable (target : LoftTarget) : Statement (.loftUncorrectable target) := none_spelled _
theorem migrationEpochEnd (half : Half) : Statement (.migrationEpochEnd half) := none_spelled _
theorem migrationCopyDone (page : Nat) : Statement (.migrationCopyDone page) := none_spelled _
theorem migrationRecopyDone (page : Nat) : Statement (.migrationRecopyDone page) := none_spelled _
theorem migrationCutoverDone (page : Nat) : Statement (.migrationCutoverDone page) := none_spelled _
theorem planePassStart (ctx : Fin 8) (id : Fin 4) : Statement (.planePassStart ctx id) := none_spelled _
theorem planePassEnd (ctx : Fin 8) (id : Fin 4) : Statement (.planePassEnd ctx id) := none_spelled _
theorem seqBuildStart (ctx : Fin 8) : Statement (.seqBuildStart ctx) := none_spelled _
theorem seqBuildDone (ctx : Fin 8) : Statement (.seqBuildDone ctx) := none_spelled _
theorem remoteWriteCommit (port : Fin 9) (vc : Fin 4) : Statement (.remoteWriteCommit port vc) := none_spelled _
theorem remoteSignalCommit (port : Fin 9) (vc : Fin 4) : Statement (.remoteSignalCommit port vc) := none_spelled _
theorem pegOpenReceived (ctx : Fin 8) (peg : Fin 1024) (inst : BitVec 16) (rank : Nat) (signature : BitVec 64) : Statement (.pegOpenReceived ctx peg inst rank signature) := none_spelled _
theorem pegGoReceived (ctx : Fin 8) (peg : Fin 1024) (inst : BitVec 16) : Statement (.pegGoReceived ctx peg inst) := none_spelled _
theorem pegAbortReceived (ctx : Fin 8) (peg : Fin 1024) (inst : BitVec 16) (code badRank : Nat) : Statement (.pegAbortReceived ctx peg inst code badRank) := none_spelled _
theorem pegGrantReceived (ctx : Fin 8) (peg : PegInstance) : Statement (.pegGrantReceived ctx peg) := none_spelled _
theorem pegDataReceived (ctx : Fin 8) (peg : PegInstance) (arrival : PegArrival) (first : Nat) (bytes : List Byte) : Statement (.pegDataReceived ctx peg arrival first bytes) := none_spelled _
theorem pegComplete (ctx : Fin 8) (peg : Fin 1024) : Statement (.pegComplete ctx peg) := none_spelled _
theorem pegTimeoutExpiry (ctx : Fin 8) (peg : Fin 1024) : Statement (.pegTimeoutExpiry ctx peg) := none_spelled _
theorem packetStart (port : Fin 8) : Statement (.packetStart port) := none_spelled _
theorem framePeriod (port : Fin 8) : Statement (.framePeriod port) := none_spelled _
theorem frameReceive (port : Fin 8) (bytes : List Byte) (fec : List LaneFec) : Statement (.frameReceive port bytes fec) := none_spelled _
theorem replayTimeoutExpiry (port : Fin 8) : Statement (.replayTimeoutExpiry port) := none_spelled _
theorem linkLaneErrorWindowEnd (port : Fin 8) : Statement (.linkLaneErrorWindowEnd port) := none_spelled _
theorem linkMarkerLockLost (port : Fin 8) (lane : Fin 14) : Statement (.linkMarkerLockLost port lane) := none_spelled _
theorem linkSignalDetected (port : Fin 8) : Statement (.linkSignalDetected port) := none_spelled _
theorem linkPmdTrainingDone (port : Fin 8) (passed : BitVec 14) : Statement (.linkPmdTrainingDone port passed) := none_spelled _
theorem linkMaskExchangeDone (port : Fin 8) (partner : BitVec 14) : Statement (.linkMaskExchangeDone port partner) := none_spelled _
theorem linkLockDone (port : Fin 8) (credits : List Nat) : Statement (.linkLockDone port credits) := none_spelled _
theorem linkIdentityReceived (port : Fin 8) (coord : BitVec 48) (partnerPort : BitVec 8) (serial : BitVec 64) : Statement (.linkIdentityReceived port coord partnerPort serial) := none_spelled _
theorem linkRetrainDone (port : Fin 8) (lanes : LaneMasks) (credits : List Nat) : Statement (.linkRetrainDone port lanes credits) := none_spelled _
theorem lnkCoordWrite (port : RegPort) (reg : Fin 4) (value : Word) : Statement (.lnkCoordWrite port reg value) := none_spelled _
theorem lnkRouteCtlRecompute (value : Word) : Statement (.lnkRouteCtlRecompute value) := none_spelled _
theorem routeBuildDone (breaks : List (Fin 4 × Nat)) : Statement (.routeBuildDone breaks) := none_spelled _
theorem bridgeFlitReceive (dir : Half) (bytes : List Byte) : Statement (.bridgeFlitReceive dir bytes) := none_spelled _
theorem bridgeRetrainDone : Statement (.bridgeRetrainDone) := none_spelled _
theorem bridgeRetrainTimeout : Statement (.bridgeRetrainTimeout) := none_spelled _
theorem joinerHeartbeat (half : Half) (claim : Claim) (seen : BitVec 2) : Statement (.joinerHeartbeat half claim seen) := none_spelled _
theorem joinerHeartbeatTimeout (half : Half) : Statement (.joinerHeartbeatTimeout half) := none_spelled _
theorem joinerRestartDone (half : Half) : Statement (.joinerRestartDone half) := none_spelled _
theorem sillHealthTestFail : Statement (.sillHealthTestFail) := none_spelled _
theorem budgetEvaluation (moduleW uncoreW : Nat) (temps : List Int) : Statement (.budgetEvaluation moduleW uncoreW temps) := none_spelled _
theorem opVcoreSettled : Statement (.opVcoreSettled) := none_spelled _
theorem stagePoll (readings : StageReadings) : Statement (.stagePoll readings) := none_spelled _
theorem vrAlertAssert : Statement (.vrAlertAssert) := none_spelled _
theorem vcoreCurrentLimit (half : Half) : Statement (.vcoreCurrentLimit half) := none_spelled _
theorem bayIdleGate (bay : Fin 64) : Statement (.bayIdleGate bay) := none_spelled _
theorem bayUngate (bay : Fin 64) : Statement (.bayUngate bay) := none_spelled _
theorem thermalTrip (sensor : Fin 67) (temp : Int) : Statement (.thermalTrip sensor temp) := none_spelled _
theorem thermtripShutdown : Statement (.thermtripShutdown) := none_spelled _
theorem siteOverTemperature (site : Fin 12) (temp : Int) : Statement (.siteOverTemperature site temp) := none_spelled _
theorem pwrBoardMaxWrite (value : Word) : Statement (.pwrBoardMaxWrite value) := none_spelled _
theorem sbStatusWrite (value : Word) : Statement (.sbStatusWrite value) := none_spelled _
theorem registerRead (port : RegPort) (offset len : Nat) : Statement (.registerRead port offset len) := none_spelled _
theorem interferenceMeterWindowEnd (half : Half) : Statement (.interferenceMeterWindowEnd half) := none_spelled _
theorem linkLaneResetDone (port : Fin 8) (signal : Bool) : Statement (.linkLaneResetDone port signal) := none_spelled _
theorem sillOperationDone (last : Bool) : Statement (.sillOperationDone last) := none_spelled _
theorem hostReadCompletion (fn : Fin 9) (slot : Fin 4096) (data : HostData) : Statement (.hostReadCompletion fn slot data) := none_spelled _
theorem railBelowTenPercent (rail : Rail) : Statement (.railBelowTenPercent rail) := none_spelled _

end Sys2Proof.Laws.NoWord
end

