-- ==== Sys2Proof/Laws/State.lean ====
section
/-! SUPPORT. One lemma for each field of State and each of the plain updates: what the field reads after the update. The queue of waiting commands and device memory have theirs in FramePending, FrameFlash and FrameMem. -/

namespace Sys2Proof.Machine

set_option Elab.async false

-- setFn: hif

@[simp] theorem State.setFn_aon (s : State) (n : Nat) (f : Fn) : (s.setFn n f).aon = s.aon := rfl
@[simp] theorem State.setFn_sill (s : State) (n : Nat) (f : Fn) : (s.setFn n f).sill = s.sill := rfl
@[simp] theorem State.setFn_hif (s : State) (n : Nat) (f : Fn) : (s.setFn n f).hif = { s.hif with fns := tset s.hif.fns n f } := rfl
@[simp] theorem State.setFn_plan (s : State) (n : Nat) (f : Fn) : (s.setFn n f).plan = s.plan := rfl
@[simp] theorem State.setFn_planBuilt (s : State) (n : Nat) (f : Fn) : (s.setFn n f).planBuilt = s.planBuilt := rfl
@[simp] theorem State.setFn_svc (s : State) (n : Nat) (f : Fn) : (s.setFn n f).svc = s.svc := rfl
@[simp] theorem State.setFn_svcWait (s : State) (n : Nat) (f : Fn) : (s.setFn n f).svcWait = s.svcWait := rfl
@[simp] theorem State.setFn_svcOwed (s : State) (n : Nat) (f : Fn) : (s.setFn n f).svcOwed = s.svcOwed := rfl
@[simp] theorem State.setFn_pages (s : State) (n : Nat) (f : Fn) : (s.setFn n f).pages = s.pages := rfl
@[simp] theorem State.setFn_loft (s : State) (n : Nat) (f : Fn) : (s.setFn n f).loft = s.loft := rfl
@[simp] theorem State.setFn_sites (s : State) (n : Nat) (f : Fn) : (s.setFn n f).sites = s.sites := rfl
@[simp] theorem State.setFn_yard (s : State) (n : Nat) (f : Fn) : (s.setFn n f).yard = s.yard := rfl
@[simp] theorem State.setFn_migSpent (s : State) (n : Nat) (f : Fn) : (s.setFn n f).migSpent = s.migSpent := rfl
@[simp] theorem State.setFn_epochEnded (s : State) (n : Nat) (f : Fn) : (s.setFn n f).epochEnded = s.epochEnded := rfl
@[simp] theorem State.setFn_aug (s : State) (n : Nat) (f : Fn) : (s.setFn n f).aug = s.aug := rfl
@[simp] theorem State.setFn_streams (s : State) (n : Nat) (f : Fn) : (s.setFn n f).streams = s.streams := rfl
@[simp] theorem State.setFn_fetches (s : State) (n : Nat) (f : Fn) : (s.setFn n f).fetches = s.fetches := rfl
@[simp] theorem State.setFn_handles (s : State) (n : Nat) (f : Fn) : (s.setFn n f).handles = s.handles := rfl
@[simp] theorem State.setFn_reqs (s : State) (n : Nat) (f : Fn) : (s.setFn n f).reqs = s.reqs := rfl
@[simp] theorem State.setFn_faults (s : State) (n : Nat) (f : Fn) : (s.setFn n f).faults = s.faults := rfl
@[simp] theorem State.setFn_lists (s : State) (n : Nat) (f : Fn) : (s.setFn n f).lists = s.lists := rfl
@[simp] theorem State.setFn_bays (s : State) (n : Nat) (f : Fn) : (s.setFn n f).bays = s.bays := rfl
@[simp] theorem State.setFn_scribe (s : State) (n : Nat) (f : Fn) : (s.setFn n f).scribe = s.scribe := rfl
@[simp] theorem State.setFn_ctxs (s : State) (n : Nat) (f : Fn) : (s.setFn n f).ctxs = s.ctxs := rfl
@[simp] theorem State.setFn_ctxRegs (s : State) (n : Nat) (f : Fn) : (s.setFn n f).ctxRegs = s.ctxRegs := rfl
@[simp] theorem State.setFn_links (s : State) (n : Nat) (f : Fn) : (s.setFn n f).links = s.links := rfl
@[simp] theorem State.setFn_fresh (s : State) (n : Nat) (f : Fn) : (s.setFn n f).fresh = s.fresh := rfl

-- setCtx: ctxs

@[simp] theorem State.setCtx_aon (s : State) (n : Nat) (c : Ctx) : (s.setCtx n c).aon = s.aon := rfl
@[simp] theorem State.setCtx_sill (s : State) (n : Nat) (c : Ctx) : (s.setCtx n c).sill = s.sill := rfl
@[simp] theorem State.setCtx_hif (s : State) (n : Nat) (c : Ctx) : (s.setCtx n c).hif = s.hif := rfl
@[simp] theorem State.setCtx_plan (s : State) (n : Nat) (c : Ctx) : (s.setCtx n c).plan = s.plan := rfl
@[simp] theorem State.setCtx_planBuilt (s : State) (n : Nat) (c : Ctx) : (s.setCtx n c).planBuilt = s.planBuilt := rfl
@[simp] theorem State.setCtx_svc (s : State) (n : Nat) (c : Ctx) : (s.setCtx n c).svc = s.svc := rfl
@[simp] theorem State.setCtx_svcWait (s : State) (n : Nat) (c : Ctx) : (s.setCtx n c).svcWait = s.svcWait := rfl
@[simp] theorem State.setCtx_svcOwed (s : State) (n : Nat) (c : Ctx) : (s.setCtx n c).svcOwed = s.svcOwed := rfl
@[simp] theorem State.setCtx_pages (s : State) (n : Nat) (c : Ctx) : (s.setCtx n c).pages = s.pages := rfl
@[simp] theorem State.setCtx_loft (s : State) (n : Nat) (c : Ctx) : (s.setCtx n c).loft = s.loft := rfl
@[simp] theorem State.setCtx_sites (s : State) (n : Nat) (c : Ctx) : (s.setCtx n c).sites = s.sites := rfl
@[simp] theorem State.setCtx_yard (s : State) (n : Nat) (c : Ctx) : (s.setCtx n c).yard = s.yard := rfl
@[simp] theorem State.setCtx_migSpent (s : State) (n : Nat) (c : Ctx) : (s.setCtx n c).migSpent = s.migSpent := rfl
@[simp] theorem State.setCtx_epochEnded (s : State) (n : Nat) (c : Ctx) : (s.setCtx n c).epochEnded = s.epochEnded := rfl
@[simp] theorem State.setCtx_aug (s : State) (n : Nat) (c : Ctx) : (s.setCtx n c).aug = s.aug := rfl
@[simp] theorem State.setCtx_streams (s : State) (n : Nat) (c : Ctx) : (s.setCtx n c).streams = s.streams := rfl
@[simp] theorem State.setCtx_fetches (s : State) (n : Nat) (c : Ctx) : (s.setCtx n c).fetches = s.fetches := rfl
@[simp] theorem State.setCtx_handles (s : State) (n : Nat) (c : Ctx) : (s.setCtx n c).handles = s.handles := rfl
@[simp] theorem State.setCtx_reqs (s : State) (n : Nat) (c : Ctx) : (s.setCtx n c).reqs = s.reqs := rfl
@[simp] theorem State.setCtx_faults (s : State) (n : Nat) (c : Ctx) : (s.setCtx n c).faults = s.faults := rfl
@[simp] theorem State.setCtx_lists (s : State) (n : Nat) (c : Ctx) : (s.setCtx n c).lists = s.lists := rfl
@[simp] theorem State.setCtx_bays (s : State) (n : Nat) (c : Ctx) : (s.setCtx n c).bays = s.bays := rfl
@[simp] theorem State.setCtx_scribe (s : State) (n : Nat) (c : Ctx) : (s.setCtx n c).scribe = s.scribe := rfl
@[simp] theorem State.setCtx_ctxs (s : State) (n : Nat) (c : Ctx) : (s.setCtx n c).ctxs = tset s.ctxs n c := rfl
@[simp] theorem State.setCtx_ctxRegs (s : State) (n : Nat) (c : Ctx) : (s.setCtx n c).ctxRegs = s.ctxRegs := rfl
@[simp] theorem State.setCtx_links (s : State) (n : Nat) (c : Ctx) : (s.setCtx n c).links = s.links := rfl
@[simp] theorem State.setCtx_fresh (s : State) (n : Nat) (c : Ctx) : (s.setCtx n c).fresh = s.fresh := rfl

-- modCtx: ctxs

@[simp] theorem State.modCtx_aon (s : State) (n : Nat) (f : Ctx → Ctx) : (s.modCtx n f).aon = s.aon := rfl
@[simp] theorem State.modCtx_sill (s : State) (n : Nat) (f : Ctx → Ctx) : (s.modCtx n f).sill = s.sill := rfl
@[simp] theorem State.modCtx_hif (s : State) (n : Nat) (f : Ctx → Ctx) : (s.modCtx n f).hif = s.hif := rfl
@[simp] theorem State.modCtx_plan (s : State) (n : Nat) (f : Ctx → Ctx) : (s.modCtx n f).plan = s.plan := rfl
@[simp] theorem State.modCtx_planBuilt (s : State) (n : Nat) (f : Ctx → Ctx) : (s.modCtx n f).planBuilt = s.planBuilt := rfl
@[simp] theorem State.modCtx_svc (s : State) (n : Nat) (f : Ctx → Ctx) : (s.modCtx n f).svc = s.svc := rfl
@[simp] theorem State.modCtx_svcWait (s : State) (n : Nat) (f : Ctx → Ctx) : (s.modCtx n f).svcWait = s.svcWait := rfl
@[simp] theorem State.modCtx_svcOwed (s : State) (n : Nat) (f : Ctx → Ctx) : (s.modCtx n f).svcOwed = s.svcOwed := rfl
@[simp] theorem State.modCtx_pages (s : State) (n : Nat) (f : Ctx → Ctx) : (s.modCtx n f).pages = s.pages := rfl
@[simp] theorem State.modCtx_loft (s : State) (n : Nat) (f : Ctx → Ctx) : (s.modCtx n f).loft = s.loft := rfl
@[simp] theorem State.modCtx_sites (s : State) (n : Nat) (f : Ctx → Ctx) : (s.modCtx n f).sites = s.sites := rfl
@[simp] theorem State.modCtx_yard (s : State) (n : Nat) (f : Ctx → Ctx) : (s.modCtx n f).yard = s.yard := rfl
@[simp] theorem State.modCtx_migSpent (s : State) (n : Nat) (f : Ctx → Ctx) : (s.modCtx n f).migSpent = s.migSpent := rfl
@[simp] theorem State.modCtx_epochEnded (s : State) (n : Nat) (f : Ctx → Ctx) : (s.modCtx n f).epochEnded = s.epochEnded := rfl
@[simp] theorem State.modCtx_aug (s : State) (n : Nat) (f : Ctx → Ctx) : (s.modCtx n f).aug = s.aug := rfl
@[simp] theorem State.modCtx_streams (s : State) (n : Nat) (f : Ctx → Ctx) : (s.modCtx n f).streams = s.streams := rfl
@[simp] theorem State.modCtx_fetches (s : State) (n : Nat) (f : Ctx → Ctx) : (s.modCtx n f).fetches = s.fetches := rfl
@[simp] theorem State.modCtx_handles (s : State) (n : Nat) (f : Ctx → Ctx) : (s.modCtx n f).handles = s.handles := rfl
@[simp] theorem State.modCtx_reqs (s : State) (n : Nat) (f : Ctx → Ctx) : (s.modCtx n f).reqs = s.reqs := rfl
@[simp] theorem State.modCtx_faults (s : State) (n : Nat) (f : Ctx → Ctx) : (s.modCtx n f).faults = s.faults := rfl
@[simp] theorem State.modCtx_lists (s : State) (n : Nat) (f : Ctx → Ctx) : (s.modCtx n f).lists = s.lists := rfl
@[simp] theorem State.modCtx_bays (s : State) (n : Nat) (f : Ctx → Ctx) : (s.modCtx n f).bays = s.bays := rfl
@[simp] theorem State.modCtx_scribe (s : State) (n : Nat) (f : Ctx → Ctx) : (s.modCtx n f).scribe = s.scribe := rfl
@[simp] theorem State.modCtx_ctxs (s : State) (n : Nat) (f : Ctx → Ctx) : (s.modCtx n f).ctxs = tset s.ctxs n (f (s.ctx n)) := rfl
@[simp] theorem State.modCtx_ctxRegs (s : State) (n : Nat) (f : Ctx → Ctx) : (s.modCtx n f).ctxRegs = s.ctxRegs := rfl
@[simp] theorem State.modCtx_links (s : State) (n : Nat) (f : Ctx → Ctx) : (s.modCtx n f).links = s.links := rfl
@[simp] theorem State.modCtx_fresh (s : State) (n : Nat) (f : Ctx → Ctx) : (s.modCtx n f).fresh = s.fresh := rfl

-- setBay: bays

@[simp] theorem State.setBay_aon (s : State) (n : Nat) (b : Bay) : (s.setBay n b).aon = s.aon := rfl
@[simp] theorem State.setBay_sill (s : State) (n : Nat) (b : Bay) : (s.setBay n b).sill = s.sill := rfl
@[simp] theorem State.setBay_hif (s : State) (n : Nat) (b : Bay) : (s.setBay n b).hif = s.hif := rfl
@[simp] theorem State.setBay_plan (s : State) (n : Nat) (b : Bay) : (s.setBay n b).plan = s.plan := rfl
@[simp] theorem State.setBay_planBuilt (s : State) (n : Nat) (b : Bay) : (s.setBay n b).planBuilt = s.planBuilt := rfl
@[simp] theorem State.setBay_svc (s : State) (n : Nat) (b : Bay) : (s.setBay n b).svc = s.svc := rfl
@[simp] theorem State.setBay_svcWait (s : State) (n : Nat) (b : Bay) : (s.setBay n b).svcWait = s.svcWait := rfl
@[simp] theorem State.setBay_svcOwed (s : State) (n : Nat) (b : Bay) : (s.setBay n b).svcOwed = s.svcOwed := rfl
@[simp] theorem State.setBay_pages (s : State) (n : Nat) (b : Bay) : (s.setBay n b).pages = s.pages := rfl
@[simp] theorem State.setBay_loft (s : State) (n : Nat) (b : Bay) : (s.setBay n b).loft = s.loft := rfl
@[simp] theorem State.setBay_sites (s : State) (n : Nat) (b : Bay) : (s.setBay n b).sites = s.sites := rfl
@[simp] theorem State.setBay_yard (s : State) (n : Nat) (b : Bay) : (s.setBay n b).yard = s.yard := rfl
@[simp] theorem State.setBay_migSpent (s : State) (n : Nat) (b : Bay) : (s.setBay n b).migSpent = s.migSpent := rfl
@[simp] theorem State.setBay_epochEnded (s : State) (n : Nat) (b : Bay) : (s.setBay n b).epochEnded = s.epochEnded := rfl
@[simp] theorem State.setBay_aug (s : State) (n : Nat) (b : Bay) : (s.setBay n b).aug = s.aug := rfl
@[simp] theorem State.setBay_streams (s : State) (n : Nat) (b : Bay) : (s.setBay n b).streams = s.streams := rfl
@[simp] theorem State.setBay_fetches (s : State) (n : Nat) (b : Bay) : (s.setBay n b).fetches = s.fetches := rfl
@[simp] theorem State.setBay_handles (s : State) (n : Nat) (b : Bay) : (s.setBay n b).handles = s.handles := rfl
@[simp] theorem State.setBay_reqs (s : State) (n : Nat) (b : Bay) : (s.setBay n b).reqs = s.reqs := rfl
@[simp] theorem State.setBay_faults (s : State) (n : Nat) (b : Bay) : (s.setBay n b).faults = s.faults := rfl
@[simp] theorem State.setBay_lists (s : State) (n : Nat) (b : Bay) : (s.setBay n b).lists = s.lists := rfl
@[simp] theorem State.setBay_bays (s : State) (n : Nat) (b : Bay) : (s.setBay n b).bays = tset s.bays n b := rfl
@[simp] theorem State.setBay_scribe (s : State) (n : Nat) (b : Bay) : (s.setBay n b).scribe = s.scribe := rfl
@[simp] theorem State.setBay_ctxs (s : State) (n : Nat) (b : Bay) : (s.setBay n b).ctxs = s.ctxs := rfl
@[simp] theorem State.setBay_ctxRegs (s : State) (n : Nat) (b : Bay) : (s.setBay n b).ctxRegs = s.ctxRegs := rfl
@[simp] theorem State.setBay_links (s : State) (n : Nat) (b : Bay) : (s.setBay n b).links = s.links := rfl
@[simp] theorem State.setBay_fresh (s : State) (n : Nat) (b : Bay) : (s.setBay n b).fresh = s.fresh := rfl

-- setSite: sites

@[simp] theorem State.setSite_aon (s : State) (n : Nat) (x : Site) : (s.setSite n x).aon = s.aon := rfl
@[simp] theorem State.setSite_sill (s : State) (n : Nat) (x : Site) : (s.setSite n x).sill = s.sill := rfl
@[simp] theorem State.setSite_hif (s : State) (n : Nat) (x : Site) : (s.setSite n x).hif = s.hif := rfl
@[simp] theorem State.setSite_plan (s : State) (n : Nat) (x : Site) : (s.setSite n x).plan = s.plan := rfl
@[simp] theorem State.setSite_planBuilt (s : State) (n : Nat) (x : Site) : (s.setSite n x).planBuilt = s.planBuilt := rfl
@[simp] theorem State.setSite_svc (s : State) (n : Nat) (x : Site) : (s.setSite n x).svc = s.svc := rfl
@[simp] theorem State.setSite_svcWait (s : State) (n : Nat) (x : Site) : (s.setSite n x).svcWait = s.svcWait := rfl
@[simp] theorem State.setSite_svcOwed (s : State) (n : Nat) (x : Site) : (s.setSite n x).svcOwed = s.svcOwed := rfl
@[simp] theorem State.setSite_pages (s : State) (n : Nat) (x : Site) : (s.setSite n x).pages = s.pages := rfl
@[simp] theorem State.setSite_loft (s : State) (n : Nat) (x : Site) : (s.setSite n x).loft = s.loft := rfl
@[simp] theorem State.setSite_sites (s : State) (n : Nat) (x : Site) : (s.setSite n x).sites = tset s.sites n x := rfl
@[simp] theorem State.setSite_yard (s : State) (n : Nat) (x : Site) : (s.setSite n x).yard = s.yard := rfl
@[simp] theorem State.setSite_migSpent (s : State) (n : Nat) (x : Site) : (s.setSite n x).migSpent = s.migSpent := rfl
@[simp] theorem State.setSite_epochEnded (s : State) (n : Nat) (x : Site) : (s.setSite n x).epochEnded = s.epochEnded := rfl
@[simp] theorem State.setSite_aug (s : State) (n : Nat) (x : Site) : (s.setSite n x).aug = s.aug := rfl
@[simp] theorem State.setSite_streams (s : State) (n : Nat) (x : Site) : (s.setSite n x).streams = s.streams := rfl
@[simp] theorem State.setSite_fetches (s : State) (n : Nat) (x : Site) : (s.setSite n x).fetches = s.fetches := rfl
@[simp] theorem State.setSite_handles (s : State) (n : Nat) (x : Site) : (s.setSite n x).handles = s.handles := rfl
@[simp] theorem State.setSite_reqs (s : State) (n : Nat) (x : Site) : (s.setSite n x).reqs = s.reqs := rfl
@[simp] theorem State.setSite_faults (s : State) (n : Nat) (x : Site) : (s.setSite n x).faults = s.faults := rfl
@[simp] theorem State.setSite_lists (s : State) (n : Nat) (x : Site) : (s.setSite n x).lists = s.lists := rfl
@[simp] theorem State.setSite_bays (s : State) (n : Nat) (x : Site) : (s.setSite n x).bays = s.bays := rfl
@[simp] theorem State.setSite_scribe (s : State) (n : Nat) (x : Site) : (s.setSite n x).scribe = s.scribe := rfl
@[simp] theorem State.setSite_ctxs (s : State) (n : Nat) (x : Site) : (s.setSite n x).ctxs = s.ctxs := rfl
@[simp] theorem State.setSite_ctxRegs (s : State) (n : Nat) (x : Site) : (s.setSite n x).ctxRegs = s.ctxRegs := rfl
@[simp] theorem State.setSite_links (s : State) (n : Nat) (x : Site) : (s.setSite n x).links = s.links := rfl
@[simp] theorem State.setSite_fresh (s : State) (n : Nat) (x : Site) : (s.setSite n x).fresh = s.fresh := rfl

-- setPort: links

@[simp] theorem State.setPort_aon (s : State) (n : Nat) (p : Port) : (s.setPort n p).aon = s.aon := rfl
@[simp] theorem State.setPort_sill (s : State) (n : Nat) (p : Port) : (s.setPort n p).sill = s.sill := rfl
@[simp] theorem State.setPort_hif (s : State) (n : Nat) (p : Port) : (s.setPort n p).hif = s.hif := rfl
@[simp] theorem State.setPort_plan (s : State) (n : Nat) (p : Port) : (s.setPort n p).plan = s.plan := rfl
@[simp] theorem State.setPort_planBuilt (s : State) (n : Nat) (p : Port) : (s.setPort n p).planBuilt = s.planBuilt := rfl
@[simp] theorem State.setPort_svc (s : State) (n : Nat) (p : Port) : (s.setPort n p).svc = s.svc := rfl
@[simp] theorem State.setPort_svcWait (s : State) (n : Nat) (p : Port) : (s.setPort n p).svcWait = s.svcWait := rfl
@[simp] theorem State.setPort_svcOwed (s : State) (n : Nat) (p : Port) : (s.setPort n p).svcOwed = s.svcOwed := rfl
@[simp] theorem State.setPort_pages (s : State) (n : Nat) (p : Port) : (s.setPort n p).pages = s.pages := rfl
@[simp] theorem State.setPort_loft (s : State) (n : Nat) (p : Port) : (s.setPort n p).loft = s.loft := rfl
@[simp] theorem State.setPort_sites (s : State) (n : Nat) (p : Port) : (s.setPort n p).sites = s.sites := rfl
@[simp] theorem State.setPort_yard (s : State) (n : Nat) (p : Port) : (s.setPort n p).yard = s.yard := rfl
@[simp] theorem State.setPort_migSpent (s : State) (n : Nat) (p : Port) : (s.setPort n p).migSpent = s.migSpent := rfl
@[simp] theorem State.setPort_epochEnded (s : State) (n : Nat) (p : Port) : (s.setPort n p).epochEnded = s.epochEnded := rfl
@[simp] theorem State.setPort_aug (s : State) (n : Nat) (p : Port) : (s.setPort n p).aug = s.aug := rfl
@[simp] theorem State.setPort_streams (s : State) (n : Nat) (p : Port) : (s.setPort n p).streams = s.streams := rfl
@[simp] theorem State.setPort_fetches (s : State) (n : Nat) (p : Port) : (s.setPort n p).fetches = s.fetches := rfl
@[simp] theorem State.setPort_handles (s : State) (n : Nat) (p : Port) : (s.setPort n p).handles = s.handles := rfl
@[simp] theorem State.setPort_reqs (s : State) (n : Nat) (p : Port) : (s.setPort n p).reqs = s.reqs := rfl
@[simp] theorem State.setPort_faults (s : State) (n : Nat) (p : Port) : (s.setPort n p).faults = s.faults := rfl
@[simp] theorem State.setPort_lists (s : State) (n : Nat) (p : Port) : (s.setPort n p).lists = s.lists := rfl
@[simp] theorem State.setPort_bays (s : State) (n : Nat) (p : Port) : (s.setPort n p).bays = s.bays := rfl
@[simp] theorem State.setPort_scribe (s : State) (n : Nat) (p : Port) : (s.setPort n p).scribe = s.scribe := rfl
@[simp] theorem State.setPort_ctxs (s : State) (n : Nat) (p : Port) : (s.setPort n p).ctxs = s.ctxs := rfl
@[simp] theorem State.setPort_ctxRegs (s : State) (n : Nat) (p : Port) : (s.setPort n p).ctxRegs = s.ctxRegs := rfl
@[simp] theorem State.setPort_links (s : State) (n : Nat) (p : Port) : (s.setPort n p).links = { s.links with ports := tset s.links.ports n p } := rfl
@[simp] theorem State.setPort_fresh (s : State) (n : Nat) (p : Port) : (s.setPort n p).fresh = s.fresh := rfl

-- modPort: links

@[simp] theorem State.modPort_aon (s : State) (n : Nat) (f : Port → Port) : (s.modPort n f).aon = s.aon := rfl
@[simp] theorem State.modPort_sill (s : State) (n : Nat) (f : Port → Port) : (s.modPort n f).sill = s.sill := rfl
@[simp] theorem State.modPort_hif (s : State) (n : Nat) (f : Port → Port) : (s.modPort n f).hif = s.hif := rfl
@[simp] theorem State.modPort_plan (s : State) (n : Nat) (f : Port → Port) : (s.modPort n f).plan = s.plan := rfl
@[simp] theorem State.modPort_planBuilt (s : State) (n : Nat) (f : Port → Port) : (s.modPort n f).planBuilt = s.planBuilt := rfl
@[simp] theorem State.modPort_svc (s : State) (n : Nat) (f : Port → Port) : (s.modPort n f).svc = s.svc := rfl
@[simp] theorem State.modPort_svcWait (s : State) (n : Nat) (f : Port → Port) : (s.modPort n f).svcWait = s.svcWait := rfl
@[simp] theorem State.modPort_svcOwed (s : State) (n : Nat) (f : Port → Port) : (s.modPort n f).svcOwed = s.svcOwed := rfl
@[simp] theorem State.modPort_pages (s : State) (n : Nat) (f : Port → Port) : (s.modPort n f).pages = s.pages := rfl
@[simp] theorem State.modPort_loft (s : State) (n : Nat) (f : Port → Port) : (s.modPort n f).loft = s.loft := rfl
@[simp] theorem State.modPort_sites (s : State) (n : Nat) (f : Port → Port) : (s.modPort n f).sites = s.sites := rfl
@[simp] theorem State.modPort_yard (s : State) (n : Nat) (f : Port → Port) : (s.modPort n f).yard = s.yard := rfl
@[simp] theorem State.modPort_migSpent (s : State) (n : Nat) (f : Port → Port) : (s.modPort n f).migSpent = s.migSpent := rfl
@[simp] theorem State.modPort_epochEnded (s : State) (n : Nat) (f : Port → Port) : (s.modPort n f).epochEnded = s.epochEnded := rfl
@[simp] theorem State.modPort_aug (s : State) (n : Nat) (f : Port → Port) : (s.modPort n f).aug = s.aug := rfl
@[simp] theorem State.modPort_streams (s : State) (n : Nat) (f : Port → Port) : (s.modPort n f).streams = s.streams := rfl
@[simp] theorem State.modPort_fetches (s : State) (n : Nat) (f : Port → Port) : (s.modPort n f).fetches = s.fetches := rfl
@[simp] theorem State.modPort_handles (s : State) (n : Nat) (f : Port → Port) : (s.modPort n f).handles = s.handles := rfl
@[simp] theorem State.modPort_reqs (s : State) (n : Nat) (f : Port → Port) : (s.modPort n f).reqs = s.reqs := rfl
@[simp] theorem State.modPort_faults (s : State) (n : Nat) (f : Port → Port) : (s.modPort n f).faults = s.faults := rfl
@[simp] theorem State.modPort_lists (s : State) (n : Nat) (f : Port → Port) : (s.modPort n f).lists = s.lists := rfl
@[simp] theorem State.modPort_bays (s : State) (n : Nat) (f : Port → Port) : (s.modPort n f).bays = s.bays := rfl
@[simp] theorem State.modPort_scribe (s : State) (n : Nat) (f : Port → Port) : (s.modPort n f).scribe = s.scribe := rfl
@[simp] theorem State.modPort_ctxs (s : State) (n : Nat) (f : Port → Port) : (s.modPort n f).ctxs = s.ctxs := rfl
@[simp] theorem State.modPort_ctxRegs (s : State) (n : Nat) (f : Port → Port) : (s.modPort n f).ctxRegs = s.ctxRegs := rfl
@[simp] theorem State.modPort_links (s : State) (n : Nat) (f : Port → Port) : (s.modPort n f).links = { s.links with ports := tset s.links.ports n (f (s.port n)) } := rfl
@[simp] theorem State.modPort_fresh (s : State) (n : Nat) (f : Port → Port) : (s.modPort n f).fresh = s.fresh := rfl

-- modLinks: links

@[simp] theorem State.modLinks_aon (s : State) (f : Links → Links) : (s.modLinks f).aon = s.aon := rfl
@[simp] theorem State.modLinks_sill (s : State) (f : Links → Links) : (s.modLinks f).sill = s.sill := rfl
@[simp] theorem State.modLinks_hif (s : State) (f : Links → Links) : (s.modLinks f).hif = s.hif := rfl
@[simp] theorem State.modLinks_plan (s : State) (f : Links → Links) : (s.modLinks f).plan = s.plan := rfl
@[simp] theorem State.modLinks_planBuilt (s : State) (f : Links → Links) : (s.modLinks f).planBuilt = s.planBuilt := rfl
@[simp] theorem State.modLinks_svc (s : State) (f : Links → Links) : (s.modLinks f).svc = s.svc := rfl
@[simp] theorem State.modLinks_svcWait (s : State) (f : Links → Links) : (s.modLinks f).svcWait = s.svcWait := rfl
@[simp] theorem State.modLinks_svcOwed (s : State) (f : Links → Links) : (s.modLinks f).svcOwed = s.svcOwed := rfl
@[simp] theorem State.modLinks_pages (s : State) (f : Links → Links) : (s.modLinks f).pages = s.pages := rfl
@[simp] theorem State.modLinks_loft (s : State) (f : Links → Links) : (s.modLinks f).loft = s.loft := rfl
@[simp] theorem State.modLinks_sites (s : State) (f : Links → Links) : (s.modLinks f).sites = s.sites := rfl
@[simp] theorem State.modLinks_yard (s : State) (f : Links → Links) : (s.modLinks f).yard = s.yard := rfl
@[simp] theorem State.modLinks_migSpent (s : State) (f : Links → Links) : (s.modLinks f).migSpent = s.migSpent := rfl
@[simp] theorem State.modLinks_epochEnded (s : State) (f : Links → Links) : (s.modLinks f).epochEnded = s.epochEnded := rfl
@[simp] theorem State.modLinks_aug (s : State) (f : Links → Links) : (s.modLinks f).aug = s.aug := rfl
@[simp] theorem State.modLinks_streams (s : State) (f : Links → Links) : (s.modLinks f).streams = s.streams := rfl
@[simp] theorem State.modLinks_fetches (s : State) (f : Links → Links) : (s.modLinks f).fetches = s.fetches := rfl
@[simp] theorem State.modLinks_handles (s : State) (f : Links → Links) : (s.modLinks f).handles = s.handles := rfl
@[simp] theorem State.modLinks_reqs (s : State) (f : Links → Links) : (s.modLinks f).reqs = s.reqs := rfl
@[simp] theorem State.modLinks_faults (s : State) (f : Links → Links) : (s.modLinks f).faults = s.faults := rfl
@[simp] theorem State.modLinks_lists (s : State) (f : Links → Links) : (s.modLinks f).lists = s.lists := rfl
@[simp] theorem State.modLinks_bays (s : State) (f : Links → Links) : (s.modLinks f).bays = s.bays := rfl
@[simp] theorem State.modLinks_scribe (s : State) (f : Links → Links) : (s.modLinks f).scribe = s.scribe := rfl
@[simp] theorem State.modLinks_ctxs (s : State) (f : Links → Links) : (s.modLinks f).ctxs = s.ctxs := rfl
@[simp] theorem State.modLinks_ctxRegs (s : State) (f : Links → Links) : (s.modLinks f).ctxRegs = s.ctxRegs := rfl
@[simp] theorem State.modLinks_links (s : State) (f : Links → Links) : (s.modLinks f).links = f s.links := rfl
@[simp] theorem State.modLinks_fresh (s : State) (f : Links → Links) : (s.modLinks f).fresh = s.fresh := rfl

-- modSill: sill

@[simp] theorem State.modSill_aon (s : State) (f : Sill → Sill) : (s.modSill f).aon = s.aon := rfl
@[simp] theorem State.modSill_sill (s : State) (f : Sill → Sill) : (s.modSill f).sill = f s.sill := rfl
@[simp] theorem State.modSill_hif (s : State) (f : Sill → Sill) : (s.modSill f).hif = s.hif := rfl
@[simp] theorem State.modSill_plan (s : State) (f : Sill → Sill) : (s.modSill f).plan = s.plan := rfl
@[simp] theorem State.modSill_planBuilt (s : State) (f : Sill → Sill) : (s.modSill f).planBuilt = s.planBuilt := rfl
@[simp] theorem State.modSill_svc (s : State) (f : Sill → Sill) : (s.modSill f).svc = s.svc := rfl
@[simp] theorem State.modSill_svcWait (s : State) (f : Sill → Sill) : (s.modSill f).svcWait = s.svcWait := rfl
@[simp] theorem State.modSill_svcOwed (s : State) (f : Sill → Sill) : (s.modSill f).svcOwed = s.svcOwed := rfl
@[simp] theorem State.modSill_pages (s : State) (f : Sill → Sill) : (s.modSill f).pages = s.pages := rfl
@[simp] theorem State.modSill_loft (s : State) (f : Sill → Sill) : (s.modSill f).loft = s.loft := rfl
@[simp] theorem State.modSill_sites (s : State) (f : Sill → Sill) : (s.modSill f).sites = s.sites := rfl
@[simp] theorem State.modSill_yard (s : State) (f : Sill → Sill) : (s.modSill f).yard = s.yard := rfl
@[simp] theorem State.modSill_migSpent (s : State) (f : Sill → Sill) : (s.modSill f).migSpent = s.migSpent := rfl
@[simp] theorem State.modSill_epochEnded (s : State) (f : Sill → Sill) : (s.modSill f).epochEnded = s.epochEnded := rfl
@[simp] theorem State.modSill_aug (s : State) (f : Sill → Sill) : (s.modSill f).aug = s.aug := rfl
@[simp] theorem State.modSill_streams (s : State) (f : Sill → Sill) : (s.modSill f).streams = s.streams := rfl
@[simp] theorem State.modSill_fetches (s : State) (f : Sill → Sill) : (s.modSill f).fetches = s.fetches := rfl
@[simp] theorem State.modSill_handles (s : State) (f : Sill → Sill) : (s.modSill f).handles = s.handles := rfl
@[simp] theorem State.modSill_reqs (s : State) (f : Sill → Sill) : (s.modSill f).reqs = s.reqs := rfl
@[simp] theorem State.modSill_faults (s : State) (f : Sill → Sill) : (s.modSill f).faults = s.faults := rfl
@[simp] theorem State.modSill_lists (s : State) (f : Sill → Sill) : (s.modSill f).lists = s.lists := rfl
@[simp] theorem State.modSill_bays (s : State) (f : Sill → Sill) : (s.modSill f).bays = s.bays := rfl
@[simp] theorem State.modSill_scribe (s : State) (f : Sill → Sill) : (s.modSill f).scribe = s.scribe := rfl
@[simp] theorem State.modSill_ctxs (s : State) (f : Sill → Sill) : (s.modSill f).ctxs = s.ctxs := rfl
@[simp] theorem State.modSill_ctxRegs (s : State) (f : Sill → Sill) : (s.modSill f).ctxRegs = s.ctxRegs := rfl
@[simp] theorem State.modSill_links (s : State) (f : Sill → Sill) : (s.modSill f).links = s.links := rfl
@[simp] theorem State.modSill_fresh (s : State) (f : Sill → Sill) : (s.modSill f).fresh = s.fresh := rfl

-- modScribe: scribe

@[simp] theorem State.modScribe_aon (s : State) (f : Scribe → Scribe) : (s.modScribe f).aon = s.aon := rfl
@[simp] theorem State.modScribe_sill (s : State) (f : Scribe → Scribe) : (s.modScribe f).sill = s.sill := rfl
@[simp] theorem State.modScribe_hif (s : State) (f : Scribe → Scribe) : (s.modScribe f).hif = s.hif := rfl
@[simp] theorem State.modScribe_plan (s : State) (f : Scribe → Scribe) : (s.modScribe f).plan = s.plan := rfl
@[simp] theorem State.modScribe_planBuilt (s : State) (f : Scribe → Scribe) : (s.modScribe f).planBuilt = s.planBuilt := rfl
@[simp] theorem State.modScribe_svc (s : State) (f : Scribe → Scribe) : (s.modScribe f).svc = s.svc := rfl
@[simp] theorem State.modScribe_svcWait (s : State) (f : Scribe → Scribe) : (s.modScribe f).svcWait = s.svcWait := rfl
@[simp] theorem State.modScribe_svcOwed (s : State) (f : Scribe → Scribe) : (s.modScribe f).svcOwed = s.svcOwed := rfl
@[simp] theorem State.modScribe_pages (s : State) (f : Scribe → Scribe) : (s.modScribe f).pages = s.pages := rfl
@[simp] theorem State.modScribe_loft (s : State) (f : Scribe → Scribe) : (s.modScribe f).loft = s.loft := rfl
@[simp] theorem State.modScribe_sites (s : State) (f : Scribe → Scribe) : (s.modScribe f).sites = s.sites := rfl
@[simp] theorem State.modScribe_yard (s : State) (f : Scribe → Scribe) : (s.modScribe f).yard = s.yard := rfl
@[simp] theorem State.modScribe_migSpent (s : State) (f : Scribe → Scribe) : (s.modScribe f).migSpent = s.migSpent := rfl
@[simp] theorem State.modScribe_epochEnded (s : State) (f : Scribe → Scribe) : (s.modScribe f).epochEnded = s.epochEnded := rfl
@[simp] theorem State.modScribe_aug (s : State) (f : Scribe → Scribe) : (s.modScribe f).aug = s.aug := rfl
@[simp] theorem State.modScribe_streams (s : State) (f : Scribe → Scribe) : (s.modScribe f).streams = s.streams := rfl
@[simp] theorem State.modScribe_fetches (s : State) (f : Scribe → Scribe) : (s.modScribe f).fetches = s.fetches := rfl
@[simp] theorem State.modScribe_handles (s : State) (f : Scribe → Scribe) : (s.modScribe f).handles = s.handles := rfl
@[simp] theorem State.modScribe_reqs (s : State) (f : Scribe → Scribe) : (s.modScribe f).reqs = s.reqs := rfl
@[simp] theorem State.modScribe_faults (s : State) (f : Scribe → Scribe) : (s.modScribe f).faults = s.faults := rfl
@[simp] theorem State.modScribe_lists (s : State) (f : Scribe → Scribe) : (s.modScribe f).lists = s.lists := rfl
@[simp] theorem State.modScribe_bays (s : State) (f : Scribe → Scribe) : (s.modScribe f).bays = s.bays := rfl
@[simp] theorem State.modScribe_scribe (s : State) (f : Scribe → Scribe) : (s.modScribe f).scribe = f s.scribe := rfl
@[simp] theorem State.modScribe_ctxs (s : State) (f : Scribe → Scribe) : (s.modScribe f).ctxs = s.ctxs := rfl
@[simp] theorem State.modScribe_ctxRegs (s : State) (f : Scribe → Scribe) : (s.modScribe f).ctxRegs = s.ctxRegs := rfl
@[simp] theorem State.modScribe_links (s : State) (f : Scribe → Scribe) : (s.modScribe f).links = s.links := rfl
@[simp] theorem State.modScribe_fresh (s : State) (f : Scribe → Scribe) : (s.modScribe f).fresh = s.fresh := rfl

-- modAon: aon

@[simp] theorem State.modAon_aon (s : State) (f : Aon → Aon) : (s.modAon f).aon = f s.aon := rfl
@[simp] theorem State.modAon_sill (s : State) (f : Aon → Aon) : (s.modAon f).sill = s.sill := rfl
@[simp] theorem State.modAon_hif (s : State) (f : Aon → Aon) : (s.modAon f).hif = s.hif := rfl
@[simp] theorem State.modAon_plan (s : State) (f : Aon → Aon) : (s.modAon f).plan = s.plan := rfl
@[simp] theorem State.modAon_planBuilt (s : State) (f : Aon → Aon) : (s.modAon f).planBuilt = s.planBuilt := rfl
@[simp] theorem State.modAon_svc (s : State) (f : Aon → Aon) : (s.modAon f).svc = s.svc := rfl
@[simp] theorem State.modAon_svcWait (s : State) (f : Aon → Aon) : (s.modAon f).svcWait = s.svcWait := rfl
@[simp] theorem State.modAon_svcOwed (s : State) (f : Aon → Aon) : (s.modAon f).svcOwed = s.svcOwed := rfl
@[simp] theorem State.modAon_pages (s : State) (f : Aon → Aon) : (s.modAon f).pages = s.pages := rfl
@[simp] theorem State.modAon_loft (s : State) (f : Aon → Aon) : (s.modAon f).loft = s.loft := rfl
@[simp] theorem State.modAon_sites (s : State) (f : Aon → Aon) : (s.modAon f).sites = s.sites := rfl
@[simp] theorem State.modAon_yard (s : State) (f : Aon → Aon) : (s.modAon f).yard = s.yard := rfl
@[simp] theorem State.modAon_migSpent (s : State) (f : Aon → Aon) : (s.modAon f).migSpent = s.migSpent := rfl
@[simp] theorem State.modAon_epochEnded (s : State) (f : Aon → Aon) : (s.modAon f).epochEnded = s.epochEnded := rfl
@[simp] theorem State.modAon_aug (s : State) (f : Aon → Aon) : (s.modAon f).aug = s.aug := rfl
@[simp] theorem State.modAon_streams (s : State) (f : Aon → Aon) : (s.modAon f).streams = s.streams := rfl
@[simp] theorem State.modAon_fetches (s : State) (f : Aon → Aon) : (s.modAon f).fetches = s.fetches := rfl
@[simp] theorem State.modAon_handles (s : State) (f : Aon → Aon) : (s.modAon f).handles = s.handles := rfl
@[simp] theorem State.modAon_reqs (s : State) (f : Aon → Aon) : (s.modAon f).reqs = s.reqs := rfl
@[simp] theorem State.modAon_faults (s : State) (f : Aon → Aon) : (s.modAon f).faults = s.faults := rfl
@[simp] theorem State.modAon_lists (s : State) (f : Aon → Aon) : (s.modAon f).lists = s.lists := rfl
@[simp] theorem State.modAon_bays (s : State) (f : Aon → Aon) : (s.modAon f).bays = s.bays := rfl
@[simp] theorem State.modAon_scribe (s : State) (f : Aon → Aon) : (s.modAon f).scribe = s.scribe := rfl
@[simp] theorem State.modAon_ctxs (s : State) (f : Aon → Aon) : (s.modAon f).ctxs = s.ctxs := rfl
@[simp] theorem State.modAon_ctxRegs (s : State) (f : Aon → Aon) : (s.modAon f).ctxRegs = s.ctxRegs := rfl
@[simp] theorem State.modAon_links (s : State) (f : Aon → Aon) : (s.modAon f).links = s.links := rfl
@[simp] theorem State.modAon_fresh (s : State) (f : Aon → Aon) : (s.modAon f).fresh = s.fresh := rfl

-- modPower: aon

@[simp] theorem State.modPower_aon (s : State) (f : Power → Power) : (s.modPower f).aon = { s.aon with power := f s.aon.power } := rfl
@[simp] theorem State.modPower_sill (s : State) (f : Power → Power) : (s.modPower f).sill = s.sill := rfl
@[simp] theorem State.modPower_hif (s : State) (f : Power → Power) : (s.modPower f).hif = s.hif := rfl
@[simp] theorem State.modPower_plan (s : State) (f : Power → Power) : (s.modPower f).plan = s.plan := rfl
@[simp] theorem State.modPower_planBuilt (s : State) (f : Power → Power) : (s.modPower f).planBuilt = s.planBuilt := rfl
@[simp] theorem State.modPower_svc (s : State) (f : Power → Power) : (s.modPower f).svc = s.svc := rfl
@[simp] theorem State.modPower_svcWait (s : State) (f : Power → Power) : (s.modPower f).svcWait = s.svcWait := rfl
@[simp] theorem State.modPower_svcOwed (s : State) (f : Power → Power) : (s.modPower f).svcOwed = s.svcOwed := rfl
@[simp] theorem State.modPower_pages (s : State) (f : Power → Power) : (s.modPower f).pages = s.pages := rfl
@[simp] theorem State.modPower_loft (s : State) (f : Power → Power) : (s.modPower f).loft = s.loft := rfl
@[simp] theorem State.modPower_sites (s : State) (f : Power → Power) : (s.modPower f).sites = s.sites := rfl
@[simp] theorem State.modPower_yard (s : State) (f : Power → Power) : (s.modPower f).yard = s.yard := rfl
@[simp] theorem State.modPower_migSpent (s : State) (f : Power → Power) : (s.modPower f).migSpent = s.migSpent := rfl
@[simp] theorem State.modPower_epochEnded (s : State) (f : Power → Power) : (s.modPower f).epochEnded = s.epochEnded := rfl
@[simp] theorem State.modPower_aug (s : State) (f : Power → Power) : (s.modPower f).aug = s.aug := rfl
@[simp] theorem State.modPower_streams (s : State) (f : Power → Power) : (s.modPower f).streams = s.streams := rfl
@[simp] theorem State.modPower_fetches (s : State) (f : Power → Power) : (s.modPower f).fetches = s.fetches := rfl
@[simp] theorem State.modPower_handles (s : State) (f : Power → Power) : (s.modPower f).handles = s.handles := rfl
@[simp] theorem State.modPower_reqs (s : State) (f : Power → Power) : (s.modPower f).reqs = s.reqs := rfl
@[simp] theorem State.modPower_faults (s : State) (f : Power → Power) : (s.modPower f).faults = s.faults := rfl
@[simp] theorem State.modPower_lists (s : State) (f : Power → Power) : (s.modPower f).lists = s.lists := rfl
@[simp] theorem State.modPower_bays (s : State) (f : Power → Power) : (s.modPower f).bays = s.bays := rfl
@[simp] theorem State.modPower_scribe (s : State) (f : Power → Power) : (s.modPower f).scribe = s.scribe := rfl
@[simp] theorem State.modPower_ctxs (s : State) (f : Power → Power) : (s.modPower f).ctxs = s.ctxs := rfl
@[simp] theorem State.modPower_ctxRegs (s : State) (f : Power → Power) : (s.modPower f).ctxRegs = s.ctxRegs := rfl
@[simp] theorem State.modPower_links (s : State) (f : Power → Power) : (s.modPower f).links = s.links := rfl
@[simp] theorem State.modPower_fresh (s : State) (f : Power → Power) : (s.modPower f).fresh = s.fresh := rfl

-- modThermal: aon

@[simp] theorem State.modThermal_aon (s : State) (f : Thermal → Thermal) : (s.modThermal f).aon = { s.aon with thermal := f s.aon.thermal } := rfl
@[simp] theorem State.modThermal_sill (s : State) (f : Thermal → Thermal) : (s.modThermal f).sill = s.sill := rfl
@[simp] theorem State.modThermal_hif (s : State) (f : Thermal → Thermal) : (s.modThermal f).hif = s.hif := rfl
@[simp] theorem State.modThermal_plan (s : State) (f : Thermal → Thermal) : (s.modThermal f).plan = s.plan := rfl
@[simp] theorem State.modThermal_planBuilt (s : State) (f : Thermal → Thermal) : (s.modThermal f).planBuilt = s.planBuilt := rfl
@[simp] theorem State.modThermal_svc (s : State) (f : Thermal → Thermal) : (s.modThermal f).svc = s.svc := rfl
@[simp] theorem State.modThermal_svcWait (s : State) (f : Thermal → Thermal) : (s.modThermal f).svcWait = s.svcWait := rfl
@[simp] theorem State.modThermal_svcOwed (s : State) (f : Thermal → Thermal) : (s.modThermal f).svcOwed = s.svcOwed := rfl
@[simp] theorem State.modThermal_pages (s : State) (f : Thermal → Thermal) : (s.modThermal f).pages = s.pages := rfl
@[simp] theorem State.modThermal_loft (s : State) (f : Thermal → Thermal) : (s.modThermal f).loft = s.loft := rfl
@[simp] theorem State.modThermal_sites (s : State) (f : Thermal → Thermal) : (s.modThermal f).sites = s.sites := rfl
@[simp] theorem State.modThermal_yard (s : State) (f : Thermal → Thermal) : (s.modThermal f).yard = s.yard := rfl
@[simp] theorem State.modThermal_migSpent (s : State) (f : Thermal → Thermal) : (s.modThermal f).migSpent = s.migSpent := rfl
@[simp] theorem State.modThermal_epochEnded (s : State) (f : Thermal → Thermal) : (s.modThermal f).epochEnded = s.epochEnded := rfl
@[simp] theorem State.modThermal_aug (s : State) (f : Thermal → Thermal) : (s.modThermal f).aug = s.aug := rfl
@[simp] theorem State.modThermal_streams (s : State) (f : Thermal → Thermal) : (s.modThermal f).streams = s.streams := rfl
@[simp] theorem State.modThermal_fetches (s : State) (f : Thermal → Thermal) : (s.modThermal f).fetches = s.fetches := rfl
@[simp] theorem State.modThermal_handles (s : State) (f : Thermal → Thermal) : (s.modThermal f).handles = s.handles := rfl
@[simp] theorem State.modThermal_reqs (s : State) (f : Thermal → Thermal) : (s.modThermal f).reqs = s.reqs := rfl
@[simp] theorem State.modThermal_faults (s : State) (f : Thermal → Thermal) : (s.modThermal f).faults = s.faults := rfl
@[simp] theorem State.modThermal_lists (s : State) (f : Thermal → Thermal) : (s.modThermal f).lists = s.lists := rfl
@[simp] theorem State.modThermal_bays (s : State) (f : Thermal → Thermal) : (s.modThermal f).bays = s.bays := rfl
@[simp] theorem State.modThermal_scribe (s : State) (f : Thermal → Thermal) : (s.modThermal f).scribe = s.scribe := rfl
@[simp] theorem State.modThermal_ctxs (s : State) (f : Thermal → Thermal) : (s.modThermal f).ctxs = s.ctxs := rfl
@[simp] theorem State.modThermal_ctxRegs (s : State) (f : Thermal → Thermal) : (s.modThermal f).ctxRegs = s.ctxRegs := rfl
@[simp] theorem State.modThermal_links (s : State) (f : Thermal → Thermal) : (s.modThermal f).links = s.links := rfl
@[simp] theorem State.modThermal_fresh (s : State) (f : Thermal → Thermal) : (s.modThermal f).fresh = s.fresh := rfl

-- modBoot: aon

@[simp] theorem State.modBoot_aon (s : State) (f : Boot → Boot) : (s.modBoot f).aon = { s.aon with boot := f s.aon.boot } := rfl
@[simp] theorem State.modBoot_sill (s : State) (f : Boot → Boot) : (s.modBoot f).sill = s.sill := rfl
@[simp] theorem State.modBoot_hif (s : State) (f : Boot → Boot) : (s.modBoot f).hif = s.hif := rfl
@[simp] theorem State.modBoot_plan (s : State) (f : Boot → Boot) : (s.modBoot f).plan = s.plan := rfl
@[simp] theorem State.modBoot_planBuilt (s : State) (f : Boot → Boot) : (s.modBoot f).planBuilt = s.planBuilt := rfl
@[simp] theorem State.modBoot_svc (s : State) (f : Boot → Boot) : (s.modBoot f).svc = s.svc := rfl
@[simp] theorem State.modBoot_svcWait (s : State) (f : Boot → Boot) : (s.modBoot f).svcWait = s.svcWait := rfl
@[simp] theorem State.modBoot_svcOwed (s : State) (f : Boot → Boot) : (s.modBoot f).svcOwed = s.svcOwed := rfl
@[simp] theorem State.modBoot_pages (s : State) (f : Boot → Boot) : (s.modBoot f).pages = s.pages := rfl
@[simp] theorem State.modBoot_loft (s : State) (f : Boot → Boot) : (s.modBoot f).loft = s.loft := rfl
@[simp] theorem State.modBoot_sites (s : State) (f : Boot → Boot) : (s.modBoot f).sites = s.sites := rfl
@[simp] theorem State.modBoot_yard (s : State) (f : Boot → Boot) : (s.modBoot f).yard = s.yard := rfl
@[simp] theorem State.modBoot_migSpent (s : State) (f : Boot → Boot) : (s.modBoot f).migSpent = s.migSpent := rfl
@[simp] theorem State.modBoot_epochEnded (s : State) (f : Boot → Boot) : (s.modBoot f).epochEnded = s.epochEnded := rfl
@[simp] theorem State.modBoot_aug (s : State) (f : Boot → Boot) : (s.modBoot f).aug = s.aug := rfl
@[simp] theorem State.modBoot_streams (s : State) (f : Boot → Boot) : (s.modBoot f).streams = s.streams := rfl
@[simp] theorem State.modBoot_fetches (s : State) (f : Boot → Boot) : (s.modBoot f).fetches = s.fetches := rfl
@[simp] theorem State.modBoot_handles (s : State) (f : Boot → Boot) : (s.modBoot f).handles = s.handles := rfl
@[simp] theorem State.modBoot_reqs (s : State) (f : Boot → Boot) : (s.modBoot f).reqs = s.reqs := rfl
@[simp] theorem State.modBoot_faults (s : State) (f : Boot → Boot) : (s.modBoot f).faults = s.faults := rfl
@[simp] theorem State.modBoot_lists (s : State) (f : Boot → Boot) : (s.modBoot f).lists = s.lists := rfl
@[simp] theorem State.modBoot_bays (s : State) (f : Boot → Boot) : (s.modBoot f).bays = s.bays := rfl
@[simp] theorem State.modBoot_scribe (s : State) (f : Boot → Boot) : (s.modBoot f).scribe = s.scribe := rfl
@[simp] theorem State.modBoot_ctxs (s : State) (f : Boot → Boot) : (s.modBoot f).ctxs = s.ctxs := rfl
@[simp] theorem State.modBoot_ctxRegs (s : State) (f : Boot → Boot) : (s.modBoot f).ctxRegs = s.ctxRegs := rfl
@[simp] theorem State.modBoot_links (s : State) (f : Boot → Boot) : (s.modBoot f).links = s.links := rfl
@[simp] theorem State.modBoot_fresh (s : State) (f : Boot → Boot) : (s.modBoot f).fresh = s.fresh := rfl

-- setStage: aon

@[simp] theorem State.setStage_aon (s : State) (n : Nat) : (s.setStage n).aon = { s.aon with boot := { s.aon.boot with stage := n, stageTick := s.now .h0 } } := rfl
@[simp] theorem State.setStage_sill (s : State) (n : Nat) : (s.setStage n).sill = s.sill := rfl
@[simp] theorem State.setStage_hif (s : State) (n : Nat) : (s.setStage n).hif = s.hif := rfl
@[simp] theorem State.setStage_plan (s : State) (n : Nat) : (s.setStage n).plan = s.plan := rfl
@[simp] theorem State.setStage_planBuilt (s : State) (n : Nat) : (s.setStage n).planBuilt = s.planBuilt := rfl
@[simp] theorem State.setStage_svc (s : State) (n : Nat) : (s.setStage n).svc = s.svc := rfl
@[simp] theorem State.setStage_svcWait (s : State) (n : Nat) : (s.setStage n).svcWait = s.svcWait := rfl
@[simp] theorem State.setStage_svcOwed (s : State) (n : Nat) : (s.setStage n).svcOwed = s.svcOwed := rfl
@[simp] theorem State.setStage_pages (s : State) (n : Nat) : (s.setStage n).pages = s.pages := rfl
@[simp] theorem State.setStage_loft (s : State) (n : Nat) : (s.setStage n).loft = s.loft := rfl
@[simp] theorem State.setStage_sites (s : State) (n : Nat) : (s.setStage n).sites = s.sites := rfl
@[simp] theorem State.setStage_yard (s : State) (n : Nat) : (s.setStage n).yard = s.yard := rfl
@[simp] theorem State.setStage_migSpent (s : State) (n : Nat) : (s.setStage n).migSpent = s.migSpent := rfl
@[simp] theorem State.setStage_epochEnded (s : State) (n : Nat) : (s.setStage n).epochEnded = s.epochEnded := rfl
@[simp] theorem State.setStage_aug (s : State) (n : Nat) : (s.setStage n).aug = s.aug := rfl
@[simp] theorem State.setStage_streams (s : State) (n : Nat) : (s.setStage n).streams = s.streams := rfl
@[simp] theorem State.setStage_fetches (s : State) (n : Nat) : (s.setStage n).fetches = s.fetches := rfl
@[simp] theorem State.setStage_handles (s : State) (n : Nat) : (s.setStage n).handles = s.handles := rfl
@[simp] theorem State.setStage_reqs (s : State) (n : Nat) : (s.setStage n).reqs = s.reqs := rfl
@[simp] theorem State.setStage_faults (s : State) (n : Nat) : (s.setStage n).faults = s.faults := rfl
@[simp] theorem State.setStage_lists (s : State) (n : Nat) : (s.setStage n).lists = s.lists := rfl
@[simp] theorem State.setStage_bays (s : State) (n : Nat) : (s.setStage n).bays = s.bays := rfl
@[simp] theorem State.setStage_scribe (s : State) (n : Nat) : (s.setStage n).scribe = s.scribe := rfl
@[simp] theorem State.setStage_ctxs (s : State) (n : Nat) : (s.setStage n).ctxs = s.ctxs := rfl
@[simp] theorem State.setStage_ctxRegs (s : State) (n : Nat) : (s.setStage n).ctxRegs = s.ctxRegs := rfl
@[simp] theorem State.setStage_links (s : State) (n : Nat) : (s.setStage n).links = s.links := rfl
@[simp] theorem State.setStage_fresh (s : State) (n : Nat) : (s.setStage n).fresh = s.fresh := rfl

-- modJoiner: aon

@[simp] theorem State.modJoiner_aon (s : State) (h : Half) (f : Joiner → Joiner) : (s.modJoiner h f).aon = { s.aon with joiners := s.aon.joiners.set h (f (s.aon.joiners.get h)) } := rfl
@[simp] theorem State.modJoiner_sill (s : State) (h : Half) (f : Joiner → Joiner) : (s.modJoiner h f).sill = s.sill := rfl
@[simp] theorem State.modJoiner_hif (s : State) (h : Half) (f : Joiner → Joiner) : (s.modJoiner h f).hif = s.hif := rfl
@[simp] theorem State.modJoiner_plan (s : State) (h : Half) (f : Joiner → Joiner) : (s.modJoiner h f).plan = s.plan := rfl
@[simp] theorem State.modJoiner_planBuilt (s : State) (h : Half) (f : Joiner → Joiner) : (s.modJoiner h f).planBuilt = s.planBuilt := rfl
@[simp] theorem State.modJoiner_svc (s : State) (h : Half) (f : Joiner → Joiner) : (s.modJoiner h f).svc = s.svc := rfl
@[simp] theorem State.modJoiner_svcWait (s : State) (h : Half) (f : Joiner → Joiner) : (s.modJoiner h f).svcWait = s.svcWait := rfl
@[simp] theorem State.modJoiner_svcOwed (s : State) (h : Half) (f : Joiner → Joiner) : (s.modJoiner h f).svcOwed = s.svcOwed := rfl
@[simp] theorem State.modJoiner_pages (s : State) (h : Half) (f : Joiner → Joiner) : (s.modJoiner h f).pages = s.pages := rfl
@[simp] theorem State.modJoiner_loft (s : State) (h : Half) (f : Joiner → Joiner) : (s.modJoiner h f).loft = s.loft := rfl
@[simp] theorem State.modJoiner_sites (s : State) (h : Half) (f : Joiner → Joiner) : (s.modJoiner h f).sites = s.sites := rfl
@[simp] theorem State.modJoiner_yard (s : State) (h : Half) (f : Joiner → Joiner) : (s.modJoiner h f).yard = s.yard := rfl
@[simp] theorem State.modJoiner_migSpent (s : State) (h : Half) (f : Joiner → Joiner) : (s.modJoiner h f).migSpent = s.migSpent := rfl
@[simp] theorem State.modJoiner_epochEnded (s : State) (h : Half) (f : Joiner → Joiner) : (s.modJoiner h f).epochEnded = s.epochEnded := rfl
@[simp] theorem State.modJoiner_aug (s : State) (h : Half) (f : Joiner → Joiner) : (s.modJoiner h f).aug = s.aug := rfl
@[simp] theorem State.modJoiner_streams (s : State) (h : Half) (f : Joiner → Joiner) : (s.modJoiner h f).streams = s.streams := rfl
@[simp] theorem State.modJoiner_fetches (s : State) (h : Half) (f : Joiner → Joiner) : (s.modJoiner h f).fetches = s.fetches := rfl
@[simp] theorem State.modJoiner_handles (s : State) (h : Half) (f : Joiner → Joiner) : (s.modJoiner h f).handles = s.handles := rfl
@[simp] theorem State.modJoiner_reqs (s : State) (h : Half) (f : Joiner → Joiner) : (s.modJoiner h f).reqs = s.reqs := rfl
@[simp] theorem State.modJoiner_faults (s : State) (h : Half) (f : Joiner → Joiner) : (s.modJoiner h f).faults = s.faults := rfl
@[simp] theorem State.modJoiner_lists (s : State) (h : Half) (f : Joiner → Joiner) : (s.modJoiner h f).lists = s.lists := rfl
@[simp] theorem State.modJoiner_bays (s : State) (h : Half) (f : Joiner → Joiner) : (s.modJoiner h f).bays = s.bays := rfl
@[simp] theorem State.modJoiner_scribe (s : State) (h : Half) (f : Joiner → Joiner) : (s.modJoiner h f).scribe = s.scribe := rfl
@[simp] theorem State.modJoiner_ctxs (s : State) (h : Half) (f : Joiner → Joiner) : (s.modJoiner h f).ctxs = s.ctxs := rfl
@[simp] theorem State.modJoiner_ctxRegs (s : State) (h : Half) (f : Joiner → Joiner) : (s.modJoiner h f).ctxRegs = s.ctxRegs := rfl
@[simp] theorem State.modJoiner_links (s : State) (h : Half) (f : Joiner → Joiner) : (s.modJoiner h f).links = s.links := rfl
@[simp] theorem State.modJoiner_fresh (s : State) (h : Half) (f : Joiner → Joiner) : (s.modJoiner h f).fresh = s.fresh := rfl

-- setCheck: scribe

@[simp] theorem State.setCheck_aon (s : State) (y : Check) : (s.setCheck y).aon = s.aon := rfl
@[simp] theorem State.setCheck_sill (s : State) (y : Check) : (s.setCheck y).sill = s.sill := rfl
@[simp] theorem State.setCheck_hif (s : State) (y : Check) : (s.setCheck y).hif = s.hif := rfl
@[simp] theorem State.setCheck_plan (s : State) (y : Check) : (s.setCheck y).plan = s.plan := rfl
@[simp] theorem State.setCheck_planBuilt (s : State) (y : Check) : (s.setCheck y).planBuilt = s.planBuilt := rfl
@[simp] theorem State.setCheck_svc (s : State) (y : Check) : (s.setCheck y).svc = s.svc := rfl
@[simp] theorem State.setCheck_svcWait (s : State) (y : Check) : (s.setCheck y).svcWait = s.svcWait := rfl
@[simp] theorem State.setCheck_svcOwed (s : State) (y : Check) : (s.setCheck y).svcOwed = s.svcOwed := rfl
@[simp] theorem State.setCheck_pages (s : State) (y : Check) : (s.setCheck y).pages = s.pages := rfl
@[simp] theorem State.setCheck_loft (s : State) (y : Check) : (s.setCheck y).loft = s.loft := rfl
@[simp] theorem State.setCheck_sites (s : State) (y : Check) : (s.setCheck y).sites = s.sites := rfl
@[simp] theorem State.setCheck_yard (s : State) (y : Check) : (s.setCheck y).yard = s.yard := rfl
@[simp] theorem State.setCheck_migSpent (s : State) (y : Check) : (s.setCheck y).migSpent = s.migSpent := rfl
@[simp] theorem State.setCheck_epochEnded (s : State) (y : Check) : (s.setCheck y).epochEnded = s.epochEnded := rfl
@[simp] theorem State.setCheck_aug (s : State) (y : Check) : (s.setCheck y).aug = s.aug := rfl
@[simp] theorem State.setCheck_streams (s : State) (y : Check) : (s.setCheck y).streams = s.streams := rfl
@[simp] theorem State.setCheck_fetches (s : State) (y : Check) : (s.setCheck y).fetches = s.fetches := rfl
@[simp] theorem State.setCheck_handles (s : State) (y : Check) : (s.setCheck y).handles = s.handles := rfl
@[simp] theorem State.setCheck_reqs (s : State) (y : Check) : (s.setCheck y).reqs = s.reqs := rfl
@[simp] theorem State.setCheck_faults (s : State) (y : Check) : (s.setCheck y).faults = s.faults := rfl
@[simp] theorem State.setCheck_lists (s : State) (y : Check) : (s.setCheck y).lists = s.lists := rfl
@[simp] theorem State.setCheck_bays (s : State) (y : Check) : (s.setCheck y).bays = s.bays := rfl
@[simp] theorem State.setCheck_scribe (s : State) (y : Check) : (s.setCheck y).scribe = { s.scribe with checks := s.scribe.checks.map fun c => if c.id == y.id then y else c } := rfl
@[simp] theorem State.setCheck_ctxs (s : State) (y : Check) : (s.setCheck y).ctxs = s.ctxs := rfl
@[simp] theorem State.setCheck_ctxRegs (s : State) (y : Check) : (s.setCheck y).ctxRegs = s.ctxRegs := rfl
@[simp] theorem State.setCheck_links (s : State) (y : Check) : (s.setCheck y).links = s.links := rfl
@[simp] theorem State.setCheck_fresh (s : State) (y : Check) : (s.setCheck y).fresh = s.fresh := rfl

-- setRun: scribe

@[simp] theorem State.setRun_aon (s : State) (y : Run) : (s.setRun y).aon = s.aon := rfl
@[simp] theorem State.setRun_sill (s : State) (y : Run) : (s.setRun y).sill = s.sill := rfl
@[simp] theorem State.setRun_hif (s : State) (y : Run) : (s.setRun y).hif = s.hif := rfl
@[simp] theorem State.setRun_plan (s : State) (y : Run) : (s.setRun y).plan = s.plan := rfl
@[simp] theorem State.setRun_planBuilt (s : State) (y : Run) : (s.setRun y).planBuilt = s.planBuilt := rfl
@[simp] theorem State.setRun_svc (s : State) (y : Run) : (s.setRun y).svc = s.svc := rfl
@[simp] theorem State.setRun_svcWait (s : State) (y : Run) : (s.setRun y).svcWait = s.svcWait := rfl
@[simp] theorem State.setRun_svcOwed (s : State) (y : Run) : (s.setRun y).svcOwed = s.svcOwed := rfl
@[simp] theorem State.setRun_pages (s : State) (y : Run) : (s.setRun y).pages = s.pages := rfl
@[simp] theorem State.setRun_loft (s : State) (y : Run) : (s.setRun y).loft = s.loft := rfl
@[simp] theorem State.setRun_sites (s : State) (y : Run) : (s.setRun y).sites = s.sites := rfl
@[simp] theorem State.setRun_yard (s : State) (y : Run) : (s.setRun y).yard = s.yard := rfl
@[simp] theorem State.setRun_migSpent (s : State) (y : Run) : (s.setRun y).migSpent = s.migSpent := rfl
@[simp] theorem State.setRun_epochEnded (s : State) (y : Run) : (s.setRun y).epochEnded = s.epochEnded := rfl
@[simp] theorem State.setRun_aug (s : State) (y : Run) : (s.setRun y).aug = s.aug := rfl
@[simp] theorem State.setRun_streams (s : State) (y : Run) : (s.setRun y).streams = s.streams := rfl
@[simp] theorem State.setRun_fetches (s : State) (y : Run) : (s.setRun y).fetches = s.fetches := rfl
@[simp] theorem State.setRun_handles (s : State) (y : Run) : (s.setRun y).handles = s.handles := rfl
@[simp] theorem State.setRun_reqs (s : State) (y : Run) : (s.setRun y).reqs = s.reqs := rfl
@[simp] theorem State.setRun_faults (s : State) (y : Run) : (s.setRun y).faults = s.faults := rfl
@[simp] theorem State.setRun_lists (s : State) (y : Run) : (s.setRun y).lists = s.lists := rfl
@[simp] theorem State.setRun_bays (s : State) (y : Run) : (s.setRun y).bays = s.bays := rfl
@[simp] theorem State.setRun_scribe (s : State) (y : Run) : (s.setRun y).scribe = { s.scribe with runs := s.scribe.runs.map fun r => if r.core == y.core then y else r } := rfl
@[simp] theorem State.setRun_ctxs (s : State) (y : Run) : (s.setRun y).ctxs = s.ctxs := rfl
@[simp] theorem State.setRun_ctxRegs (s : State) (y : Run) : (s.setRun y).ctxRegs = s.ctxRegs := rfl
@[simp] theorem State.setRun_links (s : State) (y : Run) : (s.setRun y).links = s.links := rfl
@[simp] theorem State.setRun_fresh (s : State) (y : Run) : (s.setRun y).fresh = s.fresh := rfl

-- setRail: aon

@[simp] theorem State.setRail_aon (s : State) (n : Nat) (x : RailState) : (s.setRail n x).aon = { s.aon with rails := tset s.aon.rails n x } := rfl
@[simp] theorem State.setRail_sill (s : State) (n : Nat) (x : RailState) : (s.setRail n x).sill = s.sill := rfl
@[simp] theorem State.setRail_hif (s : State) (n : Nat) (x : RailState) : (s.setRail n x).hif = s.hif := rfl
@[simp] theorem State.setRail_plan (s : State) (n : Nat) (x : RailState) : (s.setRail n x).plan = s.plan := rfl
@[simp] theorem State.setRail_planBuilt (s : State) (n : Nat) (x : RailState) : (s.setRail n x).planBuilt = s.planBuilt := rfl
@[simp] theorem State.setRail_svc (s : State) (n : Nat) (x : RailState) : (s.setRail n x).svc = s.svc := rfl
@[simp] theorem State.setRail_svcWait (s : State) (n : Nat) (x : RailState) : (s.setRail n x).svcWait = s.svcWait := rfl
@[simp] theorem State.setRail_svcOwed (s : State) (n : Nat) (x : RailState) : (s.setRail n x).svcOwed = s.svcOwed := rfl
@[simp] theorem State.setRail_pages (s : State) (n : Nat) (x : RailState) : (s.setRail n x).pages = s.pages := rfl
@[simp] theorem State.setRail_loft (s : State) (n : Nat) (x : RailState) : (s.setRail n x).loft = s.loft := rfl
@[simp] theorem State.setRail_sites (s : State) (n : Nat) (x : RailState) : (s.setRail n x).sites = s.sites := rfl
@[simp] theorem State.setRail_yard (s : State) (n : Nat) (x : RailState) : (s.setRail n x).yard = s.yard := rfl
@[simp] theorem State.setRail_migSpent (s : State) (n : Nat) (x : RailState) : (s.setRail n x).migSpent = s.migSpent := rfl
@[simp] theorem State.setRail_epochEnded (s : State) (n : Nat) (x : RailState) : (s.setRail n x).epochEnded = s.epochEnded := rfl
@[simp] theorem State.setRail_aug (s : State) (n : Nat) (x : RailState) : (s.setRail n x).aug = s.aug := rfl
@[simp] theorem State.setRail_streams (s : State) (n : Nat) (x : RailState) : (s.setRail n x).streams = s.streams := rfl
@[simp] theorem State.setRail_fetches (s : State) (n : Nat) (x : RailState) : (s.setRail n x).fetches = s.fetches := rfl
@[simp] theorem State.setRail_handles (s : State) (n : Nat) (x : RailState) : (s.setRail n x).handles = s.handles := rfl
@[simp] theorem State.setRail_reqs (s : State) (n : Nat) (x : RailState) : (s.setRail n x).reqs = s.reqs := rfl
@[simp] theorem State.setRail_faults (s : State) (n : Nat) (x : RailState) : (s.setRail n x).faults = s.faults := rfl
@[simp] theorem State.setRail_lists (s : State) (n : Nat) (x : RailState) : (s.setRail n x).lists = s.lists := rfl
@[simp] theorem State.setRail_bays (s : State) (n : Nat) (x : RailState) : (s.setRail n x).bays = s.bays := rfl
@[simp] theorem State.setRail_scribe (s : State) (n : Nat) (x : RailState) : (s.setRail n x).scribe = s.scribe := rfl
@[simp] theorem State.setRail_ctxs (s : State) (n : Nat) (x : RailState) : (s.setRail n x).ctxs = s.ctxs := rfl
@[simp] theorem State.setRail_ctxRegs (s : State) (n : Nat) (x : RailState) : (s.setRail n x).ctxRegs = s.ctxRegs := rfl
@[simp] theorem State.setRail_links (s : State) (n : Nat) (x : RailState) : (s.setRail n x).links = s.links := rfl
@[simp] theorem State.setRail_fresh (s : State) (n : Nat) (x : RailState) : (s.setRail n x).fresh = s.fresh := rfl

-- setSiteEntry: plan

@[simp] theorem State.setSiteEntry_aon (s : State) (m : Nat) (e : SiteEntry) : (s.setSiteEntry m e).aon = s.aon := rfl
@[simp] theorem State.setSiteEntry_sill (s : State) (m : Nat) (e : SiteEntry) : (s.setSiteEntry m e).sill = s.sill := rfl
@[simp] theorem State.setSiteEntry_hif (s : State) (m : Nat) (e : SiteEntry) : (s.setSiteEntry m e).hif = s.hif := rfl
@[simp] theorem State.setSiteEntry_plan (s : State) (m : Nat) (e : SiteEntry) : (s.setSiteEntry m e).plan = { s.plan with sites := tset s.plan.sites m e } := rfl
@[simp] theorem State.setSiteEntry_planBuilt (s : State) (m : Nat) (e : SiteEntry) : (s.setSiteEntry m e).planBuilt = s.planBuilt := rfl
@[simp] theorem State.setSiteEntry_svc (s : State) (m : Nat) (e : SiteEntry) : (s.setSiteEntry m e).svc = s.svc := rfl
@[simp] theorem State.setSiteEntry_svcWait (s : State) (m : Nat) (e : SiteEntry) : (s.setSiteEntry m e).svcWait = s.svcWait := rfl
@[simp] theorem State.setSiteEntry_svcOwed (s : State) (m : Nat) (e : SiteEntry) : (s.setSiteEntry m e).svcOwed = s.svcOwed := rfl
@[simp] theorem State.setSiteEntry_pages (s : State) (m : Nat) (e : SiteEntry) : (s.setSiteEntry m e).pages = s.pages := rfl
@[simp] theorem State.setSiteEntry_loft (s : State) (m : Nat) (e : SiteEntry) : (s.setSiteEntry m e).loft = s.loft := rfl
@[simp] theorem State.setSiteEntry_sites (s : State) (m : Nat) (e : SiteEntry) : (s.setSiteEntry m e).sites = s.sites := rfl
@[simp] theorem State.setSiteEntry_yard (s : State) (m : Nat) (e : SiteEntry) : (s.setSiteEntry m e).yard = s.yard := rfl
@[simp] theorem State.setSiteEntry_migSpent (s : State) (m : Nat) (e : SiteEntry) : (s.setSiteEntry m e).migSpent = s.migSpent := rfl
@[simp] theorem State.setSiteEntry_epochEnded (s : State) (m : Nat) (e : SiteEntry) : (s.setSiteEntry m e).epochEnded = s.epochEnded := rfl
@[simp] theorem State.setSiteEntry_aug (s : State) (m : Nat) (e : SiteEntry) : (s.setSiteEntry m e).aug = s.aug := rfl
@[simp] theorem State.setSiteEntry_streams (s : State) (m : Nat) (e : SiteEntry) : (s.setSiteEntry m e).streams = s.streams := rfl
@[simp] theorem State.setSiteEntry_fetches (s : State) (m : Nat) (e : SiteEntry) : (s.setSiteEntry m e).fetches = s.fetches := rfl
@[simp] theorem State.setSiteEntry_handles (s : State) (m : Nat) (e : SiteEntry) : (s.setSiteEntry m e).handles = s.handles := rfl
@[simp] theorem State.setSiteEntry_reqs (s : State) (m : Nat) (e : SiteEntry) : (s.setSiteEntry m e).reqs = s.reqs := rfl
@[simp] theorem State.setSiteEntry_faults (s : State) (m : Nat) (e : SiteEntry) : (s.setSiteEntry m e).faults = s.faults := rfl
@[simp] theorem State.setSiteEntry_lists (s : State) (m : Nat) (e : SiteEntry) : (s.setSiteEntry m e).lists = s.lists := rfl
@[simp] theorem State.setSiteEntry_bays (s : State) (m : Nat) (e : SiteEntry) : (s.setSiteEntry m e).bays = s.bays := rfl
@[simp] theorem State.setSiteEntry_scribe (s : State) (m : Nat) (e : SiteEntry) : (s.setSiteEntry m e).scribe = s.scribe := rfl
@[simp] theorem State.setSiteEntry_ctxs (s : State) (m : Nat) (e : SiteEntry) : (s.setSiteEntry m e).ctxs = s.ctxs := rfl
@[simp] theorem State.setSiteEntry_ctxRegs (s : State) (m : Nat) (e : SiteEntry) : (s.setSiteEntry m e).ctxRegs = s.ctxRegs := rfl
@[simp] theorem State.setSiteEntry_links (s : State) (m : Nat) (e : SiteEntry) : (s.setSiteEntry m e).links = s.links := rfl
@[simp] theorem State.setSiteEntry_fresh (s : State) (m : Nat) (e : SiteEntry) : (s.setSiteEntry m e).fresh = s.fresh := rfl

-- setPortEntry: plan

@[simp] theorem State.setPortEntry_aon (s : State) (n : Nat) (e : PortEntry) : (s.setPortEntry n e).aon = s.aon := rfl
@[simp] theorem State.setPortEntry_sill (s : State) (n : Nat) (e : PortEntry) : (s.setPortEntry n e).sill = s.sill := rfl
@[simp] theorem State.setPortEntry_hif (s : State) (n : Nat) (e : PortEntry) : (s.setPortEntry n e).hif = s.hif := rfl
@[simp] theorem State.setPortEntry_plan (s : State) (n : Nat) (e : PortEntry) : (s.setPortEntry n e).plan = { s.plan with ports := tset s.plan.ports n e } := rfl
@[simp] theorem State.setPortEntry_planBuilt (s : State) (n : Nat) (e : PortEntry) : (s.setPortEntry n e).planBuilt = s.planBuilt := rfl
@[simp] theorem State.setPortEntry_svc (s : State) (n : Nat) (e : PortEntry) : (s.setPortEntry n e).svc = s.svc := rfl
@[simp] theorem State.setPortEntry_svcWait (s : State) (n : Nat) (e : PortEntry) : (s.setPortEntry n e).svcWait = s.svcWait := rfl
@[simp] theorem State.setPortEntry_svcOwed (s : State) (n : Nat) (e : PortEntry) : (s.setPortEntry n e).svcOwed = s.svcOwed := rfl
@[simp] theorem State.setPortEntry_pages (s : State) (n : Nat) (e : PortEntry) : (s.setPortEntry n e).pages = s.pages := rfl
@[simp] theorem State.setPortEntry_loft (s : State) (n : Nat) (e : PortEntry) : (s.setPortEntry n e).loft = s.loft := rfl
@[simp] theorem State.setPortEntry_sites (s : State) (n : Nat) (e : PortEntry) : (s.setPortEntry n e).sites = s.sites := rfl
@[simp] theorem State.setPortEntry_yard (s : State) (n : Nat) (e : PortEntry) : (s.setPortEntry n e).yard = s.yard := rfl
@[simp] theorem State.setPortEntry_migSpent (s : State) (n : Nat) (e : PortEntry) : (s.setPortEntry n e).migSpent = s.migSpent := rfl
@[simp] theorem State.setPortEntry_epochEnded (s : State) (n : Nat) (e : PortEntry) : (s.setPortEntry n e).epochEnded = s.epochEnded := rfl
@[simp] theorem State.setPortEntry_aug (s : State) (n : Nat) (e : PortEntry) : (s.setPortEntry n e).aug = s.aug := rfl
@[simp] theorem State.setPortEntry_streams (s : State) (n : Nat) (e : PortEntry) : (s.setPortEntry n e).streams = s.streams := rfl
@[simp] theorem State.setPortEntry_fetches (s : State) (n : Nat) (e : PortEntry) : (s.setPortEntry n e).fetches = s.fetches := rfl
@[simp] theorem State.setPortEntry_handles (s : State) (n : Nat) (e : PortEntry) : (s.setPortEntry n e).handles = s.handles := rfl
@[simp] theorem State.setPortEntry_reqs (s : State) (n : Nat) (e : PortEntry) : (s.setPortEntry n e).reqs = s.reqs := rfl
@[simp] theorem State.setPortEntry_faults (s : State) (n : Nat) (e : PortEntry) : (s.setPortEntry n e).faults = s.faults := rfl
@[simp] theorem State.setPortEntry_lists (s : State) (n : Nat) (e : PortEntry) : (s.setPortEntry n e).lists = s.lists := rfl
@[simp] theorem State.setPortEntry_bays (s : State) (n : Nat) (e : PortEntry) : (s.setPortEntry n e).bays = s.bays := rfl
@[simp] theorem State.setPortEntry_scribe (s : State) (n : Nat) (e : PortEntry) : (s.setPortEntry n e).scribe = s.scribe := rfl
@[simp] theorem State.setPortEntry_ctxs (s : State) (n : Nat) (e : PortEntry) : (s.setPortEntry n e).ctxs = s.ctxs := rfl
@[simp] theorem State.setPortEntry_ctxRegs (s : State) (n : Nat) (e : PortEntry) : (s.setPortEntry n e).ctxRegs = s.ctxRegs := rfl
@[simp] theorem State.setPortEntry_links (s : State) (n : Nat) (e : PortEntry) : (s.setPortEntry n e).links = s.links := rfl
@[simp] theorem State.setPortEntry_fresh (s : State) (n : Nat) (e : PortEntry) : (s.setPortEntry n e).fresh = s.fresh := rfl

-- modPage: pages

@[simp] theorem State.modPage_aon (s : State) (id : Nat) (f : Page → Page) : (s.modPage id f).aon = s.aon := rfl
@[simp] theorem State.modPage_sill (s : State) (id : Nat) (f : Page → Page) : (s.modPage id f).sill = s.sill := rfl
@[simp] theorem State.modPage_hif (s : State) (id : Nat) (f : Page → Page) : (s.modPage id f).hif = s.hif := rfl
@[simp] theorem State.modPage_plan (s : State) (id : Nat) (f : Page → Page) : (s.modPage id f).plan = s.plan := rfl
@[simp] theorem State.modPage_planBuilt (s : State) (id : Nat) (f : Page → Page) : (s.modPage id f).planBuilt = s.planBuilt := rfl
@[simp] theorem State.modPage_svc (s : State) (id : Nat) (f : Page → Page) : (s.modPage id f).svc = s.svc := rfl
@[simp] theorem State.modPage_svcWait (s : State) (id : Nat) (f : Page → Page) : (s.modPage id f).svcWait = s.svcWait := rfl
@[simp] theorem State.modPage_svcOwed (s : State) (id : Nat) (f : Page → Page) : (s.modPage id f).svcOwed = s.svcOwed := rfl
@[simp] theorem State.modPage_pages (s : State) (id : Nat) (f : Page → Page) : (s.modPage id f).pages = s.pages.map fun p => if p.id == id then f p else p := rfl
@[simp] theorem State.modPage_loft (s : State) (id : Nat) (f : Page → Page) : (s.modPage id f).loft = s.loft := rfl
@[simp] theorem State.modPage_sites (s : State) (id : Nat) (f : Page → Page) : (s.modPage id f).sites = s.sites := rfl
@[simp] theorem State.modPage_yard (s : State) (id : Nat) (f : Page → Page) : (s.modPage id f).yard = s.yard := rfl
@[simp] theorem State.modPage_migSpent (s : State) (id : Nat) (f : Page → Page) : (s.modPage id f).migSpent = s.migSpent := rfl
@[simp] theorem State.modPage_epochEnded (s : State) (id : Nat) (f : Page → Page) : (s.modPage id f).epochEnded = s.epochEnded := rfl
@[simp] theorem State.modPage_aug (s : State) (id : Nat) (f : Page → Page) : (s.modPage id f).aug = s.aug := rfl
@[simp] theorem State.modPage_streams (s : State) (id : Nat) (f : Page → Page) : (s.modPage id f).streams = s.streams := rfl
@[simp] theorem State.modPage_fetches (s : State) (id : Nat) (f : Page → Page) : (s.modPage id f).fetches = s.fetches := rfl
@[simp] theorem State.modPage_handles (s : State) (id : Nat) (f : Page → Page) : (s.modPage id f).handles = s.handles := rfl
@[simp] theorem State.modPage_reqs (s : State) (id : Nat) (f : Page → Page) : (s.modPage id f).reqs = s.reqs := rfl
@[simp] theorem State.modPage_faults (s : State) (id : Nat) (f : Page → Page) : (s.modPage id f).faults = s.faults := rfl
@[simp] theorem State.modPage_lists (s : State) (id : Nat) (f : Page → Page) : (s.modPage id f).lists = s.lists := rfl
@[simp] theorem State.modPage_bays (s : State) (id : Nat) (f : Page → Page) : (s.modPage id f).bays = s.bays := rfl
@[simp] theorem State.modPage_scribe (s : State) (id : Nat) (f : Page → Page) : (s.modPage id f).scribe = s.scribe := rfl
@[simp] theorem State.modPage_ctxs (s : State) (id : Nat) (f : Page → Page) : (s.modPage id f).ctxs = s.ctxs := rfl
@[simp] theorem State.modPage_ctxRegs (s : State) (id : Nat) (f : Page → Page) : (s.modPage id f).ctxRegs = s.ctxRegs := rfl
@[simp] theorem State.modPage_links (s : State) (id : Nat) (f : Page → Page) : (s.modPage id f).links = s.links := rfl
@[simp] theorem State.modPage_fresh (s : State) (id : Nat) (f : Page → Page) : (s.modPage id f).fresh = s.fresh := rfl

-- setStream: streams

@[simp] theorem State.setStream_aon (s : State) (y : Stream) : (s.setStream y).aon = s.aon := rfl
@[simp] theorem State.setStream_sill (s : State) (y : Stream) : (s.setStream y).sill = s.sill := rfl
@[simp] theorem State.setStream_hif (s : State) (y : Stream) : (s.setStream y).hif = s.hif := rfl
@[simp] theorem State.setStream_plan (s : State) (y : Stream) : (s.setStream y).plan = s.plan := rfl
@[simp] theorem State.setStream_planBuilt (s : State) (y : Stream) : (s.setStream y).planBuilt = s.planBuilt := rfl
@[simp] theorem State.setStream_svc (s : State) (y : Stream) : (s.setStream y).svc = s.svc := rfl
@[simp] theorem State.setStream_svcWait (s : State) (y : Stream) : (s.setStream y).svcWait = s.svcWait := rfl
@[simp] theorem State.setStream_svcOwed (s : State) (y : Stream) : (s.setStream y).svcOwed = s.svcOwed := rfl
@[simp] theorem State.setStream_pages (s : State) (y : Stream) : (s.setStream y).pages = s.pages := rfl
@[simp] theorem State.setStream_loft (s : State) (y : Stream) : (s.setStream y).loft = s.loft := rfl
@[simp] theorem State.setStream_sites (s : State) (y : Stream) : (s.setStream y).sites = s.sites := rfl
@[simp] theorem State.setStream_yard (s : State) (y : Stream) : (s.setStream y).yard = s.yard := rfl
@[simp] theorem State.setStream_migSpent (s : State) (y : Stream) : (s.setStream y).migSpent = s.migSpent := rfl
@[simp] theorem State.setStream_epochEnded (s : State) (y : Stream) : (s.setStream y).epochEnded = s.epochEnded := rfl
@[simp] theorem State.setStream_aug (s : State) (y : Stream) : (s.setStream y).aug = s.aug := rfl
@[simp] theorem State.setStream_streams (s : State) (y : Stream) : (s.setStream y).streams = s.streams.map fun x => if x.bay == y.bay && x.slot == y.slot then y else x := rfl
@[simp] theorem State.setStream_fetches (s : State) (y : Stream) : (s.setStream y).fetches = s.fetches := rfl
@[simp] theorem State.setStream_handles (s : State) (y : Stream) : (s.setStream y).handles = s.handles := rfl
@[simp] theorem State.setStream_reqs (s : State) (y : Stream) : (s.setStream y).reqs = s.reqs := rfl
@[simp] theorem State.setStream_faults (s : State) (y : Stream) : (s.setStream y).faults = s.faults := rfl
@[simp] theorem State.setStream_lists (s : State) (y : Stream) : (s.setStream y).lists = s.lists := rfl
@[simp] theorem State.setStream_bays (s : State) (y : Stream) : (s.setStream y).bays = s.bays := rfl
@[simp] theorem State.setStream_scribe (s : State) (y : Stream) : (s.setStream y).scribe = s.scribe := rfl
@[simp] theorem State.setStream_ctxs (s : State) (y : Stream) : (s.setStream y).ctxs = s.ctxs := rfl
@[simp] theorem State.setStream_ctxRegs (s : State) (y : Stream) : (s.setStream y).ctxRegs = s.ctxRegs := rfl
@[simp] theorem State.setStream_links (s : State) (y : Stream) : (s.setStream y).links = s.links := rfl
@[simp] theorem State.setStream_fresh (s : State) (y : Stream) : (s.setStream y).fresh = s.fresh := rfl

-- setFetch: fetches

@[simp] theorem State.setFetch_aon (s : State) (g : Fetch) : (s.setFetch g).aon = s.aon := rfl
@[simp] theorem State.setFetch_sill (s : State) (g : Fetch) : (s.setFetch g).sill = s.sill := rfl
@[simp] theorem State.setFetch_hif (s : State) (g : Fetch) : (s.setFetch g).hif = s.hif := rfl
@[simp] theorem State.setFetch_plan (s : State) (g : Fetch) : (s.setFetch g).plan = s.plan := rfl
@[simp] theorem State.setFetch_planBuilt (s : State) (g : Fetch) : (s.setFetch g).planBuilt = s.planBuilt := rfl
@[simp] theorem State.setFetch_svc (s : State) (g : Fetch) : (s.setFetch g).svc = s.svc := rfl
@[simp] theorem State.setFetch_svcWait (s : State) (g : Fetch) : (s.setFetch g).svcWait = s.svcWait := rfl
@[simp] theorem State.setFetch_svcOwed (s : State) (g : Fetch) : (s.setFetch g).svcOwed = s.svcOwed := rfl
@[simp] theorem State.setFetch_pages (s : State) (g : Fetch) : (s.setFetch g).pages = s.pages := rfl
@[simp] theorem State.setFetch_loft (s : State) (g : Fetch) : (s.setFetch g).loft = s.loft := rfl
@[simp] theorem State.setFetch_sites (s : State) (g : Fetch) : (s.setFetch g).sites = s.sites := rfl
@[simp] theorem State.setFetch_yard (s : State) (g : Fetch) : (s.setFetch g).yard = s.yard := rfl
@[simp] theorem State.setFetch_migSpent (s : State) (g : Fetch) : (s.setFetch g).migSpent = s.migSpent := rfl
@[simp] theorem State.setFetch_epochEnded (s : State) (g : Fetch) : (s.setFetch g).epochEnded = s.epochEnded := rfl
@[simp] theorem State.setFetch_aug (s : State) (g : Fetch) : (s.setFetch g).aug = s.aug := rfl
@[simp] theorem State.setFetch_streams (s : State) (g : Fetch) : (s.setFetch g).streams = s.streams := rfl
@[simp] theorem State.setFetch_fetches (s : State) (g : Fetch) : (s.setFetch g).fetches = s.fetches.map fun f => if f.id == g.id then g else f := rfl
@[simp] theorem State.setFetch_handles (s : State) (g : Fetch) : (s.setFetch g).handles = s.handles := rfl
@[simp] theorem State.setFetch_reqs (s : State) (g : Fetch) : (s.setFetch g).reqs = s.reqs := rfl
@[simp] theorem State.setFetch_faults (s : State) (g : Fetch) : (s.setFetch g).faults = s.faults := rfl
@[simp] theorem State.setFetch_lists (s : State) (g : Fetch) : (s.setFetch g).lists = s.lists := rfl
@[simp] theorem State.setFetch_bays (s : State) (g : Fetch) : (s.setFetch g).bays = s.bays := rfl
@[simp] theorem State.setFetch_scribe (s : State) (g : Fetch) : (s.setFetch g).scribe = s.scribe := rfl
@[simp] theorem State.setFetch_ctxs (s : State) (g : Fetch) : (s.setFetch g).ctxs = s.ctxs := rfl
@[simp] theorem State.setFetch_ctxRegs (s : State) (g : Fetch) : (s.setFetch g).ctxRegs = s.ctxRegs := rfl
@[simp] theorem State.setFetch_links (s : State) (g : Fetch) : (s.setFetch g).links = s.links := rfl
@[simp] theorem State.setFetch_fresh (s : State) (g : Fetch) : (s.setFetch g).fresh = s.fresh := rfl

-- setReq: reqs

@[simp] theorem State.setReq_aon (s : State) (id : Nat) (st : ReqState) : (s.setReq id st).aon = s.aon := rfl
@[simp] theorem State.setReq_sill (s : State) (id : Nat) (st : ReqState) : (s.setReq id st).sill = s.sill := rfl
@[simp] theorem State.setReq_hif (s : State) (id : Nat) (st : ReqState) : (s.setReq id st).hif = s.hif := rfl
@[simp] theorem State.setReq_plan (s : State) (id : Nat) (st : ReqState) : (s.setReq id st).plan = s.plan := rfl
@[simp] theorem State.setReq_planBuilt (s : State) (id : Nat) (st : ReqState) : (s.setReq id st).planBuilt = s.planBuilt := rfl
@[simp] theorem State.setReq_svc (s : State) (id : Nat) (st : ReqState) : (s.setReq id st).svc = s.svc := rfl
@[simp] theorem State.setReq_svcWait (s : State) (id : Nat) (st : ReqState) : (s.setReq id st).svcWait = s.svcWait := rfl
@[simp] theorem State.setReq_svcOwed (s : State) (id : Nat) (st : ReqState) : (s.setReq id st).svcOwed = s.svcOwed := rfl
@[simp] theorem State.setReq_pages (s : State) (id : Nat) (st : ReqState) : (s.setReq id st).pages = s.pages := rfl
@[simp] theorem State.setReq_loft (s : State) (id : Nat) (st : ReqState) : (s.setReq id st).loft = s.loft := rfl
@[simp] theorem State.setReq_sites (s : State) (id : Nat) (st : ReqState) : (s.setReq id st).sites = s.sites := rfl
@[simp] theorem State.setReq_yard (s : State) (id : Nat) (st : ReqState) : (s.setReq id st).yard = s.yard := rfl
@[simp] theorem State.setReq_migSpent (s : State) (id : Nat) (st : ReqState) : (s.setReq id st).migSpent = s.migSpent := rfl
@[simp] theorem State.setReq_epochEnded (s : State) (id : Nat) (st : ReqState) : (s.setReq id st).epochEnded = s.epochEnded := rfl
@[simp] theorem State.setReq_aug (s : State) (id : Nat) (st : ReqState) : (s.setReq id st).aug = s.aug := rfl
@[simp] theorem State.setReq_streams (s : State) (id : Nat) (st : ReqState) : (s.setReq id st).streams = s.streams := rfl
@[simp] theorem State.setReq_fetches (s : State) (id : Nat) (st : ReqState) : (s.setReq id st).fetches = s.fetches := rfl
@[simp] theorem State.setReq_handles (s : State) (id : Nat) (st : ReqState) : (s.setReq id st).handles = s.handles := rfl
@[simp] theorem State.setReq_reqs (s : State) (id : Nat) (st : ReqState) : (s.setReq id st).reqs = s.reqs.map fun r => if r.id == id then { r with state := st } else r := rfl
@[simp] theorem State.setReq_faults (s : State) (id : Nat) (st : ReqState) : (s.setReq id st).faults = s.faults := rfl
@[simp] theorem State.setReq_lists (s : State) (id : Nat) (st : ReqState) : (s.setReq id st).lists = s.lists := rfl
@[simp] theorem State.setReq_bays (s : State) (id : Nat) (st : ReqState) : (s.setReq id st).bays = s.bays := rfl
@[simp] theorem State.setReq_scribe (s : State) (id : Nat) (st : ReqState) : (s.setReq id st).scribe = s.scribe := rfl
@[simp] theorem State.setReq_ctxs (s : State) (id : Nat) (st : ReqState) : (s.setReq id st).ctxs = s.ctxs := rfl
@[simp] theorem State.setReq_ctxRegs (s : State) (id : Nat) (st : ReqState) : (s.setReq id st).ctxRegs = s.ctxRegs := rfl
@[simp] theorem State.setReq_links (s : State) (id : Nat) (st : ReqState) : (s.setReq id st).links = s.links := rfl
@[simp] theorem State.setReq_fresh (s : State) (id : Nat) (st : ReqState) : (s.setReq id st).fresh = s.fresh := rfl

-- setList: lists

@[simp] theorem State.setList_aon (s : State) (y : TList) : (s.setList y).aon = s.aon := rfl
@[simp] theorem State.setList_sill (s : State) (y : TList) : (s.setList y).sill = s.sill := rfl
@[simp] theorem State.setList_hif (s : State) (y : TList) : (s.setList y).hif = s.hif := rfl
@[simp] theorem State.setList_plan (s : State) (y : TList) : (s.setList y).plan = s.plan := rfl
@[simp] theorem State.setList_planBuilt (s : State) (y : TList) : (s.setList y).planBuilt = s.planBuilt := rfl
@[simp] theorem State.setList_svc (s : State) (y : TList) : (s.setList y).svc = s.svc := rfl
@[simp] theorem State.setList_svcWait (s : State) (y : TList) : (s.setList y).svcWait = s.svcWait := rfl
@[simp] theorem State.setList_svcOwed (s : State) (y : TList) : (s.setList y).svcOwed = s.svcOwed := rfl
@[simp] theorem State.setList_pages (s : State) (y : TList) : (s.setList y).pages = s.pages := rfl
@[simp] theorem State.setList_loft (s : State) (y : TList) : (s.setList y).loft = s.loft := rfl
@[simp] theorem State.setList_sites (s : State) (y : TList) : (s.setList y).sites = s.sites := rfl
@[simp] theorem State.setList_yard (s : State) (y : TList) : (s.setList y).yard = s.yard := rfl
@[simp] theorem State.setList_migSpent (s : State) (y : TList) : (s.setList y).migSpent = s.migSpent := rfl
@[simp] theorem State.setList_epochEnded (s : State) (y : TList) : (s.setList y).epochEnded = s.epochEnded := rfl
@[simp] theorem State.setList_aug (s : State) (y : TList) : (s.setList y).aug = s.aug := rfl
@[simp] theorem State.setList_streams (s : State) (y : TList) : (s.setList y).streams = s.streams := rfl
@[simp] theorem State.setList_fetches (s : State) (y : TList) : (s.setList y).fetches = s.fetches := rfl
@[simp] theorem State.setList_handles (s : State) (y : TList) : (s.setList y).handles = s.handles := rfl
@[simp] theorem State.setList_reqs (s : State) (y : TList) : (s.setList y).reqs = s.reqs := rfl
@[simp] theorem State.setList_faults (s : State) (y : TList) : (s.setList y).faults = s.faults := rfl
@[simp] theorem State.setList_lists (s : State) (y : TList) : (s.setList y).lists = s.lists.map fun l => if l.bay == y.bay && l.ctx == y.ctx then y else l := rfl
@[simp] theorem State.setList_bays (s : State) (y : TList) : (s.setList y).bays = s.bays := rfl
@[simp] theorem State.setList_scribe (s : State) (y : TList) : (s.setList y).scribe = s.scribe := rfl
@[simp] theorem State.setList_ctxs (s : State) (y : TList) : (s.setList y).ctxs = s.ctxs := rfl
@[simp] theorem State.setList_ctxRegs (s : State) (y : TList) : (s.setList y).ctxRegs = s.ctxRegs := rfl
@[simp] theorem State.setList_links (s : State) (y : TList) : (s.setList y).links = s.links := rfl
@[simp] theorem State.setList_fresh (s : State) (y : TList) : (s.setList y).fresh = s.fresh := rfl

-- setPeg: ctxs

@[simp] theorem State.setPeg_aon (s : State) (ctx k : Nat) (p : Peg) : (s.setPeg ctx k p).aon = s.aon := rfl
@[simp] theorem State.setPeg_sill (s : State) (ctx k : Nat) (p : Peg) : (s.setPeg ctx k p).sill = s.sill := rfl
@[simp] theorem State.setPeg_hif (s : State) (ctx k : Nat) (p : Peg) : (s.setPeg ctx k p).hif = s.hif := rfl
@[simp] theorem State.setPeg_plan (s : State) (ctx k : Nat) (p : Peg) : (s.setPeg ctx k p).plan = s.plan := rfl
@[simp] theorem State.setPeg_planBuilt (s : State) (ctx k : Nat) (p : Peg) : (s.setPeg ctx k p).planBuilt = s.planBuilt := rfl
@[simp] theorem State.setPeg_svc (s : State) (ctx k : Nat) (p : Peg) : (s.setPeg ctx k p).svc = s.svc := rfl
@[simp] theorem State.setPeg_svcWait (s : State) (ctx k : Nat) (p : Peg) : (s.setPeg ctx k p).svcWait = s.svcWait := rfl
@[simp] theorem State.setPeg_svcOwed (s : State) (ctx k : Nat) (p : Peg) : (s.setPeg ctx k p).svcOwed = s.svcOwed := rfl
@[simp] theorem State.setPeg_pages (s : State) (ctx k : Nat) (p : Peg) : (s.setPeg ctx k p).pages = s.pages := rfl
@[simp] theorem State.setPeg_loft (s : State) (ctx k : Nat) (p : Peg) : (s.setPeg ctx k p).loft = s.loft := rfl
@[simp] theorem State.setPeg_sites (s : State) (ctx k : Nat) (p : Peg) : (s.setPeg ctx k p).sites = s.sites := rfl
@[simp] theorem State.setPeg_yard (s : State) (ctx k : Nat) (p : Peg) : (s.setPeg ctx k p).yard = s.yard := rfl
@[simp] theorem State.setPeg_migSpent (s : State) (ctx k : Nat) (p : Peg) : (s.setPeg ctx k p).migSpent = s.migSpent := rfl
@[simp] theorem State.setPeg_epochEnded (s : State) (ctx k : Nat) (p : Peg) : (s.setPeg ctx k p).epochEnded = s.epochEnded := rfl
@[simp] theorem State.setPeg_aug (s : State) (ctx k : Nat) (p : Peg) : (s.setPeg ctx k p).aug = s.aug := rfl
@[simp] theorem State.setPeg_streams (s : State) (ctx k : Nat) (p : Peg) : (s.setPeg ctx k p).streams = s.streams := rfl
@[simp] theorem State.setPeg_fetches (s : State) (ctx k : Nat) (p : Peg) : (s.setPeg ctx k p).fetches = s.fetches := rfl
@[simp] theorem State.setPeg_handles (s : State) (ctx k : Nat) (p : Peg) : (s.setPeg ctx k p).handles = s.handles := rfl
@[simp] theorem State.setPeg_reqs (s : State) (ctx k : Nat) (p : Peg) : (s.setPeg ctx k p).reqs = s.reqs := rfl
@[simp] theorem State.setPeg_faults (s : State) (ctx k : Nat) (p : Peg) : (s.setPeg ctx k p).faults = s.faults := rfl
@[simp] theorem State.setPeg_lists (s : State) (ctx k : Nat) (p : Peg) : (s.setPeg ctx k p).lists = s.lists := rfl
@[simp] theorem State.setPeg_bays (s : State) (ctx k : Nat) (p : Peg) : (s.setPeg ctx k p).bays = s.bays := rfl
@[simp] theorem State.setPeg_scribe (s : State) (ctx k : Nat) (p : Peg) : (s.setPeg ctx k p).scribe = s.scribe := rfl
@[simp] theorem State.setPeg_ctxs (s : State) (ctx k : Nat) (p : Peg) : (s.setPeg ctx k p).ctxs = tset s.ctxs ctx { s.ctx ctx with pegs := tset (s.ctx ctx).pegs k p } := rfl
@[simp] theorem State.setPeg_ctxRegs (s : State) (ctx k : Nat) (p : Peg) : (s.setPeg ctx k p).ctxRegs = s.ctxRegs := rfl
@[simp] theorem State.setPeg_links (s : State) (ctx k : Nat) (p : Peg) : (s.setPeg ctx k p).links = s.links := rfl
@[simp] theorem State.setPeg_fresh (s : State) (ctx k : Nat) (p : Peg) : (s.setPeg ctx k p).fresh = s.fresh := rfl

-- setPlane: ctxs

@[simp] theorem State.setPlane_aon (s : State) (ctx id : Nat) (p : Plane) : (s.setPlane ctx id p).aon = s.aon := rfl
@[simp] theorem State.setPlane_sill (s : State) (ctx id : Nat) (p : Plane) : (s.setPlane ctx id p).sill = s.sill := rfl
@[simp] theorem State.setPlane_hif (s : State) (ctx id : Nat) (p : Plane) : (s.setPlane ctx id p).hif = s.hif := rfl
@[simp] theorem State.setPlane_plan (s : State) (ctx id : Nat) (p : Plane) : (s.setPlane ctx id p).plan = s.plan := rfl
@[simp] theorem State.setPlane_planBuilt (s : State) (ctx id : Nat) (p : Plane) : (s.setPlane ctx id p).planBuilt = s.planBuilt := rfl
@[simp] theorem State.setPlane_svc (s : State) (ctx id : Nat) (p : Plane) : (s.setPlane ctx id p).svc = s.svc := rfl
@[simp] theorem State.setPlane_svcWait (s : State) (ctx id : Nat) (p : Plane) : (s.setPlane ctx id p).svcWait = s.svcWait := rfl
@[simp] theorem State.setPlane_svcOwed (s : State) (ctx id : Nat) (p : Plane) : (s.setPlane ctx id p).svcOwed = s.svcOwed := rfl
@[simp] theorem State.setPlane_pages (s : State) (ctx id : Nat) (p : Plane) : (s.setPlane ctx id p).pages = s.pages := rfl
@[simp] theorem State.setPlane_loft (s : State) (ctx id : Nat) (p : Plane) : (s.setPlane ctx id p).loft = s.loft := rfl
@[simp] theorem State.setPlane_sites (s : State) (ctx id : Nat) (p : Plane) : (s.setPlane ctx id p).sites = s.sites := rfl
@[simp] theorem State.setPlane_yard (s : State) (ctx id : Nat) (p : Plane) : (s.setPlane ctx id p).yard = s.yard := rfl
@[simp] theorem State.setPlane_migSpent (s : State) (ctx id : Nat) (p : Plane) : (s.setPlane ctx id p).migSpent = s.migSpent := rfl
@[simp] theorem State.setPlane_epochEnded (s : State) (ctx id : Nat) (p : Plane) : (s.setPlane ctx id p).epochEnded = s.epochEnded := rfl
@[simp] theorem State.setPlane_aug (s : State) (ctx id : Nat) (p : Plane) : (s.setPlane ctx id p).aug = s.aug := rfl
@[simp] theorem State.setPlane_streams (s : State) (ctx id : Nat) (p : Plane) : (s.setPlane ctx id p).streams = s.streams := rfl
@[simp] theorem State.setPlane_fetches (s : State) (ctx id : Nat) (p : Plane) : (s.setPlane ctx id p).fetches = s.fetches := rfl
@[simp] theorem State.setPlane_handles (s : State) (ctx id : Nat) (p : Plane) : (s.setPlane ctx id p).handles = s.handles := rfl
@[simp] theorem State.setPlane_reqs (s : State) (ctx id : Nat) (p : Plane) : (s.setPlane ctx id p).reqs = s.reqs := rfl
@[simp] theorem State.setPlane_faults (s : State) (ctx id : Nat) (p : Plane) : (s.setPlane ctx id p).faults = s.faults := rfl
@[simp] theorem State.setPlane_lists (s : State) (ctx id : Nat) (p : Plane) : (s.setPlane ctx id p).lists = s.lists := rfl
@[simp] theorem State.setPlane_bays (s : State) (ctx id : Nat) (p : Plane) : (s.setPlane ctx id p).bays = s.bays := rfl
@[simp] theorem State.setPlane_scribe (s : State) (ctx id : Nat) (p : Plane) : (s.setPlane ctx id p).scribe = s.scribe := rfl
@[simp] theorem State.setPlane_ctxs (s : State) (ctx id : Nat) (p : Plane) : (s.setPlane ctx id p).ctxs = tset s.ctxs ctx { s.ctx ctx with planes := tset (s.ctx ctx).planes id p } := rfl
@[simp] theorem State.setPlane_ctxRegs (s : State) (ctx id : Nat) (p : Plane) : (s.setPlane ctx id p).ctxRegs = s.ctxRegs := rfl
@[simp] theorem State.setPlane_links (s : State) (ctx id : Nat) (p : Plane) : (s.setPlane ctx id p).links = s.links := rfl
@[simp] theorem State.setPlane_fresh (s : State) (ctx id : Nat) (p : Plane) : (s.setPlane ctx id p).fresh = s.fresh := rfl

end Sys2Proof.Machine
end

