-- ==== Sys2Proof/Laws/Tables.lean ====
section
/-! SUPPORT. Reading a table after a write, and the parts of State by number after one of them is replaced. -/

namespace Sys2Proof.Machine

set_option Elab.async false

@[simp] theorem tget_tset_same {α : Type} (t : Table α) (k : Nat) (v d : α) : tget (tset t k v) k d = v := by
  induction t with
  | nil => simp [tset, tget]
  | cons e r ih =>
    obtain ⟨j, w⟩ := e
    unfold tset
    split
    · rename_i h; simp [tget, Nat.ne_of_lt h, ih]
    · split <;> simp [tget]

@[simp] theorem tget_tset_ne {α : Type} (t : Table α) {k n : Nat} (v d : α) (h : n ≠ k) : tget (tset t k v) n d = tget t n d := by
  induction t with
  | nil => simp [tset, tget, h.symm]
  | cons e r ih =>
    obtain ⟨j, w⟩ := e
    unfold tset
    split
    · simp [tget, ih]
    · split
      · rename_i h2; simp [tget, h2, h.symm]
      · simp [tget, h.symm]

theorem tget_tset {α : Type} (t : Table α) (k n : Nat) (v d : α) : tget (tset t k v) n d = if n = k then v else tget t n d := by
  split
  · rename_i h; rw [h, tget_tset_same]
  · rename_i h; rw [tget_tset_ne _ _ _ h]

@[simp] theorem tfind_tset_same {α : Type} (t : Table α) (k : Nat) (v : α) : tfind (tset t k v) k = some v := by
  induction t with
  | nil => simp [tset, tfind]
  | cons e r ih =>
    obtain ⟨j, w⟩ := e
    unfold tset
    split
    · rename_i h; simp [tfind, Nat.ne_of_lt h, ih]
    · split <;> simp [tfind]

@[simp] theorem tfind_tset_ne {α : Type} (t : Table α) {k n : Nat} (v : α) (h : n ≠ k) : tfind (tset t k v) n = tfind t n := by
  induction t with
  | nil => simp [tset, tfind, h.symm]
  | cons e r ih =>
    obtain ⟨j, w⟩ := e
    unfold tset
    split
    · simp [tfind, ih]
    · split
      · rename_i h2; simp [tfind, h2, h.symm]
      · simp [tfind, h.symm]

/-- A table that lists no value reads the same under every key. -/
@[simp] theorem tget_nil {α : Type} (k : Nat) (d : α) : tget ([] : Table α) k d = d := rfl

@[simp] theorem PerHalf.get_set_same {α : Type} (p : PerHalf α) (h : Half) (v : α) : (p.set h v).get h = v := by cases h <;> rfl

@[simp] theorem PerHalf.get_set_other {α : Type} (p : PerHalf α) (h : Half) (v : α) : (p.set h v).get h.other = p.get h.other := by cases h <;> rfl

theorem PerHalf.get_set {α : Type} (p : PerHalf α) (h k : Half) (v : α) : (p.set h v).get k = if k = h then v else p.get k := by
  cases h <;> cases k <;> rfl

@[simp] theorem State.fn_setFn (s : State) (n : Nat) (f : Fn) : (s.setFn n f).fn n = f := tget_tset_same ..
@[simp] theorem State.fn_setFn_ne (s : State) {n m : Nat} (f : Fn) (h : m ≠ n) : (s.setFn n f).fn m = s.fn m := tget_tset_ne _ _ _ h
@[simp] theorem State.ctx_setCtx (s : State) (n : Nat) (c : Ctx) : (s.setCtx n c).ctx n = c := tget_tset_same ..
@[simp] theorem State.ctx_setCtx_ne (s : State) {n m : Nat} (c : Ctx) (h : m ≠ n) : (s.setCtx n c).ctx m = s.ctx m := tget_tset_ne _ _ _ h
@[simp] theorem State.bay_setBay (s : State) (n : Nat) (b : Bay) : (s.setBay n b).bay n = b := tget_tset_same ..
@[simp] theorem State.bay_setBay_ne (s : State) {n m : Nat} (b : Bay) (h : m ≠ n) : (s.setBay n b).bay m = s.bay m := tget_tset_ne _ _ _ h
@[simp] theorem State.site_setSite (s : State) (n : Nat) (x : Site) : (s.setSite n x).site n = x := tget_tset_same ..
@[simp] theorem State.site_setSite_ne (s : State) {n m : Nat} (x : Site) (h : m ≠ n) : (s.setSite n x).site m = s.site m := tget_tset_ne _ _ _ h
@[simp] theorem State.port_setPort (s : State) (n : Nat) (p : Port) : (s.setPort n p).port n = p := tget_tset_same ..
@[simp] theorem State.port_setPort_ne (s : State) {n m : Nat} (p : Port) (h : m ≠ n) : (s.setPort n p).port m = s.port m := tget_tset_ne _ _ _ h

end Sys2Proof.Machine
end

