-- ==== Sys2Proof/WellFormed.lean ====
section
/-! DEFINITION. Which commands can come from outside: the lengths and counts that a command's operands must have. A meaning is total on ill-formed commands too; no well-formed one is outside what the rules describe. -/

namespace Sys2Proof

/-- A device read's data has the length that was asked for, or the read failed (R381). -/
def HostData.holds (d : HostData) (n : Nat) : Bool :=
  match d with
  | .data b => b.length == n
  | .failed _ => true

/-- A poll has one reading for each of the eight rails, and names no stage twice (R422). -/
def StageReadings.wf (r : StageReadings) : Bool :=
  r.mv.length == 8 && r.current.length == 8 && r.faulted.dedup == r.faulted && r.silent.dedup == r.silent
    && r.siteFaulted.dedup == r.siteFaulted && r.siteSilent.dedup == r.siteSilent

/-- Whether an auger makes the transfer (R160). -/
def XferId.auger (x : XferId) : Bool :=
  match x with
  | .stream _ _ => true
  | .fetch _ => true
  | .plane _ _ => false
  | .peg _ _ => false

/-- A loft holds the buffers of an auger's transfers (R200). -/
def LoftTarget.wf (t : LoftTarget) : Bool :=
  match t with
  | .buffer x _ => x.auger
  | .page _ _ => true
  | .staged _ => true
  | .descriptor _ _ _ => true

/-- The operands of a command are of the shape its rule gives them: a command entry is 64 bytes (R381), a frame 7,710 bytes (R306), a bridge flit 256 bytes (R451), one evaluation reads the 67 sensors (R472), a partner states the credits of its four data sub-classes (R314), a rank is below 65,536; an access moves at least one byte; a list of cores, lines, lanes or rows names each once. -/
def Instr.wf : Instr → Bool
  | .aonPwrgdAssert _ _ => true
  | .aonPwrgdDeassert => true
  | .railPowerGood _ => true
  | .railStartTimeout _ _ => true
  | .sillBootVerifyDone _ => true
  | .halfSelftestDone _ _ => true
  | .kingPostGrant _ _ _ _ => true
  | .floorplanBuildDone => true
  | .yardInitDone _ _ => true
  | .yardTrainingRoundDone _ f => f.dedup == f
  | .bayWaveStart => true
  | .microcodeBroadcastDone _ m => m.dedup == m
  | .microcodeRepairDone _ m => m.dedup == m
  | .coreSelftestDone _ _ => true
  | .coreSelftestTimeout _ => true
  | .perstAssert _ => true
  | .perstDeassert => true
  | .configRequest _ => true
  | .vfEnableClear => true
  | .functionLevelResetVf _ => true
  | .functionLevelResetPf0 => true
  | .hifDbCmdWrite _ _ => true
  | .commandFetch _ e => e.holds 64
  | .hifDbCplWrite _ _ => true
  | .msixDelayExpiry _ => true
  | .hifDbEvqWrite _ _ => true
  | .hifFnCtlWrite _ _ => true
  | .hifErrStatusWrite _ _ => true
  | .registerWrite _ _ b => decide (0 < b.length)
  | .bar4Read _ n => decide (0 < n)
  | .bar4Write _ b _ => decide (0 < b.length)
  | .spdmRequest _ _ => true
  | .floorplanGet _ _ => true
  | .topoGet _ _ => true
  | .attest _ _ => true
  | .powerLimit _ _ => true
  | .fwUpdate _ _ => true
  | .fwUpdateImageChecked _ => true
  | .fwUpdateImageWritten _ => true
  | .ctxAdmit _ _ => true
  | .ctxRelease _ _ => true
  | .contextStateClear _ => true
  | .map _ _ => true
  | .unmap _ _ => true
  | .xfer _ _ => true
  | .loadTasks _ _ => true
  | .launchStart _ _ => true
  | .launchHalt _ _ => true
  | .streamArm _ _ => true
  | .streamArmRearm _ _ => true
  | .streamArmCancel _ _ => true
  | .streamArmRestart _ _ => true
  | .streamArmRelease _ _ => true
  | .stashArm _ _ => true
  | .stashArmReset _ _ => true
  | .stashArmRelease _ _ => true
  | .planeArm _ _ => true
  | .planeArmRelease _ _ => true
  | .groupDefine _ _ => true
  | .pegLoad _ _ => true
  | .pegLoadRearm _ _ => true
  | .pegLoadUnload _ _ => true
  | .seqTableEditControl _ _ => true
  | .seqTableEditWrite _ _ => true
  | .seqTableEditRead _ _ => true
  | .ledgerSwap _ _ => true
  | .descriptorFetch _ _ => true
  | .taskTake _ _ => true
  | .taskWaitTake _ _ => true
  | .taskWaitTimeout _ _ => true
  | .taskStartRead _ _ => true
  | .lcClaimTimeout _ => true
  | .ledgerAppendLock _ _ => true
  | .tileIssue _ => true
  | .handleWaitTimeout _ _ _ => true
  | .tileDone _ w => (w.map Prod.fst).dedup == w.map Prod.fst
  | .ledgerRecheckDone _ => true
  | .benchParityFail _ => true
  | .spotCheckCompare _ => true
  | .spotCheckThirdCompare _ => true
  | .serviceWriteSigned => true
  | .serviceWriteFlashed => true
  | .rowStatsMergeDone _ _ _ => true
  | .taskComplete _ _ _ => true
  | .streamPassStart _ _ => true
  | .blockTranslate x => x.auger
  | .slotGrant _ => true
  | .lineRequestComplete _ _ => true
  | .semPairAugerTake _ _ => true
  | .semPairAgentTake _ _ _ _ => true
  | .joinerFaultResolve _ => true
  | .faultResolveTimeout _ => true
  | .stashClaim _ => true
  | .stashClaimMapped _ => true
  | .stashDropDone _ => true
  | .yardReadRetryDone _ _ => true
  | .laneSpareSwitched _ _ => true
  | .laneSparingWindowEnd _ => true
  | .yardPatrolRead _ _ _ _ => true
  | .loftPatrolRead _ _ => true
  | .loftUncorrectable t => t.wf
  | .migrationEpochEnd _ => true
  | .migrationCopyDone _ => true
  | .migrationRecopyDone _ => true
  | .migrationCutoverDone _ => true
  | .planePassStart _ _ => true
  | .planePassEnd _ _ => true
  | .seqBuildStart _ => true
  | .seqBuildDone _ => true
  | .remoteWriteCommit _ _ => true
  | .remoteSignalCommit _ _ => true
  | .pegOpenReceived _ _ _ r _ => decide (r < 65536)
  | .pegGoReceived _ _ _ => true
  | .pegAbortReceived _ _ _ c r => decide (c < 256) && decide (r < 65536)
  | .pegGrantReceived _ _ => true
  | .pegDataReceived _ _ _ _ b => decide (0 < b.length) && decide (b.length ≤ 4096) && b.length % 32 == 0
  | .pegComplete _ _ => true
  | .pegTimeoutExpiry _ _ => true
  | .packetStart _ => true
  | .framePeriod _ => true
  | .frameReceive _ b f => b.length == 7710 && (f.map LaneFec.lane).dedup == f.map LaneFec.lane
  | .replayTimeoutExpiry _ => true
  | .linkLaneErrorWindowEnd _ => true
  | .linkMarkerLockLost _ _ => true
  | .linkSignalDetected _ => true
  | .linkPmdTrainingDone _ _ => true
  | .linkMaskExchangeDone _ _ => true
  | .linkLockDone _ c => c.length == 4
  | .linkIdentityReceived _ _ _ _ => true
  | .linkRetrainDone _ _ c => c.length == 4
  | .lnkCoordWrite _ _ _ => true
  | .lnkRouteCtlRecompute _ => true
  | .routeBuildDone b => b.dedup == b
  | .bridgeFlitReceive _ b => b.length == 256
  | .bridgeRetrainDone => true
  | .bridgeRetrainTimeout => true
  | .joinerHeartbeat _ _ _ => true
  | .joinerHeartbeatTimeout _ => true
  | .joinerRestartDone _ => true
  | .sillHealthTestFail => true
  | .budgetEvaluation _ _ t => t.length == 67
  | .opVcoreSettled => true
  | .stagePoll r => r.wf
  | .vrAlertAssert => true
  | .vcoreCurrentLimit _ => true
  | .bayIdleGate _ => true
  | .bayUngate _ => true
  | .thermalTrip _ _ => true
  | .thermtripShutdown => true
  | .siteOverTemperature _ _ => true
  | .pwrBoardMaxWrite _ => true
  | .sbStatusWrite _ => true
  | .registerRead _ _ _ => true
  | .interferenceMeterWindowEnd _ => true
  | .linkLaneResetDone _ _ => true
  | .sillOperationDone _ => true
  | .hostReadCompletion _ _ _ => true
  | .railBelowTenPercent _ => true

end Sys2Proof
end

