-- ==== Sys2Proof/Tests/States.lean ====
section
/-! SUPPORT. Small states and records that the tests run on, and two lemmas for results that a test does not write out. -/

namespace Sys2Proof.Tests

set_option Elab.async false

open Sys2Proof.Machine

/-- A record of n bytes with little-endian fields: offset, size, value. -/
def row (n : Nat) (fs : List (Nat × Nat × Nat)) : List Byte :=
  (List.range n).map fun i =>
    match fs.find? fun f => decide (f.1 ≤ i) && decide (i < f.1 + f.2.1) with
    | some f => BitVec.ofNat 8 (f.2.2 / 256 ^ (i - f.1))
    | none => 0

/-- A module that is up: H0 holds the king post, site 0 and bay 0 are in service, the link is up, context 0 is admitted with bay 0. -/
def up : State :=
  { State.reset with
    flash := { variant := { sigOk := true }, images := [(0, []), (1, [])] }
    aon := { powered := true, pwrOk := true, ticks := ⟨100000, 100000⟩, boot := { stage := 12, ready := true }
             king := { holder := some .h0, halfOk := ⟨true, true⟩, resultIn := ⟨true, true⟩ }
             joiners := ⟨{ running := true, lastBeat := 100000 }, { running := true, lastBeat := 100000 }⟩ }
    sill := { state := 1, running := some 0 }
    hif := { perst := false, linkUp := true, fns := [(0, { enable := true, cmdTail := 1 }), (1, { enable := true, cmdTail := 1 })] }
    plan := { goodMap := [(0, 3)], siteMask := 1, sites := [(0, {})] }, planBuilt := true
    sites := [(0, { trained := true })]
    bays := [(0, { on := true })]
    ctxs := [(0, { admitted := true, res := { bayMask := 1, loftGran := 100, oppool := 0, seq := 4, yardH0 := 8, packH0 := 100 }, loft := [(0, [(512, 100)])] })]
    fresh := 10 }

/-- The module during boot, at a STAGE. -/
def bootAt (n : Nat) : State := { up with aon := { up.aon with boot := { stage := n } }, ctxs := [] }

/-- The state a command leaves; the same state where it stopped. -/
def after (c : Instr) (s : State) : State :=
  match exec c s with
  | .next t => t
  | _ => s

/-- A fetched command in slot 0. -/
def cmdOf (bs : List Byte) : Cmd := ⟨0, bs, .fetched, 0⟩

/-- The module with one fetched command of PF0 in slot 0. -/
def withCmd (bs : List Byte) (s : State) : State := s.setFn 0 { s.fn 0 with outstanding := [cmdOf bs] }

/-- A yard page of context 0 at address 0x10000 that may be read and written. -/
def page0 : Page :=
  { id := 1, ctx := 0, va := 0x10000, big := false, attr := 0xC0000000, charge := .yard, half := .h0, site := 0, frame := 0, part := 0, gen := 0, poison := []
    stored := [], counts := ⟨0, 0⟩, mig := none, holders := [], mapped := true }

/-- The module with that page, whose first bytes are given. -/
def withPage (bs : List Byte) (s : State) : State := { s with pages := [page0], mem := memWriteN [] (cellAddr 1 0) bs }

/-- The header of an operand stream: queue 1, one buffer of 4 KiB, no start semaphore, one entry, its record at 0x18000. -/
def hdr0 : List Byte := row 64 [(2, 1, 1), (3, 1, 1), (6, 1, 0xFF), (0x30, 8, 0x18000)]

/-- An armed stream of context 0 in slot 0 of bay 0 with a given header. -/
def stream0 (h : List Byte) : Stream := { bay := 0, slot := 0, ctx := 0, hdr := h, desc := 0x10000, bases := [0, 0, 0, 0], granule := 512, loftBay := 0 }

/-- The descriptor of a NOP task without semaphores or pegs. -/
def nop0 : List Byte := row 128 [(0, 1, 1), (0x1A, 1, 0xFF), (0x1C, 1, 0xFF), (0x20, 4, 0xFFFFFFFF)]

/-- The descriptor of a MATMUL with one FP32 output of FP16 operands: A at 0x11000, B, transposed, at 0x12000, D at 0x13000. -/
def matmul0 : List Byte :=
  row 128 [(0, 1, 2), (1, 1, 0x20), (4, 2, 1), (6, 2, 1), (0x1A, 1, 0xFF), (0x1C, 1, 0xFF), (0x20, 4, 0xFFFFFFFF), (0x30, 8, 0x11000), (0x38, 8, 0x12000),
           (0x40, 8, 0x13000), (0x50, 4, 64), (0x54, 4, 64), (0x58, 4, 64)]

/-- A task of context 0 on bay 0 at index 7, in its issuing phase with no tile left, from its descriptor. -/
def task0 (a : List Byte) : Task :=
  { ctx := 0, bay := 0, idx := 7, a := a, b := [], phase := .issuing, since := 90000, waitSeq := 3, waitLog2 := 10, auxA := [], auxB := []
    shapesA := [], shapesB := [], todo := [], running := 0, flags := 0, tilesRun := 0, checked := 0, resolved := 0, firstIssue := none
    status := none, partials := [], handleSince := none, appends := [], nextPosA := 0, nextPosB := 0 }

/-- A launched task list of context 0 on bay 0 at 0x10000, its records at 0x18000. -/
def list0 (tasks : List Task) : TList :=
  { bay := 0, ctx := 0, list := 0x10000, status := 0x18000, launch := some (0, 3), next := 8, fetchNext := 8, ahead := [], tasks := tasks
    halt := none, completed := 0 }

/-- The module, with the page, that runs that list with one task. -/
def withTask (k : Task) : State := { withPage [] up with lists := [list0 [k]] }

/-- A result that is some answer is an answer. -/
theorem ok_of {ε α : Type} {e : Except ε α} (h : (match e with | .ok _ => true | .error _ => false) = true) : ∃ t, e = .ok t := by
  cases e with
  | ok t => exact ⟨t, rfl⟩
  | error _ => cases h

/-- A build that pauses no slot answers its state and table. -/
theorem build_of {ε α β : Type} {e : Except ε (α × β × Nat)} (h : (match e with | .ok r => r.2.2 == 0 | .error _ => false) = true) :
    ∃ t es, e = .ok (t, es, 0) := by
  cases e with
  | ok r => exact ⟨r.1, r.2.1, by rw [← eq_of_beq h]⟩
  | error _ => cases h

/-- A result that is an answer with a property is such an answer. -/
theorem ok_and {ε α : Type} {P : α → Prop} [DecidablePred P] {e : Except ε α} (h : (match e with | .ok a => decide (P a) | .error _ => false) = true) :
    ∃ a, e = .ok a ∧ P a := by
  cases e with
  | ok a => exact ⟨a, rfl, of_decide_eq_true h⟩
  | error _ => cases h

/-- A lock that succeeds, and whose room is there, answers both. -/
theorem lock_of (k : Task) {e : Start (State × List (Nat × Nat × Nat × Nat))}
    (h : (match e with
      | .ok r => (match r.2.mapM (r.1.roomAt k) with
        | .ok _ => true
        | .error _ => false)
      | .error _ => false) = true) : ∃ t l rooms, e = .ok (t, l) ∧ l.mapM (State.roomAt t k) = .ok rooms := by
  cases e with
  | ok r =>
    cases hf : r.2.mapM (r.1.roomAt k) with
    | ok x => exact ⟨r.1, r.2, x, rfl, hf⟩
    | error _ => simp [hf] at h
  | error _ => cases h

/-- An option that holds something. -/
theorem some_of {α : Type} {o : Option α} (h : o.isSome = true) : ∃ t, o = some t := Option.isSome_iff_exists.mp h

end Sys2Proof.Tests
end

