-- ==== Sys2Proof/Tests/Slice0.lean ====
section
/-! SUPPORT. The model's own tests: what WellFormed refuses, the queue, and single commands against the worked examples and tables of the spec. -/

namespace Sys2Proof.Tests

set_option Elab.async false

open Sys2Proof.Machine

-- WellFormed: each check refuses an ill-formed command and passes a well-formed one ---------------------

theorem test_wf_entry : (Instr.commandFetch 0 (.data (row 64 []))).wf = true ∧ (Instr.commandFetch 0 (.data (row 63 []))).wf = false := by decide
theorem test_wf_training : (Instr.yardTrainingRoundDone 0 [(1, 3)]).wf = true ∧ (Instr.yardTrainingRoundDone 0 [(1, 3), (1, 3)]).wf = false := by decide
theorem test_wf_broadcast : (Instr.microcodeBroadcastDone .h0 [(1, 3), (1, 3)]).wf = false := by decide
theorem test_wf_repair : (Instr.microcodeRepairDone .h0 [(1, 3), (1, 3)]).wf = false := by decide
theorem test_wf_register : (Instr.registerWrite .bar0 0 [1, 2, 3, 4]).wf = true ∧ (Instr.registerWrite .bar0 0 []).wf = false := by decide
theorem test_wf_bar4_read : (Instr.bar4Read 0 4).wf = true ∧ (Instr.bar4Read 0 0).wf = false := by decide
theorem test_wf_bar4_write : (Instr.bar4Write 0 [1] false).wf = true ∧ (Instr.bar4Write 0 [] false).wf = false := by decide
theorem test_wf_tile : (Instr.tileDone 0 [(1, 3)]).wf = true ∧ (Instr.tileDone 0 [(1, 3), (1, 4)]).wf = false := by decide
theorem test_wf_open : (Instr.pegOpenReceived 0 0 0 65535 0).wf = true ∧ (Instr.pegOpenReceived 0 0 0 65536 0).wf = false := by decide
theorem test_wf_abort : (Instr.pegAbortReceived 0 0 0 255 65535).wf = true ∧ (Instr.pegAbortReceived 0 0 0 256 0).wf = false := by decide
theorem test_wf_abort_rank : (Instr.pegAbortReceived 0 0 0 9 65536).wf = false := by decide
theorem test_wf_packet : (Instr.pegDataReceived 0 ⟨0, 1⟩ ⟨0, .final⟩ 0 (row 32 [])).wf = true ∧ (Instr.pegDataReceived 0 ⟨0, 1⟩ ⟨0, .final⟩ 0 (row 31 [])).wf = false := by
  decide +kernel
theorem test_wf_packet_empty : (Instr.pegDataReceived 0 ⟨0, 1⟩ ⟨0, .final⟩ 0 []).wf = false := by decide
theorem test_wf_retrain : (Instr.linkRetrainDone 0 ⟨1, 1⟩ [734]).wf = false := by decide
theorem test_wf_frame_bytes : (Instr.frameReceive 0 (row 7709 []) []).wf = false := by decide +kernel
theorem test_wf_frame_lanes : (Instr.frameReceive 0 (row 7710 []) [⟨3, 0, 0⟩, ⟨3, 1, 0⟩]).wf = false := by decide +kernel
theorem test_wf_frame : (Instr.frameReceive 0 (row 7710 []) [⟨3, 0, 0⟩, ⟨4, 1, 0⟩]).wf = true := by decide +kernel
theorem test_wf_credits : (Instr.linkLockDone 0 [734, 734, 734, 734]).wf = true ∧ (Instr.linkLockDone 0 [734]).wf = false := by decide
theorem test_wf_breaks : (Instr.routeBuildDone [(0, 1), (0, 2)]).wf = true ∧ (Instr.routeBuildDone [(0, 1), (0, 1)]).wf = false := by decide
theorem test_wf_flit : (Instr.bridgeFlitReceive .h0 (row 256 [])).wf = true ∧ (Instr.bridgeFlitReceive .h0 (row 255 [])).wf = false := by decide +kernel
theorem test_wf_sensors : (Instr.budgetEvaluation 0 0 (List.replicate 67 800)).wf = true ∧ (Instr.budgetEvaluation 0 0 [800]).wf = false := by decide
theorem test_wf_poll : (Instr.stagePoll ⟨List.replicate 8 800, List.replicate 8 0, [], [], [], []⟩).wf = true := by decide
theorem test_wf_poll_short : (Instr.stagePoll ⟨List.replicate 7 800, List.replicate 8 0, [], [], [], []⟩).wf = false := by decide
theorem test_wf_poll_twice : (Instr.stagePoll ⟨List.replicate 8 800, List.replicate 8 0, [3, 3], [], [], []⟩).wf = false := by decide
theorem test_wf_poll_silent_twice : (Instr.stagePoll ⟨List.replicate 8 800, List.replicate 8 0, [], [3, 3], [], []⟩).wf = false := by decide
theorem test_wf_poll_sites : (Instr.stagePoll ⟨List.replicate 8 800, List.replicate 8 0, [], [], [3, 3], [3, 3]⟩).wf = false := by decide
theorem test_wf_poll_current : (Instr.stagePoll ⟨List.replicate 8 800, [], [], [], [], []⟩).wf = false := by decide

-- The queue ------------------------------------------------------------------------------------------------

/-- The command at the front of the queue runs with the rest of the queue. -/
theorem test_queue_front : ∃ t, step { up with pending := [.sbStatusWrite 1, .perstDeassert] } = .next t ∧ t.pending = [.perstDeassert] := ⟨_, rfl, rfl⟩

/-- The host's record names the model's own step and reset. -/
theorem test_core : core.step State.reset = step State.reset ∧ core.reset = State.reset := ⟨rfl, rfl⟩

/-- Some command answers some state: the frame of the queue is not empty. -/
theorem witness_CommandsLeaveTheQueue_1 : ∃ (c : Instr) (s t : State), exec c s = .next t := ⟨.aonPwrgdDeassert, up, _, rfl⟩

-- Worked examples and tables of the spec --------------------------------------------------------------------

/-- R21's example: linear index 15,542 lies in bay 37, in H1. -/
theorem test_core_number : coreBay 15542 = 37 ∧ bayHalf 37 = .h1 := by decide

/-- R37's example: the good bit of core B37.c(5,20) is bit 6 of the byte at 0x0992 of the record. -/
theorem test_good_bit : (planImage { ({} : FloorPlan) with goodMap := [(37, 2 ^ 150)] } {} false)[0x992]? = some 0x40 := by decide +kernel

/-- R66's example: the block trimmed to 6 bits. -/
theorem test_align : (alignBlk 6 [.fin 13 (-2), .fin (-13) (-4), .fin 3 (-6), .fin 1 (-6), .fin 3 (-8)]).q = [52, -13, 1, 0, 0] := by decide +kernel

/-- The same block with guarded alignment, 10 bits: its sum is 643 units of 2^−8. -/
theorem test_align_guarded : (alignBlk 10 [.fin 13 (-2), .fin (-13) (-4), .fin 3 (-6), .fin 1 (-6), .fin 3 (-8)]).q.sum = 643 := by decide +kernel

/-- The second example of R66: 1.9921875 trimmed to 4 bits becomes 8 × 0.25. -/
theorem test_align_carry : alignBlk 4 [.fin 255 (-7)] = ⟨[.fin 255 (-7)], [8], -2⟩ := by decide +kernel

/-- The planned task of the example in "Scribe and Tiling". -/
def planned : List Byte := row 128 [(0, 1, 2), (1, 1, 4), (0x10, 2, 95), (0x12, 2, 79), (0x14, 2, 99), (0x16, 2, 31), (0x18, 2, 31)]

/-- Its shape word names M = 70, N = 40, K = 100. -/
theorem test_shape : shapeOf planned 0x0000640002800046 = some (70, 40, 100) := by decide +kernel

/-- A word with N = 81 exceeds the planned 80. -/
theorem test_shape_over : shapeOf planned 0x0000640005100046 = none := by decide +kernel

/-- Six tiles are issued, in the order of the example's table. -/
theorem test_tiles : (taskTiles planned [] [(70, 40, 100)] []).map (fun t => (t.x, t.y)) = [(0, 0), (1, 0), (1, 1), (0, 1), (0, 2), (1, 2)] := by decide +kernel

/-- The admission example of R214: a CTL1-E with five sites in service in each half, ctx0 holding 140,000 frames of each. -/
def fiveSites : State :=
  { up with
    plan := { up.plan with siteMask := 0x7DF }
    ctxs := [(0, { admitted := true, res := { yardH0 := 140000, yardH1 := 140000, bayMask := 1, loftGran := 1 } })] }

/-- 60,000 and stashes of 30,000 are refused: H0 lacks the frames. -/
theorem test_admit_short : fiveSites.admitRefused (cmdOf (row 64 [(0, 1, 6), (4, 1, 4), (0xA, 2, 1), (0x10, 8, 2), (0x18, 4, 60000), (0x1C, 4, 60000), (0x20, 4, 30000),
    (0x24, 4, 30000)])) = some 6 := by decide +kernel

/-- Stashes of 27,985 fill each half exactly and are admitted. -/
theorem test_admit_exact : fiveSites.admitRefused (cmdOf (row 64 [(0, 1, 6), (4, 1, 4), (0xA, 2, 1), (0x10, 8, 2), (0x18, 4, 60000), (0x1C, 4, 60000), (0x20, 4, 27985),
    (0x24, 4, 27985)])) = none := by decide +kernel

/-- R373's example: 6,000 tiles of 122,880,000 nominal and 159,744,000 measured cycles read RATIO 0x014C. -/
theorem test_meter : meterRatio (122880000, 159744000, 6000) = 0x14C := by decide +kernel

/-- R337's example: the chunk of 2.0 × 10^8 elements over 16 ranks is 12,500,000. -/
theorem test_chunk : pgChunk (row 64 [(8, 4, 199999999)]) 16 = 12500000 := by decide +kernel

/-- The chunk's CRC of R306: the reflected polynomial's value on "123456789". -/
theorem test_crc : crc32c [0x31, 0x32, 0x33, 0x34, 0x35, 0x36, 0x37, 0x38, 0x39] = 0xE3069283 := by decide +kernel

/-- R417: wave 7 starts B28 to B31 of H0 and B60 to B63 of H1. -/
theorem test_wave : waveBays 7 = [28, 29, 30, 31, 60, 61, 62, 63] := by decide

/-- The list of the host example of R385's section: END at index 20 after 20 tasks. The completion ring has no free place, so the entry stays in view. -/
def ended : State :=
  let s := withCmd (row 64 [(0, 1, 0x14), (1, 1, 3), (2, 2, 0x12), (9, 1, 0)]) up
  { s.setFn 0 { s.fn 0 with cplTail := 4095 } with
    lists := [{ list0 [] with launch := some (0, 0), next := 20, ahead := [⟨20, row 128 [], none, none⟩], completed := 20 }] }

/-- Its LAUNCH completes with TAG 0x0012, STATUS 0, RESULT0 0x0014_0014 and its interrupt. -/
theorem test_launch_ends : ((after (.taskTake 0 0) ended).fn 0).cplWait = [⟨0x12, 0, 0, 0, 0x140014, 0, 0x14, true⟩] := by decide +kernel

/-- The completion entry of R383 on the first pass of the ring. -/
theorem test_entry : cplBytes { cmdHead := 4 } ⟨0x12, 2, 0, 0, 0x140014, 0, 0x14, true⟩
    = row 32 [(0, 2, 0x12), (2, 2, 2), (6, 2, 4), (8, 8, 0x140014), (0x1E, 1, 0x14), (0x1F, 1, 1)] := by decide +kernel

/-- R359: a semaphore stops at 65,535 and the add is counted. -/
theorem test_semaphore_saturates : ((up.semAdd 0 0 5 70000).semCount 0 0 5, ((up.semAdd 0 0 5 70000).ctx 0).saturated) = (65535, 1) := by decide +kernel

/-- R303 step 4: twelve of fourteen good lanes carry, the two lowest spares left out. -/
theorem test_active_set : activeSet 0x3FFF false = 0xFFF ∧ activeSet 0x3F7 false = 0x77 ∧ activeSet 0x1F false = 0 := by decide +kernel

/-- The MATMUL of zeros on core 0, its operands delivered. -/
def tiled : State :=
  { withTask { task0 matmul0 with running := 1 } with
    scribe := { runs := [{ core := 0, bay := 0, ctx := 0, task := 7, tile := { slot := 0, iter := 0, x := 0, y := 0, pos := 0 }, check := none, role := 0,
                           seq := 1, start := 0, isProtected := false, walk := none, out := none
                           banks := [.accumulating, .idle, .idle, .idle] }] } }

/-- Its run ends and its task has no tile running. -/
theorem test_tile_ends : (after (.tileDone 0 []) tiled).scribe.runs = [] := by decide +kernel

end Sys2Proof.Tests
end

