-- ==== Sys2Proof/Tests/WitnessAuger.lean ====
section
/-! SUPPORT. States and operands that meet the hypotheses of the statements, clause by clause: auger. -/

namespace Sys2Proof.Tests

set_option Elab.async false

open Sys2Proof.Machine

theorem witness_PassesAndPairs_1 :
    ∃ (bay : Fin 64) (slot : Fin 64) (x : Stream) (s : State),
      s.stream? bay slot = some x ∧ x.state = 0 ∧ x.due = true ∧ x.fault = none ∧ x.stop = none ∧ x.reStop = none ∧ x.cancelling = false ∧
        hdrWaitSem x.hdr = 0xFF :=
  ⟨0, 0, stream0 hdr0, { withPage [] up with streams := [stream0 hdr0] }, by decide +kernel⟩

theorem witness_PassesAndPairs_2 :
    ∃ (bay : Fin 64) (slot : Fin 64) (x : Stream) (s : State),
      s.stream? bay slot = some x ∧ x.state = 0 ∧ x.due = true ∧ x.fault = none ∧ x.stop = none ∧ x.reStop = none ∧ x.cancelling = false ∧
        hdrWaitSem x.hdr ≠ 0xFF ∧ s.mayTake x.ctx bay (hdrWaitSem x.hdr) (hdrWaitN x.hdr) x.waitSeq = true :=
  ⟨0, 0, stream0 (row 64 [(0x2, 1, 0x1), (0x3, 1, 0x1), (0x6, 1, 0x3f), (0x7, 1, 0x2), (0x30, 8, 0x18000)]),
    ({ withPage [] up with streams := [stream0 (row 64 [(0x2, 1, 0x1), (0x3, 1, 0x1), (0x6, 1, 0x3f), (0x7, 1, 0x2), (0x30, 8, 0x18000)])] }).modCtx 0 fun
    (c : Ctx) => { c with sems := [(63, 2)] }, by decide +kernel⟩

theorem witness_PassesAndPairs_3 :
    ∃ (bay : Fin 64) (slot : Fin 64) (x : Stream) (s : State),
      s.stream? bay slot = some x ∧ x.state = 1 ∧ x.cancelling = false ∧ x.cur = none ∧ x.stop = none ∧ x.reStop = none ∧ x.fault = none ∧
        x.next ≤ hdrEntries x.hdr ∧ hdrKind x.hdr = 1 ∧ 0 < (s.pair x.ctx bay (hdrQueue x.hdr)).free ∧ tfind x.bufs x.ringPos = none :=
  ⟨0, 0, { stream0 (row 64 [(0x0, 1, 0x1), (0x2, 1, 0x1f), (0x3, 1, 0x2), (0x6, 1, 0xff), (0x30, 8, 0x18000)]) with state := 1, due := false },
    ({ withPage [] up with streams := [{ stream0 (row 64 [(0x0, 1, 0x1), (0x2, 1, 0x1f), (0x3, 1, 0x2), (0x6, 1, 0xff), (0x30, 8, 0x18000)]) with state := 1, due := false }] }).modCtx 0 fun (c : Ctx) => { c with pairs := [(31, ⟨0, 1⟩)] },
    by decide +kernel⟩

theorem witness_PassesAndPairs_4 :
    ∃ (_agent : PairAgent) (bay : Fin 64) (slot : Fin 64) (x : Stream) (b : Buf) (_fill : List Byte) (s : State),
      s.stream? bay slot = some x ∧ hdrKind x.hdr = 1 ∧ 0 < (s.pair x.ctx bay (hdrQueue x.hdr)).full ∧ tfind x.bufs x.agentPos = some b ∧ b.use = 2 ∧
        (hdrCheckGen x.hdr = false ∨ s.staleGens x.ctx b = []) :=
  ⟨.joiner, 0, 0, { stream0 (row 64 [(0x0, 1, 0x1), (0x2, 1, 0x1f), (0x3, 1, 0x2), (0x6, 1, 0xff), (0x30, 8, 0x18000)]) with state := 1, due := false, bufs := [(0, { use := 2 })] },
    { use := 2 }, [], ({ withPage [] up with streams := [{ stream0 (row 64 [(0x0, 1, 0x1), (0x2, 1, 0x1f), (0x3, 1, 0x2), (0x6, 1, 0xff), (0x30, 8, 0x18000)]) with state := 1, due := false, bufs := [(0, { use := 2 })] }] }).modCtx 0 fun (c : Ctx) => { c with pairs := [(31, ⟨1, 0⟩)] },
    by decide +kernel⟩

theorem witness_PassesAndPairs_5 :
    ∃ (_agent : PairAgent) (bay : Fin 64) (slot : Fin 64) (x : Stream) (b : Buf) (_fill : List Byte) (s : State),
      s.stream? bay slot = some x ∧ hdrKind x.hdr = 1 ∧ 0 < (s.pair x.ctx bay (hdrQueue x.hdr)).full ∧ tfind x.bufs x.agentPos = some b ∧ b.use = 2 ∧
        hdrCheckGen x.hdr = true ∧ s.staleGens x.ctx b ≠ [] :=
  ⟨.joiner, 0, 0, { stream0 (row 64 [(0x0, 1, 0x1), (0x1, 1, 0x2), (0x2, 1, 0x1f), (0x3, 1, 0x2), (0x6, 1, 0xff), (0x30, 8, 0x18000)]) with state := 1, due := false, bufs := [(0, { use := 2, gens := [⟨1, 0x10000, 65536, 7, 0, 0, 0⟩] })] },
    { use := 2, gens := [⟨1, 0x10000, 65536, 7, 0, 0, 0⟩] }, [], ({ withPage [] up with streams := [{ stream0 (row 64 [(0x0, 1, 0x1), (0x1, 1, 0x2), (0x2, 1, 0x1f), (0x3, 1, 0x2), (0x6, 1, 0xff), (0x30, 8, 0x18000)]) with state := 1, due := false, bufs := [(0, { use := 2, gens := [⟨1, 0x10000, 65536, 7, 0, 0, 0⟩] })] }] }).modCtx 0 fun (c : Ctx) => { c with pairs := [(31, ⟨1, 0⟩)] },
    by decide +kernel⟩

theorem witness_PassesAndPairs_6 :
    ∃ (bay : Fin 64) (slot : Fin 64) (x : Stream) (s : State),
      s.stream? bay slot = some x ∧ x.state = 1 ∧ x.cancelling = false ∧ x.cur = none ∧ x.stop = none ∧ x.reStop = none ∧ x.fault = none ∧
        x.next ≤ hdrEntries x.hdr ∧ hdrKind x.hdr = 2 ∧ 0 < (s.pair x.ctx bay (hdrQueue x.hdr)).full :=
  ⟨0, 0, { stream0 (row 64 [(0x0, 1, 0x2), (0x2, 1, 0x1f), (0x3, 1, 0x2), (0x6, 1, 0xff), (0x30, 8, 0x18000)]) with state := 1, due := false },
    ({ withPage [] up with streams := [{ stream0 (row 64 [(0x0, 1, 0x2), (0x2, 1, 0x1f), (0x3, 1, 0x2), (0x6, 1, 0xff), (0x30, 8, 0x18000)]) with state := 1, due := false }] }).modCtx 0 fun (c : Ctx) => { c with pairs := [(31, ⟨1, 0⟩)] },
    by decide +kernel⟩

theorem witness_PassesAndPairs_7 :
    ∃ (_agent : PairAgent) (bay : Fin 64) (slot : Fin 64) (x : Stream) (_fill : List Byte) (s : State),
      s.stream? bay slot = some x ∧ hdrKind x.hdr = 2 ∧ 0 < (s.pair x.ctx bay (hdrQueue x.hdr)).free :=
  ⟨.port, 0, 0, { stream0 (row 64 [(0x0, 1, 0x2), (0x2, 1, 0x1f), (0x3, 1, 0x2), (0x6, 1, 0xff), (0x30, 8, 0x18000)]) with state := 1, due := false }, [1],
    ({ withPage [] up with streams := [{ stream0 (row 64 [(0x0, 1, 0x2), (0x2, 1, 0x1f), (0x3, 1, 0x2), (0x6, 1, 0xff), (0x30, 8, 0x18000)]) with state := 1, due := false }] }).modCtx 0 fun (c : Ctx) => { c with pairs := [(31, ⟨0, 1⟩)] },
    by decide +kernel⟩

theorem witness_SemaphoresAreTakenInFull_1 :
    ∃ (ctx : Nat) (bay : Nat) (sem : Nat) (n : Nat) (seq : Nat) (s : State),
      s.mayTake ctx bay sem n seq = true :=
  ⟨0, 0, 63, 3, 1, (up).modCtx 0 fun (c : Ctx) => { c with sems := [(63, 3)] }, by decide +kernel⟩

theorem witness_SemaphoresAreTakenInFull_2 :
    ∃ (ctx : Nat) (bay : Nat) (sem : Nat) (n : Nat) (s : State),
      n ≤ s.semCount ctx bay sem :=
  ⟨0, 0, 63, 65535, (up).modCtx 0 fun (c : Ctx) => { c with sems := [(63, 65535)] }, by decide +kernel⟩

theorem witness_SemaphoresAreTakenInFull_4 :
    ∃ (_ctx : Nat) (bay : Nat) (sem : Nat) (_n : Nat) (b : Nat) (k : Nat) (_s : State),
      64 * b + k ≠ 64 * bay + sem :=
  ⟨0, 0, 63, 1, 1, 0, up, by decide +kernel⟩

theorem witness_BlocksAreTranslated_1 :
    ∃ (id : Nat) (a : Nat) (n : Nat) (f : Fetch) (s : State),
      s.fetch? id = some f ∧ f.stop = none ∧ f.fault = none ∧ f.failed = none ∧ f.buf.refetch = [] ∧ f.rows[f.next]? = some (a, n) ∧
        s.cuttingOver f.ctx a n = false ∧ s.rangeFault f.ctx a n false .module = none :=
  ⟨4, 0x11000, 4, { id := 4, bay := 0, ctx := 0, task := 7, pos := 0, slot := 0, operand := 0, rows := [(0x11000, 4)] },
    { withPage [] up with fetches := [{ id := 4, bay := 0, ctx := 0, task := 7, pos := 0, slot := 0, operand := 0, rows := [(0x11000, 4)] }] },
    by decide +kernel⟩

theorem witness_BlocksAreTranslated_2 :
    ∃ (id : Nat) (a : Nat) (n : Nat) (v : Nat) (c : Nat) (f : Fetch) (s : State),
      s.fetch? id = some f ∧ f.stop = none ∧ f.fault = none ∧ f.failed = none ∧ f.buf.refetch = [] ∧ f.rows[f.next]? = some (a, n) ∧
        s.cuttingOver f.ctx a n = false ∧ s.rangeFault f.ctx a n false .module = some (v, c) :=
  ⟨4, 0x30000, 4, 0x30000, 0, { id := 4, bay := 0, ctx := 0, task := 7, pos := 0, slot := 0, operand := 0, rows := [(0x30000, 4)] },
    { withPage [] up with fetches := [{ id := 4, bay := 0, ctx := 0, task := 7, pos := 0, slot := 0, operand := 0, rows := [(0x30000, 4)] }] },
    by decide +kernel⟩

theorem witness_BlocksAreTranslated_3 :
    ∃ (bay : Fin 64) (slot : Fin 64) (x : Stream) (e : List Byte) (i : Nat) (b : Buf) (s : State),
      s.stream? bay slot = some x ∧ x.state = 1 ∧ x.cancelling = false ∧ x.stop = none ∧ x.reStop = none ∧ x.fault = none ∧ (∀ y ∈ x.bufs,
        y.2.refetch = []) ∧ x.next ≤ hdrEntries x.hdr ∧ x.cur = some i ∧ tfind x.bufs i = some b ∧
        s.tryRead x.ctx (x.desc + 64 + 32 * x.next) 32 .module = .ok e ∧ entBad e (hdrBufBytes x.hdr) = true :=
  ⟨0, 0, { stream0 hdr0 with state := 1, due := false, cur := some 0, bufs := [(0, {})] }, (row 32 [(0x0, 8, 0x800000000000000), (0x8, 4, 0x20)]), 0, {},
    { withPage (hdr0 ++ (row 32 [(0x0, 8, 0x800000000000000), (0x8, 4, 0x20)])) up with streams := [{ stream0 hdr0 with state := 1, due := false, cur := some 0, bufs := [(0, {})] }] },
    by decide +kernel⟩

theorem witness_BlocksAreTranslated_4 :
    ∃ (bay : Fin 64) (slot : Fin 64) (x : Stream) (e : List Byte) (i : Nat) (b : Buf) (s : State),
      s.stream? bay slot = some x ∧ x.state = 1 ∧ x.cancelling = false ∧ x.stop = none ∧ x.reStop = none ∧ x.fault = none ∧ (∀ y ∈ x.bufs,
        y.2.refetch = []) ∧ x.next ≤ hdrEntries x.hdr ∧ x.cur = some i ∧ tfind x.bufs i = some b ∧
        s.tryRead x.ctx (x.desc + 64 + 32 * x.next) 32 .module = .ok e ∧ entBad e (hdrBufBytes x.hdr) = false ∧
        (entRowAddrs e (refAddr (x.bases.getD (entSel e) 0))).any (fun a => (s.countRange x.ctx (x.desc + 64 + 32 * x.next) 32 x.half).cuttingOver x.ctx a
        (entRowBytes e)) = false ∧ (s.countRange x.ctx (x.desc + 64 + 32 * x.next) 32 x.half).rowsFault x.ctx (entRowAddrs e (refAddr (x.bases.getD (entSel
        e) 0))) (entRowBytes e) (hdrKind x.hdr == 2) = none :=
  ⟨0, 0, { stream0 hdr0 with state := 1, due := false, cur := some 0, bufs := [(0, {})] }, (row 32 [(0x0, 8, 0x12000), (0x8, 4, 0x20), (0x10, 2, 0x3), (0xc,
    4, 0x20), (0x1e, 2, 0x1)]), 0, {}, { withPage (hdr0 ++ (row 32 [(0x0, 8, 0x12000), (0x8, 4, 0x20), (0x10, 2, 0x3), (0xc, 4, 0x20), (0x1e, 2, 0x1)])) up with streams := [{ stream0 hdr0 with state := 1, due := false, cur := some 0, bufs := [(0, {})] }] },
    by decide +kernel⟩

theorem witness_RequestsAreServed_1 :
    ∃ (site : Fin 12) (bay : Nat) (r : Req) (rest : List Req) (s : State),
      (∀ q ∈ s.reqs, q.site = site.val → s.unblocks q = false) ∧ bay = ((s.site site).lastBay + 1) % 65 ∧ s.inTurn site bay = r :: rest ∧
        s.bankBlocked site bay < 64 ∧ s.grantable r = true ∧ s.bankSlots site r.bank < s.aug.bankCap :=
  ⟨0, 0, { id := 6, owner := .fetch 4, ctx := 0, bay := 0, half := .h0, site := 0, bank := 0, page := 1, line := 0, write := false, buf := 0, block := 0, total := 4, again := false, burst := 0, pieces := [⟨0, 0, 4⟩], state := .waiting, dropped := false },
    [], { withPage [] up with reqs := [{ id := 6, owner := .fetch 4, ctx := 0, bay := 0, half := .h0, site := 0, bank := 0, page := 1, line := 0, write := false, buf := 0, block := 0, total := 4, again := false, burst := 0, pieces := [⟨0, 0, 4⟩], state := .waiting, dropped := false }], fetches := [{ id := 4, bay := 0, ctx := 0, task := 7, pos := 0, slot := 0, operand := 0, rows := [(0x11000, 4)] }] },
    by decide +kernel⟩

theorem witness_RequestsAreServed_2 :
    ∃ (site : Fin 12) (q : Req) (s : State),
      s.reqs.find? (fun q => q.site == site.val && s.unblocks q) = some q :=
  ⟨0, { id := 6, owner := .fetch 4, ctx := 0, bay := 0, half := .h0, site := 0, bank := 0, page := 1, line := 0, write := false, buf := 0, block := 0, total := 4, again := false, burst := 0, pieces := [⟨0, 0, 4⟩], state := .bankBlocked, dropped := false },
    { withPage [] up with reqs := [{ id := 6, owner := .fetch 4, ctx := 0, bay := 0, half := .h0, site := 0, bank := 0, page := 1, line := 0, write := false, buf := 0, block := 0, total := 4, again := false, burst := 0, pieces := [⟨0, 0, 4⟩], state := .bankBlocked, dropped := false }], fetches := [{ id := 4, bay := 0, ctx := 0, task := 7, pos := 0, slot := 0, operand := 0, rows := [(0x11000, 4)] }] },
    by decide +kernel⟩

theorem witness_RequestsAreServed_3 :
    ∃ (id : Nat) (r : Req) (p : Page) (_o : LineOutcome) (s : State),
      s.req? id = some r ∧ r.state = .granted ∧ s.pageById r.page = some p ∧ r.site < 12 ∧ s.bridgeWaits r.half r.site = false ∧ s.behindReq r = false ∧
        p.badFor r = false ∧ p.badUnder r = false ∧ r.fullLine = false :=
  ⟨6, { id := 6, owner := .fetch 4, ctx := 0, bay := 0, half := .h0, site := 0, bank := 0, page := 1, line := 0, write := false, buf := 0, block := 0, total := 4, again := false, burst := 0, pieces := [⟨0, 0, 4⟩], state := .granted, dropped := false },
    page0, .clean, { withPage [] up with reqs := [{ id := 6, owner := .fetch 4, ctx := 0, bay := 0, half := .h0, site := 0, bank := 0, page := 1, line := 0, write := false, buf := 0, block := 0, total := 4, again := false, burst := 0, pieces := [⟨0, 0, 4⟩], state := .granted, dropped := false }], fetches := [{ id := 4, bay := 0, ctx := 0, task := 7, pos := 0, slot := 0, operand := 0, rows := [(0x11000, 4)] }] },
    by decide +kernel⟩

theorem witness_RequestsAreServed_4 :
    ∃ (id : Nat) (r : Req) (p : Page) (_o : LineOutcome) (s : State),
      s.req? id = some r ∧ r.state = .granted ∧ s.pageById r.page = some p ∧ s.bridgeWaits r.half r.site = false ∧ s.behindReq r = false ∧
        p.badFor r = false ∧ (12 ≤ r.site ∨ r.fullLine = true ∨ p.badUnder r = true) :=
  ⟨6, { id := 6, owner := .fetch 4, ctx := 0, bay := 0, half := .h0, site := 0, bank := 0, page := 1, line := 0, write := true, buf := 0, block := 0, total := 4, again := false, burst := 0, pieces := [⟨0, 0, 256⟩], state := .granted, dropped := false },
    page0, .clean, { withPage [] up with reqs := [{ id := 6, owner := .fetch 4, ctx := 0, bay := 0, half := .h0, site := 0, bank := 0, page := 1, line := 0, write := true, buf := 0, block := 0, total := 4, again := false, burst := 0, pieces := [⟨0, 0, 256⟩], state := .granted, dropped := false }], fetches := [{ id := 4, bay := 0, ctx := 0, task := 7, pos := 0, slot := 0, operand := 0, rows := [(0x11000, 4)] }] },
    by decide +kernel⟩

theorem witness_RequestsAreServed_5 :
    ∃ (id : Nat) (r : Req) (p : Page) (_o : LineOutcome) (s : State),
      s.req? id = some r ∧ r.state = .granted ∧ s.pageById r.page = some p ∧ s.bridgeWaits r.half r.site = false ∧ s.behindReq r = false ∧
        p.badFor r = true :=
  ⟨6, { id := 6, owner := .fetch 4, ctx := 0, bay := 0, half := .h0, site := 0, bank := 0, page := 1, line := 0, write := false, buf := 0, block := 0, total := 4, again := false, burst := 0, pieces := [⟨0, 0, 4⟩], state := .granted, dropped := false },
    { page0 with poison := [0] }, .clean, { up with pages := [{ page0 with poison := [0] }], reqs := [{ id := 6, owner := .fetch 4, ctx := 0, bay := 0, half := .h0, site := 0, bank := 0, page := 1, line := 0, write := false, buf := 0, block := 0, total := 4, again := false, burst := 0, pieces := [⟨0, 0, 4⟩], state := .granted, dropped := false }], fetches := [{ id := 4, bay := 0, ctx := 0, task := 7, pos := 0, slot := 0, operand := 0, rows := [(0x11000, 4)] }] },
    by decide +kernel⟩

theorem witness_RequestsAreServed_7 :
    ∃ (id : Nat) (r : Req) (_o : LineOutcome) (s : State),
      s.req? id = some r ∧ r.state = .granted ∧ (s.bridgeWaits r.half r.site = true ∨ s.behindReq r = true) :=
  ⟨6, { id := 6, owner := .fetch 4, ctx := 0, bay := 0, half := .h1, site := 0, bank := 0, page := 1, line := 0, write := false, buf := 0, block := 0, total := 4, again := false, burst := 0, pieces := [⟨0, 0, 4⟩], state := .granted, dropped := false },
    .clean, { withPage [] up with reqs := [{ id := 6, owner := .fetch 4, ctx := 0, bay := 0, half := .h1, site := 0, bank := 0, page := 1, line := 0, write := false, buf := 0, block := 0, total := 4, again := false, burst := 0, pieces := [⟨0, 0, 4⟩], state := .granted, dropped := false }], links := { bridgeRetrain := some 99000 } },
    by decide +kernel⟩

theorem witness_RequestsAreServed_7_behind :
    ∃ (id : Nat) (r : Req) (_o : LineOutcome) (s : State),
      s.req? id = some r ∧ r.state = .granted ∧ (s.bridgeWaits r.half r.site = true ∨ s.behindReq r = true) :=
  ⟨6, { id := 6, owner := .fetch 4, ctx := 0, bay := 0, half := .h0, site := 0, bank := 0, page := 1, line := 0, write := false, buf := 0, block := 0, total := 4, again := false, burst := 0, pieces := [⟨0, 0, 4⟩], state := .granted, dropped := false },
    .clean, { withPage [] up with reqs := [{ id := 5, owner := .fetch 4, ctx := 0, bay := 0, half := .h0, site := 0, bank := 0, page := 1, line := 0, write := true, buf := 0, block := 0, total := 4, again := false, burst := 0, pieces := [⟨0, 0, 4⟩], state := .granted, dropped := false }, { id := 6, owner := .fetch 4, ctx := 0, bay := 0, half := .h0, site := 0, bank := 0, page := 1, line := 0, write := false, buf := 0, block := 0, total := 4, again := false, burst := 0, pieces := [⟨0, 0, 4⟩], state := .granted, dropped := false }] },
    by decide +kernel⟩

theorem witness_RequestsAreServed_8 :
    ∃ (id : Nat) (r : Req) (p : Page) (_o : LineOutcome) (s : State),
      s.req? id = some r ∧ r.state = .retrying ∧ s.pageById r.page = some p :=
  ⟨6, { id := 6, owner := .fetch 4, ctx := 0, bay := 0, half := .h0, site := 0, bank := 0, page := 1, line := 0, write := false, buf := 0, block := 0, total := 4, again := false, burst := 0, pieces := [⟨0, 0, 4⟩], state := .retrying, dropped := false },
    page0, .clean, { withPage [] up with reqs := [{ id := 6, owner := .fetch 4, ctx := 0, bay := 0, half := .h0, site := 0, bank := 0, page := 1, line := 0, write := false, buf := 0, block := 0, total := 4, again := false, burst := 0, pieces := [⟨0, 0, 4⟩], state := .retrying, dropped := false }], fetches := [{ id := 4, bay := 0, ctx := 0, task := 7, pos := 0, slot := 0, operand := 0, rows := [(0x11000, 4)] }] },
    by decide +kernel⟩

theorem witness_UpkeepOfMemory_1 :
    ∃ (site : Fin 12) (sub : Fin 32) (lane : Nat) (s : State),
      tfind (s.site site).sparing sub = some lane ∧ (∀ r ∈ s.reqs, r.site = site.val → r.bank / 16 = sub.val → r.inFlight = false) :=
  ⟨0, 31, 5, { up with sites := [(0, { trained := true, sparing := [(31, 5)] })] }, by decide +kernel⟩

theorem witness_UpkeepOfMemory_2 :
    ∃ (site : Fin 12) (s : State),
      windowEnd (s.now (siteHalf site)) s.yard.spareWindow (s.site site).spareEnded = true :=
  ⟨0, { up with sites := [(0, { trained := true, laneCe := [(1, 2)] })], aon := { up.aon with ticks := ⟨2 ^ 40, 2 ^ 40⟩ } }, by decide +kernel⟩

theorem witness_UpkeepOfMemory_3 :
    ∃ (h : Half) (m : Fin 6) (site : Nat) (_o : LineOutcome) (_retry : LineOutcome) (n : Nat) (x : Site) (t : State) (s : State),
      site = 6 * h.num + m ∧ x = s.site site ∧ n = (if s.now (siteHalf site) / 2 ^ s.yard.scrubPeriod = x.patrolWin then x.patrolNext else 0) ∧ s.yard.scrubEnable = true ∧
        s.siteUp site = true ∧ n < siteLines ∧ (∀ r ∈ s.reqs, r.site = site → r.state ≠ .waiting ∧ r.state ≠ .bankBlocked) ∧
        t = s.setSite site { x with patrolNext := n + 1, patrolWin := s.now (siteHalf site) / 2 ^ s.yard.scrubPeriod } :=
  ⟨.h0, 0, 0, .clean, .clean, 0, { trained := true }, ({ up with yard := { scrubEnable := true } }).setSite 0
    { { trained := true : Site } with patrolNext := 1, patrolWin := 100000 / 2 ^ ({ up with yard := { scrubEnable := true } }).yard.scrubPeriod },
    { up with yard := { scrubEnable := true } }, by decide +kernel, by decide +kernel, by decide +kernel, by decide +kernel, by decide +kernel, by decide +kernel,
    by simp [State.reset, up], rfl⟩

theorem witness_UpkeepOfMemory_4 :
    ∃ (bay : Fin 64) (_single : Bool) (n : Nat) (s : State),
      n = (if s.now (bayHalf bay) / 2 ^ 24 = (s.bay bay).loftWin then (s.bay bay).loftNext else 0) ∧ n < loftWords :=
  ⟨0, true, 7, { up with bays := [(0, { on := true, loftNext := 7 })] }, by decide +kernel⟩

theorem witness_UpkeepOfMemory_5 :
    ∃ (bay : Fin 64) (slot : Fin 64) (x : Stream) (i : Nat) (b : Buf) (s : State),
      s.stream? bay slot = some x ∧ tfind x.bufs i = some b ∧ hdrKind x.hdr = 0 ∧ b.loftRetry = false :=
  ⟨0, 0, { stream0 hdr0 with bufs := [(0, {})] }, 0, {}, { withPage [] up with streams := [{ stream0 hdr0 with bufs := [(0, {})] }] }, by decide +kernel⟩

theorem witness_UpkeepOfMemory_6 :
    ∃ (bay : Fin 64) (slot : Fin 64) (x : Stream) (i : Nat) (b : Buf) (s : State),
      s.stream? bay slot = some x ∧ tfind x.bufs i = some b ∧ hdrKind x.hdr = 0 ∧ b.loftRetry = true :=
  ⟨0, 0, { stream0 hdr0 with bufs := [(0, { loftRetry := true })] }, 0, { loftRetry := true },
    { withPage [] up with streams := [{ stream0 hdr0 with bufs := [(0, { loftRetry := true })] }] }, by decide +kernel⟩

theorem witness_PagesMigrate_1 :
    ∃ (h : Half) (s : State),
      windowEnd (s.now h) 20 (s.epochEnded.get h) = true :=
  ⟨.h1, { up with aon := { up.aon with ticks := ⟨2 ^ 21, 2 ^ 21⟩ } }, by decide +kernel⟩

theorem witness_PagesMigrate_2 : ∃ (h : Half) (s : State), windowEnd (s.now h) 20 (s.epochEnded.get h) = false :=
  ⟨.h1, up, by decide +kernel⟩

theorem witness_PagesMigrate_3 :
    ∃ (page : Nat) (p : Page) (m : Mig) (s : State),
      s.pageById page = some p ∧ p.mig = some m ∧ p.mapped = true ∧ m.step = .copying :=
  ⟨1, { page0 with mig := some { step := .copying, half := .h1, site := 6, frame := 0, part := 0, dirty := [3], rounds := 0 } },
    { step := .copying, half := .h1, site := 6, frame := 0, part := 0, dirty := [3], rounds := 0 },
    { withPage [] up with pages := [{ page0 with mig := some { step := .copying, half := .h1, site := 6, frame := 0, part := 0, dirty := [3], rounds := 0 } }] },
    by decide +kernel⟩

theorem witness_PagesMigrate_4 :
    ∃ (page : Nat) (p : Page) (m : Mig) (s : State),
      s.pageById page = some p ∧ p.mig = some m ∧ p.mapped = true ∧ m.step = .recopying :=
  ⟨1, { page0 with mig := some { step := .recopying, half := .h1, site := 6, frame := 0, part := 0, dirty := [3], rounds := 0 } },
    { step := .recopying, half := .h1, site := 6, frame := 0, part := 0, dirty := [3], rounds := 0 },
    { withPage [] up with pages := [{ page0 with mig := some { step := .recopying, half := .h1, site := 6, frame := 0, part := 0, dirty := [3], rounds := 0 } }] },
    by decide +kernel⟩

theorem witness_PagesMigrate_5 :
    ∃ (page : Nat) (p : Page) (m : Mig) (s : State),
      s.pageById page = some p ∧ p.mig = some m ∧ p.mapped = true ∧ m.step = .cutover :=
  ⟨1, { page0 with mig := some { step := .cutover, half := .h1, site := 6, frame := 0, part := 0, dirty := [3], rounds := 0 } },
    { step := .cutover, half := .h1, site := 6, frame := 0, part := 0, dirty := [3], rounds := 0 },
    { withPage [] up with pages := [{ page0 with mig := some { step := .cutover, half := .h1, site := 6, frame := 0, part := 0, dirty := [3], rounds := 0 } }] },
    by decide +kernel⟩

end Sys2Proof.Tests
end

