-- ==== Sys2Proof/Tests/WitnessBoot.lean ====
section
/-! SUPPORT. States and operands that meet the hypotheses of the statements, clause by clause: boot. -/

namespace Sys2Proof.Tests

set_option Elab.async false

open Sys2Proof.Machine

theorem witness_EmptyQueueIsOneTick_1 : ∃ (s : State) (_h : Half), s.pending = [] ∧ s.hif.bar4Q = [] :=
  ⟨up, .h0, by decide +kernel⟩

theorem witness_StepKeepsFactoryRecords_1 : ∃ (s : State) (t : State), step s = .next t :=
  ⟨State.reset, State.reset.idleAll, rfl⟩

theorem witness_StepKeepsMemoryForm_1 :
    ∃ (s : State) (t : State),
      s.memoryOk ∧ step s = .next t :=
  ⟨State.reset, State.reset.idleAll, by decide +kernel, rfl⟩

theorem witness_IslandPower_1 : ∃ (_mode : Bool) (_addr : BitVec 3) (s : State), s.aon.powered = false :=
  ⟨true, 3, State.reset, by decide +kernel⟩

theorem witness_IslandPower_2 : ∃ (s : State), s.aon.powered = true :=
  ⟨up, by decide +kernel⟩

theorem witness_RailsAndStages_1 :
    ∃ (rail : Rail) (s : State),
      s.rail (railNum rail) = .enabling ∧ s.aon.turningOff = false :=
  ⟨.module 7, { up with aon := { (up).aon with rails := [(7, .enabling)] } }, by decide +kernel⟩

theorem witness_RailsAndStages_2 :
    ∃ (m : Fin 12) (s : State),
      s.rail (railNum (.site m)) = .enabling ∧ s.aon.turningOff = false :=
  ⟨11, { up with aon := { (up).aon with rails := [(19, .enabling)] } }, by decide +kernel⟩

theorem witness_RailsAndStages_3 :
    ∃ (rail : Rail) (s : State),
      s.rail (railNum rail) = .fallingOff :=
  ⟨.site 0, { up with aon := { (up).aon with rails := [(8, .fallingOff)] } }, by decide +kernel⟩

theorem witness_RailsAndStages_4 :
    ∃ (rail : Rail) (answers : Bool) (s : State),
      s.rail (railNum rail) = .enabling ∧ s.aon.turningOff = false ∧ (railNum rail < 8 ∨ answers = true) :=
  ⟨.module 0, false, { up with aon := { (up).aon with rails := [(0, .enabling)] } }, by decide +kernel⟩

theorem witness_RailsAndStages_4_site :
    ∃ (rail : Rail) (answers : Bool) (s : State),
      s.rail (railNum rail) = .enabling ∧ s.aon.turningOff = false ∧ (railNum rail < 8 ∨ answers = true) :=
  ⟨.site 11, true, { up with aon := { (up).aon with rails := [(19, .enabling)] } }, by decide +kernel⟩

theorem witness_RailsAndStages_5 :
    ∃ (_mv : List Nat) (_cur : List Nat) (s : State),
      s.aon.pwrOk = true ∧ periodEarly s.aon.power.polled (s.now .h0) = false :=
  ⟨[800], [10], up, by decide +kernel⟩

theorem witness_RailsAndStages_6 :
    ∃ (n : Fin 8) (_mv : List Nat) (_cur : List Nat) (s : State),
      s.aon.pwrOk = true ∧ periodEarly s.aon.power.polled (s.now .h0) = false ∧ s.rail n = .good :=
  ⟨7, [], [], { up with aon := { (up).aon with rails := [(7, .good)] } }, by decide +kernel⟩

theorem witness_SillBoots_1 :
    ∃ (failing : Fin 7) (s : State),
      s.aon.pwrOk = true ∧ s.aon.boot.stage = 2 ∧ s.sill.state = 0 ∧ failing.val ≠ 0 :=
  ⟨6, { bootAt 2 with sill := {} }, by decide +kernel⟩

theorem witness_SillBoots_2 :
    ∃ (s : State),
      s.aon.pwrOk = true ∧ s.aon.boot.stage = 2 ∧ s.sill.state = 0 :=
  ⟨{ bootAt 2 with sill := {} }, by decide +kernel⟩

theorem witness_HalvesAndKingPost_1 :
    ∃ (h : Half) (_passed : Bool) (s : State),
      s.booting = true ∧ s.aon.boot.stage = 3 ∧ s.aon.king.resultIn.get h = false :=
  ⟨.h1, true, { bootAt 3 with aon := { (bootAt 3).aon with king := {} } }, by decide +kernel⟩

theorem witness_HalvesAndKingPost_2 :
    ∃ (_c0 : Claim) (_c1 : Claim) (_seen0 : BitVec 2) (_seen1 : BitVec 2) (s : State),
      s.booting = true ∧ s.aon.boot.stage = 4 :=
  ⟨.h0, .h0, 1, 1, bootAt 4, by decide +kernel⟩

theorem witness_LiveFloorPlanIsBuilt_1 :
    ∃ (s : State),
      s.booting = true ∧ s.aon.boot.stage = 5 ∧ s.flash.variant.sigOk = true :=
  ⟨bootAt 5, by decide +kernel⟩

theorem witness_LiveFloorPlanIsBuilt_2 :
    ∃ (s : State),
      s.booting = true ∧ s.aon.boot.stage = 5 ∧ s.flash.variant.sigOk = false :=
  ⟨{ bootAt 5 with flash := { variant := { sigOk := false } } }, by decide +kernel⟩

theorem witness_SitesTrain_1 :
    ∃ (m : Fin 12) (s : State),
      s.booting = true ∧ s.aon.boot.stage = 6 ∧ (s.site m).trial ≠ none ∧ (s.site m).initDone = false ∧ (s.site m).trained = false ∧ s.rail (8 + m) = .good :=
  ⟨11, { bootAt 6 with sites := [(11, { trial := some 2 })], aon := { (bootAt 6).aon with rails := [(19, .good)] } }, by decide +kernel⟩

theorem witness_SitesTrain_2 :
    ∃ (m : Fin 12) (s : State),
      s.booting = true ∧ s.aon.boot.stage = 6 ∧ (s.site m).trial ≠ none ∧ (s.site m).initDone = false ∧ (s.site m).trained = false :=
  ⟨0, { bootAt 6 with sites := [(0, { trial := some 2 })] }, by decide +kernel⟩

theorem witness_SitesTrain_3 :
    ∃ (m : Fin 12) (_sub : Fin 32) (lanes : BitVec 13) (r : Nat) (s : State),
      s.booting = true ∧ s.aon.boot.stage = 6 ∧ (s.site m).trial = some (r + 1) ∧ (s.site m).initDone = true ∧ (s.site m).trained = false ∧
        2 ≤ popCount 13 lanes.toNat :=
  ⟨0, 31, 0x1800, 1, { bootAt 6 with sites := [(0, { trial := some 2, initDone := true })] }, by decide +kernel⟩

theorem witness_SitesTrain_4 :
    ∃ (m : Fin 12) (_sub : Fin 32) (lanes : BitVec 13) (s : State),
      s.booting = true ∧ s.aon.boot.stage = 6 ∧ (s.site m).trial = some 0 ∧ (s.site m).initDone = true ∧ (s.site m).trained = false ∧
        2 ≤ popCount 13 lanes.toNat :=
  ⟨0, 31, 3, { bootAt 6 with sites := [(0, { trial := some 0, initDone := true })] }, by decide +kernel⟩

theorem witness_SitesTrain_5 :
    ∃ (m : Fin 12) (r : Nat) (s : State),
      s.booting = true ∧ s.aon.boot.stage = 6 ∧ (s.site m).trial = some r ∧ (s.site m).initDone = true ∧ (s.site m).trained = false :=
  ⟨0, 2, { bootAt 6 with sites := [(0, { trial := some 2, initDone := true })] }, by decide +kernel⟩

theorem witness_BaysAndCoresStart_1 :
    ∃ (s : State),
      s.booting = true ∧ s.aon.boot.stage = 8 ∧ (∀ w, s.aon.boot.waveTick = some w → w + 250 ≤ s.now .h0) :=
  ⟨bootAt 8, by decide +kernel, by decide +kernel, (by intro w h; cases h)⟩

theorem witness_BaysAndCoresStart_1_last :
    ∃ (s : State),
      s.booting = true ∧ s.aon.boot.stage = 8 ∧ (∀ w, s.aon.boot.waveTick = some w → w + 250 ≤ s.now .h0) :=
  ⟨{ bootAt 8 with aon := { (bootAt 8).aon with boot := { stage := 8, waveTick := some 99750, wave := 7 } } }, by decide +kernel, by decide +kernel,
    (by intro w h; cases h; decide +kernel)⟩

theorem witness_BaysAndCoresStart_2 :
    ∃ (h : Half) (core : CoreId) (m : BitVec 16) (s : State),
      s.booting = true ∧ s.aon.boot.stage = 9 ∧ s.halfIn h = true ∧ s.aon.boot.broadcast.get h = false ∧ bayHalf (coreBay core) = h ∧
        s.coreGood core = true ∧ m ≠ 0 :=
  ⟨.h0, 1, 0x8000, bootAt 9, by decide +kernel⟩

theorem witness_BaysAndCoresStart_3 :
    ∃ (h : Half) (s : State),
      s.booting = true ∧ s.aon.boot.stage = 9 ∧ s.aon.boot.broadcast.get h = true ∧ s.aon.boot.repairs.get h < 2 ∧ (∃ e ∈ s.aon.boot.missing,
        bayHalf (coreBay e.1) = h) :=
  ⟨.h0, { bootAt 9 with aon := { (bootAt 9).aon with boot := { stage := 9, broadcast := ⟨true, false⟩, missing := [(1, 3)], repairs := ⟨1, 0⟩ } } },
    by decide +kernel⟩

theorem witness_BaysAndCoresStart_4 :
    ∃ (core : CoreId) (crc : BitVec 64) (s : State),
      s.booting = true ∧ s.aon.boot.stage = 10 ∧ s.halfIn (bayHalf (coreBay core)) = true ∧ s.coreGood core = true ∧
        (tget s.aon.boot.tested (coreBay core) 0).getLsbD (core % 416) = false ∧ crc.toNat = imgSelftestCrc s.runningImage :=
  ⟨1, 0, bootAt 10, by decide +kernel⟩

theorem witness_BaysAndCoresStart_5 :
    ∃ (core : CoreId) (crc : BitVec 64) (s : State),
      s.booting = true ∧ s.aon.boot.stage = 10 ∧ s.halfIn (bayHalf (coreBay core)) = true ∧ s.coreGood core = true ∧
        (tget s.aon.boot.tested (coreBay core) 0).getLsbD (core % 416) = false ∧ crc.toNat ≠ imgSelftestCrc s.runningImage ∧ s.aon.boot.ready = false ∧
        s.svc = none :=
  ⟨1, 1, bootAt 10, by decide +kernel⟩

theorem witness_BaysAndCoresStart_6 :
    ∃ (core : CoreId) (s : State),
      s.booting = true ∧ s.aon.boot.stage = 10 ∧ s.aon.boot.stageTick + 62500 ≤ s.now .h0 ∧ s.halfIn (bayHalf (coreBay core)) = true ∧
        s.coreGood core = true ∧ (tget s.aon.boot.tested (coreBay core) 0).getLsbD (core % 416) = false ∧ s.aon.boot.ready = false ∧ s.svc = none :=
  ⟨1, { bootAt 10 with aon := { (bootAt 10).aon with boot := { stage := 10, stageTick := 37500 } } }, by decide +kernel⟩

theorem witness_ServiceWritesTakeEffect_1 :
    ∃ (v : Svc) (s : State),
      s.svc = some v ∧ v.stage = .signing ∧ s.sill.cur = some .signPlan ∧ s.sill.state = 1 :=
  ⟨⟨.signing, { generation := 5 }, false⟩, { up with svc := some ⟨.signing, { generation := 5 }, false⟩, sill := { up.sill with cur := some .signPlan } },
    rfl, rfl, rfl, rfl⟩

theorem witness_ServiceWritesTakeEffect_2 :
    ∃ (v : Svc) (s : State),
      s.svc = some v ∧ v.stage = .flashing ∧ v.boot = false :=
  ⟨⟨.flashing, { generation := 5 }, false⟩, { up with svc := some ⟨.flashing, { generation := 5 }, false⟩ }, rfl, rfl, rfl⟩

theorem witness_ConventionalResets_2 : ∃ (s : State), s.aon.pwrOk = true :=
  ⟨up, by decide +kernel⟩

theorem witness_ConventionalResets_3 : ∃ (s : State), s.aon.pwrOk = true :=
  ⟨up, by decide +kernel⟩

theorem witness_ConventionalResets_4 :
    ∃ (fn : Fin 9) (_a : ConfigAccess) (s : State),
      s.present fn = true ∧ s.aon.boot.stage < 4 ∧ s.sill.recovery = false :=
  ⟨0, .plain, bootAt 3, by decide +kernel⟩

theorem witness_ConventionalResets_5 :
    ∃ (fn : Fin 9) (_a : ConfigAccess) (s : State),
      s.present fn = true ∧ (4 ≤ s.aon.boot.stage ∨ s.sill.recovery = true) :=
  ⟨8, .vfEnableSet, { up with hif := { up.hif with vfEnable := true } }, by decide +kernel⟩

theorem witness_FunctionLevelResets_1 :
    ∃ (vf : Fin 8) (s : State),
      s.present (vf + 1) = true ∧ (s.ctx vf).admitted = false ∧ (s.ctx vf).clearing = false :=
  ⟨7, { up with hif := { up.hif with vfEnable := true } }, by decide +kernel⟩

theorem witness_FunctionLevelResets_2 : ∃ (s : State), s.present 0 = true :=
  ⟨up, by decide +kernel⟩

theorem witness_FunctionLevelResets_3 :
    ∃ (s : State),
      s.hif.linkUp = true ∧ s.hif.vfEnable = true ∧ (∀ n, (s.ctx n).admitted = false ∧ (s.ctx n).clearing = false) :=
  ⟨{ up with ctxs := [] }, by decide +kernel, by decide +kernel, fun _ => ⟨rfl, rfl⟩⟩

end Sys2Proof.Tests
end

