-- ==== Sys2Proof/Tests/WitnessContexts.lean ====
section
/-! SUPPORT. States and operands that meet the hypotheses of the statements, clause by clause: contexts. -/

namespace Sys2Proof.Tests

set_option Elab.async false

open Sys2Proof.Machine

theorem witness_ContextsComeAndGo_1 :
    ∃ (fn : Fin 9) (slot : Fin 4096) (c : Cmd) (s : State),
      s.starts fn slot 6 0 c ∧ (s.ctx c.ctx).clearing = false ∧ s.admitRefused c = none :=
  ⟨0, 0, cmdOf (row 64 [(0x0, 1, 0x6), (0x4, 1, 0x1), (0xa, 2, 0x64), (0x10, 8, 0x1)]), withCmd (row 64 [(0x0, 1, 0x6), (0x4, 1, 0x1), (0xa, 2, 0x64),
    (0x10, 8, 0x1)]) (up), by decide +kernel⟩

theorem witness_ContextsComeAndGo_2 :
    ∃ (fn : Fin 9) (slot : Fin 4096) (c : Cmd) (d : Nat) (s : State),
      s.starts fn slot 6 0 c ∧ (s.ctx c.ctx).clearing = false ∧ s.admitRefused c = some d :=
  ⟨0, 0, cmdOf (row 64 [(0x0, 1, 0x6), (0x4, 1, 0x0), (0xa, 2, 0x64), (0x10, 8, 0x1)]), 3, withCmd (row 64 [(0x0, 1, 0x6), (0x4, 1, 0x0), (0xa, 2, 0x64),
    (0x10, 8, 0x1)]) (up), by decide +kernel⟩

theorem witness_ContextsComeAndGo_3 :
    ∃ (fn : Fin 9) (slot : Fin 4096) (c : Cmd) (s : State),
      s.starts fn slot 7 0 c ∧ (∀ x ∈ s.streams, x.ctx ≠ c.ctx) :=
  ⟨0, 0, cmdOf (row 64 [(0x0, 1, 0x7)]), withCmd (row 64 [(0x0, 1, 0x7)]) (up), by decide +kernel⟩

theorem witness_ContextsComeAndGo_4 :
    ∃ (ctx : Fin 8) (s : State),
      (s.ctx ctx).clearing = true ∧ (∀ x ∈ s.streams, x.ctx ≠ ctx.val) ∧ (∀ r ∈ s.reqs, r.ctx ≠ ctx.val) :=
  ⟨0, (up).modCtx 0 fun (c : Ctx) => { c with clearing := true }, by decide +kernel⟩

theorem witness_MapAndUnmap_1 :
    ∃ (fn : Fin 9) (slot : Fin 4096) (c : Cmd) (s : State),
      s.starts fn slot 0x10 0 c ∧ (s.attrBad c.ctx (BitVec.ofNat 32 (c.par 0x18 4)) = true ∨ s.mapRangeBad c.ctx (c.par 8 8) (c.par 0x10 8) (BitVec.ofNat 32
        (c.par 0x18 4)) = true) :=
  ⟨0, 0, cmdOf (row 64 [(0x0, 1, 0x10), (0x8, 8, 0x20000), (0x10, 8, 0x10000), (0x18, 4, 0xe0000000)]), withCmd (row 64 [(0x0, 1, 0x10), (0x8, 8, 0x20000),
    (0x10, 8, 0x10000), (0x18, 4, 0xe0000000)]) (up), by decide +kernel⟩

theorem witness_MapAndUnmap_1_range :
    ∃ (fn : Fin 9) (slot : Fin 4096) (c : Cmd) (s : State),
      s.starts fn slot 0x10 0 c ∧ (s.attrBad c.ctx (BitVec.ofNat 32 (c.par 0x18 4)) = true ∨ s.mapRangeBad c.ctx (c.par 8 8) (c.par 0x10 8) (BitVec.ofNat 32
        (c.par 0x18 4)) = true) :=
  ⟨0, 0, cmdOf (row 64 [(0x0, 1, 0x10), (0x8, 8, 0x0), (0x10, 8, 0x10000), (0x18, 4, 0xc0000000)]), withCmd (row 64 [(0x0, 1, 0x10), (0x8, 8, 0x0), (0x10,
    8, 0x10000), (0x18, 4, 0xc0000000)]) (up), by decide +kernel⟩

theorem witness_MapAndUnmap_2 :
    ∃ (fn : Fin 9) (slot : Fin 4096) (c : Cmd) (s : State),
      s.starts fn slot 0x10 0 c ∧ s.attrBad c.ctx (BitVec.ofNat 32 (c.par 0x18 4)) = false ∧
        s.mapRangeBad c.ctx (c.par 8 8) 65536 (BitVec.ofNat 32 (c.par 0x18 4)) = false ∧ c.par 0x10 8 = 65536 ∧
        attrTier (BitVec.ofNat 32 (c.par 0x18 4)) = 1 :=
  ⟨0, 0, cmdOf (row 64 [(0x0, 1, 0x10), (0x8, 8, 0x20000), (0x10, 8, 0x10000), (0x18, 4, 0xc0000040)]), withCmd (row 64 [(0x0, 1, 0x10), (0x8, 8, 0x20000),
    (0x10, 8, 0x10000), (0x18, 4, 0xc0000040)]) ((up).modCtx 0 fun (c : Ctx) => { c with explicit := true }), by decide +kernel⟩

theorem witness_MapAndUnmap_3_placed :
    ∃ (fn : Fin 9) (slot : Fin 4096) (c : Cmd) (s : State) (vas : List Nat),
      s.starts fn slot 0x10 0 c ∧ s.attrBad c.ctx (BitVec.ofNat 32 (c.par 0x18 4)) = false ∧
        s.mapRangeBad c.ctx (c.par 8 8) (c.par 0x10 8) (BitVec.ofNat 32 (c.par 0x18 4)) = false ∧ attrTier (BitVec.ofNat 32 (c.par 0x18 4)) ≠ 1 ∧
        attrTier (BitVec.ofNat 32 (c.par 0x18 4)) ≠ 2 ∧ vas = (List.range (c.par 0x10 8 / pageBytes (attrBig (BitVec.ofNat 32 (c.par 0x18 4))))).map (fun i
        => c.par 8 8 + pageBytes (attrBig (BitVec.ofNat 32 (c.par 0x18 4))) * i) ∧ ∃ (t : State),
        s.mapYard c.ctx (BitVec.ofNat 32 (c.par 0x18 4)) vas = .ok t :=
  ⟨0, 0, cmdOf (row 64 [(0x0, 1, 0x10), (0x8, 8, 0x20000), (0x10, 8, 0x10000), (0x18, 4, 0xc0000000)]), withCmd (row 64 [(0x0, 1, 0x10), (0x8, 8, 0x20000),
    (0x10, 8, 0x10000), (0x18, 4, 0xc0000000)]) (up), [0x20000], by decide +kernel, by decide +kernel, by decide +kernel, by decide +kernel,
    by decide +kernel, by decide +kernel, ok_of (by decide +kernel)⟩

theorem witness_MapAndUnmap_3_refused :
    ∃ (fn : Fin 9) (slot : Fin 4096) (c : Cmd) (s : State) (vas : List Nat) (d : Nat),
      s.starts fn slot 0x10 0 c ∧ s.attrBad c.ctx (BitVec.ofNat 32 (c.par 0x18 4)) = false ∧
        s.mapRangeBad c.ctx (c.par 8 8) (c.par 0x10 8) (BitVec.ofNat 32 (c.par 0x18 4)) = false ∧ attrTier (BitVec.ofNat 32 (c.par 0x18 4)) ≠ 1 ∧
        attrTier (BitVec.ofNat 32 (c.par 0x18 4)) ≠ 2 ∧ vas = (List.range (c.par 0x10 8 / pageBytes (attrBig (BitVec.ofNat 32 (c.par 0x18 4))))).map (fun i
        => c.par 8 8 + pageBytes (attrBig (BitVec.ofNat 32 (c.par 0x18 4))) * i) ∧ s.mapYard c.ctx (BitVec.ofNat 32 (c.par 0x18 4)) vas = .error d :=
  ⟨0, 0, cmdOf (row 64 [(0x0, 1, 0x10), (0x8, 8, 0x20000), (0x10, 8, 0x10000), (0x18, 4, 0xc0000000)]), withCmd (row 64 [(0x0, 1, 0x10), (0x8, 8, 0x20000),
    (0x10, 8, 0x10000), (0x18, 4, 0xc0000000)]) ((up).modCtx 0 fun (c : Ctx) => { c with res := { bayMask := 1 } }), [0x20000], 0, by decide +kernel⟩

theorem witness_MapAndUnmap_4 :
    ∃ (fn : Fin 9) (slot : Fin 4096) (c : Cmd) (s : State),
      s.starts fn slot 0x11 0 c ∧ c.par 8 8 % 65536 = 0 ∧ c.par 0x10 8 % 65536 = 0 ∧ c.par 0x10 8 ≠ 0 ∧ c.par 8 8 + c.par 0x10 8 ≤ 2 ^ 57 ∧
        s.cutsPage c.ctx (c.par 8 8) (c.par 0x10 8) = false ∧ s.touchesStash c.ctx (c.par 8 8) (c.par 0x10 8) = false :=
  ⟨0, 0, cmdOf (row 64 [(0x0, 1, 0x11), (0x8, 8, 0x10000), (0x10, 8, 0x10000)]), withCmd (row 64 [(0x0, 1, 0x11), (0x8, 8, 0x10000), (0x10, 8,
    0x10000)]) (withPage [] up), by decide +kernel⟩

theorem witness_MapAndUnmap_5 :
    ∃ (fn : Fin 9) (slot : Fin 4096) (c : Cmd) (s : State),
      s.starts fn slot 0x11 0 c ∧ (c.par 8 8 % 65536 ≠ 0 ∨ c.par 0x10 8 % 65536 ≠ 0 ∨ s.cutsPage c.ctx (c.par 8 8) (c.par 0x10 8) = true) :=
  ⟨0, 0, cmdOf (row 64 [(0x0, 1, 0x11), (0x8, 8, 0x10000), (0x10, 8, 0x1)]), withCmd (row 64 [(0x0, 1, 0x11), (0x8, 8, 0x10000), (0x10, 8, 0x1)]) (up),
    by decide +kernel⟩

theorem witness_NewPagesReadZero_1 :
    ∃ (ctx : Nat) (va : Nat) (attr : BitVec 32) (_charge : Charge) (_half : Half) (_site : Nat) (_frame : Nat) (_part : Nat) (s : State),
      (∀ p ∈ s.pages, p.mapped = true → p.ctx = ctx → (va + pageBytes (attrBig attr) ≤ p.va ∨ p.va + p.bytes ≤ va)) ∧ (∀ e ∈ s.mem, e.1 < 2 ^ 21 * s.fresh) :=
  ⟨0, 0x20000, 0xC0000000, .yard, .h0, 0, 0, 1, withPage [] up, by decide +kernel⟩

theorem witness_TransfersMoveBytes_1 :
    ∃ (fn : Fin 9) (slot : Fin 4096) (c : Cmd) (s : State),
      s.starts fn slot 0x12 0 c ∧ c.xferBad = false ∧ c.par 8 1 = 1 ∧ s.rangeFault c.ctx c.xferVa c.xferBytes false .module = none ∧
        s.cuttingOver c.ctx c.xferVa c.xferBytes = false ∧ s.firstPoison c.ctx c.xferVa c.xferBytes = none :=
  ⟨0, 0, cmdOf (row 64 [(0x0, 1, 0x12), (0x8, 1, 0x1), (0x10, 8, 0x40), (0x18, 8, 0x10000), (0x20, 8, 0x20)]), withCmd (row 64 [(0x0, 1, 0x12), (0x8, 1,
    0x1), (0x10, 8, 0x40), (0x18, 8, 0x10000), (0x20, 8, 0x20)]) (withPage [] up), by decide +kernel⟩

theorem witness_TransfersMoveBytes_2 :
    ∃ (fn : Fin 9) (slot : Fin 4096) (c : Cmd) (s : State),
      s.starts fn slot 0x12 0 c ∧ c.xferBad = false ∧ c.par 8 1 = 0 ∧ s.rangeFault c.ctx c.xferVa c.xferBytes true .module = none ∧ c.moved < c.xferBytes :=
  ⟨0, 0, cmdOf (row 64 [(0x0, 1, 0x12), (0x8, 1, 0x0), (0x10, 8, 0x40), (0x18, 8, 0x10000), (0x20, 8, 0x20)]), withCmd (row 64 [(0x0, 1, 0x12), (0x8, 1,
    0x0), (0x10, 8, 0x40), (0x18, 8, 0x10000), (0x20, 8, 0x20)]) (withPage [] up), by decide +kernel⟩

theorem witness_TransfersMoveBytes_3 :
    ∃ (fn : Fin 9) (slot : Fin 4096) (c : Cmd) (bs : List Byte) (s : State),
      s.cmd? fn slot = some c ∧ c.opcode = 0x12 ∧ c.phase = .running ∧ bs ≠ [] ∧ c.moved + bs.length < c.xferBytes ∧
        s.writesHeld c.ctx (c.xferVa + c.moved) bs.length = false ∧ ∃ (t : State), s.tryWrite c.ctx (c.xferVa + c.moved) bs true false .h0 .module = .ok t :=
  ⟨0, 0, { cmdOf (row 64 [(0, 1, 0x12), (16, 8, 64), (24, 8, 0x10000), (32, 8, 32)]) with phase := .running }, [1, 2],
    (withPage [] up).setFn 0 { up.fn 0 with outstanding := [{ cmdOf (row 64 [(0, 1, 0x12), (16, 8, 64), (24, 8, 0x10000), (32, 8, 32)]) with phase := .running }] },
    by decide +kernel, by decide +kernel, by decide +kernel, by decide +kernel, by decide +kernel, by decide +kernel, ok_of (by decide +kernel)⟩

theorem witness_TransfersMoveBytes_4 :
    ∃ (fn : Fin 9) (slot : Fin 4096) (c : Cmd) (_why : HostFail) (s : State),
      s.cmd? fn slot = some c ∧ c.opcode = 0x12 ∧ c.phase = .running :=
  ⟨0, 0, { cmdOf (row 64 [(0, 1, 0x12), (16, 8, 64), (24, 8, 0x10000), (32, 8, 32)]) with phase := .running }, .error,
    (withPage [] up).setFn 0 { up.fn 0 with outstanding := [{ cmdOf (row 64 [(0, 1, 0x12), (16, 8, 64), (24, 8, 0x10000), (32, 8, 32)]) with phase := .running }] },
    by decide +kernel⟩

end Sys2Proof.Tests
end

