-- ==== Sys2Proof/Tests/WitnessDevice.lean ====
section
/-! SUPPORT. States and operands that meet the hypotheses of the statements, clause by clause: device. -/

namespace Sys2Proof.Tests

set_option Elab.async false

open Sys2Proof.Machine

theorem witness_PlanAndTopologyAreWritten_1 :
    ∃ (fn : Fin 9) (slot : Fin 4096) (c : Cmd) (s : State),
      s.starts fn slot 1 0 c ∧ c.par 8 8 % 64 = 0 ∧ c.par 0x10 1 = 0 :=
  ⟨0, 0, cmdOf (row 64 [(0x0, 1, 0x1), (0x8, 8, 0x40)]), withCmd (row 64 [(0x0, 1, 0x1), (0x8, 8, 0x40)]) (up), by decide +kernel⟩

theorem witness_PlanAndTopologyAreWritten_2 :
    ∃ (fn : Fin 9) (slot : Fin 4096) (c : Cmd) (s : State),
      s.starts fn slot 1 0 c ∧ c.par 8 8 % 64 = 0 ∧ c.par 0x10 1 = 1 :=
  ⟨0, 0, cmdOf (row 64 [(0x0, 1, 0x1), (0x8, 8, 0x40), (0x10, 1, 0x1)]), withCmd (row 64 [(0x0, 1, 0x1), (0x8, 8, 0x40), (0x10, 1, 0x1)]) (up),
    by decide +kernel⟩

theorem witness_PlanAndTopologyAreWritten_3 :
    ∃ (fn : Fin 9) (slot : Fin 4096) (c : Cmd) (s : State),
      s.starts fn slot 2 0 c ∧ c.par 8 8 % 64 = 0 :=
  ⟨0, 0, cmdOf (row 64 [(0x0, 1, 0x2), (0x8, 8, 0x80)]), withCmd (row 64 [(0x0, 1, 0x2), (0x8, 8, 0x80)]) (up), by decide +kernel⟩

theorem witness_PowerLimitCommand_1 :
    ∃ (fn : Fin 9) (slot : Fin 4096) (c : Cmd) (s : State),
      s.starts fn slot 4 0 c ∧ c.par 8 2 = 0 :=
  ⟨0, 0, cmdOf (row 64 [(0x0, 1, 0x4)]), withCmd (row 64 [(0x0, 1, 0x4)]) (up), by decide +kernel⟩

theorem witness_PowerLimitCommand_2 :
    ∃ (fn : Fin 9) (slot : Fin 4096) (c : Cmd) (s : State),
      s.starts fn slot 4 0 c ∧ c.par 8 2 ≠ 0 ∧ (c.par 8 2 < 1400 ∨ 2400 < c.par 8 2) :=
  ⟨0, 0, cmdOf (row 64 [(0x0, 1, 0x4), (0x8, 2, 0x577)]), withCmd (row 64 [(0x0, 1, 0x4), (0x8, 2, 0x577)]) (up), by decide +kernel⟩

theorem witness_PowerLimitCommand_2_high :
    ∃ (fn : Fin 9) (slot : Fin 4096) (c : Cmd) (s : State),
      s.starts fn slot 4 0 c ∧ c.par 8 2 ≠ 0 ∧ (c.par 8 2 < 1400 ∨ 2400 < c.par 8 2) :=
  ⟨0, 0, cmdOf (row 64 [(0x0, 1, 0x4), (0x8, 2, 0x961)]), withCmd (row 64 [(0x0, 1, 0x4), (0x8, 2, 0x961)]) (up), by decide +kernel⟩

theorem witness_PowerLimitCommand_3 :
    ∃ (fn : Fin 9) (slot : Fin 4096) (c : Cmd) (s : State),
      s.starts fn slot 4 0 c ∧ 1400 ≤ c.par 8 2 ∧ c.par 8 2 ≤ 2400 :=
  ⟨0, 0, cmdOf (row 64 [(0x0, 1, 0x4), (0x8, 2, 0x960)]), withCmd (row 64 [(0x0, 1, 0x4), (0x8, 2, 0x960)]) (up), by decide +kernel⟩

theorem witness_SillRequests_1 :
    ∃ (fn : Fin 9) (slot : Fin 4096) (c : Cmd) (s : State),
      s.starts fn slot 3 0 c ∧ s.sill.cur = none :=
  ⟨0, 0, cmdOf (row 64 [(0x0, 1, 0x3)]), withCmd (row 64 [(0x0, 1, 0x3)]) (up), by decide +kernel, rfl⟩

theorem witness_SillRequests_2 :
    ∃ (fn : Fin 9) (slot : Fin 4096) (c : Cmd) (s : State),
      s.starts fn slot 5 0 c ∧ s.sill.update = none ∧ s.sill.cur = none ∧ 3424 ≤ c.par 0x10 4 ∧ c.par 0x10 4 ≤ 33554432 :=
  ⟨0, 0, cmdOf (row 64 [(0x0, 1, 0x5), (0x10, 4, 0xd60)]), withCmd (row 64 [(0x0, 1, 0x5), (0x10, 4, 0xd60)]) (up), by decide +kernel, rfl, rfl,
    by decide +kernel, by decide +kernel⟩

theorem witness_SillRequests_3 :
    ∃ (fn : Fin 9) (slot : Fin 4096) (c : Cmd) (s : State),
      s.starts fn slot 5 0 c ∧ s.sill.update ≠ none :=
  ⟨0, 0, cmdOf (row 64 [(0x0, 1, 0x5)]), withCmd (row 64 [(0x0, 1, 0x5)]) ({ up with sill := { (up).sill with update := some ⟨0, 1, false, []⟩ } }),
    by decide +kernel⟩

theorem witness_SillRequests_4 :
    ∃ (fn : Fin 9) (_r : SpdmRequest) (s : State),
      s.present fn = true ∧ s.sill.state = 1 ∧ s.sill.cur ≠ none :=
  ⟨8, .challenge, { up with sill := { (up).sill with cur := some .signPlan } }, by decide +kernel⟩

theorem witness_SillRequests_5 :
    ∃ (fn : Nat) (slot : Nat) (s : State),
      s.sill.state = 1 ∧ s.sill.cur = some (.attest fn slot) :=
  ⟨0, 3, { up with sill := { (up).sill with cur := some (.attest 0 3) } }, by decide +kernel⟩

theorem witness_SillRequests_6 :
    ∃ (fn : Fin 9) (s : State),
      s.sill.state = 1 ∧ s.sill.cur = some (.spdm fn .keyExchange) ∧ s.session fn = false ∧ s.sill.high = [] ∧ s.sill.low = [] :=
  ⟨8, { up with sill := { (up).sill with cur := some (.spdm 8 .keyExchange) } }, by decide +kernel, rfl, by decide +kernel, rfl, rfl⟩

theorem witness_FirmwareUpdate_1 :
    ∃ (_bs : List Byte) (u : FwUpdate) (c : Cmd) (s : State),
      s.updateNow false = some (u, c) :=
  ⟨[], ⟨0, 0, false, []⟩, { cmdOf (row 64 [(0, 1, 5), (16, 4, 3424)]) with phase := .running },
    { up.setFn 0 { up.fn 0 with outstanding := [{ cmdOf (row 64 [(0, 1, 5), (16, 4, 3424)]) with phase := .running }] } with sill := { up.sill with cur := some (.fwUpdate 0 0), update := some ⟨0, 0, false, []⟩ } },
    by decide +kernel⟩

theorem witness_FirmwareUpdate_2 :
    ∃ (u : FwUpdate) (c : Cmd) (s : State),
      s.updateNow true = some (u, c) :=
  ⟨⟨0, 0, true, []⟩, { cmdOf (row 64 [(0, 1, 5), (16, 4, 3424)]) with phase := .running },
    { up.setFn 0 { up.fn 0 with outstanding := [{ cmdOf (row 64 [(0, 1, 5), (16, 4, 3424)]) with phase := .running }] } with sill := { up.sill with cur := some (.fwUpdate 0 0), update := some ⟨0, 0, true, []⟩ } },
    by decide +kernel⟩

theorem witness_FirmwareUpdate_3 :
    ∃ (_why : HostFail) (u : FwUpdate) (c : Cmd) (s : State),
      s.updateNow false = some (u, c) :=
  ⟨.timeout, ⟨0, 0, false, []⟩, { cmdOf (row 64 [(0, 1, 5), (16, 4, 3424)]) with phase := .running },
    { up.setFn 0 { up.fn 0 with outstanding := [{ cmdOf (row 64 [(0, 1, 5), (16, 4, 3424)]) with phase := .running }] } with sill := { up.sill with cur := some (.fwUpdate 0 0), update := some ⟨0, 0, false, []⟩ } },
    by decide +kernel⟩

end Sys2Proof.Tests
end

