-- ==== Sys2Proof/Tests/WitnessFaults.lean ====
section
/-! SUPPORT. States and operands that meet the hypotheses of the statements, clause by clause: faults. -/

namespace Sys2Proof.Tests

set_option Elab.async false

open Sys2Proof.Machine

theorem witness_FaultsEnd_1 :
    ∃ (id : Nat) (f : PFault) (s : State),
      s.fault? id = some f ∧ (s.aon.joiners.get f.half).running = true ∧ s.resolvesNow f = true ∧ s.now f.half < f.since + 12500 :=
  ⟨5, { id := 5, ctx := 0, addr := 0x10000, write := false, cause := 0, who := (.command 0 0), half := .h0, since := 90000, packed := 0 },
    { withPage [] up with faults := [{ id := 5, ctx := 0, addr := 0x10000, write := false, cause := 0, who := (.command 0 0), half := .h0, since := 90000, packed := 0 }] },
    by decide +kernel⟩

theorem witness_FaultsEnd_2 :
    ∃ (id : Nat) (f : PFault) (s : State),
      s.fault? id = some f ∧ (s.aon.joiners.get f.half).running = false :=
  ⟨5, { id := 5, ctx := 0, addr := 0x10000, write := false, cause := 0, who := (.command 0 0), half := .h0, since := 90000, packed := 0 },
    { up with faults := [{ id := 5, ctx := 0, addr := 0x10000, write := false, cause := 0, who := (.command 0 0), half := .h0, since := 90000, packed := 0 }], aon := { up.aon with joiners := ⟨{}, {}⟩ } },
    by decide +kernel⟩

theorem witness_FaultsEnd_3 :
    ∃ (id : Nat) (f : PFault) (s : State),
      s.fault? id = some f ∧ (s.aon.joiners.get f.half).running = true ∧ s.resolvesNow f = true ∧ s.now f.half = f.since + 12500 :=
  ⟨5, { id := 5, ctx := 0, addr := 0x10000, write := false, cause := 0, who := (.command 0 0), half := .h0, since := 87500, packed := 0 },
    { withPage [] up with faults := [{ id := 5, ctx := 0, addr := 0x10000, write := false, cause := 0, who := (.command 0 0), half := .h0, since := 87500, packed := 0 }] },
    by decide +kernel⟩

theorem witness_FaultsEnd_4 :
    ∃ (f : PFault) (fn : Nat) (slot : Nat) (c : Cmd) (s : State),
      f.who = .command fn slot ∧ s.cmd? fn slot = some c :=
  ⟨{ id := 5, ctx := 0, addr := 0x10000, write := false, cause := 0, who := (.command 0 0), half := .h0, since := 90000, packed := 0 }, 0, 0,
    cmdOf (row 64 [(0x0, 1, 0x10)]), withCmd (row 64 [(0x0, 1, 0x10)]) up, by decide +kernel⟩

theorem witness_FaultsEnd_5 :
    ∃ (id : Nat) (f : PFault) (fn : Nat) (slot : Nat) (c : Cmd) (s : State),
      s.fault? id = some f ∧ f.since + 12500 < s.now f.half ∧ s.awaitsClaim f = false ∧ f.who = .command fn slot ∧ s.cmd? fn slot = some c ∧
        c.opcode ≠ 0x12 ∧ c.slot = slot :=
  ⟨5, { id := 5, ctx := 0, addr := 0x10000, write := false, cause := 0, who := (.command 0 0), half := .h0, since := 80000, packed := 0 }, 0, 0,
    cmdOf (row 64 [(0x0, 1, 0x10)]), withCmd (row 64 [(0x0, 1, 0x10)]) { up with faults := [{ id := 5, ctx := 0, addr := 0x10000, write := false, cause := 0, who := (.command 0 0), half := .h0, since := 80000, packed := 0 }] },
    by decide +kernel⟩

theorem witness_FaultsEnd_6 :
    ∃ (id : Nat) (f : PFault) (bay : Nat) (idx : Nat) (k : Task) (s : State),
      s.fault? id = some f ∧ f.since + 12500 < s.now f.half ∧ s.awaitsClaim f = false ∧ f.who = .status 0 bay idx ∧ s.task? bay f.ctx idx = some k :=
  ⟨5, { id := 5, ctx := 0, addr := 0x10000, write := false, cause := 0, who := (.status 0 0 7), half := .h0, since := 80000, packed := 0 }, 0, 7,
    task0 (row 128 []), { withTask (task0 (row 128 [])) with faults := [{ id := 5, ctx := 0, addr := 0x10000, write := false, cause := 0, who := (.status 0 0 7), half := .h0, since := 80000, packed := 0 }] },
    by decide +kernel⟩

theorem witness_StashClaims_1 :
    ∃ (ctx : Fin 8) (f : PFault) (rest : List PFault) (st : Stash) (i : Nat) (n : Nat) (e : List Byte) (s : State),
      s.claimable = f :: rest ∧ f.ctx = ctx ∧ (s.ctx ctx).stash = some st ∧ s.managing = true ∧ s.claiming = false ∧ s.stashHeld ctx = false ∧
        st.releasing = false ∧ s.resolvesNow f = false ∧ s.layerAt ctx f.addr st = some i ∧ s.tryRead ctx (st.entryAt i) 64 .module = .ok e ∧
        leState e = 0 ∧ s.claimFrames ctx e = some n ∧ n ≤ leSlotFrames e ∧ slotShare e n .h0 ≤ s.stashFree ctx st .h0 ∧
        slotShare e n .h1 ≤ s.stashFree ctx st .h1 :=
  ⟨0, { id := 5, ctx := 0, addr := 0x200000, write := false, cause := pfStash, who := (.command 0 0), half := .h0, since := 99000, packed := 0 }, [],
    { hdr := (row 64 [(0x0, 1, 0x1), (0x8, 8, 0x200000), (0x10, 8, 0x200000), (0x18, 8, 0x18000)]), desc := 0x10000, nextSet := 0, setOwner := [], copied := [], code := 0, jobs := [] },
    0, 1, (row 64 [(0x8, 4, 0x1), (0x10, 4, 0x40), (0xc, 4, 0x1)]), { (withPage ((row 64 [(0x0, 1, 0x1), (0x8, 8, 0x200000), (0x10, 8, 0x200000), (0x18, 8, 0x18000)]) ++ (row 64 [(0x8, 4, 0x1), (0x10, 4, 0x40), (0xc, 4, 0x1)])) up).modCtx 0 fun (c : Ctx) => { c with stash := some { hdr := (row 64 [(0x0, 1, 0x1), (0x8, 8, 0x200000), (0x10, 8, 0x200000), (0x18, 8, 0x18000)]), desc := 0x10000, nextSet := 0, setOwner := [], copied := [], code := 0, jobs := [] }, res := { bayMask := 1, stashH0 := 4, stashH1 := 4 } } with faults := [{ id := 5, ctx := 0, addr := 0x200000, write := false, cause := pfStash, who := (.command 0 0), half := .h0, since := 99000, packed := 0 }] },
    by decide +kernel⟩

theorem witness_StashClaims_2 :
    ∃ (ctx : Fin 8) (st : Stash) (j : StashJob) (s : State),
      s.stashJob ctx 1 = some (st, j) ∧ s.managing = true :=
  ⟨0, { hdr := (row 64 [(0x0, 1, 0x1), (0x8, 8, 0x200000), (0x10, 8, 0x200000), (0x18, 8, 0x18000)]), desc := 0x10000, nextSet := 0, setOwner := [], copied := [], code := 0, jobs := [⟨[5], 0, 1, 1⟩] },
    ⟨[5], 0, 1, 1⟩, (withPage ((row 64 [(0x0, 1, 0x1), (0x8, 8, 0x200000), (0x10, 8, 0x200000), (0x18, 8, 0x18000)]) ++ (row 64 [(0x8, 4, 0x1), (0x10, 4,
    0x40), (0x16, 2, 0x2), (0x20, 8, 0x17000), (0x28, 8, 0x16000)])) up).modCtx 0 fun (c : Ctx) =>
    { c with stash := some { hdr := (row 64 [(0x0, 1, 0x1), (0x8, 8, 0x200000), (0x10, 8, 0x200000), (0x18, 8, 0x18000)]), desc := 0x10000, nextSet := 0, setOwner := [], copied := [], code := 0, jobs := [⟨[5], 0, 1, 1⟩] } },
    by decide +kernel⟩

theorem witness_StashClaims_3 :
    ∃ (ctx : Fin 8) (st : Stash) (j : StashJob) (s : State),
      s.stashJob ctx 2 = some (st, j) ∧ s.managing = true ∧ st.copied.contains j.layer = true :=
  ⟨0, { hdr := (row 64 [(0x0, 1, 0x1), (0x8, 8, 0x200000), (0x10, 8, 0x200000), (0x18, 8, 0x18000)]), desc := 0x10000, nextSet := 0, setOwner := [], copied := [0], code := 0, jobs := [⟨[5], 0, 1, 2⟩] },
    ⟨[5], 0, 1, 2⟩, (withPage ((row 64 [(0x0, 1, 0x1), (0x8, 8, 0x200000), (0x10, 8, 0x200000), (0x18, 8, 0x18000)]) ++ (row 64 [(0x8, 4, 0x1), (0x10, 4,
    0x40), (0x16, 2, 0x2), (0x20, 8, 0x17000), (0x28, 8, 0x16000)])) up).modCtx 0 fun (c : Ctx) =>
    { c with stash := some { hdr := (row 64 [(0x0, 1, 0x1), (0x8, 8, 0x200000), (0x10, 8, 0x200000), (0x18, 8, 0x18000)]), desc := 0x10000, nextSet := 0, setOwner := [], copied := [0], code := 0, jobs := [⟨[5], 0, 1, 2⟩] } },
    by decide +kernel⟩

end Sys2Proof.Tests
end

