-- ==== Sys2Proof/Tests/WitnessHost.lean ====
section
/-! SUPPORT. States and operands that meet the hypotheses of the statements, clause by clause: host. -/

namespace Sys2Proof.Tests

set_option Elab.async false

open Sys2Proof.Machine

theorem witness_DoorbellsAndSignals_1 : ∃ (fn : Fin 9) (_v : Word) (s : State), s.reaches fn = true :=
  ⟨8, 4095, up, by decide +kernel⟩

theorem witness_DoorbellsAndSignals_2 : ∃ (fn : Fin 9) (_v : Word) (s : State), s.reaches fn = true :=
  ⟨0, 0, up, by decide +kernel⟩

theorem witness_DoorbellsAndSignals_3 :
    ∃ (fn : Fin 9) (_v : Word) (s : State),
      s.reaches fn = true ∧ (s.fn fn).lostSince = 0 ∧ (s.fn fn).evWait = [] ∧ (fn = 0 → s.aon.thermal.tripEvent = none) :=
  ⟨0, 3, up, by decide +kernel, by decide +kernel, rfl, fun _ => rfl⟩

theorem witness_DoorbellsAndSignals_4 :
    ∃ (fn : Fin 9) (t0 : Nat) (s : State),
      (s.fn fn).irqFirst = some t0 ∧ (s.fn fn).irqDelay ≠ 0 ∧ t0 + (s.fn fn).irqDelay ≤ s.now .h0 :=
  ⟨8, 99990, (up).setFn 8 { (up).fn 8 with irqFirst := some 99990, irqDelay := 10 }, by decide +kernel⟩

theorem witness_CommandsAreFetched_1 :
    ∃ (fn : Fin 9) (bs : List Byte) (s : State),
      s.mayFetch fn = true ∧ refusal s.sill.recovery fn ⟨(s.fn fn).cmdHead, cut bs 0 64, .fetched, 0⟩ = none :=
  ⟨0, (row 64 [(0, 1, 0x12)]), up, by decide +kernel⟩

theorem witness_CommandsAreFetched_2 :
    ∃ (fn : Fin 9) (bs : List Byte) (status : Nat) (detail : Nat) (s : State),
      s.mayFetch fn = true ∧ refusal s.sill.recovery fn ⟨(s.fn fn).cmdHead, cut bs 0 64, .fetched, 0⟩ = some (status, detail) :=
  ⟨1, (row 64 [(0, 1, 5)]), 31, 0, up, by decide +kernel⟩

theorem witness_CommandsAreFetched_3 : ∃ (fn : Fin 9) (_why : HostFail) (s : State), s.mayFetch fn = true :=
  ⟨1, .poisoned, up, by decide +kernel⟩

theorem witness_CommandsNotPermitted_1 :
    ∃ (fn : Fin 9) (bs : List Byte) (s : State),
      s.mayFetch fn = true ∧ fn ≠ 0 ∧ ((fld bs 0 1 = 4 ∨ fld bs 0 1 = 5 ∨ fld bs 0 1 = 6) ∨ ((fld bs 0 1 = 7 ∨ (0x10 ≤ fld bs 0 1 ∧ fld bs 0 1 ≤ 0x1B)) ∧
        fld bs 4 1 ≠ fn.val - 1)) ∧ bs.length = 64 :=
  ⟨1, (row 64 [(0, 1, 7), (4, 1, 1)]), up, by decide +kernel⟩

theorem witness_CommandsNotPermitted_1_opcode :
    ∃ (fn : Fin 9) (bs : List Byte) (s : State),
      s.mayFetch fn = true ∧ fn ≠ 0 ∧ ((fld bs 0 1 = 4 ∨ fld bs 0 1 = 5 ∨ fld bs 0 1 = 6) ∨ ((fld bs 0 1 = 7 ∨ (0x10 ≤ fld bs 0 1 ∧ fld bs 0 1 ≤ 0x1B)) ∧
        fld bs 4 1 ≠ fn.val - 1)) ∧ bs.length = 64 :=
  ⟨1, (row 64 [(0, 1, 6)]), up, by decide +kernel⟩

theorem witness_CommandsNotPermitted_2 :
    ∃ (recovery : Bool) (c : Cmd) (status : Nat) (detail : Nat),
      refusal recovery 0 c = some (status, detail) :=
  ⟨false, cmdOf (row 64 [(0, 1, 9)]), 16, 1, by decide +kernel⟩

theorem witness_FunctionRegisters_1 :
    ∃ (fn : Fin 9) (v : Word) (s : State),
      s.reaches fn = true ∧ v.getLsbD 0 = true ∧ v.getLsbD 1 = false ∧ (s.fn fn).enable = false ∧ (s.fn fn).busy = false ∧ (s.fn fn).lostSince = 0 ∧
        (s.fn fn).evWait = [] ∧ (fn = 0 → s.aon.thermal.tripEvent = none) :=
  ⟨0, 1, (up).setFn 0 { (up).fn 0 with enable := false }, by decide +kernel, by decide +kernel, by decide +kernel, by decide +kernel, by decide +kernel,
    by decide +kernel, rfl, fun _ => rfl⟩

theorem witness_FunctionRegisters_2 :
    ∃ (fn : Fin 9) (v : Word) (s : State),
      s.reaches fn = true ∧ v.getLsbD 0 ≠ (s.fn fn).enable ∧ (s.fn fn).busy = true :=
  ⟨0, 0, (up).setFn 0 { (up).fn 0 with outstanding := [cmdOf (row 64 [])] }, by decide +kernel⟩

theorem witness_FunctionRegisters_3 :
    ∃ (fn : Fin 9) (_v : Word) (s : State),
      s.reaches fn = true ∧ (s.fn fn).cplWait = [] ∧ (s.fn fn).lostSince = 0 ∧ (s.fn fn).evWait = [] ∧ (fn = 0 → s.aon.thermal.tripEvent = none) :=
  ⟨0, 31, up, by decide +kernel, rfl, by decide +kernel, rfl, fun _ => rfl⟩

theorem witness_FunctionRegisters_4 :
    ∃ (fn : Fin 9) (off : Nat) (bs : List Byte) (s : State),
      s.reaches fn = true ∧ (off % 4 ≠ 0 ∨ bs.length ≠ 4) :=
  ⟨8, 2, [1, 2, 3, 4], up, by decide +kernel⟩

theorem witness_FunctionRegisters_4_length :
    ∃ (fn : Fin 9) (off : Nat) (bs : List Byte) (s : State),
      s.reaches fn = true ∧ (off % 4 ≠ 0 ∨ bs.length ≠ 4) :=
  ⟨8, 4, [1, 2], up, by decide +kernel⟩

theorem witness_FunctionRegisters_5 : ∃ (_w : Word) (s : State), s.reaches 0 = true :=
  ⟨1, up, by decide +kernel⟩

theorem witness_FunctionRegisters_6 :
    ∃ (off : Nat) (len : Nat) (s : State),
      s.reaches 0 = true ∧ (len = 0 ∨ 4 < off % 65536 % 4 + len) :=
  ⟨3, 2, up, by decide +kernel⟩

theorem witness_FunctionRegisters_7 : ∃ (s : State), s.reaches 0 = true :=
  ⟨up, by decide +kernel⟩

theorem witness_FunctionRegisters_8 : ∃ (s : State), s.reaches 0 = true :=
  ⟨up, by decide +kernel⟩

theorem witness_ApertureRequests_1 :
    ∃ (off : Nat) (len : Nat) (s : State),
      s.reaches 0 = true ∧ s.hif.bar4Q = [] ∧ off + len ≤ 2 ^ s.hif.bar4Log2 ∧ len ≠ 0 ∧ (s.hif.bar4Valid = false ∨ s.admitted s.hif.bar4Ctx = false) :=
  ⟨2 ^ 38 - 1, 1, up, by decide +kernel, rfl, by decide +kernel, by decide +kernel, by decide +kernel⟩

theorem witness_ApertureRequests_2 :
    ∃ (off : Nat) (bs : List Byte) (_p : Bool) (s : State),
      s.reaches 0 = true ∧ s.hif.bar4Q = [] ∧ off + bs.length ≤ 2 ^ s.hif.bar4Log2 ∧ (s.hif.bar4Valid = false ∨ s.admitted s.hif.bar4Ctx = false) :=
  ⟨2 ^ 38 - 1, [1], true, up, by decide +kernel, rfl, by decide +kernel, by decide +kernel⟩

theorem witness_ApertureRequests_3 :
    ∃ (off : Nat) (len : Nat) (bs : List Byte) (s : State),
      s.reaches 0 = true ∧ s.hif.bar4Q = [] ∧ off + len ≤ 2 ^ s.hif.bar4Log2 ∧ len ≠ 0 ∧ s.hif.bar4Valid = true ∧ s.admitted s.hif.bar4Ctx = true ∧
        (s.ctx s.hif.bar4Ctx).clearing = false ∧ s.bar4Held = false ∧ s.cuttingOver s.hif.bar4Ctx (s.hif.bar4Base.toNat + off) len = false ∧
        s.rangeFault s.hif.bar4Ctx (s.hif.bar4Base.toNat + off) len false .bar4 = none ∧
        s.tryRead s.hif.bar4Ctx (s.hif.bar4Base.toNat + off) len .bar4 = .ok bs :=
  ⟨2, 2, [3, 4], ({ withPage [1, 2, 3, 4] up with hif := { (withPage [1, 2, 3, 4] up).hif with bar4Valid := true, bar4Base := 0x10000 } }),
    by decide +kernel, rfl, by decide +kernel, by decide +kernel, by decide +kernel, by decide +kernel, by decide +kernel, by decide +kernel,
    by decide +kernel, by decide +kernel, by decide +kernel⟩

theorem witness_ApertureRequests_4 :
    ∃ (off : Nat) (bs : List Byte) (p : Bool) (s : State) (q : State),
      s.reaches 0 = true ∧ s.hif.bar4Q = [] ∧ off + bs.length ≤ 2 ^ s.hif.bar4Log2 ∧ bs ≠ [] ∧ s.hif.bar4Valid = true ∧ s.admitted s.hif.bar4Ctx = true ∧
        (s.ctx s.hif.bar4Ctx).clearing = false ∧ s.bar4Held = false ∧ s.writesHeld s.hif.bar4Ctx (s.hif.bar4Base.toNat + off) bs.length = false ∧
        q = { s with hif := { s.hif with bar4Q := [⟨true, s.hif.bar4Ctx, s.hif.bar4Base.toNat, off, bs.length, some bs, p⟩] } } ∧ ∃ (t : State),
        q.tryWrite s.hif.bar4Ctx (s.hif.bar4Base.toNat + off) bs true p .h0 .bar4 = .ok t :=
  ⟨65535, [7], false, ({ withPage [1, 2, 3, 4] up with hif := { (withPage [1, 2, 3, 4] up).hif with bar4Valid := true, bar4Base := 0x10000 } }),
    { ({ withPage [1, 2, 3, 4] up with hif := { (withPage [1, 2, 3, 4] up).hif with bar4Valid := true, bar4Base := 0x10000 } }) with hif := { ({ withPage [1, 2, 3, 4] up with hif := { (withPage [1, 2, 3, 4] up).hif with bar4Valid := true, bar4Base := 0x10000 } }).hif with bar4Q := [⟨true, 0, 0x10000, 65535, 1, some [7], false⟩] } },
    by decide +kernel, rfl, by decide +kernel, by decide +kernel, by decide +kernel, by decide +kernel, by decide +kernel, by decide +kernel,
    by decide +kernel, rfl, ok_of (by decide +kernel)⟩

theorem witness_CompletionEntryIsWritten_1 :
    ∃ (fn : Nat) (slot : Nat) (_status : Nat) (_detail : Nat) (_r0 : Nat) (_r1 : Nat) (c : Cmd) (s : State),
      s.cmd? fn slot = some c ∧ (s.fn fn).cplWait = [] ∧ cplFree (s.fn fn) = true ∧ memWf s.hif.host = true :=
  ⟨0, 0, 0, 0, 1, 2, cmdOf (row 64 [(0, 1, 1), (2, 2, 7)]), withCmd (row 64 [(0, 1, 1), (2, 2, 7)]) up, by decide +kernel, rfl, by decide +kernel,
    by decide +kernel⟩

theorem witness_RingsWithoutPlace_1 :
    ∃ (fn : Nat) (slot : Nat) (_status : Nat) (_detail : Nat) (_r0 : Nat) (_r1 : Nat) (c : Cmd) (s : State),
      s.cmd? fn slot = some c ∧ cplFree (s.fn fn) = false :=
  ⟨0, 0, 0, 0, 0, 0, cmdOf (row 64 []), (up).setFn 0 { (up).fn 0 with outstanding := [cmdOf (row 64 [])], cplHead := 0, cplTail := 4095 }, by decide +kernel⟩

theorem witness_RingsWithoutPlace_2 :
    ∃ (fn : Nat) (_code : Nat) (_ctx : Nat) (_h : Half) (_payload : List Byte) (s : State),
      evFree (s.fn fn) = false ∧ (s.fn fn).evqLost < max32 :=
  ⟨8, 5, 7, .h0, [], (up).setFn 8 { (up).fn 8 with evqEn := true, evqTail := 4095 }, by decide +kernel⟩

theorem witness_RingsWithoutPlace_3 : ∃ (f : Fn) (v : Fin 3), (tget f.msixTable (4 * v.val + 3) 0).getLsbD 0 = true :=
  ⟨{}, 2, by decide +kernel⟩

end Sys2Proof.Tests
end

