-- ==== Sys2Proof/Tests/WitnessLinks.lean ====
section
/-! SUPPORT. States and operands that meet the hypotheses of the statements, clause by clause: links. -/

namespace Sys2Proof.Tests

set_option Elab.async false

open Sys2Proof.Machine

theorem witness_RemotePacketsCommit_1 :
    ∃ (n : Fin 9) (vc : Fin 4) (p : Packet) (s : State),
      s.nextWrite n vc = some p ∧ s.admitted p.dctx = true ∧ s.isDead p.dctx n p.vc = false ∧
        s.writesHeld p.dctx (refAddr p.target.toNat) p.payload.length = false ∧
        s.bridgeHolds (portHalf (n % 8)) p.dctx (refAddr p.target.toNat) p.payload.length = false ∧ ∃ (t : State),
        s.portWrite p.dctx (p.ptag.toNat % 1024) (refAddr p.target.toNat) p.payload true p.poison (portHalf (n % 8)) = .ok t :=
  ⟨8, 0, { vc := 0, sub := 0, dir := 0, kind := 0, dctx := 0, poison := false, dest := 0, src := 1, target := 0x10000, ptag := 0, payload := row 32 [] },
    (withPage [] up).setPort 8 { commit := [(0, [{ vc := 0, sub := 0, dir := 0, kind := 0, dctx := 0, poison := false, dest := 0, src := 1, target := 0x10000, ptag := 0, payload := row 32 [] }])] },
    by decide +kernel, by decide +kernel, by decide +kernel, by decide +kernel, by decide +kernel, ok_of (by decide +kernel)⟩

theorem witness_RemotePacketsCommit_2 :
    ∃ (n : Fin 9) (vc : Fin 4) (p : Packet) (f : Nat × Nat) (s : State),
      s.nextWrite n vc = some p ∧ s.admitted p.dctx = true ∧ s.isDead p.dctx n p.vc = false ∧
        s.writesHeld p.dctx (refAddr p.target.toNat) p.payload.length = false ∧
        s.bridgeHolds (portHalf (n % 8)) p.dctx (refAddr p.target.toNat) p.payload.length = false ∧
        s.portWrite p.dctx (p.ptag.toNat % 1024) (refAddr p.target.toNat) p.payload true p.poison (portHalf (n % 8)) = .error f :=
  ⟨8, 0, { vc := 0, sub := 0, dir := 0, kind := 0, dctx := 0, poison := false, dest := 0, src := 1, target := 0x10000, ptag := 0, payload := row 32 [] },
    (0x10000, 0), (up).setPort 8 { commit := [(0, [{ vc := 0, sub := 0, dir := 0, kind := 0, dctx := 0, poison := false, dest := 0, src := 1, target := 0x10000, ptag := 0, payload := row 32 [] }])] },
    by decide +kernel⟩

theorem witness_RemotePacketsCommit_2_readOnly :
    ∃ (n : Fin 9) (vc : Fin 4) (p : Packet) (f : Nat × Nat) (s : State),
      s.nextWrite n vc = some p ∧ s.admitted p.dctx = true ∧ s.isDead p.dctx n p.vc = false ∧
        s.writesHeld p.dctx (refAddr p.target.toNat) p.payload.length = false ∧
        s.bridgeHolds (portHalf (n % 8)) p.dctx (refAddr p.target.toNat) p.payload.length = false ∧
        s.portWrite p.dctx (p.ptag.toNat % 1024) (refAddr p.target.toNat) p.payload true p.poison (portHalf (n % 8)) = .error f :=
  ⟨8, 0, { vc := 0, sub := 0, dir := 0, kind := 0, dctx := 0, poison := false, dest := 0, src := 1, target := 0x10000, ptag := 0, payload := row 32 [] },
    (0x10000, 1), ({ withPage [] up with pages := [{ page0 with attr := 0x40000000 }] }).setPort 8
    { commit := [(0, [{ vc := 0, sub := 0, dir := 0, kind := 0, dctx := 0, poison := false, dest := 0, src := 1, target := 0x10000, ptag := 0, payload := row 32 [] }])] },
    by decide +kernel⟩

theorem witness_RemotePacketsCommit_3 :
    ∃ (n : Fin 9) (vc : Fin 4) (p : Packet) (rest : List Packet) (s : State),
      tget (s.port n).commit vc [] = p :: rest ∧ p.kind = 1 ∧ s.admitted p.dctx = true ∧ s.isDead p.dctx n p.vc = false ∧ s.behindHold p = false ∧
        s.links.bridgeRetrain = none :=
  ⟨8, 0, { vc := 0, sub := 0, dir := 0, kind := 1, dctx := 0, poison := false, dest := 0, src := 1, target := 0x10000, ptag := 0, payload := row 32 [] },
    [], (up).setPort 8 { commit := [(0, [{ vc := 0, sub := 0, dir := 0, kind := 1, dctx := 0, poison := false, dest := 0, src := 1, target := 0x10000, ptag := 0, payload := row 32 [] }])] },
    by decide +kernel⟩

theorem witness_RemotePacketsCommit_4 :
    ∃ (n : Fin 9) (vc : Fin 4) (p : Packet) (s : State),
      s.nextWrite n vc = some p ∧ s.admitted p.dctx = false :=
  ⟨0, 0, { vc := 0, sub := 0, dir := 0, kind := 0, dctx := 0, poison := false, dest := 0, src := 1, target := 0x10000, ptag := 0, payload := row 32 [] },
    ({ up with ctxs := [] }).setPort 0 { commit := [(0, [{ vc := 0, sub := 0, dir := 0, kind := 0, dctx := 0, poison := false, dest := 0, src := 1, target := 0x10000, ptag := 0, payload := row 32 [] }])] },
    by decide +kernel⟩

theorem witness_RemotePacketsCommit_5 :
    ∃ (ctx : Nat) (_addr : Nat) (ptag : BitVec 32) (_bs : List Byte) (s : State),
      (∀ p, s.peg? ctx (ptag.toNat % 65536) = some p → p.state ≠ 1) :=
  ⟨0, 0x10000, 0x10005, [], { up with ctxs := [] }, (by intro p h; cases h)⟩

theorem witness_RemotePacketsCommit_6_semaphore :
    ∃ (ctx : Nat) (target : Nat) (s : State),
      bits target 7 0 = 0 ∧ bits target 15 8 ≤ 63 ∧ s.inMask ctx (bits target 15 8) = true ∧ bits target 31 16 ≤ 63 :=
  ⟨0, 0x3F0000, up, by decide +kernel⟩

theorem witness_RemotePacketsCommit_6_pair :
    ∃ (ctx : Nat) (target : Nat) (s : State),
      bits target 7 0 = 1 ∧ bits target 15 8 ≤ 63 ∧ s.inMask ctx (bits target 15 8) = true ∧ bits target 31 16 ≤ 31 :=
  ⟨0, 0x1F0001, up, by decide +kernel⟩

theorem witness_RemotePacketsCommit_6_peg : ∃ (target : Nat), bits target 7 0 = 3 :=
  ⟨0x3FF0003, by decide +kernel⟩

theorem witness_RemotePacketsCommit_6_stray :
    ∃ (ctx : Nat) (target : Nat) (s : State),
      bits target 7 0 ≠ 3 ∧ s.inMask ctx (bits target 15 8) = false :=
  ⟨0, 0x100, up, by decide +kernel⟩

theorem witness_PacketsAreSent_1 :
    ∃ (n : Fin 8) (v : Nat) (k : Packet) (s : State),
      (s.port n).frames = true ∧ s.nextVc n = some v ∧ s.startable n v = some k ∧ k.buf = none :=
  ⟨7, 0, { vc := 0, sub := 0, dir := 0, kind := 0, dctx := 0, poison := false, dest := 0, src := 1, target := 0x10000, ptag := 0, payload := row 32 [] },
    (up).setPort 7 { step := 7, state := 0, laneActive := 0xFFF, queues := [(0, [{ vc := 0, sub := 0, dir := 0, kind := 0, dctx := 0, poison := false, dest := 0, src := 1, target := 0x10000, ptag := 0, payload := row 32 [] }])], txCredits := [(0, 2)] },
    by decide +kernel⟩

theorem witness_PacketsAreSent_2 :
    ∃ (n : Fin 8) (s : State),
      (s.port n).frames = true ∧ (s.port n).resend = none ∧ (s.port n).stream ≠ [] ∧ (s.port n).replayBuf.length < 64 :=
  ⟨0, (up).setPort 0 { step := 7, state := 0, laneActive := 0xFFF, stream := [(row 32 [], [])] }, by decide +kernel⟩

theorem witness_PacketsAreSent_3 :
    ∃ (n : Fin 8) (s : State),
      (s.port n).frames = true ∧ (s.port n).resend = none ∧ (s.port n).stream = [] :=
  ⟨0, (up).setPort 0 { step := 7, state := 0, laneActive := 0xFFF }, by decide +kernel, rfl, rfl⟩

theorem witness_FramesAreReplayed_1 :
    ∃ (n : Fin 8) (bs : List Byte) (s : State),
      (s.port n).frames = true ∧ (bs.length ≠ 7710 ∨ crc32c (bs.take 7706) ≠ leNat (bs.drop 7706)) ∧ (s.port n).laneUe = [] ∧ s.links.unreachable = [] :=
  ⟨7, [], (up).setPort 7 { step := 7, state := 0, laneActive := 0xFFF }, by decide +kernel, by decide +kernel, rfl, by decide +kernel⟩

theorem witness_FramesAreReplayed_2 :
    ∃ (n : Fin 8) (s : State),
      (s.port n).frames = true ∧ (s.port n).replayBuf ≠ [] ∧ (s.port n).ackTick + s.aon.replayTimeout < s.now (portHalf n) ∧
        (s.port n).replayRun + 1 < s.aon.replayLimit :=
  ⟨0, (up).setPort 0 { step := 7, state := 0, laneActive := 0xFFF, replayBuf := [⟨5, [], []⟩], ackTick := 99974, replayRun := 6 }, by decide +kernel⟩

theorem witness_FramesAreReplayed_3 :
    ∃ (n : Fin 8) (s : State),
      windowEnd (s.now (portHalf n)) 16 (s.port n).laneUeEnded = true :=
  ⟨7, ({ up with aon := { up.aon with ticks := ⟨0x20000, 0x20000⟩ } }).setPort 7 { step := 7, state := 0, laneActive := 0xFFF }, by decide +kernel⟩

theorem witness_FramesAreReplayed_4 :
    ∃ (n : Fin 8) (lane : Fin 14) (s : State),
      (s.port n).laneActive.getLsbD lane = true ∧ (s.port n).up = true ∧ (s.port n).retraining = false :=
  ⟨7, 11, (up).setPort 7 { step := 7, state := 0, laneActive := 0xFFF }, by decide +kernel⟩

theorem witness_FramesAreReplayed_5 :
    ∃ (n : Fin 8) (s : State),
      (s.port n).frames = true ∧ (s.port n).resend = none ∧ 64 ≤ (s.port n).replayBuf.length :=
  ⟨0, (up).setPort 0 { step := 7, state := 0, laneActive := 0xFFF, replayBuf := List.replicate 64 ⟨5, [], []⟩ }, by decide +kernel⟩

theorem witness_FramesAreReplayed_6 :
    ∃ (n : Fin 8) (k : Nat) (f : Frame) (s : State),
      (s.port n).frames = true ∧ (s.port n).resend = some k ∧ (s.port n).replayBuf[k]? = some f :=
  ⟨0, 1, ⟨6, [], []⟩, (up).setPort 0 { step := 7, state := 0, laneActive := 0xFFF, replayBuf := [⟨5, [], []⟩, ⟨6, [], []⟩], resend := some 1 },
    by decide +kernel⟩

theorem witness_FramesAreReplayed_7 :
    ∃ (n : Nat) (bs : List Byte) (s : State) (t : State),
      t = State.addCredits (s.ackFrames n (fld bs 3 3)) n (fld bs 7 7) ∧ bit (fld bs 6 1) 4 = true ∧ (t.port n).replayBuf ≠ [] :=
  ⟨0, [0, 0, 0, 5, 0, 0, 0x10], ((up).setPort 0 { step := 7, state := 0, laneActive := 0xFFF, replayBuf := [⟨5, [], []⟩, ⟨6, [], []⟩] }),
    State.addCredits (State.ackFrames ((up).setPort 0 { step := 7, state := 0, laneActive := 0xFFF, replayBuf := [⟨5, [], []⟩, ⟨6, [], []⟩] }) 0 (fld [0, 0,
    0, 5, 0, 0, 0x10] 3 3)) 0 (fld [0, 0, 0, 5, 0, 0, 0x10] 7 7), rfl, by decide +kernel, by decide +kernel⟩

theorem witness_FramesAreReplayed_8 :
    ∃ (n : Nat) (ack : Nat) (k : Nat) (f : Frame) (rest : List Frame) (s : State),
      (s.port n).replayBuf = f :: rest ∧ k = (ack + 2 ^ 24 - f.fseq) % 2 ^ 24 + 1 ∧ k ≤ rest.length + 1 :=
  ⟨0, 6, 2, ⟨5, [], []⟩, [⟨6, [], []⟩], (up).setPort 0 { step := 7, state := 0, laneActive := 0xFFF, replayBuf := [⟨5, [], []⟩, ⟨6, [], []⟩] },
    by decide +kernel⟩

theorem witness_PortsTrain_1 :
    ∃ (n : Fin 8) (_signal : Bool) (s : State),
      s.aon.pwrOk = true ∧ 7 ≤ s.aon.boot.stage ∧ s.halfIn (portHalf n) = true ∧ (s.port n).step = 0 :=
  ⟨7, false, bootAt 7, by decide +kernel⟩

theorem witness_PortsTrain_2 : ∃ (n : Fin 8) (s : State), (s.port n).step = 1 :=
  ⟨0, (bootAt 7).setPort 0 { step := 1 }, by decide +kernel⟩

theorem witness_PortsTrain_3 :
    ∃ (n : Fin 8) (_passed : BitVec 14) (s : State),
      (s.port n).step = 2 :=
  ⟨0, 0x3FFF, (bootAt 7).setPort 0 { step := 2 }, by decide +kernel⟩

theorem witness_PortsTrain_4 :
    ∃ (n : Fin 8) (partner : BitVec 14) (s : State),
      (s.port n).step = 3 ∧ activeSet ((s.port n).passed &&& partner) false ≠ 0 :=
  ⟨0, 0x3F, (bootAt 7).setPort 0 { step := 3, passed := 0x3FFF }, by decide +kernel⟩

theorem witness_PortsTrain_5 :
    ∃ (n : Fin 8) (_credits : List Nat) (s : State),
      (s.port n).step = 4 ∧ (s.port n).state ≠ 2 :=
  ⟨0, [734, 734, 734, 734], (bootAt 7).setPort 0 { step := 4 }, by decide +kernel⟩

theorem witness_PortsTrain_6 :
    ∃ (n : Fin 8) (coord : BitVec 48) (pp : BitVec 8) (_serial : BitVec 64) (s : State),
      (s.port n).step = 5 ∧ (s.port n).state ≠ 2 ∧ (s.port n).retraining = false ∧ s.aon.coordValid = true ∧ s.partnerOk n coord pp = false :=
  ⟨0, 0, 1, 9, ({ up with aon := { up.aon with coordValid := true, axisLen := 1 } }).setPort 0 { step := 5 }, by decide +kernel⟩

theorem witness_PortsTrain_7 :
    ∃ (n : Fin 8) (coord : BitVec 48) (pp : BitVec 8) (_serial : BitVec 64) (s : State),
      (s.port n).step = 5 ∧ (s.port n).state ≠ 2 ∧ (s.port n).retraining = false ∧ s.aon.coordValid = true ∧ s.partnerOk n coord pp = true ∧
        s.axisLen (portAxis n) ≠ 1 :=
  ⟨0, 1, 1, 9, ({ up with aon := { up.aon with coordValid := true, axisLen := 1 } }).setPort 0 { step := 5, laneActive := 0xFFF }, by decide +kernel⟩

theorem witness_PortsTrain_7_half :
    ∃ (n : Fin 8) (coord : BitVec 48) (pp : BitVec 8) (_serial : BitVec 64) (s : State),
      (s.port n).step = 5 ∧ (s.port n).state ≠ 2 ∧ (s.port n).retraining = false ∧ s.aon.coordValid = true ∧ s.partnerOk n coord pp = true ∧
        s.axisLen (portAxis n) ≠ 1 :=
  ⟨1, 1, 0, 9, ({ up with aon := { up.aon with coordValid := true, axisLen := 1 } }).setPort 1 { step := 5, laneActive := 0x3F }, by decide +kernel⟩

theorem witness_PortsTrain_9 :
    ∃ (n : Fin 8) (passed : BitVec 14) (partner : BitVec 14) (_credits : List Nat) (s : State),
      (s.port n).retraining = true ∧ activeSet (passed &&& partner) (s.port n).halfLocked = 0 :=
  ⟨0, 0x3FFF, 0x1F, [734, 734, 734, 734], (up).setPort 0 { step := 7, state := 0, retraining := true }, by decide +kernel⟩

theorem witness_PortsTrain_10 :
    ∃ (n : Fin 8) (passed : BitVec 14) (partner : BitVec 14) (_credits : List Nat) (s : State),
      (s.port n).retraining = true ∧ activeSet (passed &&& partner) (s.port n).halfLocked ≠ 0 :=
  ⟨0, 0x3FFF, 0x3F, [734, 734, 734, 734], (up).setPort 0 { step := 7, state := 0, retraining := true }, by decide +kernel⟩

theorem witness_PortsTrain_11 : ∃ (_breaks : List (Fin 4 × Nat)) (s : State), s.anyAdmitted = true :=
  ⟨[(0, 1)], up, by decide +kernel⟩

theorem witness_CoordinatesAndRoutes_1 : ∃ (_v : Word) (s : State), s.reaches 0 = true ∧ s.anyAdmitted = true :=
  ⟨5, up, by decide +kernel⟩

theorem witness_CoordinatesAndRoutes_2 :
    ∃ (_v : Word) (s : State),
      s.reaches 0 = true ∧ s.anyAdmitted = false :=
  ⟨5, { up with ctxs := [] }, by decide +kernel⟩

theorem witness_CoordinatesAndRoutes_3 :
    ∃ (v : Word) (s : State),
      s.reaches 0 = true ∧ v.getLsbD 0 = true ∧ s.anyAdmitted = false :=
  ⟨1, { up with ctxs := [] }, by decide +kernel⟩

theorem witness_CoordinatesAndRoutes_4 :
    ∃ (v : Word) (s : State),
      s.reaches 0 = true ∧ s.anyAdmitted = false ∧ s.aon.coordValid = false ∧ s.links.wasValid = false ∧
        bit (v.toNat + 2 ^ 32 * s.heldHi .bar0 (2 ^ 32) (s.aon.coordPair / 2 ^ 32)) 63 = true :=
  ⟨5, { up.setFn 0 { up.fn 0 with held := [(2 ^ 32, 0x80000000)] } with ctxs := [] }, by decide +kernel⟩

theorem witness_CoordinatesAndRoutes_5 :
    ∃ (s : State),
      s.links.busy = true ∧ s.managing = true ∧ s.anyAdmitted = false :=
  ⟨{ up with links := { busy := true }, ctxs := [] }, by decide +kernel⟩

end Sys2Proof.Tests
end

