-- ==== Sys2Proof/Tests/WitnessManage.lean ====
section
/-! SUPPORT. States and operands that meet the hypotheses of the statements, clause by clause: manage. -/

namespace Sys2Proof.Tests

set_option Elab.async false

open Sys2Proof.Machine

theorem witness_BridgeTraffic_1 :
    ∃ (_h : Half) (bs : List Byte) (s : State),
      s.aon.pwrOk = true ∧ s.links.bridgeRetrain = none ∧ flitOk bs = true :=
  ⟨.h1, List.replicate 252 0 ++ [33, 83, 230, 103], up, by decide +kernel⟩

theorem witness_BridgeTraffic_2 :
    ∃ (h : Half) (bs : List Byte) (s : State),
      s.aon.pwrOk = true ∧ s.links.bridgeRetrain = none ∧ flitOk bs = false ∧ s.links.bridgeRun.get h < 15 :=
  ⟨.h0, List.replicate 256 1, { up with links := { bridgeRun := ⟨14, 3⟩ } }, by decide +kernel⟩

theorem witness_BridgeTraffic_2_short :
    ∃ (h : Half) (bs : List Byte) (s : State),
      s.aon.pwrOk = true ∧ s.links.bridgeRetrain = none ∧ flitOk bs = false ∧ s.links.bridgeRun.get h < 15 :=
  ⟨.h0, [], { up with links := { bridgeRun := ⟨0, 15⟩ } }, by decide +kernel⟩

theorem witness_BridgeTraffic_3 :
    ∃ (h : Half) (bs : List Byte) (s : State),
      s.aon.pwrOk = true ∧ s.links.bridgeRetrain = none ∧ flitOk bs = false ∧ 15 ≤ s.links.bridgeRun.get h :=
  ⟨.h1, [], { up with links := { bridgeRun := ⟨0, 15⟩ } }, by decide +kernel⟩

theorem witness_BridgeTraffic_4 :
    ∃ (t0 : Nat) (s : State),
      s.links.bridgeRetrain = some t0 ∧ s.now .h0 ≤ t0 + 12500 :=
  ⟨87500, { up with links := { bridgeRetrain := some 87500 } }, by decide +kernel⟩

theorem witness_BridgeTraffic_5 :
    ∃ (t0 : Nat) (s : State),
      s.links.bridgeRetrain = some t0 ∧ t0 + 12500 < s.now .h0 :=
  ⟨87499, { up with links := { bridgeRetrain := some 87499 } }, by decide +kernel⟩

theorem witness_JoinersAndHealth_1 :
    ∃ (h : Half) (c : Claim) (_seen : BitVec 2) (s : State),
      s.aon.pwrOk = true ∧ (s.aon.joiners.get h).running = true ∧ s.now h < (s.aon.joiners.get h).lastBeat + 2500 ∧ 5 ≤ s.aon.boot.stage ∧
        (s.aon.boot.stage ≠ 11 ∨ s.aon.boot.ready = true) ∧ claimNum c = holderNum s.holder :=
  ⟨.h1, .h0, 1, { up with aon := { up.aon with joiners := ⟨{ running := true, lastBeat := 100000 }, { running := true, lastBeat := 97501 }⟩ } },
    by decide +kernel⟩

theorem witness_JoinersAndHealth_2 :
    ∃ (h : Half) (c : Claim) (_seen : BitVec 2) (s : State),
      s.aon.pwrOk = true ∧ (s.aon.joiners.get h).running = true ∧ s.now h < (s.aon.joiners.get h).lastBeat + 2500 ∧ 5 ≤ s.aon.boot.stage ∧
        claimNum c ≠ holderNum s.holder ∧ s.aon.king.barred.get h = false :=
  ⟨.h1, .h1, 1, up, by decide +kernel⟩

theorem witness_JoinersAndHealth_3 :
    ∃ (h : Half) (claim : Nat) (seen : BitVec 2) (s : State) (u : State),
      s.aon.king.conflict = false ∧ u = State.postPf0 { s with aon := { s.aon with king := { s.aon.king with conflict := true, barred := s.aon.king.barred.set h true } } } 16 0xFF .h0 (toLE 1 h.num ++ toLE 1 (holderNum s.holder) ++ toLE 1 claim ++ toLE 1 seen.toNat) :=
  ⟨.h1, 2, 1, up, State.postPf0 { up with aon := { up.aon with king := { up.aon.king with conflict := true, barred := up.aon.king.barred.set .h1 true } } }
    16 0xFF .h0 (toLE 1 Half.h1.num ++ toLE 1 (holderNum up.holder) ++ toLE 1 2 ++ toLE 1 (1 : BitVec 2).toNat), by decide +kernel, rfl⟩

theorem witness_JoinersAndHealth_4 :
    ∃ (h : Half) (s : State),
      s.aon.pwrOk = true ∧ (s.aon.joiners.get h).running = true ∧ (s.aon.joiners.get h).lastBeat + 2500 < s.now h ∧ (s.aon.joiners.get h).restarts < 2 ∧
        s.holder ≠ some h ∧ s.sill.cur = none :=
  ⟨.h1, { up with aon := { up.aon with joiners := ⟨{ running := true, lastBeat := 100000 }, { running := true, lastBeat := 97499, restarts := 1 }⟩ } },
    by decide +kernel, by decide +kernel, by decide +kernel, by decide +kernel, by decide +kernel, rfl⟩

theorem witness_JoinersAndHealth_5 :
    ∃ (h : Half) (s : State),
      s.aon.pwrOk = true ∧ (s.aon.joiners.get h).running = true ∧ (s.aon.joiners.get h).lastBeat + 2500 < s.now h ∧ 2 ≤ (s.aon.joiners.get h).restarts :=
  ⟨.h1, { up with aon := { up.aon with joiners := ⟨{ running := true, lastBeat := 100000 }, { running := true, lastBeat := 97499, restarts := 2 }⟩ } },
    by decide +kernel⟩

theorem witness_JoinersAndHealth_6 :
    ∃ (h : Half) (s : State),
      (s.aon.joiners.get h).restarting = true ∧ s.sill.state = 1 ∧ s.sill.cur = some (.verifyJoiner h) ∧ s.aon.boot.ready = false ∧ s.aon.boot.stage ≠ 11 :=
  ⟨.h1, { { up with aon := { (bootAt 6).aon with joiners := ⟨{ running := true, lastBeat := 100000 }, { restarting := true }⟩ } } with sill := { up.sill with cur := some (.verifyJoiner .h1) } },
    by decide +kernel, by decide +kernel, rfl, by decide +kernel, by decide +kernel⟩

theorem witness_JoinersAndHealth_7 :
    ∃ (s : State),
      s.aon.pwrOk = true ∧ s.sill.state ≠ 2 ∧ (s.aon.boot.ready = true ∨ s.booting = false) :=
  ⟨up, by decide +kernel⟩

theorem witness_JoinersAndHealth_8 :
    ∃ (s : State),
      s.aon.pwrOk = true ∧ s.sill.state ≠ 2 ∧ s.aon.boot.ready = false ∧ s.booting = true :=
  ⟨bootAt 6, by decide +kernel⟩

theorem witness_PowerManager_1 :
    ∃ (_m : Nat) (_u : Nat) (_temps : List Int) (s : State),
      s.aon.pwrOk = true ∧ periodEarly s.aon.power.evaluated (s.now .h0) = false :=
  ⟨1500, 900, [800], up, by decide +kernel⟩

theorem witness_PowerManager_2 :
    ∃ (_m : Nat) (_u : Nat) (t0 : Nat) (_temps : List Int) (s : State),
      s.aon.power.evaluated = some t0 ∧ s.now .h0 < t0 + 1024 :=
  ⟨1500, 900, 98977, [800], { up with aon := { up.aon with power := { evaluated := some 98977 } } }, by decide +kernel⟩

theorem witness_PowerManager_3 :
    ∃ (c : OpChange) (s : State),
      s.aon.power.change = some c ∧ s.aon.power.limitCmds = [] :=
  ⟨⟨5, false, true⟩, { up with aon := { up.aon with power := { change := some ⟨5, false, true⟩ } } }, by decide +kernel⟩

theorem witness_PowerManager_4 : ∃ (s : State), s.aon.pwrOk = true :=
  ⟨up, by decide +kernel⟩

theorem witness_PowerManager_5 : ∃ (_h : Half) (s : State), s.aon.pwrOk = true :=
  ⟨.h1, up, by decide +kernel⟩

theorem witness_PowerManager_6 :
    ∃ (bay : Fin 64) (t0 : Nat) (s : State),
      (s.bay bay).idleSince = some t0 ∧ (s.bay bay).on = true ∧ (s.bay bay).gated = false ∧ s.bayBusy bay = false ∧ t0 + 125 ≤ s.now (bayHalf bay) :=
  ⟨0, 99875, { up with bays := [(0, { on := true, idleSince := some 99875 })] }, by decide +kernel⟩

theorem witness_PowerManager_7 :
    ∃ (bay : Fin 64) (s : State),
      (s.bay bay).gated = true ∧ s.bayBusy bay = true ∧ s.aon.power.ungates.get (bayHalf bay) = [] :=
  ⟨0, { up with bays := [(0, { on := true, gated := true })], lists := [list0 []] }, by decide +kernel⟩

theorem witness_PowerManager_8 :
    ∃ (h : Half) (s : State),
      windowEnd (s.now h) 20 (s.ctxRegs.meterEnded.get h) = true ∧ s.ctxRegs.alert = 0 :=
  ⟨.h0, { up with ctxRegs := { alert := 0 }, aon := { up.aon with ticks := ⟨2 ^ 21, 2 ^ 21⟩ } }, by decide +kernel⟩

theorem witness_ThermalAndSideband_1 :
    ∃ (_n : Fin 67) (temp : Int) (s : State),
      s.aon.pwrOk = true ∧ s.aon.tripPin = false ∧ 920 ≤ temp :=
  ⟨66, 920, up, by decide +kernel⟩

theorem witness_ThermalAndSideband_2 :
    ∃ (t0 : Nat) (s : State),
      s.aon.thermal.tripTick = some t0 ∧ (s.aon.thermal.tripEvent = none ∨ t0 + 250 ≤ s.now .h0) :=
  ⟨99750, { up with aon := { up.aon with thermal := { tripTick := some 99750, tripEvent := some (1, 920) } } }, by decide +kernel⟩

theorem witness_ThermalAndSideband_2_posted :
    ∃ (t0 : Nat) (s : State),
      s.aon.thermal.tripTick = some t0 ∧ (s.aon.thermal.tripEvent = none ∨ t0 + 250 ≤ s.now .h0) :=
  ⟨100000, { up with aon := { up.aon with thermal := { tripTick := some 100000 } } }, by decide +kernel⟩

theorem witness_ThermalAndSideband_3 : ∃ (_m : Fin 12) (_temp : Int) (s : State), s.aon.pwrOk = true :=
  ⟨11, 880, up, by decide +kernel⟩

theorem witness_ThermalAndSideband_4 :
    ∃ (v : Word) (s : State),
      s.aon.powered = true ∧ (v.toNat < 1400 ∨ 2400 < v.toNat) :=
  ⟨1399, up, by decide +kernel⟩

theorem witness_ThermalAndSideband_4_high :
    ∃ (v : Word) (s : State),
      s.aon.powered = true ∧ (v.toNat < 1400 ∨ 2400 < v.toNat) :=
  ⟨2401, up, by decide +kernel⟩

theorem witness_ThermalAndSideband_5 :
    ∃ (v : Word) (s : State),
      s.aon.powered = true ∧ 1400 ≤ v.toNat ∧ v.toNat ≤ 2400 ∧ s.aon.power.requested ≤ v.toNat ∧ s.aon.power.requested ≤ s.aon.power.boardMax :=
  ⟨2400, up, by decide +kernel⟩

theorem witness_ThermalAndSideband_6 : ∃ (_v : Word) (s : State), s.aon.powered = true :=
  ⟨8, up, by decide +kernel⟩

end Sys2Proof.Tests
end

