-- ==== Sys2Proof/Tests/WitnessPegs.lean ====
section
/-! SUPPORT. States and operands that meet the hypotheses of the statements, clause by clause: pegs. -/

namespace Sys2Proof.Tests

set_option Elab.async false

open Sys2Proof.Machine

theorem witness_GroupsAndPegsByCommand_1 :
    ∃ (fn : Fin 9) (slot : Fin 4096) (c : Cmd) (s : State),
      s.starts fn slot 0x18 0 c ∧ c.par 8 1 ≤ 63 ∧ s.groupBad (cut c.bytes 0x10 16) = false ∧ (∀ r,
        r < grpSize (cut c.bytes 0x10 16) → s.reachable (s.member (cut c.bytes 0x10 16) r) = true) ∧ (∀ e ∈ (s.ctx c.ctx).pegs,
        pgOp e.2.entry = 0 ∨ pgGroup e.2.entry ≠ c.par 8 1) :=
  ⟨0, 0, cmdOf (row 64 [(0x0, 1, 0x18), (0x8, 1, 0x3f), (0x10, 8, 0x0)]), withCmd (row 64 [(0x0, 1, 0x18), (0x8, 1, 0x3f), (0x10, 8,
    0x0)]) ({ up with aon := { (up).aon with coordValid := true } }), by decide +kernel⟩

theorem witness_GroupsAndPegsByCommand_2 :
    ∃ (fn : Fin 9) (slot : Fin 4096) (c : Cmd) (bs : List Byte) (s : State),
      s.starts fn slot 0x19 0 c ∧ c.par 0x10 8 % 64 = 0 ∧ refHigh (c.par 0x10 8) = 0 ∧ c.par 0xA 2 + (c.par 0xC 2 + 1) ≤ 1024 ∧
        s.tryRead c.ctx (c.par 0x10 8) (64 * (c.par 0xC 2 + 1)) .module = .ok bs ∧ ((s.ctx c.ctx).pegArea = none → c.par 0x18 8 ≠ 0 ∧
        c.par 0x18 8 % 16 = 0 ∧ refHigh (c.par 0x18 8) = 0) ∧ (∀ a ∈ (s.ctx c.ctx).pegArea, c.par 0x18 8 = 0 ∨ c.par 0x18 8 = a) ∧ (∀ i,
        i ≤ c.par 0xC 2 → pegBad (cut bs (64 * i) 64) = false) ∧ (∀ i, i ≤ c.par 0xC 2 → (s.countRange c.ctx (c.par 0x10 8) (64 * (c.par 0xC 2 + 1))
        .h0).pegRuns c.ctx (c.par 0xA 2 + i) = false) :=
  ⟨0, 0, cmdOf (row 64 [(0x0, 1, 0x19), (0xa, 2, 0x3ff), (0x10, 8, 0x10000), (0x18, 8, 0x18000)]), (row 64 [(0, 1, 2), (6, 2, 1), (8, 4, 7), (0x18, 8,
    0x11000), (0x20, 8, 0x12000), (0x28, 8, 0x13000), (0x30, 4, 0xFF), (0x36, 2, 0xFFFF)]), withCmd (row 64 [(0x0, 1, 0x19), (0xa, 2, 0x3ff), (0x10, 8,
    0x10000), (0x18, 8, 0x18000)]) ((withPage (row 64 [(0, 1, 2), (6, 2, 1), (8, 4, 7), (0x18, 8, 0x11000), (0x20, 8, 0x12000), (0x28, 8, 0x13000), (0x30,
    4, 0xFF), (0x36, 2, 0xFFFF)]) up).modCtx 0 fun (c : Ctx) => { c with pegArea := some 0x18000 }), by decide +kernel⟩

theorem witness_GroupsAndPegsByCommand_3 :
    ∃ (fn : Fin 9) (slot : Fin 4096) (c : Cmd) (p : Peg) (s : State),
      s.starts fn slot 0x19 1 c ∧ s.peg? c.ctx (c.par 0xA 2) = some p ∧ p.state = 0 ∧ p.finishing = false ∧ c.par 0xC 2 = 0 ∧
        pegBad (p.entry.take 0x18 ++ cut c.bytes 0x20 16 ++ p.entry.drop 0x28) = false :=
  ⟨0, 0, cmdOf (row 64 [(0x0, 1, 0x19), (0x8, 1, 0x1), (0x20, 8, 0x14000), (0x28, 8, 0x15000)]), freshPeg (row 64 [(0, 1, 2), (6, 2, 1), (8, 4, 7), (0x18,
    8, 0x11000), (0x20, 8, 0x12000), (0x28, 8, 0x13000), (0x30, 4, 0xFF), (0x36, 2, 0xFFFF)]), withCmd (row 64 [(0x0, 1, 0x19), (0x8, 1, 0x1), (0x20, 8,
    0x14000), (0x28, 8, 0x15000)]) ((up).modCtx 0 fun (c : Ctx) => { c with pegs := [(0, freshPeg (row 64 [(0, 1, 2), (6, 2, 1), (8, 4, 7), (0x18, 8, 0x11000), (0x20, 8, 0x12000), (0x28, 8, 0x13000), (0x30, 4, 0xFF), (0x36, 2, 0xFFFF)]))] }),
    by decide +kernel⟩

theorem witness_GroupsAndPegsByCommand_4 :
    ∃ (fn : Fin 9) (slot : Fin 4096) (c : Cmd) (s : State),
      s.starts fn slot 0x19 2 c ∧ c.par 0xA 2 + c.par 0xC 2 < 1024 ∧ (∀ i, i ≤ c.par 0xC 2 → s.pegRuns c.ctx (c.par 0xA 2 + i) = false) :=
  ⟨0, 0, cmdOf (row 64 [(0x0, 1, 0x19), (0x8, 1, 0x2), (0xa, 2, 0x3fe), (0xc, 2, 0x1)]), withCmd (row 64 [(0x0, 1, 0x19), (0x8, 1, 0x2), (0xa, 2, 0x3fe),
    (0xc, 2, 0x1)]) ((up).modCtx 0 fun (c : Ctx) => { c with pegs := [(1023, freshPeg (row 64 [(0, 1, 2), (6, 2, 1), (8, 4, 7), (0x18, 8, 0x11000), (0x20, 8, 0x12000), (0x28, 8, 0x13000), (0x30, 4, 0xFF), (0x36, 2, 0xFFFF)]))] }),
    by decide +kernel⟩

theorem witness_GroupsAndPegsByCommand_5 :
    ∃ (fn : Fin 9) (slot : Fin 4096) (c : Cmd) (s : State),
      s.starts fn slot 0x19 2 c ∧ c.par 0xA 2 + c.par 0xC 2 < 1024 ∧ s.pegRuns c.ctx (c.par 0xA 2) = true :=
  ⟨0, 0, cmdOf (row 64 [(0x0, 1, 0x19), (0x8, 1, 0x2)]), withCmd (row 64 [(0x0, 1, 0x19), (0x8, 1,
    0x2)]) ((up).modCtx 0 fun (c : Ctx) => { c with pegs := [(0, { freshPeg (row 64 [(0, 1, 2), (6, 2, 1), (8, 4, 7), (0x18, 8, 0x11000), (0x20, 8, 0x12000), (0x28, 8, 0x13000), (0x30, 4, 0xFF), (0x36, 2, 0xFFFF)]) with state := 1, signed := true, since := 99000, limit := 125000 })] }),
    by decide +kernel⟩

theorem witness_CollectivesRun_1 :
    ∃ (ctx : Fin 8) (k : Fin 1024) (inst : BitVec 16) (rank : Nat) (_sig : BitVec 64) (p : Peg) (s : State),
      s.peg? ctx k = some p ∧ s.rank (s.group ctx (pgGroup p.entry)) = 0 ∧ rank < grpSize (s.group ctx (pgGroup p.entry)) ∧ rank ≠ 0 ∧ 2 ≤ pgOp p.entry ∧
        p.state = 0 ∧ inst = p.inst + 1 :=
  ⟨0, 0, 1, 1, 7, freshPeg (row 64 [(0, 1, 2), (6, 2, 1), (8, 4, 7), (0x18, 8, 0x11000), (0x20, 8, 0x12000), (0x28, 8, 0x13000), (0x30, 4, 0xFF), (0x36, 2,
    0xFFFF)]), ({ up with aon := { (up).aon with coordValid := true, axisLen := 1 } }).modCtx 0 fun (c : Ctx) =>
    { c with groups := [(0, (row 16 [(0, 1, 1), (8, 6, 1)]))], pegs := [(0, freshPeg (row 64 [(0, 1, 2), (6, 2, 1), (8, 4, 7), (0x18, 8, 0x11000), (0x20, 8, 0x12000), (0x28, 8, 0x13000), (0x30, 4, 0xFF), (0x36, 2, 0xFFFF)]))] },
    by decide +kernel⟩

theorem witness_CollectivesRun_2 :
    ∃ (ctx : Fin 8) (k : Fin 1024) (p : Peg) (s : State),
      s.peg? ctx k = some p ∧ p.state = 1 ∧ p.signed = true ∧ p.go = false ∧ s.now .h0 ≤ p.since + p.limit :=
  ⟨0, 0, { freshPeg (row 64 [(0, 1, 2), (6, 2, 1), (8, 4, 7), (0x18, 8, 0x11000), (0x20, 8, 0x12000), (0x28, 8, 0x13000), (0x30, 4, 0xFF), (0x36, 2, 0xFFFF)]) with state := 1, signed := true, since := 99000, limit := 125000 },
    ({ up with aon := { (up).aon with coordValid := true, axisLen := 1 } }).modCtx 0 fun (c : Ctx) =>
    { c with groups := [(0, (row 16 [(0, 1, 1), (8, 6, 1)]))], pegs := [(0, { freshPeg (row 64 [(0, 1, 2), (6, 2, 1), (8, 4, 7), (0x18, 8, 0x11000), (0x20, 8, 0x12000), (0x28, 8, 0x13000), (0x30, 4, 0xFF), (0x36, 2, 0xFFFF)]) with state := 1, signed := true, since := 99000, limit := 125000 })] },
    by decide +kernel⟩

theorem witness_CollectivesRun_3 :
    ∃ (ctx : Fin 8) (k : Fin 1024) (_rank : Nat) (p : Peg) (s : State),
      s.peg? ctx k = some p ∧ p.state = 1 ∧ p.signed = true ∧ p.go = false ∧ s.now .h0 < p.since + p.limit :=
  ⟨0, 0, 1, { freshPeg (row 64 [(0, 1, 2), (6, 2, 1), (8, 4, 7), (0x18, 8, 0x11000), (0x20, 8, 0x12000), (0x28, 8, 0x13000), (0x30, 4, 0xFF), (0x36, 2, 0xFFFF)]) with state := 1, signed := true, since := 99000, limit := 125000 },
    ({ up with aon := { (up).aon with coordValid := true, axisLen := 1 } }).modCtx 0 fun (c : Ctx) =>
    { c with groups := [(0, (row 16 [(0, 1, 1), (8, 6, 1)]))], pegs := [(0, { freshPeg (row 64 [(0, 1, 2), (6, 2, 1), (8, 4, 7), (0x18, 8, 0x11000), (0x20, 8, 0x12000), (0x28, 8, 0x13000), (0x30, 4, 0xFF), (0x36, 2, 0xFFFF)]) with state := 1, signed := true, since := 99000, limit := 125000 })] },
    by decide +kernel⟩

theorem witness_CollectivesRun_4 :
    ∃ (ctx : Fin 8) (k : Fin 1024) (p : Peg) (s : State),
      s.peg? ctx k = some p ∧ p.state = 1 ∧ p.signed = true ∧ pgOp p.entry = 6 ∧ p.go = true ∧ s.now .h0 ≤ p.since + p.limit :=
  ⟨0, 0, { freshPeg (row 64 [(0, 1, 6), (6, 2, 1), (8, 4, 7), (0x18, 8, 0x11000), (0x20, 8, 0x12000), (0x30, 4, 0xFF), (0x36, 2, 0xFFFF), (0x38, 4, 0xFF)]) with state := 1, signed := true, go := true, since := 99000, limit := 1000 },
    ({ up with aon := { (up).aon with coordValid := true, axisLen := 1 } }).modCtx 0 fun (c : Ctx) =>
    { c with groups := [(0, (row 16 [(0, 1, 1), (8, 6, 1)]))], pegs := [(0, { freshPeg (row 64 [(0, 1, 6), (6, 2, 1), (8, 4, 7), (0x18, 8, 0x11000), (0x20, 8, 0x12000), (0x30, 4, 0xFF), (0x36, 2, 0xFFFF), (0x38, 4, 0xFF)]) with state := 1, signed := true, go := true, since := 99000, limit := 1000 })] },
    by decide +kernel⟩

theorem witness_CollectivesRun_5 :
    ∃ (ctx : Fin 8) (k : Fin 1024) (p : Peg) (s : State),
      s.peg? ctx k = some p ∧ p.state = 1 ∧ p.signed = true ∧ pgOp p.entry = 6 ∧ (p.go = false ∨ p.since + p.limit < s.now .h0) :=
  ⟨0, 0, { freshPeg (row 64 [(0, 1, 6), (6, 2, 1), (8, 4, 7), (0x18, 8, 0x11000), (0x20, 8, 0x12000), (0x30, 4, 0xFF), (0x36, 2, 0xFFFF), (0x38, 4, 0xFF)]) with state := 1, signed := true, since := 99000, limit := 1000 },
    ({ up with aon := { (up).aon with coordValid := true, axisLen := 1 } }).modCtx 0 fun (c : Ctx) =>
    { c with groups := [(0, (row 16 [(0, 1, 1), (8, 6, 1)]))], pegs := [(0, { freshPeg (row 64 [(0, 1, 6), (6, 2, 1), (8, 4, 7), (0x18, 8, 0x11000), (0x20, 8, 0x12000), (0x30, 4, 0xFF), (0x36, 2, 0xFFFF), (0x38, 4, 0xFF)]) with state := 1, signed := true, since := 99000, limit := 1000 })] },
    by decide +kernel⟩

theorem witness_CollectivesRun_6 :
    ∃ (ctx : Fin 8) (k : Fin 1024) (inst : BitVec 16) (p : Peg) (s : State),
      s.peg? ctx k = some p ∧ inst ≠ p.inst :=
  ⟨0, 0, 7, { freshPeg (row 64 [(0, 1, 6), (6, 2, 1), (8, 4, 7), (0x18, 8, 0x11000), (0x20, 8, 0x12000), (0x30, 4, 0xFF), (0x36, 2, 0xFFFF), (0x38, 4, 0xFF)]) with state := 1, signed := true, since := 99000, limit := 1000 },
    ({ up with aon := { (up).aon with coordValid := true, axisLen := 1 } }).modCtx 0 fun (c : Ctx) =>
    { c with groups := [(0, (row 16 [(0, 1, 1), (8, 6, 1)]))], pegs := [(0, { freshPeg (row 64 [(0, 1, 6), (6, 2, 1), (8, 4, 7), (0x18, 8, 0x11000), (0x20, 8, 0x12000), (0x30, 4, 0xFF), (0x36, 2, 0xFFFF), (0x38, 4, 0xFF)]) with state := 1, signed := true, since := 99000, limit := 1000 })] },
    by decide +kernel⟩

theorem witness_CollectivesRun_7 :
    ∃ (ctx : Fin 8) (k : Fin 1024) (inst : BitVec 16) (port : Fin 8) (kind : PegPacket) (first : Nat) (bs : List Byte) (p : Peg) (w : Packet) (s : State) (t
      : State),
      s.peg? ctx k = some p ∧ s.aon.coordValid = true ∧ w.vc = (if (s.ctx ctx).be = true then 1 else 0) ∧ w.sub = 0 ∧ w.dir = 0 ∧ w.kind = 0 ∧
        w.dctx = ctx.val ∧ w.poison = false ∧ w.dest = s.aon.coord ∧ w.payload = bs ∧ w.ptag = BitVec.ofNat 32 (k + 65536 * inst.toNat) ∧ w.buf = none ∧
        w.order = 0 ∧ w.src = s.member (s.group ctx (pgGroup p.entry)) (pgPred p.entry (grpSize (s.group ctx (pgGroup p.entry))) (s.rank (s.group ctx
        (pgGroup p.entry)))) ∧ w.target = BitVec.ofNat 64 (landAt p ⟨kind == .final, first, bs⟩) ∧
        t = (s.modPort port fun q => { q with commit := tset q.commit w.vc (tget q.commit w.vc [] ++ [w]) }) :=
  ⟨0, 0, 0, 3, .final, 0, row 32 [], { freshPeg (row 64 [(0, 1, 2), (6, 2, 1), (8, 4, 7), (0x18, 8, 0x11000), (0x20, 8, 0x12000), (0x28, 8, 0x13000), (0x30, 4, 0xFF), (0x36, 2, 0xFFFF)]) with state := 1, signed := true, go := true, since := 99000, limit := 125000 },
    { vc := 0, sub := 0, dir := 0, kind := 0, dctx := 0, poison := false, dest := 0, src := State.member (({ up with aon := { (up).aon with coordValid := true, axisLen := 1 } }).modCtx 0 fun (c : Ctx) => { c with groups := [(0, (row 16 [(0, 1, 1), (8, 6, 1)]))], pegs := [(0, { freshPeg (row 64 [(0, 1, 2), (6, 2, 1), (8, 4, 7), (0x18, 8, 0x11000), (0x20, 8, 0x12000), (0x28, 8, 0x13000), (0x30, 4, 0xFF), (0x36, 2, 0xFFFF)]) with state := 1, signed := true, go := true, since := 99000, limit := 125000 })] }) (row 16 [(0, 1, 1), (8, 6, 1)]) (pgPred ({ freshPeg (row 64 [(0, 1, 2), (6, 2, 1), (8, 4, 7), (0x18, 8, 0x11000), (0x20, 8, 0x12000), (0x28, 8, 0x13000), (0x30, 4, 0xFF), (0x36, 2, 0xFFFF)]) with state := 1, signed := true, go := true, since := 99000, limit := 125000 } : Peg).entry (grpSize (row 16 [(0, 1, 1), (8, 6, 1)])) 0), target := BitVec.ofNat 64 (landAt { freshPeg (row 64 [(0, 1, 2), (6, 2, 1), (8, 4, 7), (0x18, 8, 0x11000), (0x20, 8, 0x12000), (0x28, 8, 0x13000), (0x30, 4, 0xFF), (0x36, 2, 0xFFFF)]) with state := 1, signed := true, go := true, since := 99000, limit := 125000 } ⟨true, 0, row 32 []⟩), ptag := 0, payload := row 32 [] },
    ({ up with aon := { (up).aon with coordValid := true, axisLen := 1 } }).modCtx 0 fun (c : Ctx) =>
    { c with groups := [(0, (row 16 [(0, 1, 1), (8, 6, 1)]))], pegs := [(0, { freshPeg (row 64 [(0, 1, 2), (6, 2, 1), (8, 4, 7), (0x18, 8, 0x11000), (0x20, 8, 0x12000), (0x28, 8, 0x13000), (0x30, 4, 0xFF), (0x36, 2, 0xFFFF)]) with state := 1, signed := true, go := true, since := 99000, limit := 125000 })] },
    State.modPort (({ up with aon := { (up).aon with coordValid := true, axisLen := 1 } }).modCtx 0 fun (c : Ctx) =>
    { c with groups := [(0, (row 16 [(0, 1, 1), (8, 6, 1)]))], pegs := [(0, { freshPeg (row 64 [(0, 1, 2), (6, 2, 1), (8, 4, 7), (0x18, 8, 0x11000), (0x20, 8, 0x12000), (0x28, 8, 0x13000), (0x30, 4, 0xFF), (0x36, 2, 0xFFFF)]) with state := 1, signed := true, go := true, since := 99000, limit := 125000 })] }) 3 fun (q : Port) => { q with commit := tset q.commit 0 (tget q.commit 0 [] ++ [{ vc := 0, sub := 0, dir := 0, kind := 0, dctx := 0, poison := false, dest := 0, src := State.member (({ up with aon := { (up).aon with coordValid := true, axisLen := 1 } }).modCtx 0 fun (c : Ctx) => { c with groups := [(0, (row 16 [(0, 1, 1), (8, 6, 1)]))], pegs := [(0, { freshPeg (row 64 [(0, 1, 2), (6, 2, 1), (8, 4, 7), (0x18, 8, 0x11000), (0x20, 8, 0x12000), (0x28, 8, 0x13000), (0x30, 4, 0xFF), (0x36, 2, 0xFFFF)]) with state := 1, signed := true, go := true, since := 99000, limit := 125000 })] }) (row 16 [(0, 1, 1), (8, 6, 1)]) (pgPred ({ freshPeg (row 64 [(0, 1, 2), (6, 2, 1), (8, 4, 7), (0x18, 8, 0x11000), (0x20, 8, 0x12000), (0x28, 8, 0x13000), (0x30, 4, 0xFF), (0x36, 2, 0xFFFF)]) with state := 1, signed := true, go := true, since := 99000, limit := 125000 } : Peg).entry (grpSize (row 16 [(0, 1, 1), (8, 6, 1)])) 0), target := BitVec.ofNat 64 (landAt { freshPeg (row 64 [(0, 1, 2), (6, 2, 1), (8, 4, 7), (0x18, 8, 0x11000), (0x20, 8, 0x12000), (0x28, 8, 0x13000), (0x30, 4, 0xFF), (0x36, 2, 0xFFFF)]) with state := 1, signed := true, go := true, since := 99000, limit := 125000 } ⟨true, 0, row 32 []⟩), ptag := 0, payload := row 32 [] }]) },
    by decide +kernel, by decide +kernel, by decide +kernel, by decide +kernel, by decide +kernel, by decide +kernel, by decide +kernel, by decide +kernel,
    by decide +kernel, by decide +kernel, by decide +kernel, by decide +kernel, by decide +kernel, by decide +kernel, by decide +kernel, rfl⟩

theorem witness_CollectivesRun_8 :
    ∃ (ctx : Nat) (_addr : Nat) (ptag : BitVec 32) (_bs : List Byte) (p : Peg) (s : State),
      s.peg? ctx (ptag.toNat % 65536) = some p ∧ p.state = 1 ∧ p.signed = true ∧ p.inst.toNat = ptag.toNat / 65536 ∧ p.go = true ∧
        s.now .h0 ≤ p.since + p.limit :=
  ⟨0, 0x13000, 0, row 32 [], { freshPeg (row 64 [(0, 1, 2), (6, 2, 1), (8, 4, 7), (0x18, 8, 0x11000), (0x20, 8, 0x12000), (0x28, 8, 0x13000), (0x30, 4, 0xFF), (0x36, 2, 0xFFFF)]) with state := 1, signed := true, go := true, since := 99000, limit := 125000 },
    ({ up with aon := { (up).aon with coordValid := true, axisLen := 1 } }).modCtx 0 fun (c : Ctx) =>
    { c with groups := [(0, (row 16 [(0, 1, 1), (8, 6, 1)]))], pegs := [(0, { freshPeg (row 64 [(0, 1, 2), (6, 2, 1), (8, 4, 7), (0x18, 8, 0x11000), (0x20, 8, 0x12000), (0x28, 8, 0x13000), (0x30, 4, 0xFF), (0x36, 2, 0xFFFF)]) with state := 1, signed := true, go := true, since := 99000, limit := 125000 })] },
    by decide +kernel⟩

theorem witness_CollectivesRun_9 :
    ∃ (ctx : Fin 8) (k : Fin 1024) (p : Peg) (s : State),
      s.peg? ctx k = some p ∧ p.state = 1 ∧ s.pegAwaits ctx p = true ∧ p.since + p.limit < s.now .h0 ∧
        (s.rank (s.group ctx (pgGroup p.entry)) ≠ 0 ∨ p.go = true) :=
  ⟨0, 0, { freshPeg (row 64 [(0, 1, 2), (6, 2, 1), (8, 4, 7), (0x18, 8, 0x11000), (0x20, 8, 0x12000), (0x28, 8, 0x13000), (0x30, 4, 0xFF), (0x36, 2, 0xFFFF)]) with state := 1, signed := true, since := 0, limit := 99999 },
    ({ up with aon := { (up).aon with coordValid := true, axisLen := 1, coord := 1 } }).modCtx 0 fun (c : Ctx) =>
    { c with groups := [(0, (row 16 [(0, 1, 1), (8, 6, 1)]))], pegs := [(0, { freshPeg (row 64 [(0, 1, 2), (6, 2, 1), (8, 4, 7), (0x18, 8, 0x11000), (0x20, 8, 0x12000), (0x28, 8, 0x13000), (0x30, 4, 0xFF), (0x36, 2, 0xFFFF)]) with state := 1, signed := true, since := 0, limit := 99999 })] },
    by decide +kernel⟩

theorem witness_CollectivesRun_10 :
    ∃ (ctx : Fin 8) (k : Fin 1024) (p : Peg) (s : State),
      s.pegLive ctx k = some p ∧ s.pegDone ctx p = true :=
  ⟨0, 0, { freshPeg (row 64 [(6, 2, 1), (0x30, 4, 0xFF), (0x36, 2, 0xFFFF)]) with state := 1 },
    (up).modCtx 0 fun (c : Ctx) => { c with pegs := [(0, { freshPeg (row 64 [(6, 2, 1), (0x30, 4, 0xFF), (0x36, 2, 0xFFFF)]) with state := 1 })] },
    by decide +kernel⟩

theorem witness_CollectivesRun_11 :
    ∃ (ctx : Nat) (k : Nat) (n : Nat) (p : Peg) (s : State),
      s.peg? ctx k = some p ∧ min max32 (p.counter + n) < pgThresh p.entry :=
  ⟨0, 0, 2, freshPeg (row 64 [(6, 2, 3), (0x30, 4, 0xFF), (0x36, 2, 0xFFFF)]),
    (up).modCtx 0 fun (c : Ctx) => { c with pegs := [(0, freshPeg (row 64 [(6, 2, 3), (0x30, 4, 0xFF), (0x36, 2, 0xFFFF)]))] }, by decide +kernel⟩

theorem witness_CollectivesRun_12 : ∃ (ctx : Nat) (k : Nat) (_n : Nat) (s : State), s.peg? ctx k = none :=
  ⟨0, 1023, 1, up, by decide +kernel⟩

end Sys2Proof.Tests
end

