-- ==== Sys2Proof/Tests/WitnessPlane.lean ====
section
/-! SUPPORT. States and operands that meet the hypotheses of the statements, clause by clause: plane. -/

namespace Sys2Proof.Tests

set_option Elab.async false

open Sys2Proof.Machine

theorem witness_PlanePasses_1 :
    ∃ (fn : Fin 9) (slot : Fin 4096) (c : Cmd) (h : List Byte) (es : List Byte) (id : Nat) (s : State) (u : State) (v : State),
      s.starts fn slot 0x17 0 c ∧ c.par 0x10 8 % 64 = 0 ∧ refHigh (c.par 0x10 8) = 0 ∧ s.tryRead c.ctx (c.par 0x10 8) 64 .module = .ok h ∧
        plHeaderBad h = false ∧ s.inMask c.ctx (plBay h) = true ∧ u = s.countRange c.ctx (c.par 0x10 8) 64 .h0 ∧
        u.tryRead c.ctx (c.par 0x10 8 + 64) (64 * plEntries h) .module = .ok es ∧ v = u.countRange c.ctx (c.par 0x10 8 + 64) (64 * plEntries h) .h0 ∧ (∀ i,
        i < plEntries h → plEntryBad h (cut es (64 * i) 64) = false) ∧ (List.range 4).find? (fun i => (v.plane? c.ctx i).isNone) = some id :=
  ⟨0, 0, cmdOf (row 64 [(0x0, 1, 0x17), (0x10, 8, 0x10000)]), (row 64 [(0x8, 8, 0x12000), (0x1b, 1, 0x5), (0x1c, 1, 0x1), (0x1d, 1, 0xff), (0x20, 8,
    0x18000)]), (row 64 [(0x4, 1, 0x1), (0x10, 8, 0x11000)]), 0, withCmd (row 64 [(0x0, 1, 0x17), (0x10, 8, 0x10000)]) (withPage ((row 64 [(0x8, 8,
    0x12000), (0x1b, 1, 0x5), (0x1c, 1, 0x1), (0x1d, 1, 0xff), (0x20, 8, 0x18000)]) ++ (row 64 [(0x4, 1, 0x1), (0x10, 8, 0x11000)])) up),
    State.countRange (withCmd (row 64 [(0x0, 1, 0x17), (0x10, 8, 0x10000)]) (withPage ((row 64 [(0x8, 8, 0x12000), (0x1b, 1, 0x5), (0x1c, 1, 0x1), (0x1d, 1,
    0xff), (0x20, 8, 0x18000)]) ++ (row 64 [(0x4, 1, 0x1), (0x10, 8, 0x11000)])) up)) 0 0x10000 64 .h0,
    State.countRange (State.countRange (withCmd (row 64 [(0x0, 1, 0x17), (0x10, 8, 0x10000)]) (withPage ((row 64 [(0x8, 8, 0x12000), (0x1b, 1, 0x5), (0x1c,
    1, 0x1), (0x1d, 1, 0xff), (0x20, 8, 0x18000)]) ++ (row 64 [(0x4, 1, 0x1), (0x10, 8, 0x11000)])) up)) 0 0x10000 64 .h0) 0 0x10040 64 .h0,
    by decide +kernel, by decide +kernel, by decide +kernel, by decide +kernel, by decide +kernel, by decide +kernel, rfl, by decide +kernel, rfl,
    by decide +kernel, by decide +kernel⟩

theorem witness_PlanePasses_1_update :
    ∃ (fn : Fin 9) (slot : Fin 4096) (c : Cmd) (h : List Byte) (es : List Byte) (id : Nat) (s : State) (u : State) (v : State),
      s.starts fn slot 0x17 0 c ∧ c.par 0x10 8 % 64 = 0 ∧ refHigh (c.par 0x10 8) = 0 ∧ s.tryRead c.ctx (c.par 0x10 8) 64 .module = .ok h ∧
        plHeaderBad h = false ∧ s.inMask c.ctx (plBay h) = true ∧ u = s.countRange c.ctx (c.par 0x10 8) 64 .h0 ∧
        u.tryRead c.ctx (c.par 0x10 8 + 64) (64 * plEntries h) .module = .ok es ∧ v = u.countRange c.ctx (c.par 0x10 8 + 64) (64 * plEntries h) .h0 ∧ (∀ i,
        i < plEntries h → plEntryBad h (cut es (64 * i) 64) = false) ∧ (List.range 4).find? (fun i => (v.plane? c.ctx i).isNone) = some id :=
  ⟨0, 0, cmdOf (row 64 [(0x0, 1, 0x17), (0x10, 8, 0x10000)]), (row 64 [(0x0, 1, 0x1), (0x1, 1, 0x1), (0x8, 8, 0x12000), (0x1b, 1, 0x5), (0x1c, 1, 0x1),
    (0x1d, 1, 0xff), (0x20, 8, 0x18000)]), (row 64 [(0x4, 1, 0x1), (0x7, 1, 0xff), (0x10, 8, 0x11000), (0x18, 8, 0x13000), (0x20, 8, 0x14000)]), 0,
    withCmd (row 64 [(0x0, 1, 0x17), (0x10, 8, 0x10000)]) (withPage ((row 64 [(0x0, 1, 0x1), (0x1, 1, 0x1), (0x8, 8, 0x12000), (0x1b, 1, 0x5), (0x1c, 1,
    0x1), (0x1d, 1, 0xff), (0x20, 8, 0x18000)]) ++ (row 64 [(0x4, 1, 0x1), (0x7, 1, 0xff), (0x10, 8, 0x11000), (0x18, 8, 0x13000), (0x20, 8,
    0x14000)])) up), State.countRange (withCmd (row 64 [(0x0, 1, 0x17), (0x10, 8, 0x10000)]) (withPage ((row 64 [(0x0, 1, 0x1), (0x1, 1, 0x1), (0x8, 8,
    0x12000), (0x1b, 1, 0x5), (0x1c, 1, 0x1), (0x1d, 1, 0xff), (0x20, 8, 0x18000)]) ++ (row 64 [(0x4, 1, 0x1), (0x7, 1, 0xff), (0x10, 8, 0x11000), (0x18, 8,
    0x13000), (0x20, 8, 0x14000)])) up)) 0 0x10000 64 .h0, State.countRange (State.countRange (withCmd (row 64 [(0x0, 1, 0x17), (0x10, 8,
    0x10000)]) (withPage ((row 64 [(0x0, 1, 0x1), (0x1, 1, 0x1), (0x8, 8, 0x12000), (0x1b, 1, 0x5), (0x1c, 1, 0x1), (0x1d, 1, 0xff), (0x20, 8,
    0x18000)]) ++ (row 64 [(0x4, 1, 0x1), (0x7, 1, 0xff), (0x10, 8, 0x11000), (0x18, 8, 0x13000), (0x20, 8,
    0x14000)])) up)) 0 0x10000 64 .h0) 0 0x10040 64 .h0, by decide +kernel, by decide +kernel, by decide +kernel, by decide +kernel, by decide +kernel,
    by decide +kernel, rfl, by decide +kernel, rfl, by decide +kernel, by decide +kernel⟩

theorem witness_PlanePasses_2 :
    ∃ (fn : Fin 9) (slot : Fin 4096) (c : Cmd) (p : Plane) (s : State),
      s.starts fn slot 0x17 1 c ∧ c.par 9 1 ≤ 3 ∧ s.plane? c.ctx (c.par 9 1) = some p ∧ p.state ≠ 4 ∧ p.release = none :=
  ⟨0, 0, cmdOf (row 64 [(0x0, 1, 0x17), (0x8, 1, 0x1), (0x9, 1, 0x3)]),
    { hdr := (row 64 [(0x8, 8, 0x12000), (0x1b, 1, 0x5), (0x1c, 1, 0x1), (0x1d, 1, 0xff), (0x20, 8, 0x18000)]), desc := 0x10000, state := 1, code := 0, passes := 0, outcome := 0, unchanged := 0, step := [], waitSeq := 1, release := none, gIn := [] },
    withCmd (row 64 [(0x0, 1, 0x17), (0x8, 1, 0x1), (0x9, 1, 0x3)]) ((up).modCtx 0 fun (c : Ctx) =>
    { c with planes := [(3, { hdr := (row 64 [(0x8, 8, 0x12000), (0x1b, 1, 0x5), (0x1c, 1, 0x1), (0x1d, 1, 0xff), (0x20, 8, 0x18000)]), desc := 0x10000, state := 1, code := 0, passes := 0, outcome := 0, unchanged := 0, step := [], waitSeq := 1, release := none, gIn := [] })] }),
    by decide +kernel⟩

theorem witness_PlanePasses_2_armed :
    ∃ (fn : Fin 9) (slot : Fin 4096) (c : Cmd) (p : Plane) (s : State),
      s.starts fn slot 0x17 1 c ∧ c.par 9 1 ≤ 3 ∧ s.plane? c.ctx (c.par 9 1) = some p ∧ p.state ≠ 4 ∧ p.release = none :=
  ⟨0, 0, cmdOf (row 64 [(0x0, 1, 0x17), (0x8, 1, 0x1), (0x9, 1, 0x0)]),
    { hdr := (row 64 [(0x8, 8, 0x12000), (0x1b, 1, 0x5), (0x1c, 1, 0x1), (0x1d, 1, 0xff), (0x20, 8, 0x18000)]), desc := 0x10000, state := 0, code := 0, passes := 0, outcome := 0, unchanged := 0, step := [], waitSeq := 1, release := none, gIn := [] },
    withCmd (row 64 [(0x0, 1, 0x17), (0x8, 1, 0x1), (0x9, 1, 0x0)]) ((up).modCtx 0 fun (c : Ctx) =>
    { c with planes := [(0, { hdr := (row 64 [(0x8, 8, 0x12000), (0x1b, 1, 0x5), (0x1c, 1, 0x1), (0x1d, 1, 0xff), (0x20, 8, 0x18000)]), desc := 0x10000, state := 0, code := 0, passes := 0, outcome := 0, unchanged := 0, step := [], waitSeq := 1, release := none, gIn := [] })] }),
    by decide +kernel⟩

theorem witness_PlanePasses_3 :
    ∃ (ctx : Fin 8) (id : Fin 4) (p : Plane) (q : Plane) (s : State) (t : State) (u : State),
      s.plane? ctx id = some p ∧ p.state = 0 ∧ s.planeHeld ctx id = false ∧ s.mayTake ctx (plBay p.hdr) (plWaitSem p.hdr) (plWaitN p.hdr) p.waitSeq = true ∧
        t = s.semTake ctx (plBay p.hdr) (plWaitSem p.hdr) (plWaitN p.hdr) ∧ q = { p.afterPass with state := 1, code := 0 } ∧ u = t.putPlane ctx id q ∧
        u.planeHeld ctx id = false :=
  ⟨0, 0, { hdr := (row 64 [(0x8, 8, 0x12000), (0x1b, 1, 0x5), (0x1c, 1, 0x1), (0x1d, 1, 0xff), (0x20, 8, 0x18000)]), desc := 0x10000, state := 0, code := 0, passes := 0, outcome := 0, unchanged := 0, step := [], waitSeq := 1, release := none, gIn := [] },
    { hdr := (row 64 [(0x8, 8, 0x12000), (0x1b, 1, 0x5), (0x1c, 1, 0x1), (0x1d, 1, 0xff), (0x20, 8, 0x18000)]), desc := 0x10000, state := 1, code := 0, passes := 0, outcome := 0, unchanged := 0, step := [], waitSeq := 1, release := none, gIn := [] },
    ((withPage [] up).modCtx 0 fun (c : Ctx) => { c with planes := [(0, { hdr := (row 64 [(0x8, 8, 0x12000), (0x1b, 1, 0x5), (0x1c, 1, 0x1), (0x1d, 1, 0xff), (0x20, 8, 0x18000)]), desc := 0x10000, state := 0, code := 0, passes := 0, outcome := 0, unchanged := 0, step := [], waitSeq := 1, release := none, gIn := [] })], sems := [(5, 1)] }),
    ((withPage [] up).modCtx 0 fun (c : Ctx) => { c with planes := [(0, { hdr := (row 64 [(0x8, 8, 0x12000), (0x1b, 1, 0x5), (0x1c, 1, 0x1), (0x1d, 1, 0xff), (0x20, 8, 0x18000)]), desc := 0x10000, state := 0, code := 0, passes := 0, outcome := 0, unchanged := 0, step := [], waitSeq := 1, release := none, gIn := [] })], sems := [(5, 1)] }).semTake 0 0 5 1,
    (((withPage [] up).modCtx 0 fun (c : Ctx) => { c with planes := [(0, { hdr := (row 64 [(0x8, 8, 0x12000), (0x1b, 1, 0x5), (0x1c, 1, 0x1), (0x1d, 1, 0xff), (0x20, 8, 0x18000)]), desc := 0x10000, state := 0, code := 0, passes := 0, outcome := 0, unchanged := 0, step := [], waitSeq := 1, release := none, gIn := [] })], sems := [(5, 1)] }).semTake 0 0 5 1).putPlane 0 0 { hdr := (row 64 [(0x8, 8, 0x12000), (0x1b, 1, 0x5), (0x1c, 1, 0x1), (0x1d, 1, 0xff), (0x20, 8, 0x18000)]), desc := 0x10000, state := 1, code := 0, passes := 0, outcome := 0, unchanged := 0, step := [], waitSeq := 1, release := none, gIn := [] },
    by decide +kernel, by decide +kernel, by decide +kernel, by decide +kernel, rfl, rfl, rfl, by decide +kernel⟩

theorem witness_PlanePasses_4_norm :
    ∃ (ctx : Nat) (_id : Nat) (q : Plane) (step : List Byte) (es : List (List Byte)) (s : State) (t : State),
      s.planePrepare ctx q = .ok (step, es) ∧ t = s.countSpans ctx [(refAddr (plStep q.hdr), 192), (q.desc + 64, 64 * plEntries q.hdr)] q.half ∧
        (plKind q.hdr = 1 → stepOk step = true ∧ normOver (srNorm2 step) = false) :=
  ⟨0, 0, { hdr := (row 64 [(0x8, 8, 0x12000), (0x1b, 1, 0x5), (0x1c, 1, 0x1), (0x1d, 1, 0xff), (0x20, 8, 0x18000)]), desc := 0x10000, state := 1, code := 0, passes := 0, outcome := 0, unchanged := 0, step := [], waitSeq := 1, release := none, gIn := [] },
    row 192 [], [(row 64 [(0x4, 1, 0x1), (0x10, 8, 0x11000)])], ((withPage ((row 64 [(0x8, 8, 0x12000), (0x1b, 1, 0x5), (0x1c, 1, 0x1), (0x1d, 1, 0xff),
    (0x20, 8, 0x18000)]) ++ (row 64 [(0x4, 1, 0x1), (0x10, 8, 0x11000)])) up).modCtx 0 fun (c : Ctx) =>
    { c with planes := [(0, { hdr := (row 64 [(0x8, 8, 0x12000), (0x1b, 1, 0x5), (0x1c, 1, 0x1), (0x1d, 1, 0xff), (0x20, 8, 0x18000)]), desc := 0x10000, state := 1, code := 0, passes := 0, outcome := 0, unchanged := 0, step := [], waitSeq := 1, release := none, gIn := [] })] }),
    State.countSpans ((withPage ((row 64 [(0x8, 8, 0x12000), (0x1b, 1, 0x5), (0x1c, 1, 0x1), (0x1d, 1, 0xff), (0x20, 8, 0x18000)]) ++ (row 64 [(0x4, 1,
    0x1), (0x10, 8, 0x11000)])) up).modCtx 0 fun (c : Ctx) => { c with planes := [(0, { hdr := (row 64 [(0x8, 8, 0x12000), (0x1b, 1, 0x5), (0x1c, 1, 0x1), (0x1d, 1, 0xff), (0x20, 8, 0x18000)]), desc := 0x10000, state := 1, code := 0, passes := 0, outcome := 0, unchanged := 0, step := [], waitSeq := 1, release := none, gIn := [] })] }) 0 [(0x12000,
    192), (0x10040, 64)] .h0, by decide +kernel, rfl, by decide +kernel⟩

theorem witness_PlanePasses_4_bad :
    ∃ (ctx : Nat) (_id : Nat) (q : Plane) (step : List Byte) (es : List (List Byte)) (s : State) (t : State),
      s.planePrepare ctx q = .ok (step, es) ∧ t = s.countSpans ctx [(refAddr (plStep q.hdr), 192), (q.desc + 64, 64 * plEntries q.hdr)] q.half ∧
        plKind q.hdr = 1 ∧ stepOk step = false :=
  ⟨0, 0, { hdr := (row 64 [(0x0, 1, 0x1), (0x1, 1, 0x1), (0x8, 8, 0x12000), (0x1b, 1, 0x5), (0x1c, 1, 0x1), (0x1d, 1, 0xff), (0x20, 8, 0x18000)]), desc := 0x10000, state := 1, code := 0, passes := 0, outcome := 0, unchanged := 0, step := [], waitSeq := 1, release := none, gIn := [] },
    row 192 [], [(row 64 [(0x4, 1, 0x1), (0x7, 1, 0xff), (0x10, 8, 0x11000), (0x18, 8, 0x13000), (0x20, 8, 0x14000)])], ((withPage ((row 64 [(0x0, 1, 0x1),
    (0x1, 1, 0x1), (0x8, 8, 0x12000), (0x1b, 1, 0x5), (0x1c, 1, 0x1), (0x1d, 1, 0xff), (0x20, 8, 0x18000)]) ++ (row 64 [(0x4, 1, 0x1), (0x7, 1, 0xff),
    (0x10, 8, 0x11000), (0x18, 8, 0x13000), (0x20, 8, 0x14000)])) up).modCtx 0 fun (c : Ctx) =>
    { c with planes := [(0, { hdr := (row 64 [(0x0, 1, 0x1), (0x1, 1, 0x1), (0x8, 8, 0x12000), (0x1b, 1, 0x5), (0x1c, 1, 0x1), (0x1d, 1, 0xff), (0x20, 8, 0x18000)]), desc := 0x10000, state := 1, code := 0, passes := 0, outcome := 0, unchanged := 0, step := [], waitSeq := 1, release := none, gIn := [] })] }),
    State.countSpans ((withPage ((row 64 [(0x0, 1, 0x1), (0x1, 1, 0x1), (0x8, 8, 0x12000), (0x1b, 1, 0x5), (0x1c, 1, 0x1), (0x1d, 1, 0xff), (0x20, 8,
    0x18000)]) ++ (row 64 [(0x4, 1, 0x1), (0x7, 1, 0xff), (0x10, 8, 0x11000), (0x18, 8, 0x13000), (0x20, 8,
    0x14000)])) up).modCtx 0 fun (c : Ctx) => { c with planes := [(0, { hdr := (row 64 [(0x0, 1, 0x1), (0x1, 1, 0x1), (0x8, 8, 0x12000), (0x1b, 1, 0x5), (0x1c, 1, 0x1), (0x1d, 1, 0xff), (0x20, 8, 0x18000)]), desc := 0x10000, state := 1, code := 0, passes := 0, outcome := 0, unchanged := 0, step := [], waitSeq := 1, release := none, gIn := [] })] }) 0 [(0x12000,
    192), (0x10040, 64)] .h0, by decide +kernel, rfl, by decide +kernel, by decide +kernel⟩

theorem witness_PlanePasses_4_update :
    ∃ (ctx : Nat) (_id : Nat) (q : Plane) (step : List Byte) (es : List (List Byte)) (s : State) (t : State),
      s.planePrepare ctx q = .ok (step, es) ∧ t = s.countSpans ctx [(refAddr (plStep q.hdr), 192), (q.desc + 64, 64 * plEntries q.hdr)] q.half ∧
        plKind q.hdr = 1 ∧ stepOk step = true :=
  ⟨0, 0, { hdr := (row 64 [(0x0, 1, 0x1), (0x1, 1, 0x1), (0x8, 8, 0x12000), (0x1b, 1, 0x5), (0x1c, 1, 0x1), (0x1d, 1, 0xff), (0x20, 8, 0x18000)]), desc := 0x10000, state := 1, code := 0, passes := 0, outcome := 0, unchanged := 0, step := (row 192 [(0x0, 4, 0x3f800000), (0x4, 4, 0x3f800000), (0x8, 4, 0x7f000000), (0x20, 4, 0x3f000000), (0x24, 4, 0x3f000000), (0x28, 4, 0x3f000000), (0x2c, 4, 0x3f000000), (0x30, 4, 0x3f000000), (0x34, 4, 0x3f000000), (0x38, 4, 0x3f000000), (0x3c, 4, 0x3f000000), (0x40, 4, 0x3f000000)]), waitSeq := 1, release := none, gIn := [] },
    (row 192 [(0x0, 4, 0x3f800000), (0x4, 4, 0x3f800000), (0x8, 4, 0x7f000000), (0x20, 4, 0x3f000000), (0x24, 4, 0x3f000000), (0x28, 4, 0x3f000000), (0x2c,
    4, 0x3f000000), (0x30, 4, 0x3f000000), (0x34, 4, 0x3f000000), (0x38, 4, 0x3f000000), (0x3c, 4, 0x3f000000), (0x40, 4, 0x3f000000)]), [(row 64 [(0x4, 1,
    0x1), (0x7, 1, 0xff), (0x10, 8, 0x11000), (0x18, 8, 0x13000), (0x20, 8, 0x14000)])], ((withPage ((row 64 [(0x0, 1, 0x1), (0x1, 1, 0x1), (0x8, 8,
    0x12000), (0x1b, 1, 0x5), (0x1c, 1, 0x1), (0x1d, 1, 0xff), (0x20, 8, 0x18000)]) ++ (row 64 [(0x4, 1, 0x1), (0x7, 1, 0xff), (0x10, 8, 0x11000), (0x18, 8,
    0x13000), (0x20, 8, 0x14000)])) up).modCtx 0 fun (c : Ctx) => { c with planes := [(0, { hdr := (row 64 [(0x0, 1, 0x1), (0x1, 1, 0x1), (0x8, 8, 0x12000), (0x1b, 1, 0x5), (0x1c, 1, 0x1), (0x1d, 1, 0xff), (0x20, 8, 0x18000)]), desc := 0x10000, state := 1, code := 0, passes := 0, outcome := 0, unchanged := 0, step := (row 192 [(0x0, 4, 0x3f800000), (0x4, 4, 0x3f800000), (0x8, 4, 0x7f000000), (0x20, 4, 0x3f000000), (0x24, 4, 0x3f000000), (0x28, 4, 0x3f000000), (0x2c, 4, 0x3f000000), (0x30, 4, 0x3f000000), (0x34, 4, 0x3f000000), (0x38, 4, 0x3f000000), (0x3c, 4, 0x3f000000), (0x40, 4, 0x3f000000)]), waitSeq := 1, release := none, gIn := [] })] }),
    State.countSpans ((withPage ((row 64 [(0x0, 1, 0x1), (0x1, 1, 0x1), (0x8, 8, 0x12000), (0x1b, 1, 0x5), (0x1c, 1, 0x1), (0x1d, 1, 0xff), (0x20, 8,
    0x18000)]) ++ (row 64 [(0x4, 1, 0x1), (0x7, 1, 0xff), (0x10, 8, 0x11000), (0x18, 8, 0x13000), (0x20, 8,
    0x14000)])) up).modCtx 0 fun (c : Ctx) => { c with planes := [(0, { hdr := (row 64 [(0x0, 1, 0x1), (0x1, 1, 0x1), (0x8, 8, 0x12000), (0x1b, 1, 0x5), (0x1c, 1, 0x1), (0x1d, 1, 0xff), (0x20, 8, 0x18000)]), desc := 0x10000, state := 1, code := 0, passes := 0, outcome := 0, unchanged := 0, step := (row 192 [(0x0, 4, 0x3f800000), (0x4, 4, 0x3f800000), (0x8, 4, 0x7f000000), (0x20, 4, 0x3f000000), (0x24, 4, 0x3f000000), (0x28, 4, 0x3f000000), (0x2c, 4, 0x3f000000), (0x30, 4, 0x3f000000), (0x34, 4, 0x3f000000), (0x38, 4, 0x3f000000), (0x3c, 4, 0x3f000000), (0x40, 4, 0x3f000000)]), waitSeq := 1, release := none, gIn := [] })] }) 0 [(0x12000,
    192), (0x10040, 64)] .h0, by decide +kernel, rfl, by decide +kernel, by decide +kernel⟩

theorem witness_PlanePasses_5_norm :
    ∃ (ctx : Fin 8) (id : Fin 4) (p : Plane) (s : State),
      s.plane? ctx id = some p ∧ p.state = 1 ∧ p.ready = true ∧ s.planeHeld ctx id = false ∧ s.passWaits ctx id = false ∧
        ringsFull (ringParts p.gIn p.entries) = true ∧ plKind p.hdr = 0 :=
  ⟨0, 0, { hdr := (row 64 [(0x8, 8, 0x12000), (0x1b, 1, 0x5), (0x1c, 1, 0x1), (0x1d, 1, 0xff), (0x20, 8, 0x18000)]), desc := 0x10000, state := 1, code := 0, passes := 0, outcome := 0, unchanged := 0, step := row 192 [], waitSeq := 1, release := none, gIn := [], ready := true, entries := [(row 64 [(0x4, 1, 0x1), (0x10, 8, 0x11000)])] },
    (withPage ((row 64 [(0x8, 8, 0x12000), (0x1b, 1, 0x5), (0x1c, 1, 0x1), (0x1d, 1, 0xff), (0x20, 8, 0x18000)]) ++ (row 64 [(0x4, 1, 0x1), (0x10, 8,
    0x11000)])) up).modCtx 0 fun (c : Ctx) => { c with planes := [(0, { hdr := (row 64 [(0x8, 8, 0x12000), (0x1b, 1, 0x5), (0x1c, 1, 0x1), (0x1d, 1, 0xff), (0x20, 8, 0x18000)]), desc := 0x10000, state := 1, code := 0, passes := 0, outcome := 0, unchanged := 0, step := row 192 [], waitSeq := 1, release := none, gIn := [], ready := true, entries := [(row 64 [(0x4, 1, 0x1), (0x10, 8, 0x11000)])] })] },
    by decide +kernel⟩

theorem witness_PlanePasses_5_update :
    ∃ (ctx : Fin 8) (id : Fin 4) (p : Plane) (s : State),
      s.plane? ctx id = some p ∧ p.state = 1 ∧ p.ready = true ∧ s.planeHeld ctx id = false ∧ s.passWaits ctx id = false ∧
        ringsFull (ringParts p.gIn p.entries) = true ∧ plKind p.hdr = 1 :=
  ⟨0, 0, { hdr := (row 64 [(0x0, 1, 0x1), (0x1, 1, 0x1), (0x8, 8, 0x12000), (0x1b, 1, 0x5), (0x1c, 1, 0x1), (0x1d, 1, 0xff), (0x20, 8, 0x18000)]), desc := 0x10000, state := 1, code := 0, passes := 0, outcome := 0, unchanged := 0, step := (row 192 [(0x0, 4, 0x3f800000), (0x4, 4, 0x3f800000), (0x8, 4, 0x7f000000), (0x20, 4, 0x3f000000), (0x24, 4, 0x3f000000), (0x28, 4, 0x3f000000), (0x2c, 4, 0x3f000000), (0x30, 4, 0x3f000000), (0x34, 4, 0x3f000000), (0x38, 4, 0x3f000000), (0x3c, 4, 0x3f000000), (0x40, 4, 0x3f000000)]), waitSeq := 1, release := none, gIn := [], ready := true, entries := [(row 64 [(0x4, 1, 0x1), (0x7, 1, 0xff), (0x10, 8, 0x11000), (0x18, 8, 0x13000), (0x20, 8, 0x14000)])] },
    (withPage ((row 64 [(0x0, 1, 0x1), (0x1, 1, 0x1), (0x8, 8, 0x12000), (0x1b, 1, 0x5), (0x1c, 1, 0x1), (0x1d, 1, 0xff), (0x20, 8,
    0x18000)]) ++ (row 64 [(0x4, 1, 0x1), (0x7, 1, 0xff), (0x10, 8, 0x11000), (0x18, 8, 0x13000), (0x20, 8,
    0x14000)])) up).modCtx 0 fun (c : Ctx) => { c with planes := [(0, { hdr := (row 64 [(0x0, 1, 0x1), (0x1, 1, 0x1), (0x8, 8, 0x12000), (0x1b, 1, 0x5), (0x1c, 1, 0x1), (0x1d, 1, 0xff), (0x20, 8, 0x18000)]), desc := 0x10000, state := 1, code := 0, passes := 0, outcome := 0, unchanged := 0, step := (row 192 [(0x0, 4, 0x3f800000), (0x4, 4, 0x3f800000), (0x8, 4, 0x7f000000), (0x20, 4, 0x3f000000), (0x24, 4, 0x3f000000), (0x28, 4, 0x3f000000), (0x2c, 4, 0x3f000000), (0x30, 4, 0x3f000000), (0x34, 4, 0x3f000000), (0x38, 4, 0x3f000000), (0x3c, 4, 0x3f000000), (0x40, 4, 0x3f000000)]), waitSeq := 1, release := none, gIn := [], ready := true, entries := [(row 64 [(0x4, 1, 0x1), (0x7, 1, 0xff), (0x10, 8, 0x11000), (0x18, 8, 0x13000), (0x20, 8, 0x14000)])] })] },
    by decide +kernel⟩

end Sys2Proof.Tests
end

