-- ==== Sys2Proof/Tests/WitnessScribe.lean ====
section
/-! SUPPORT. States and operands that meet the hypotheses of the statements, clause by clause: scribe. -/

namespace Sys2Proof.Tests

set_option Elab.async false

open Sys2Proof.Machine

theorem witness_TaskListsByCommand_1 :
    ∃ (fn : Fin 9) (slot : Fin 4096) (c : Cmd) (s : State),
      s.starts fn slot 0x13 0 c ∧ c.par 8 1 ≤ 63 ∧ s.inMask c.ctx (c.par 8 1) = true ∧ c.par 0x10 8 % 128 = 0 ∧ c.par 0x18 8 % 16 = 0 ∧
        refHigh (c.par 0x10 8) = 0 ∧ refHigh (c.par 0x18 8) = 0 ∧ (∀ l ∈ s.lists, l.bay = c.par 8 1 → l.ctx = c.ctx → l.launch = none) :=
  ⟨0, 0, cmdOf (row 64 [(0x0, 1, 0x13), (0x10, 8, 0x10000), (0x18, 8, 0x18000)]), withCmd (row 64 [(0x0, 1, 0x13), (0x10, 8, 0x10000), (0x18, 8,
    0x18000)]) (withPage [] up), by decide +kernel⟩

theorem witness_TaskListsByCommand_1_again :
    ∃ (fn : Fin 9) (slot : Fin 4096) (c : Cmd) (s : State),
      s.starts fn slot 0x13 0 c ∧ c.par 8 1 ≤ 63 ∧ s.inMask c.ctx (c.par 8 1) = true ∧ c.par 0x10 8 % 128 = 0 ∧ c.par 0x18 8 % 16 = 0 ∧
        refHigh (c.par 0x10 8) = 0 ∧ refHigh (c.par 0x18 8) = 0 ∧ (∀ l ∈ s.lists, l.bay = c.par 8 1 → l.ctx = c.ctx → l.launch = none) :=
  ⟨0, 0, cmdOf (row 64 [(0x0, 1, 0x13), (0x10, 8, 0x10000), (0x18, 8, 0x18000)]), withCmd (row 64 [(0x0, 1, 0x13), (0x10, 8, 0x10000), (0x18, 8,
    0x18000)]) ({ withPage [] up with lists := [{ list0 [] with launch := none }] }), by decide +kernel⟩

theorem witness_TaskListsByCommand_2_idle :
    ∃ (fn : Fin 9) (slot : Fin 4096) (c : Cmd) (l : TList) (s : State),
      s.starts fn slot 0x14 0 c ∧ c.par 8 1 ≤ 63 ∧ s.list? (c.par 8 1) c.ctx = some l ∧ l.launch = none :=
  ⟨0, 0, cmdOf (row 64 [(0x0, 1, 0x14)]), { list0 [] with launch := none }, withCmd (row 64 [(0x0, 1,
    0x14)]) ({ up with lists := [{ list0 [] with launch := none }] }), by decide +kernel⟩

theorem witness_TaskListsByCommand_2_busy :
    ∃ (fn : Fin 9) (slot : Fin 4096) (c : Cmd) (l : TList) (s : State),
      s.starts fn slot 0x14 0 c ∧ c.par 8 1 ≤ 63 ∧ s.list? (c.par 8 1) c.ctx = some l ∧ l.launch ≠ none :=
  ⟨0, 0, cmdOf (row 64 [(0x0, 1, 0x14)]), list0 [], withCmd (row 64 [(0x0, 1, 0x14)]) ({ up with lists := [list0 []] }), by decide +kernel⟩

theorem witness_TaskListsByCommand_3 :
    ∃ (fn : Fin 9) (slot : Fin 4096) (c : Cmd) (l : TList) (s : State),
      s.starts fn slot 0x14 1 c ∧ c.par 8 1 ≤ 63 ∧ s.list? (c.par 8 1) c.ctx = some l ∧ l.launch ≠ none :=
  ⟨0, 0, cmdOf (row 64 [(0x0, 1, 0x14), (0x9, 1, 0x1)]), list0 [], withCmd (row 64 [(0x0, 1, 0x14), (0x9, 1, 0x1)]) ({ up with lists := [list0 []] }),
    by decide +kernel⟩

theorem witness_TasksAreTaken_1 :
    ∃ (bay : Fin 64) (ctx : Fin 8) (l : TList) (b : List Byte) (s : State),
      s.list? bay ctx = some l ∧ l.launch ≠ none ∧ l.halt = none ∧ l.ahead.length < 8 ∧ l.fetchNext ≤ 65535 ∧ l.atEnd = false ∧
        s.tryRead l.ctx (l.list + 128 * l.fetchNext) 128 .module = .ok b :=
  ⟨0, 0, list0 [], row 128 [], { withPage [] up with lists := [list0 []] }, by decide +kernel⟩

theorem witness_TasksAreTaken_2 :
    ∃ (bay : Fin 64) (ctx : Fin 8) (l : TList) (h : Ahead) (rest : List Ahead) (s : State),
      s.list? bay ctx = some l ∧ l.launch ≠ none ∧ l.halt = none ∧ l.ahead = h :: rest ∧ h.fault = none ∧ h.failed = none ∧ tkOpcode h.bytes ≠ opEnd ∧
        l.prevDone (tkDepPrev h.bytes) = true ∧ tkPair h.bytes = false :=
  ⟨0, 0, { list0 [] with ahead := [⟨8, nop0, none, none⟩] }, ⟨8, nop0, none, none⟩, [],
    { withPage [] up with lists := [{ list0 [] with ahead := [⟨8, nop0, none, none⟩] }] }, by decide +kernel⟩

theorem witness_TasksAreTaken_3 :
    ∃ (bay : Fin 64) (ctx : Fin 8) (l : TList) (h : Ahead) (rest : List Ahead) (s : State),
      s.list? bay ctx = some l ∧ l.launch ≠ none ∧ l.halt = none ∧ l.ahead = h :: rest ∧ h.fault = none ∧ h.failed = none ∧ tkOpcode h.bytes = opEnd ∧
        descBad h.bytes [] h.idx = false ∧ l.tasks = [] :=
  ⟨0, 0, { list0 [] with ahead := [⟨8, row 128 [], none, none⟩] }, ⟨8, row 128 [], none, none⟩, [],
    { withPage [] up with lists := [{ list0 [] with ahead := [⟨8, row 128 [], none, none⟩] }] }, by decide +kernel⟩

theorem witness_TasksAreTaken_4 :
    ∃ (bay : Fin 64) (ctx : Fin 8) (k : Task) (s : State),
      s.waiting? bay ctx = some k ∧ k.deadline = none ∧ s.mayTake ctx bay (tkWaitSem k.a) (tkWaitN k.a) k.waitSeq = true :=
  ⟨0, 0, { task0 (row 128 [(0, 1, 1), (0x1A, 1, 5), (0x1B, 1, 2), (0x1C, 1, 0xFF)]) with phase := .waiting, waitLog2 := 0 },
    (withTask ({ task0 (row 128 [(0, 1, 1), (0x1A, 1, 5), (0x1B, 1, 2), (0x1C, 1, 0xFF)]) with phase := .waiting, waitLog2 := 0 })).modCtx 0 fun (c : Ctx)
    => { c with sems := [(5, 2)] }, by decide +kernel⟩

theorem witness_TasksAreTaken_5 :
    ∃ (bay : Fin 64) (ctx : Fin 8) (k : Task) (d : Nat) (s : State),
      s.waiting? bay ctx = some k ∧ k.deadline = some d ∧ k.ctx = ctx.val ∧ k.bay = bay.val ∧
        s.mayTake ctx bay (tkWaitSem k.a) (tkWaitN k.a) k.waitSeq = true ∧ tkWaitN k.a ≤ s.heldBefore ctx bay (tkWaitSem k.a) (d + 1) :=
  ⟨0, 0, { task0 (row 128 [(0, 1, 1), (0x1A, 1, 5), (0x1B, 1, 2), (0x1C, 1, 0xFF)]) with phase := .waiting }, 91024,
    (withTask ({ task0 (row 128 [(0, 1, 1), (0x1A, 1, 5), (0x1B, 1, 2), (0x1C, 1, 0xFF)]) with phase := .waiting })).modCtx 0 fun (c : Ctx) =>
    { c with sems := [(5, 2)], semAdds := [(5, [(91024, 2)])] }, by decide +kernel⟩

theorem witness_TasksAreTaken_6 :
    ∃ (bay : Fin 64) (ctx : Fin 8) (k : Task) (d : Nat) (s : State),
      s.waiting? bay ctx = some k ∧ k.deadline = some d ∧ d < s.now k.half ∧
        (s.mayTake ctx bay (tkWaitSem k.a) (tkWaitN k.a) k.waitSeq = false ∨ s.heldBefore ctx bay (tkWaitSem k.a) (d + 1) < tkWaitN k.a) ∧ k.ctx = ctx.val ∧
        k.bay = bay.val :=
  ⟨0, 0, { task0 (row 128 [(0, 1, 1), (0x1A, 1, 5), (0x1B, 1, 2), (0x1C, 1, 0xFF)]) with phase := .waiting }, 91024,
    (withTask ({ task0 (row 128 [(0, 1, 1), (0x1A, 1, 5), (0x1B, 1, 2), (0x1C, 1, 0xFF)]) with phase := .waiting })).modCtx 0 fun (c : Ctx) =>
    { c with sems := [(5, 1)] }, by decide +kernel⟩

theorem witness_TasksAreTaken_7 :
    ∃ (bay : Fin 64) (ctx : Fin 8) (k : Task) (s : State),
      s.inPhase? bay ctx .reading = some k ∧ s.taskHeld k = false ∧ tkOpcode k.a = opNop :=
  ⟨0, 0, { task0 nop0 with phase := .reading }, withTask ({ task0 nop0 with phase := .reading }), by decide +kernel⟩

theorem witness_TasksAreTaken_8 :
    ∃ (bay : Fin 64) (ctx : Fin 8) (k : Task) (s : State),
      s.inPhase? bay ctx .reading = some k ∧ s.taskHeld k = false ∧ tkOpcode k.a ≠ opNop ∧ ∃ (y : Task), s.readStart k = .ok y ∧
        (tkAppends k.a = false ∨ y.appending = []) :=
  ⟨0, 0, { task0 matmul0 with phase := .reading }, (withTask ({ task0 matmul0 with phase := .reading })).modCtx 0 fun (c : Ctx) =>
    { c with res := { bayMask := 1, loftGran := 100, oppool := 1 } }, by decide +kernel, by decide +kernel, by decide +kernel,
    (ok_of (by decide +kernel)).imp fun _ h => ⟨h, .inl (by decide +kernel)⟩⟩

theorem witness_TasksAreTaken_10 :
    ∃ (bay : Fin 64) (ctx : Fin 8) (k : Task) (st : Nat) (d : Nat) (s : State),
      s.inPhase? bay ctx .reading = some k ∧ s.taskHeld k = false ∧ tkOpcode k.a ≠ opNop ∧ s.readStart k = .error (.ends st d) :=
  ⟨0, 0, { task0 matmul0 with phase := .reading }, 2, 0, withTask ({ task0 matmul0 with phase := .reading }), by decide +kernel⟩

theorem witness_TasksAreTaken_9 :
    ∃ (bay : Fin 64) (ctx : Fin 8) (k : Task) (s : State),
      s.inPhase? bay ctx .reading = some k ∧ s.taskHeld k = false ∧ tkOpcode k.a ≠ opNop ∧ tkAppends k.a = true ∧ ∃ (y : Task), s.readStart k = .ok y ∧
        y.appending ≠ [] :=
  ⟨0, 0, { task0 (row 128 [(0, 1, 2), (0xA, 2, 1), (0x12, 2, 63), (0x1A, 1, 0xFF), (0x1C, 1, 0xFF), (0x20, 4, 0xFFFFFFFF), (0x2F, 1, 8), (0x30, 8, 0x11000), (0x38, 8, 0x12000), (0x40, 8, 0x10000)]) with phase := .reading },
    ({ withPage ((row 64 [(0x0, 8, 0x10040), (0x10, 4, 0x10), (0x14, 1, 0x1), (0x16, 2, 0x1f), (0x18, 2, 0x200)]) ++ (row 16 [(0x0, 8, 0x200000000020000)])) up with lists := [list0 [{ task0 (row 128 [(0, 1, 2), (0xA, 2, 1), (0x12, 2, 63), (0x1A, 1, 0xFF), (0x1C, 1, 0xFF), (0x20, 4, 0xFFFFFFFF), (0x2F, 1, 8), (0x30, 8, 0x11000), (0x38, 8, 0x12000), (0x40, 8, 0x10000)]) with phase := .reading }]] }).modCtx 0 fun (c : Ctx) => { c with res := { bayMask := 1, loftGran := 100, oppool := 1 } },
    by decide +kernel, by decide +kernel, by decide +kernel, by decide +kernel, ok_and (by decide +kernel)⟩

theorem witness_TasksAreTaken_12 :
    ∃ (bay : Fin 64) (ctx : Fin 8) (k : Task) (a : Nat) (checks : List Unit) (s : State),
      s.inPhase? bay ctx .locking = some k ∧ s.taskHeld k = false ∧ k.appending.mapM (s.checkAnchor k) = .ok checks ∧
        k.appending.foldlM (State.lockAnchor k) (s, []) = .error (.ends 6 a) :=
  ⟨0, 0, { task0 (row 128 [(0, 1, 2), (0xA, 2, 1), (0x12, 2, 63), (0x1A, 1, 0xFF), (0x1C, 1, 0xFF), (0x20, 4, 0xFFFFFFFF), (0x2F, 1, 8), (0x30, 8, 0x11000), (0x38, 8, 0x12000), (0x40, 8, 0x10000)]) with phase := .locking, shapesA := [(1, 64, 1)] },
    0x10000, [()], { withPage ((row 64 [(0x0, 8, 0x10040), (0xe, 2, 0x1), (0x10, 4, 0x10), (0x14, 1, 0x1), (0x16, 2, 0x1f), (0x18, 2, 0x200)]) ++ (row 16 [(0x0, 8, 0x200000000020000)])) up with lists := [list0 [{ task0 (row 128 [(0, 1, 2), (0xA, 2, 1), (0x12, 2, 63), (0x1A, 1, 0xFF), (0x1C, 1, 0xFF), (0x20, 4, 0xFFFFFFFF), (0x2F, 1, 8), (0x30, 8, 0x11000), (0x38, 8, 0x12000), (0x40, 8, 0x10000)]) with phase := .locking, shapesA := [(1, 64, 1)] }]] },
    by decide +kernel⟩

theorem witness_TasksAreTaken_11 :
    ∃ (bay : Fin 64) (ctx : Fin 8) (k : Task) (checks : List Unit) (s : State),
      s.inPhase? bay ctx .locking = some k ∧ s.taskHeld k = false ∧ k.appending.mapM (s.checkAnchor k) = .ok checks ∧
        ∃ (t : State) (locked : List (Nat × Nat × Nat × Nat)) (rooms : List Unit), k.appending.foldlM (State.lockAnchor k) (s, []) = .ok (t, locked) ∧
        locked.mapM (t.roomAt k) = .ok rooms :=
  ⟨0, 0, { task0 (row 128 [(0, 1, 2), (0xA, 2, 1), (0x12, 2, 63), (0x1A, 1, 0xFF), (0x1C, 1, 0xFF), (0x20, 4, 0xFFFFFFFF), (0x2F, 1, 8), (0x30, 8, 0x11000), (0x38, 8, 0x12000), (0x40, 8, 0x10000)]) with phase := .locking, shapesA := [(1, 64, 1)] },
    [()], { withPage ((row 64 [(0x0, 8, 0x10040), (0x10, 4, 0x10), (0x14, 1, 0x1), (0x16, 2, 0x1f), (0x18, 2, 0x200)]) ++ (row 16 [(0x0, 8, 0x200000000020000)])) up with lists := [list0 [{ task0 (row 128 [(0, 1, 2), (0xA, 2, 1), (0x12, 2, 63), (0x1A, 1, 0xFF), (0x1C, 1, 0xFF), (0x20, 4, 0xFFFFFFFF), (0x2F, 1, 8), (0x30, 8, 0x11000), (0x38, 8, 0x12000), (0x40, 8, 0x10000)]) with phase := .locking, shapesA := [(1, 64, 1)] }]] },
    by decide +kernel, by decide +kernel, by decide +kernel, lock_of _ (by decide +kernel)⟩

theorem witness_TilesAreIssued_1 :
    ∃ (bay : Fin 64) (c : Nat) (core : Nat) (x : Cand) (s : State) (t : State),
      s.bayRuns bay = true ∧ t = State.failStarved (forAll (List.range 8) (fun c y => y.passList bay c) s) bay ∧
        t.turn bay (t.bay bay).lastLc false = some (c, x) ∧ t.freeCore bay = some core :=
  ⟨0, 0, 0, .tile ({ task0 matmul0 with todo := [{ slot := 0, iter := 0, x := 0, y := 0, pos := 0 }] }) ({ slot := 0, iter := 0, x := 0, y := 0, pos := 0 })
    [] 95000, { withTask ({ task0 matmul0 with todo := [{ slot := 0, iter := 0, x := 0, y := 0, pos := 0 }] }) with fetches := [{ id := 10, bay := 0, ctx := 0, task := 7, pos := 0, slot := 0, operand := 0, rows := [(0x11000, 64)], next := 1, doneAt := some 95000 }, { id := 11, bay := 0, ctx := 0, task := 7, pos := 0, slot := 0, operand := 1, rows := [(0x12000, 64)], next := 1, doneAt := some 95000 }] },
    State.failStarved (forAll (List.range 8) (fun c y => y.passList 0 c)
    ({ withTask ({ task0 matmul0 with todo := [{ slot := 0, iter := 0, x := 0, y := 0, pos := 0 }] }) with fetches := [{ id := 10, bay := 0, ctx := 0, task := 7, pos := 0, slot := 0, operand := 0, rows := [(0x11000, 64)], next := 1, doneAt := some 95000 }, { id := 11, bay := 0, ctx := 0, task := 7, pos := 0, slot := 0, operand := 1, rows := [(0x12000, 64)], next := 1, doneAt := some 95000 }] })) 0,
    by decide +kernel, rfl, by decide +kernel, by decide +kernel⟩

theorem witness_TilesAreIssued_2 :
    ∃ (bay : Fin 64) (c : Nat) (core : Nat) (x : Cand) (s : State) (t : State),
      s.bayRuns bay = true ∧ t = State.failStarved (forAll (List.range 8) (fun c y => y.passList bay c) s) bay ∧
        t.turn bay (t.bay bay).lastLc false = none ∧ t.turn bay (t.bay bay).lastBe true = some (c, x) ∧ t.freeCore bay = some core ∧
        (t.bay bay).claim = none :=
  ⟨0, 0, 0, .tile ({ task0 matmul0 with todo := [{ slot := 0, iter := 0, x := 0, y := 0, pos := 0 }] }) ({ slot := 0, iter := 0, x := 0, y := 0, pos := 0 })
    [] 95000, { withTask ({ task0 matmul0 with todo := [{ slot := 0, iter := 0, x := 0, y := 0, pos := 0 }] }) with fetches := [{ id := 10, bay := 0, ctx := 0, task := 7, pos := 0, slot := 0, operand := 0, rows := [(0x11000, 64)], next := 1, doneAt := some 95000 }, { id := 11, bay := 0, ctx := 0, task := 7, pos := 0, slot := 0, operand := 1, rows := [(0x12000, 64)], next := 1, doneAt := some 95000 }], ctxs := [(0, { admitted := true, be := true, res := { bayMask := 1, loftGran := 100 } })] },
    State.failStarved (forAll (List.range 8) (fun c y => y.passList 0 c)
    ({ withTask ({ task0 matmul0 with todo := [{ slot := 0, iter := 0, x := 0, y := 0, pos := 0 }] }) with fetches := [{ id := 10, bay := 0, ctx := 0, task := 7, pos := 0, slot := 0, operand := 0, rows := [(0x11000, 64)], next := 1, doneAt := some 95000 }, { id := 11, bay := 0, ctx := 0, task := 7, pos := 0, slot := 0, operand := 1, rows := [(0x12000, 64)], next := 1, doneAt := some 95000 }], ctxs := [(0, { admitted := true, be := true, res := { bayMask := 1, loftGran := 100 } })] })) 0,
    by decide +kernel, rfl, by decide +kernel, by decide +kernel, by decide +kernel, by decide +kernel⟩

theorem witness_TilesAreIssued_3 :
    ∃ (bay : Fin 64) (k : LcClaim) (r : Run) (s : State) (t : State),
      (s.bay bay).claim = some k ∧ k.forced = false ∧ k.since + 500 ≤ s.now (bayHalf bay) ∧
        t = s.setBay bay { s.bay bay with claim := some { k with forced := true } } ∧ (t.cand bay k.ctx).isSome = true ∧ t.freeCore bay = none ∧
        t.victim bay = some r :=
  ⟨0, ⟨0, 99500, false⟩, { core := 0, bay := 0, ctx := 1, task := 3, tile := { slot := 0, iter := 0, x := 0, y := 0, pos := 0 }, check := none, role := 0, seq := 1, start := 0, isProtected := false, walk := none, out := none, banks := [] },
    { withTask ({ task0 matmul0 with todo := [{ slot := 0, iter := 0, x := 0, y := 0, pos := 0 }] }) with fetches := [{ id := 10, bay := 0, ctx := 0, task := 7, pos := 0, slot := 0, operand := 0, rows := [(0x11000, 64)], next := 1, doneAt := some 95000 }, { id := 11, bay := 0, ctx := 0, task := 7, pos := 0, slot := 0, operand := 1, rows := [(0x12000, 64)], next := 1, doneAt := some 95000 }], plan := { up.plan with goodMap := [(0, 1)] }, scribe := { runs := [{ core := 0, bay := 0, ctx := 1, task := 3, tile := { slot := 0, iter := 0, x := 0, y := 0, pos := 0 }, check := none, role := 0, seq := 1, start := 0, isProtected := false, walk := none, out := none, banks := [] }] }, bays := [(0, { on := true, claim := some ⟨0, 99500, false⟩ })], ctxs := [(0, { admitted := true }), (1, { admitted := true, be := true })] },
    ({ withTask ({ task0 matmul0 with todo := [{ slot := 0, iter := 0, x := 0, y := 0, pos := 0 }] }) with fetches := [{ id := 10, bay := 0, ctx := 0, task := 7, pos := 0, slot := 0, operand := 0, rows := [(0x11000, 64)], next := 1, doneAt := some 95000 }, { id := 11, bay := 0, ctx := 0, task := 7, pos := 0, slot := 0, operand := 1, rows := [(0x12000, 64)], next := 1, doneAt := some 95000 }], plan := { up.plan with goodMap := [(0, 1)] }, scribe := { runs := [{ core := 0, bay := 0, ctx := 1, task := 3, tile := { slot := 0, iter := 0, x := 0, y := 0, pos := 0 }, check := none, role := 0, seq := 1, start := 0, isProtected := false, walk := none, out := none, banks := [] }] }, bays := [(0, { on := true, claim := some ⟨0, 99500, false⟩ })], ctxs := [(0, { admitted := true }), (1, { admitted := true, be := true })] }).setBay 0 { ({ withTask ({ task0 matmul0 with todo := [{ slot := 0, iter := 0, x := 0, y := 0, pos := 0 }] }) with fetches := [{ id := 10, bay := 0, ctx := 0, task := 7, pos := 0, slot := 0, operand := 0, rows := [(0x11000, 64)], next := 1, doneAt := some 95000 }, { id := 11, bay := 0, ctx := 0, task := 7, pos := 0, slot := 0, operand := 1, rows := [(0x12000, 64)], next := 1, doneAt := some 95000 }], plan := { up.plan with goodMap := [(0, 1)] }, scribe := { runs := [{ core := 0, bay := 0, ctx := 1, task := 3, tile := { slot := 0, iter := 0, x := 0, y := 0, pos := 0 }, check := none, role := 0, seq := 1, start := 0, isProtected := false, walk := none, out := none, banks := [] }] }, bays := [(0, { on := true, claim := some ⟨0, 99500, false⟩ })], ctxs := [(0, { admitted := true }), (1, { admitted := true, be := true })] }).bay 0 with claim := some ⟨0, 99500, true⟩ },
    by decide +kernel, by decide +kernel, by decide +kernel, rfl, by decide +kernel, by decide +kernel, by decide +kernel⟩

theorem witness_TilesAreIssued_4 :
    ∃ (bay : Fin 64) (ctx : Fin 8) (index : Fin 65536) (k : Task) (t : Tile) (rest : List Tile) (d : Nat) (s : State),
      s.task? bay ctx index = some k ∧ k.todo = t :: rest ∧ k.handleDeadline = some d ∧ k.phase = .issuing ∧ k.status = none ∧ t.issued = false ∧
        d < s.now k.half ∧ s.tileReady k t = .wait :=
  ⟨0, 0, 7, { task0 matmul0 with todo := [{ slot := 0, iter := 0, x := 0, y := 0, pos := 0 }], handleSince := some (0, 10) },
    { slot := 0, iter := 0, x := 0, y := 0, pos := 0 }, [], 1024, withTask
    ({ task0 matmul0 with todo := [{ slot := 0, iter := 0, x := 0, y := 0, pos := 0 }], handleSince := some (0, 10) }), by decide +kernel⟩

theorem witness_TilesAreDone_1 :
    ∃ (core : CoreId) (wrong : List (Nat × BitVec 64)) (r : Run) (k : Task) (w : Option Walk) (s : State) (t : State),
      s.run? core = some r ∧ s.task? r.bay r.ctx r.task = some k ∧ r.out = none ∧ s.operandAgain k r.tile = false ∧ s.operandLost k r.tile = false ∧
        (∀ f ∈ s.faults, f.who ≠ .tile core) ∧ s.runWalk k r = (w, none) ∧ t = State.fetchWalk (s.setRun { r with walk := w }) k { r.tile with walk := w } ∧
        (∀ f ∈ t.tileFetches k r.tile, f.failed = none ∧ f.complete = true) ∧ ∃ (o : TileOut), t.runTile k r.tile w wrong = .ok o :=
  ⟨0, [], { core := 0, bay := 0, ctx := 0, task := 7, tile := { slot := 0, iter := 0, x := 0, y := 0, pos := 0 }, check := none, role := 0, seq := 1, start := 0, isProtected := false, walk := none, out := none, banks := [] },
    task0 matmul0, none, { withTask (task0 matmul0) with fetches := [{ id := 10, bay := 0, ctx := 0, task := 7, pos := 0, slot := 0, operand := 0, rows := [(0x11000, 64)], next := 1, doneAt := some 95000 }, { id := 11, bay := 0, ctx := 0, task := 7, pos := 0, slot := 0, operand := 1, rows := [(0x12000, 64)], next := 1, doneAt := some 95000 }], scribe := { runs := [{ core := 0, bay := 0, ctx := 0, task := 7, tile := { slot := 0, iter := 0, x := 0, y := 0, pos := 0 }, check := none, role := 0, seq := 1, start := 0, isProtected := false, walk := none, out := none, banks := [] }] } },
    State.fetchWalk (State.setRun { withTask (task0 matmul0) with fetches := [{ id := 10, bay := 0, ctx := 0, task := 7, pos := 0, slot := 0, operand := 0, rows := [(0x11000, 64)], next := 1, doneAt := some 95000 }, { id := 11, bay := 0, ctx := 0, task := 7, pos := 0, slot := 0, operand := 1, rows := [(0x12000, 64)], next := 1, doneAt := some 95000 }], scribe := { runs := [{ core := 0, bay := 0, ctx := 0, task := 7, tile := { slot := 0, iter := 0, x := 0, y := 0, pos := 0 }, check := none, role := 0, seq := 1, start := 0, isProtected := false, walk := none, out := none, banks := [] }] } } { core := 0, bay := 0, ctx := 0, task := 7, tile := { slot := 0, iter := 0, x := 0, y := 0, pos := 0 }, check := none, role := 0, seq := 1, start := 0, isProtected := false, walk := none, out := none, banks := [] }) (task0 matmul0) { slot := 0, iter := 0, x := 0, y := 0, pos := 0 },
    by decide +kernel, by decide +kernel, by decide +kernel, by decide +kernel, by decide +kernel, by decide +kernel, by decide +kernel, rfl,
    by decide +kernel, ok_of (by decide +kernel)⟩

theorem witness_TilesAreDone_2_stands :
    ∃ (core : CoreId) (r : Run) (k : Task) (w : Walk) (o : TileOut) (s : State),
      s.run? core = some r ∧ s.task? r.bay r.ctx r.task = some k ∧ r.out = some o ∧ r.walk = some w ∧ (∀ f ∈ s.faults, f.who ≠ .tile core) ∧
        s.walkChanged r.ctx w = .ok none :=
  ⟨0, { core := 0, bay := 0, ctx := 0, task := 7, tile := { slot := 0, iter := 0, x := 0, y := 0, pos := 0 }, check := none, role := 0, seq := 1, start := 0, isProtected := false, walk := some { anchor := 0x10000, root := 0x10040, length := 1, rootSeq := 0, tpp := 512, entries := [(0, 0x10040, (row 16 [(0x0, 8, 0x200000000020000)]))] }, out := some { bytes := [(0x13000, 0xFF, 7)], flags := 0, partials := [], prints := [9] }, banks := [] },
    task0 matmul0, { anchor := 0x10000, root := 0x10040, length := 1, rootSeq := 0, tpp := 512, entries := [(0, 0x10040, (row 16 [(0x0, 8, 0x200000000020000)]))] },
    { bytes := [(0x13000, 0xFF, 7)], flags := 0, partials := [], prints := [9] },
    { withPage ((row 64 [(0x0, 8, 0x10040), (0x10, 4, 0x10), (0x14, 1, 0x1), (0x16, 2, 0x1f), (0x18, 2, 0x200)]) ++ (row 16 [(0x0, 8, 0x200000000020000)])) up with lists := [list0 [task0 matmul0]], scribe := { runs := [{ core := 0, bay := 0, ctx := 0, task := 7, tile := { slot := 0, iter := 0, x := 0, y := 0, pos := 0 }, check := none, role := 0, seq := 1, start := 0, isProtected := false, walk := some { anchor := 0x10000, root := 0x10040, length := 1, rootSeq := 0, tpp := 512, entries := [(0, 0x10040, (row 16 [(0x0, 8, 0x200000000020000)]))] }, out := some { bytes := [(0x13000, 0xFF, 7)], flags := 0, partials := [], prints := [9] }, banks := [] }] } },
    by decide +kernel⟩

theorem witness_TilesAreDone_2_race :
    ∃ (core : CoreId) (r : Run) (k : Task) (w : Walk) (o : TileOut) (x : Nat × Nat × Nat) (s : State),
      s.run? core = some r ∧ s.task? r.bay r.ctx r.task = some k ∧ r.out = some o ∧ r.walk = some w ∧ (∀ f ∈ s.faults, f.who ≠ .tile core) ∧
        s.walkChanged r.ctx w = .ok (some x) :=
  ⟨0, { core := 0, bay := 0, ctx := 0, task := 7, tile := { slot := 0, iter := 0, x := 0, y := 0, pos := 0 }, check := none, role := 0, seq := 1, start := 0, isProtected := false, walk := some { anchor := 0x10000, root := 0x10040, length := 1, rootSeq := 0, tpp := 512, entries := [(0, 0x10040, (row 16 [(0x0, 8, 0x200000000020000)]))] }, out := some { bytes := [(0x13000, 0xFF, 7)], flags := 0, partials := [], prints := [9] }, banks := [] },
    task0 matmul0, { anchor := 0x10000, root := 0x10040, length := 1, rootSeq := 0, tpp := 512, entries := [(0, 0x10040, (row 16 [(0x0, 8, 0x200000000020000)]))] },
    { bytes := [(0x13000, 0xFF, 7)], flags := 0, partials := [], prints := [9] }, (0, 0, 0),
    { withPage (row 64 [(0x0, 8, 0x10040), (0x10, 4, 0x10), (0x14, 1, 0x1), (0x16, 2, 0x1f), (0x18, 2, 0x200)]) up with lists := [list0 [task0 matmul0]], scribe := { runs := [{ core := 0, bay := 0, ctx := 0, task := 7, tile := { slot := 0, iter := 0, x := 0, y := 0, pos := 0 }, check := none, role := 0, seq := 1, start := 0, isProtected := false, walk := some { anchor := 0x10000, root := 0x10040, length := 1, rootSeq := 0, tpp := 512, entries := [(0, 0x10040, (row 16 [(0x0, 8, 0x200000000020000)]))] }, out := some { bytes := [(0x13000, 0xFF, 7)], flags := 0, partials := [], prints := [9] }, banks := [] }] } },
    by decide +kernel⟩

theorem witness_TilesAreDone_3 :
    ∃ (core : CoreId) (r : Run) (s : State),
      s.run? core = some r :=
  ⟨0, { core := 0, bay := 0, ctx := 0, task := 7, tile := { slot := 0, iter := 0, x := 0, y := 0, pos := 0 }, check := none, role := 0, seq := 1, start := 0, isProtected := false, walk := none, out := none, banks := [] },
    { withTask (task0 matmul0) with scribe := { runs := [{ core := 0, bay := 0, ctx := 0, task := 7, tile := { slot := 0, iter := 0, x := 0, y := 0, pos := 0 }, check := none, role := 0, seq := 1, start := 0, isProtected := false, walk := none, out := none, banks := [] }] } },
    by decide +kernel⟩

theorem witness_SpotChecksDecide_1 :
    ∃ (id : Nat) (c : Check) (k : Task) (p : Nat × TileOut) (d : Nat × TileOut) (s : State),
      s.check? id = some c ∧ s.task? c.bay c.ctx c.task = some k ∧ c.role 0 = some p ∧ c.role 1 = some d ∧ (∀ b ∈ c.bays, b.1 ≠ 2) ∧ (∀ f ∈ s.faults,
        f.who ≠ .check id) ∧ p.2.prints = d.2.prints :=
  ⟨5, { id := 5, bay := 0, ctx := 0, task := 7, tile := { slot := 0, iter := 0, x := 0, y := 0, pos := 0 }, results := [(0, 0, { bytes := [(0x13000, 0xFF, 7)], flags := 0, partials := [], prints := [9] }), (1, 416, { bytes := [(0x13000, 0xFF, 7)], flags := 0, partials := [], prints := [9] })], bays := [(0, 0), (1, 1)] },
    task0 matmul0, (0, { bytes := [(0x13000, 0xFF, 7)], flags := 0, partials := [], prints := [9] }), (416,
    { bytes := [(0x13000, 0xFF, 7)], flags := 0, partials := [], prints := [9] }),
    { withTask (task0 matmul0) with scribe := { checks := [{ id := 5, bay := 0, ctx := 0, task := 7, tile := { slot := 0, iter := 0, x := 0, y := 0, pos := 0 }, results := [(0, 0, { bytes := [(0x13000, 0xFF, 7)], flags := 0, partials := [], prints := [9] }), (1, 416, { bytes := [(0x13000, 0xFF, 7)], flags := 0, partials := [], prints := [9] })], bays := [(0, 0), (1, 1)] }] }, plan := { up.plan with goodMap := [(0, 3), (1, 1), (2, 1)] } },
    by decide +kernel⟩

theorem witness_SpotChecksDecide_2 :
    ∃ (id : Nat) (c : Check) (k : Task) (p : Nat × TileOut) (d : Nat × TileOut) (s : State),
      s.check? id = some c ∧ s.task? c.bay c.ctx c.task = some k ∧ c.role 0 = some p ∧ c.role 1 = some d ∧ (∀ z ∈ c.bays, z.1 ≠ 2) ∧ (∀ f ∈ s.faults,
        f.who ≠ .check id) ∧ p.2.prints ≠ d.2.prints ∧ ∃ (b : Nat × State), s.dupBay c.bay (c.bays.map Prod.snd) = some b :=
  ⟨5, { id := 5, bay := 0, ctx := 0, task := 7, tile := { slot := 0, iter := 0, x := 0, y := 0, pos := 0 }, results := [(0, 0, { bytes := [(0x13000, 0xFF, 7)], flags := 0, partials := [], prints := [9] }), (1, 416, { bytes := [(0x13000, 0xFF, 8)], flags := 0, partials := [], prints := [8] })], bays := [(0, 0), (1, 1)] },
    task0 matmul0, (0, { bytes := [(0x13000, 0xFF, 7)], flags := 0, partials := [], prints := [9] }), (416,
    { bytes := [(0x13000, 0xFF, 8)], flags := 0, partials := [], prints := [8] }),
    { withTask (task0 matmul0) with scribe := { checks := [{ id := 5, bay := 0, ctx := 0, task := 7, tile := { slot := 0, iter := 0, x := 0, y := 0, pos := 0 }, results := [(0, 0, { bytes := [(0x13000, 0xFF, 7)], flags := 0, partials := [], prints := [9] }), (1, 416, { bytes := [(0x13000, 0xFF, 8)], flags := 0, partials := [], prints := [8] })], bays := [(0, 0), (1, 1)] }] }, plan := { up.plan with goodMap := [(0, 3), (1, 1), (2, 1)] } },
    by decide +kernel, by decide +kernel, by decide +kernel, by decide +kernel, by decide +kernel, by decide +kernel, by decide +kernel,
    some_of (by decide +kernel)⟩

theorem witness_SpotChecksDecide_3_primary :
    ∃ (id : Nat) (c : Check) (k : Task) (p : Nat × TileOut) (d : Nat × TileOut) (x : Nat × TileOut) (s : State),
      s.check? id = some c ∧ s.task? c.bay c.ctx c.task = some k ∧ c.role 0 = some p ∧ c.role 1 = some d ∧ c.role 2 = some x ∧ (∀ f ∈ s.faults,
        f.who ≠ .check id) ∧ x.2.prints = p.2.prints :=
  ⟨5, { id := 5, bay := 0, ctx := 0, task := 7, tile := { slot := 0, iter := 0, x := 0, y := 0, pos := 0 }, results := [(0, 0, { bytes := [(0x13000, 0xFF, 7)], flags := 0, partials := [], prints := [9] }), (1, 416, { bytes := [(0x13000, 0xFF, 8)], flags := 0, partials := [], prints := [8] }), (2, 832, { bytes := [(0x13000, 0xFF, 7)], flags := 0, partials := [], prints := [9] })], bays := [(0, 0), (1, 1), (2, 2)] },
    task0 matmul0, (0, { bytes := [(0x13000, 0xFF, 7)], flags := 0, partials := [], prints := [9] }), (416,
    { bytes := [(0x13000, 0xFF, 8)], flags := 0, partials := [], prints := [8] }), (832,
    { bytes := [(0x13000, 0xFF, 7)], flags := 0, partials := [], prints := [9] }),
    { withTask (task0 matmul0) with scribe := { checks := [{ id := 5, bay := 0, ctx := 0, task := 7, tile := { slot := 0, iter := 0, x := 0, y := 0, pos := 0 }, results := [(0, 0, { bytes := [(0x13000, 0xFF, 7)], flags := 0, partials := [], prints := [9] }), (1, 416, { bytes := [(0x13000, 0xFF, 8)], flags := 0, partials := [], prints := [8] }), (2, 832, { bytes := [(0x13000, 0xFF, 7)], flags := 0, partials := [], prints := [9] })], bays := [(0, 0), (1, 1), (2, 2)] }] }, plan := { up.plan with goodMap := [(0, 3), (1, 1), (2, 1)] } },
    by decide +kernel⟩

theorem witness_SpotChecksDecide_3_duplicate :
    ∃ (id : Nat) (c : Check) (k : Task) (p : Nat × TileOut) (d : Nat × TileOut) (x : Nat × TileOut) (s : State),
      s.check? id = some c ∧ s.task? c.bay c.ctx c.task = some k ∧ c.role 0 = some p ∧ c.role 1 = some d ∧ c.role 2 = some x ∧ (∀ f ∈ s.faults,
        f.who ≠ .check id) ∧ x.2.prints ≠ p.2.prints ∧ x.2.prints = d.2.prints :=
  ⟨5, { id := 5, bay := 0, ctx := 0, task := 7, tile := { slot := 0, iter := 0, x := 0, y := 0, pos := 0 }, results := [(0, 0, { bytes := [(0x13000, 0xFF, 7)], flags := 0, partials := [], prints := [9] }), (1, 416, { bytes := [(0x13000, 0xFF, 8)], flags := 0, partials := [], prints := [8] }), (2, 832, { bytes := [(0x13000, 0xFF, 8)], flags := 0, partials := [], prints := [8] })], bays := [(0, 0), (1, 1), (2, 2)] },
    task0 matmul0, (0, { bytes := [(0x13000, 0xFF, 7)], flags := 0, partials := [], prints := [9] }), (416,
    { bytes := [(0x13000, 0xFF, 8)], flags := 0, partials := [], prints := [8] }), (832,
    { bytes := [(0x13000, 0xFF, 8)], flags := 0, partials := [], prints := [8] }),
    { withTask (task0 matmul0) with scribe := { checks := [{ id := 5, bay := 0, ctx := 0, task := 7, tile := { slot := 0, iter := 0, x := 0, y := 0, pos := 0 }, results := [(0, 0, { bytes := [(0x13000, 0xFF, 7)], flags := 0, partials := [], prints := [9] }), (1, 416, { bytes := [(0x13000, 0xFF, 8)], flags := 0, partials := [], prints := [8] }), (2, 832, { bytes := [(0x13000, 0xFF, 8)], flags := 0, partials := [], prints := [8] })], bays := [(0, 0), (1, 1), (2, 2)] }] }, plan := { up.plan with goodMap := [(0, 3), (1, 1), (2, 1)] } },
    by decide +kernel⟩

theorem witness_TasksComplete_1 :
    ∃ (bay : Fin 64) (ctx : Fin 8) (index : Fin 65536) (k : Task) (s : State) (t : State),
      t = s.passList bay ctx ∧ t.task? bay ctx index = some k ∧ k.tilesDone = true ∧ k.partials ≠ [] ∧ t.taskHeld k = false ∧
        (((k.partials.map fun p => p.1 % 2).dedup).findSome? fun key => t.scratchFault k key false) = none ∧ ∃ (u : State), t.writeStats k = .ok u :=
  ⟨0, 0, 7, { task0 matmul0 with auxA := row 96 [(0x38, 8, 0x14000)], nextPosA := 9, nextPosB := 9, partials := [(0, 0, 0, row 48 [])] },
    withTask ({ task0 matmul0 with auxA := row 96 [(0x38, 8, 0x14000)], nextPosA := 9, nextPosB := 9, partials := [(0, 0, 0, row 48 [])] }),
    (withTask ({ task0 matmul0 with auxA := row 96 [(0x38, 8, 0x14000)], nextPosA := 9, nextPosB := 9, partials := [(0, 0, 0, row 48 [])] })).passList 0 0,
    rfl, by decide +kernel, by decide +kernel, by decide +kernel, by decide +kernel, by decide +kernel, ok_of (by decide +kernel)⟩

theorem witness_TasksComplete_2 :
    ∃ (bay : Fin 64) (ctx : Fin 8) (index : Fin 65536) (k : Task) (st : Nat × Nat) (s : State) (t : State),
      t = s.passList bay ctx ∧ t.task? bay ctx index = some k ∧ t.taskHeld k = false ∧ k.ending = some st :=
  ⟨0, 0, 7, { task0 matmul0 with nextPosA := 9, nextPosB := 9, shapesA := [(1, 1, 1)] }, (0, 0),
    withTask ({ task0 matmul0 with nextPosA := 9, nextPosB := 9, shapesA := [(1, 1, 1)] }),
    (withTask ({ task0 matmul0 with nextPosA := 9, nextPosB := 9, shapesA := [(1, 1, 1)] })).passList 0 0, rfl, by decide +kernel, by decide +kernel,
    by decide +kernel⟩

theorem witness_SpotChecksDecide_4 :
    ∃ (_k : Task) (c : Check) (_o : TileOut) (_agree : List Nat) (_bad : CoreId) (_s : State),
      c.decided = false :=
  ⟨task0 matmul0, { id := 5, bay := 0, ctx := 0, task := 7, tile := { slot := 0, iter := 0, x := 0, y := 0, pos := 0 }, results := [(0, 0, { bytes := [(0x13000, 0xFF, 7)], flags := 0, partials := [], prints := [9] }), (1, 416, { bytes := [(0x13000, 0xFF, 7)], flags := 0, partials := [], prints := [9] })], bays := [(0, 0), (1, 1)] },
    { bytes := [(0x13000, 0xFF, 7)], flags := 0, partials := [], prints := [9] }, [0], 0, up, by decide +kernel⟩

theorem witness_TasksComplete_3 :
    ∃ (bay : Fin 64) (ctx : Fin 8) (index : Fin 65536) (k : Task) (y : Task) (st : Nat × Nat) (l : TList) (s : State) (t : State) (u : State) (v : State),
      t = s.passList bay ctx ∧ t.task? bay ctx index = some k ∧ t.taskHeld k = false ∧ k.ending = some st ∧ y = { k with appends := [] } ∧
        t.unlock k (decide (st.1 ≤ 1)) = .ok u ∧ v = u.setTask y ∧ v.list? k.bay k.ctx = some l ∧ ∃ (w : State),
        v.tryWrite k.ctx (l.status + 16 * k.idx) (y.record st.1 (v.now k.half)) false false k.half .module = .ok w :=
  ⟨0, 0, 7, { task0 matmul0 with nextPosA := 9, nextPosB := 9, shapesA := [(1, 1, 1)] },
    { { task0 matmul0 with nextPosA := 9, nextPosB := 9, shapesA := [(1, 1, 1)] } with appends := [] }, (0, 0),
    list0 [{ task0 matmul0 with nextPosA := 9, nextPosB := 9, shapesA := [(1, 1, 1)] }],
    withTask ({ task0 matmul0 with nextPosA := 9, nextPosB := 9, shapesA := [(1, 1, 1)] }),
    (withTask ({ task0 matmul0 with nextPosA := 9, nextPosB := 9, shapesA := [(1, 1, 1)] })).passList 0 0,
    (withTask ({ task0 matmul0 with nextPosA := 9, nextPosB := 9, shapesA := [(1, 1, 1)] })).passList 0 0,
    ((withTask ({ task0 matmul0 with nextPosA := 9, nextPosB := 9, shapesA := [(1, 1, 1)] })).passList 0 0).setTask
    { { task0 matmul0 with nextPosA := 9, nextPosB := 9, shapesA := [(1, 1, 1)] } with appends := [] }, rfl, by decide +kernel, by decide +kernel,
    by decide +kernel, rfl, rfl, rfl, by decide +kernel, ok_of (by decide +kernel)⟩

end Sys2Proof.Tests
end

