-- ==== Sys2Proof/Tests/WitnessStreams.lean ====
section
/-! SUPPORT. States and operands that meet the hypotheses of the statements, clause by clause: streams. -/

namespace Sys2Proof.Tests

set_option Elab.async false

open Sys2Proof.Machine

theorem witness_StreamsByCommand_1 :
    ∃ (fn : Fin 9) (slot : Fin 4096) (c : Cmd) (h : List Byte) (i : Nat) (run : Nat × Nat) (s : State),
      s.starts fn slot 0x15 0 c ∧ c.par 9 1 ≤ 63 ∧ s.inMask c.ctx (c.par 9 1) = true ∧ c.par 0x10 8 % 64 = 0 ∧ refHigh (c.par 0x10 8) = 0 ∧
        s.tryRead c.ctx (c.par 0x10 8) 64 .module = .ok h ∧ hdrBad h = false ∧ s.freeSlot (c.par 9 1) = some i ∧
        s.streamRun c.ctx (c.par 9 1) (hdrDepth h * (hdrBufGran h + 1)) = some run ∧ s.queueTaken c.ctx (c.par 9 1) h = false :=
  ⟨0, 0, cmdOf (row 64 [(0x0, 1, 0x15), (0x10, 8, 0x10000)]), hdr0, 0, (0, 512), withCmd (row 64 [(0x0, 1, 0x15), (0x10, 8, 0x10000)]) (withPage hdr0 up),
    by decide +kernel⟩

theorem witness_StreamsByCommand_2 :
    ∃ (fn : Fin 9) (slot : Fin 4096) (c : Cmd) (h : List Byte) (s : State),
      s.starts fn slot 0x15 0 c ∧ c.par 9 1 ≤ 63 ∧ s.inMask c.ctx (c.par 9 1) = true ∧ c.par 0x10 8 % 64 = 0 ∧ refHigh (c.par 0x10 8) = 0 ∧
        s.tryRead c.ctx (c.par 0x10 8) 64 .module = .ok h ∧ hdrBad h = false ∧ s.freeSlot (c.par 9 1) = none :=
  ⟨0, 0, cmdOf (row 64 [(0x0, 1, 0x15), (0x10, 8, 0x10000)]), hdr0, withCmd (row 64 [(0x0, 1, 0x15), (0x10, 8,
    0x10000)]) ({ withPage hdr0 up with streams := (List.range 64).map fun i => { stream0 hdr0 with slot := i } }), by decide +kernel⟩

theorem witness_StreamsByCommand_3 :
    ∃ (fn : Fin 9) (slot : Fin 4096) (c : Cmd) (x : Stream) (s : State),
      s.starts fn slot 0x15 1 c ∧ c.par 9 1 ≤ 63 ∧ c.par 0xA 1 ≤ 63 ∧ s.stream? (c.par 9 1) (c.par 0xA 1) = some x ∧ x.ctx = c.ctx ∧
        hdrPersist x.hdr = true ∧ x.state = 0 ∧ x.due = false ∧ x.heldBases = none ∧ (∀ i, i < 4 → refHigh (c.par (0x18 + 8 * i) 8) = 0) :=
  ⟨0, 0, cmdOf (row 64 [(0x0, 1, 0x15), (0x8, 1, 0x1)]), { stream0 (row 64 [(1, 1, 1), (2, 1, 1), (3, 1, 1), (6, 1, 0xFF), (0x30, 8, 0x18000)]) with due := false },
    withCmd (row 64 [(0x0, 1, 0x15), (0x8, 1, 0x1)]) ({ up with streams := [{ stream0 (row 64 [(1, 1, 1), (2, 1, 1), (3, 1, 1), (6, 1, 0xFF), (0x30, 8, 0x18000)]) with due := false }] }),
    by decide +kernel⟩

theorem witness_StreamsByCommand_4 :
    ∃ (fn : Fin 9) (slot : Fin 4096) (c : Cmd) (x : Stream) (s : State),
      s.starts fn slot 0x15 1 c ∧ c.par 9 1 ≤ 63 ∧ c.par 0xA 1 ≤ 63 ∧ s.stream? (c.par 9 1) (c.par 0xA 1) = some x ∧ x.ctx = c.ctx ∧
        hdrPersist x.hdr = true ∧ (x.state = 3 ∨ x.state = 4 ∨ x.heldBases ≠ none) ∧ (∀ i, i < 4 → refHigh (c.par (0x18 + 8 * i) 8) = 0) :=
  ⟨0, 0, cmdOf (row 64 [(0x0, 1, 0x15), (0x8, 1, 0x1)]), { stream0 (row 64 [(1, 1, 1), (2, 1, 1), (3, 1, 1), (6, 1, 0xFF), (0x30, 8, 0x18000)]) with state := 1, heldBases := some [0, 0, 0, 0] },
    withCmd (row 64 [(0x0, 1, 0x15), (0x8, 1, 0x1)]) ({ up with streams := [{ stream0 (row 64 [(1, 1, 1), (2, 1, 1), (3, 1, 1), (6, 1, 0xFF), (0x30, 8, 0x18000)]) with state := 1, heldBases := some [0, 0, 0, 0] }] }),
    by decide +kernel⟩

theorem witness_StreamsByCommand_5 :
    ∃ (fn : Fin 9) (slot : Fin 4096) (c : Cmd) (x : Stream) (s : State),
      s.starts fn slot 0x15 2 c ∧ c.par 9 1 ≤ 63 ∧ c.par 0xA 1 ≤ 63 ∧ s.stream? (c.par 9 1) (c.par 0xA 1) = some x ∧ x.ctx = c.ctx ∧
        (x.state = 0 ∨ x.state = 3) :=
  ⟨0, 0, cmdOf (row 64 [(0x0, 1, 0x15), (0x8, 1, 0x2)]), stream0 hdr0, withCmd (row 64 [(0x0, 1, 0x15), (0x8, 1,
    0x2)]) ({ up with streams := [stream0 hdr0] }), by decide +kernel⟩

theorem witness_StreamsByCommand_5_faulted :
    ∃ (fn : Fin 9) (slot : Fin 4096) (c : Cmd) (x : Stream) (s : State),
      s.starts fn slot 0x15 2 c ∧ c.par 9 1 ≤ 63 ∧ c.par 0xA 1 ≤ 63 ∧ s.stream? (c.par 9 1) (c.par 0xA 1) = some x ∧ x.ctx = c.ctx ∧
        (x.state = 0 ∨ x.state = 3) :=
  ⟨0, 0, cmdOf (row 64 [(0x0, 1, 0x15), (0x8, 1, 0x2)]), { stream0 hdr0 with state := 3 }, withCmd (row 64 [(0x0, 1, 0x15), (0x8, 1,
    0x2)]) ({ up with streams := [{ stream0 hdr0 with state := 3 }] }), by decide +kernel⟩

theorem witness_StreamsByCommand_6 :
    ∃ (fn : Fin 9) (slot : Fin 4096) (c : Cmd) (x : Stream) (s : State),
      s.starts fn slot 0x15 3 c ∧ c.par 9 1 ≤ 63 ∧ c.par 0xA 1 ≤ 63 ∧ s.stream? (c.par 9 1) (c.par 0xA 1) = some x ∧ x.ctx = c.ctx ∧ x.state = 3 ∧
        x.cancelling = false :=
  ⟨0, 0, cmdOf (row 64 [(0x0, 1, 0x15), (0x8, 1, 0x3)]), { stream0 hdr0 with state := 3 }, withCmd (row 64 [(0x0, 1, 0x15), (0x8, 1,
    0x3)]) ({ up with streams := [{ stream0 hdr0 with state := 3 }] }), by decide +kernel⟩

theorem witness_StreamsByCommand_7 :
    ∃ (fn : Fin 9) (slot : Fin 4096) (c : Cmd) (x : Stream) (s : State),
      s.starts fn slot 0x15 4 c ∧ c.par 9 1 ≤ 63 ∧ c.par 0xA 1 ≤ 63 ∧ s.stream? (c.par 9 1) (c.par 0xA 1) = some x ∧ x.ctx = c.ctx ∧ x.state ≠ 4 ∧
        x.cancelling = false :=
  ⟨0, 0, cmdOf (row 64 [(0x0, 1, 0x15), (0x8, 1, 0x4)]), stream0 hdr0, withCmd (row 64 [(0x0, 1, 0x15), (0x8, 1,
    0x4)]) ({ up with streams := [stream0 hdr0] }), by decide +kernel⟩

end Sys2Proof.Tests
end

