-- ==== Sys2Proof/Tests/WitnessTables.lean ====
section
/-! SUPPORT. States and operands that meet the hypotheses of the statements, clause by clause: tables. -/

namespace Sys2Proof.Tests

set_option Elab.async false

open Sys2Proof.Machine

theorem witness_StashByCommand_1 :
    ∃ (fn : Fin 9) (slot : Fin 4096) (c : Cmd) (h : List Byte) (bs : List Byte) (s : State) (u : State) (v : State),
      s.starts fn slot 0x16 0 c ∧ c.par 0x10 8 % 64 = 0 ∧ refHigh (c.par 0x10 8) = 0 ∧ (s.ctx c.ctx).explicit = false ∧ (s.ctx c.ctx).stash = none ∧
        s.tryRead c.ctx (c.par 0x10 8) 64 .module = .ok h ∧ sdHeaderBad h = false ∧ u = s.countRange c.ctx (c.par 0x10 8) 64 .h0 ∧
        u.tryRead c.ctx (c.par 0x10 8 + 64) (64 * sdLayers h) .module = .ok bs ∧ v = u.countRange c.ctx (c.par 0x10 8 + 64) (64 * sdLayers h) .h0 ∧
        (layersOf h bs).any (leBad h) = false ∧ slotsClash (layersOf h bs) = false ∧ v.overlaps c.ctx (sdWindow h) (sdSpan h) = false ∧ (¬(sdPolicy h = 0 ∧
        sdScratch h = 0)) ∧ 2 * sdScratch h ≤ v.stashCap c.ctx .h0 ∧ 2 * sdScratch h ≤ v.stashCap c.ctx .h1 ∧ ∃ (t : State),
        v.clearLayers c.ctx (c.par 0x10 8) (layersOf h bs) v.kingHalf = .ok t :=
  ⟨0, 0, cmdOf (row 64 [(0x0, 1, 0x16), (0x10, 8, 0x10000)]), (row 64 [(0x0, 1, 0x1), (0x8, 8, 0x200000), (0x10, 8, 0x200000), (0x18, 8, 0x18000)]),
    (row 64 [(0x8, 4, 0x1), (0x10, 4, 0x40), (0x16, 2, 0x2), (0x20, 8, 0x17000), (0x28, 8, 0x16000)]), withCmd (row 64 [(0x0, 1, 0x16), (0x10, 8,
    0x10000)]) (withPage ((row 64 [(0x0, 1, 0x1), (0x8, 8, 0x200000), (0x10, 8, 0x200000), (0x18, 8, 0x18000)]) ++ (row 64 [(0x8, 4, 0x1), (0x10, 4, 0x40),
    (0x16, 2, 0x2), (0x20, 8, 0x17000), (0x28, 8, 0x16000)])) up), State.countRange (withCmd (row 64 [(0x0, 1, 0x16), (0x10, 8,
    0x10000)]) (withPage ((row 64 [(0x0, 1, 0x1), (0x8, 8, 0x200000), (0x10, 8, 0x200000), (0x18, 8, 0x18000)]) ++ (row 64 [(0x8, 4, 0x1), (0x10, 4, 0x40),
    (0x16, 2, 0x2), (0x20, 8, 0x17000), (0x28, 8, 0x16000)])) up)) 0 0x10000 64 .h0, State.countRange (State.countRange (withCmd (row 64 [(0x0, 1, 0x16),
    (0x10, 8, 0x10000)]) (withPage ((row 64 [(0x0, 1, 0x1), (0x8, 8, 0x200000), (0x10, 8, 0x200000), (0x18, 8, 0x18000)]) ++ (row 64 [(0x8, 4, 0x1), (0x10,
    4, 0x40), (0x16, 2, 0x2), (0x20, 8, 0x17000), (0x28, 8, 0x16000)])) up)) 0 0x10000 64 .h0) 0 0x10040 64 .h0, by decide +kernel, by decide +kernel,
    by decide +kernel, by decide +kernel, by decide +kernel, by decide +kernel, by decide +kernel, rfl, by decide +kernel, rfl, by decide +kernel,
    by decide +kernel, by decide +kernel, by decide +kernel, by decide +kernel, by decide +kernel, ok_of (by decide +kernel)⟩

theorem witness_StashByCommand_2 :
    ∃ (fn : Fin 9) (slot : Fin 4096) (c : Cmd) (st : Stash) (bs : List Byte) (s : State) (u : State),
      s.starts fn slot 0x16 1 c ∧ (s.ctx c.ctx).stash = some st ∧ s.stashHeld c.ctx = false ∧ st.releasing = false ∧
        s.tryRead c.ctx (st.desc + 64) (64 * sdLayers st.hdr) .module = .ok bs ∧ u = s.countRange c.ctx (st.desc + 64) (64 * sdLayers st.hdr) .h0 ∧
        ∃ (t : State), u.clearLayers c.ctx st.desc (layersOf st.hdr bs) u.kingHalf = .ok t :=
  ⟨0, 0, cmdOf (row 64 [(0x0, 1, 0x16), (0x8, 1, 0x1)]), { hdr := (row 64 [(0x0, 1, 0x1), (0x8, 8, 0x200000), (0x10, 8, 0x200000), (0x18, 8, 0x18000)]), desc := 0x10000, nextSet := 0, setOwner := [], copied := [], code := 0, jobs := [] },
    (row 64 [(0x8, 4, 0x1), (0x10, 4, 0x40), (0x16, 2, 0x2), (0x20, 8, 0x17000), (0x28, 8, 0x16000)]), withCmd (row 64 [(0x0, 1, 0x16), (0x8, 1,
    0x1)]) ((withPage ((row 64 [(0x0, 1, 0x1), (0x8, 8, 0x200000), (0x10, 8, 0x200000), (0x18, 8, 0x18000)]) ++ (row 64 [(0x8, 4, 0x1), (0x10, 4, 0x40),
    (0x16, 2, 0x2), (0x20, 8, 0x17000), (0x28, 8, 0x16000)])) up).modCtx 0 fun (c : Ctx) =>
    { c with stash := some { hdr := (row 64 [(0x0, 1, 0x1), (0x8, 8, 0x200000), (0x10, 8, 0x200000), (0x18, 8, 0x18000)]), desc := 0x10000, nextSet := 0, setOwner := [], copied := [], code := 0, jobs := [] } }),
    State.countRange (withCmd (row 64 [(0x0, 1, 0x16), (0x8, 1, 0x1)]) ((withPage ((row 64 [(0x0, 1, 0x1), (0x8, 8, 0x200000), (0x10, 8, 0x200000), (0x18,
    8, 0x18000)]) ++ (row 64 [(0x8, 4, 0x1), (0x10, 4, 0x40), (0x16, 2, 0x2), (0x20, 8, 0x17000), (0x28, 8,
    0x16000)])) up).modCtx 0 fun (c : Ctx) => { c with stash := some { hdr := (row 64 [(0x0, 1, 0x1), (0x8, 8, 0x200000), (0x10, 8, 0x200000), (0x18, 8, 0x18000)]), desc := 0x10000, nextSet := 0, setOwner := [], copied := [], code := 0, jobs := [] } })) 0 0x10040 64 .h0,
    by decide +kernel, by decide +kernel, by decide +kernel, by decide +kernel, by decide +kernel, rfl, ok_of (by decide +kernel)⟩

theorem witness_StashByCommand_3_written :
    ∃ (fn : Fin 9) (slot : Fin 4096) (c : Cmd) (st : Stash) (s : State) (u : State),
      s.starts fn slot 0x16 2 c ∧ (s.ctx c.ctx).stash = some st ∧ s.stashHeld c.ctx = false ∧ st.releasing = false ∧
        u = State.writeStash ((s.unmapWhere (st.owns c.ctx)).modCtx c.ctx fun x =>
        { x with stash := some { st with releasing := true, setOwner := [], jobs := [] } }) c.ctx ∧ u.stashHeld c.ctx = false :=
  ⟨0, 0, cmdOf (row 64 [(0x0, 1, 0x16), (0x8, 1, 0x2)]), { hdr := (row 64 [(0x0, 1, 0x1), (0x8, 8, 0x200000), (0x10, 8, 0x200000), (0x18, 8, 0x18000)]), desc := 0x10000, nextSet := 0, setOwner := [], copied := [], code := 0, jobs := [] },
    withCmd (row 64 [(0x0, 1, 0x16), (0x8, 1, 0x2)]) ((withPage ((row 64 [(0x0, 1, 0x1), (0x8, 8, 0x200000), (0x10, 8, 0x200000), (0x18, 8,
    0x18000)]) ++ (row 64 [(0x8, 4, 0x1), (0x10, 4, 0x40), (0x16, 2, 0x2), (0x20, 8, 0x17000), (0x28, 8,
    0x16000)])) up).modCtx 0 fun (c : Ctx) => { c with stash := some { hdr := (row 64 [(0x0, 1, 0x1), (0x8, 8, 0x200000), (0x10, 8, 0x200000), (0x18, 8, 0x18000)]), desc := 0x10000, nextSet := 0, setOwner := [], copied := [], code := 0, jobs := [] } }),
    State.writeStash (((withCmd (row 64 [(0x0, 1, 0x16), (0x8, 1, 0x2)]) ((withPage ((row 64 [(0x0, 1, 0x1), (0x8, 8, 0x200000), (0x10, 8, 0x200000), (0x18,
    8, 0x18000)]) ++ (row 64 [(0x8, 4, 0x1), (0x10, 4, 0x40), (0x16, 2, 0x2), (0x20, 8, 0x17000), (0x28, 8,
    0x16000)])) up).modCtx 0 fun (c : Ctx) => { c with stash := some { hdr := (row 64 [(0x0, 1, 0x1), (0x8, 8, 0x200000), (0x10, 8, 0x200000), (0x18, 8, 0x18000)]), desc := 0x10000, nextSet := 0, setOwner := [], copied := [], code := 0, jobs := [] } })).unmapWhere (Stash.owns { hdr := (row 64 [(0x0, 1, 0x1), (0x8, 8, 0x200000), (0x10, 8, 0x200000), (0x18, 8, 0x18000)]), desc := 0x10000, nextSet := 0, setOwner := [], copied := [], code := 0, jobs := [] } 0)).modCtx 0 fun (x : Ctx) => { x with stash := some { hdr := (row 64 [(0x0, 1, 0x1), (0x8, 8, 0x200000), (0x10, 8, 0x200000), (0x18, 8, 0x18000)]), desc := 0x10000, nextSet := 0, setOwner := [], copied := [], code := 0, jobs := [], releasing := true } }) 0,
    by decide +kernel, by decide +kernel, by decide +kernel, by decide +kernel, rfl, by decide +kernel⟩

theorem witness_StashByCommand_3_held :
    ∃ (fn : Fin 9) (slot : Fin 4096) (c : Cmd) (st : Stash) (s : State) (u : State),
      s.starts fn slot 0x16 2 c ∧ (s.ctx c.ctx).stash = some st ∧ s.stashHeld c.ctx = false ∧ st.releasing = false ∧
        u = State.writeStash ((s.unmapWhere (st.owns c.ctx)).modCtx c.ctx fun x =>
        { x with stash := some { st with releasing := true, setOwner := [], jobs := [] } }) c.ctx ∧ u.stashHeld c.ctx = true :=
  ⟨0, 0, cmdOf (row 64 [(0x0, 1, 0x16), (0x8, 1, 0x2)]), { hdr := (row 64 [(0x0, 1, 0x1), (0x8, 8, 0x200000), (0x10, 8, 0x200000), (0x18, 8, 0x18000)]), desc := 0x10000, nextSet := 0, setOwner := [], copied := [], code := 0, jobs := [] },
    withCmd (row 64 [(0x0, 1, 0x16), (0x8, 1, 0x2)]) ({ (withPage ((row 64 [(0x0, 1, 0x1), (0x8, 8, 0x200000), (0x10, 8, 0x200000), (0x18, 8, 0x18000)]) ++ (row 64 [(0x8, 4, 0x1), (0x10, 4, 0x40), (0x16, 2, 0x2), (0x20, 8, 0x17000), (0x28, 8, 0x16000)])) up).modCtx 0 fun (c : Ctx) => { c with stash := some { hdr := (row 64 [(0x0, 1, 0x1), (0x8, 8, 0x200000), (0x10, 8, 0x200000), (0x18, 8, 0x18000)]), desc := 0x10000, nextSet := 0, setOwner := [], copied := [], code := 0, jobs := [] } } with pages := [] }),
    State.writeStash (((withCmd (row 64 [(0x0, 1, 0x16), (0x8, 1, 0x2)])
    ({ (withPage ((row 64 [(0x0, 1, 0x1), (0x8, 8, 0x200000), (0x10, 8, 0x200000), (0x18, 8, 0x18000)]) ++ (row 64 [(0x8, 4, 0x1), (0x10, 4, 0x40), (0x16, 2, 0x2), (0x20, 8, 0x17000), (0x28, 8, 0x16000)])) up).modCtx 0 fun (c : Ctx) => { c with stash := some { hdr := (row 64 [(0x0, 1, 0x1), (0x8, 8, 0x200000), (0x10, 8, 0x200000), (0x18, 8, 0x18000)]), desc := 0x10000, nextSet := 0, setOwner := [], copied := [], code := 0, jobs := [] } } with pages := [] })).unmapWhere (Stash.owns { hdr := (row 64 [(0x0, 1, 0x1), (0x8, 8, 0x200000), (0x10, 8, 0x200000), (0x18, 8, 0x18000)]), desc := 0x10000, nextSet := 0, setOwner := [], copied := [], code := 0, jobs := [] } 0)).modCtx 0 fun (x : Ctx) => { x with stash := some { hdr := (row 64 [(0x0, 1, 0x1), (0x8, 8, 0x200000), (0x10, 8, 0x200000), (0x18, 8, 0x18000)]), desc := 0x10000, nextSet := 0, setOwner := [], copied := [], code := 0, jobs := [], releasing := true } }) 0,
    by decide +kernel, by decide +kernel, by decide +kernel, by decide +kernel, rfl, by decide +kernel⟩

theorem witness_StashByCommand_4 :
    ∃ (fn : Fin 9) (slot : Fin 4096) (c : Cmd) (s : State),
      s.starts fn slot 0x16 2 c ∧ (s.ctx c.ctx).stash = none :=
  ⟨0, 0, cmdOf (row 64 [(0x0, 1, 0x16), (0x8, 1, 0x2)]), withCmd (row 64 [(0x0, 1, 0x16), (0x8, 1, 0x2)]) (up), by decide +kernel⟩

theorem witness_SequenceAndLedger_1 :
    ∃ (fn : Fin 9) (slot : Fin 4096) (c : Cmd) (r : List Byte) (s : State),
      s.starts fn slot 0x1A 0 c ∧ (s.ctx c.ctx).seq.building = false ∧ refHigh (c.par 0x10 8) = 0 ∧ (s.ctx c.ctx).res.seq ≠ 0 ∧
        s.tryRead c.ctx (c.par 0x10 8) 64 .module = .ok r ∧ s.controlBad c.ctx r = false :=
  ⟨0, 0, cmdOf (row 64 [(0x0, 1, 0x1a), (0x10, 8, 0x10000)]), (row 64 [(0x0, 8, 0x18000), (0x8, 8, 0x100000), (0x10, 8, 0x19000), (0x19, 1, 0x3), (0x1a, 1,
    0x4), (0x1c, 2, 0xffff)]), withCmd (row 64 [(0x0, 1, 0x1a), (0x10, 8, 0x10000)]) (withPage (row 64 [(0x0, 8, 0x18000), (0x8, 8, 0x100000), (0x10, 8,
    0x19000), (0x19, 1, 0x3), (0x1a, 1, 0x4), (0x1c, 2, 0xffff)]) up), by decide +kernel⟩

theorem witness_SequenceAndLedger_2 :
    ∃ (fn : Fin 9) (slot : Fin 4096) (c : Cmd) (b : List Byte) (s : State),
      s.starts fn slot 0x1A 1 c ∧ (s.ctx c.ctx).seq.building = false ∧ refHigh (c.par 0x10 8) = 0 ∧ (s.ctx c.ctx).res.seq ≠ 0 ∧ s.seqBeyond c = false ∧
        c.seqCount = 1 ∧ b.length = 32 ∧ seqBad b = false ∧ s.tryRead c.ctx (c.par 0x10 8) 32 .module = .ok b :=
  ⟨0, 0, cmdOf (row 64 [(0x0, 1, 0x1a), (0x8, 1, 0x1), (0xa, 2, 0x3), (0x10, 8, 0x10000)]), (row 32 [(0x0, 1, 0x1), (0x4, 4, 0x9), (0xc, 4, 0x5)]),
    withCmd (row 64 [(0x0, 1, 0x1a), (0x8, 1, 0x1), (0xa, 2, 0x3), (0x10, 8, 0x10000)]) (withPage (row 32 [(0x0, 1, 0x1), (0x4, 4, 0x9), (0xc, 4,
    0x5)]) up), by decide +kernel⟩

theorem witness_SequenceAndLedger_3 :
    ∃ (fn : Fin 9) (slot : Fin 4096) (c : Cmd) (s : State),
      s.starts fn slot 0x1A 2 c ∧ (s.ctx c.ctx).seq.building = false ∧ refHigh (c.par 0x10 8) = 0 ∧ (s.ctx c.ctx).res.seq ≠ 0 ∧ s.seqBeyond c = false ∧
        ∃ (t : State), s.tryWrite c.ctx (c.par 0x10 8) ((List.range c.seqCount).map fun i => seqBytes (tget (s.ctx c.ctx).seq.entries (c.seqFirst + i)
        {})).flatten false false .h0 .module = .ok t :=
  ⟨0, 0, cmdOf (row 64 [(0x0, 1, 0x1a), (0x8, 1, 0x2), (0xc, 2, 0x3), (0x10, 8, 0x10000)]), withCmd (row 64 [(0x0, 1, 0x1a), (0x8, 1, 0x2), (0xc, 2, 0x3),
    (0x10, 8, 0x10000)]) (withPage [] up), by decide +kernel, by decide +kernel, by decide +kernel, by decide +kernel, by decide +kernel,
    ok_of (by decide +kernel)⟩

theorem witness_SequenceAndLedger_4 :
    ∃ (fn : Fin 9) (slot : Fin 4096) (c : Cmd) (s : State),
      s.starts fn slot 0x1A 1 c ∧ (s.ctx c.ctx).seq.building = false ∧ refHigh (c.par 0x10 8) = 0 ∧ (s.ctx c.ctx).res.seq ≠ 0 ∧ s.seqBeyond c = true :=
  ⟨0, 0, cmdOf (row 64 [(0x0, 1, 0x1a), (0x8, 1, 0x1), (0xa, 2, 0x4), (0x10, 8, 0x10000)]), withCmd (row 64 [(0x0, 1, 0x1a), (0x8, 1, 0x1), (0xa, 2, 0x4),
    (0x10, 8, 0x10000)]) (up), by decide +kernel⟩

theorem witness_SequenceAndLedger_5 :
    ∃ (ctx : Fin 8) (r : List Byte) (s : State),
      (s.ctx ctx).seq.control = some r ∧ (s.ctx ctx).seq.building = false ∧ s.editing ctx = false ∧
        s.mayTake ctx (scBay r) (scBuildSem r) 1 (s.ctx ctx).seq.waitSeq = true :=
  ⟨0, (row 64 [(0x0, 8, 0x18000), (0x8, 8, 0x100000), (0x10, 8, 0x19000), (0x19, 1, 0x3), (0x1a, 1, 0x4), (0x1c, 2, 0xffff)]),
    (up).modCtx 0 fun (c : Ctx) => { c with seq := { control := some (row 64 [(0x0, 8, 0x18000), (0x8, 8, 0x100000), (0x10, 8, 0x19000), (0x19, 1, 0x3), (0x1a, 1, 0x4), (0x1c, 2, 0xffff)]) }, sems := [(3, 1)] },
    by decide +kernel⟩

theorem witness_SequenceAndLedger_6 :
    ∃ (ctx : Fin 8) (r : List Byte) (s : State),
      (s.ctx ctx).seq.control = some r ∧ (s.ctx ctx).seq.building = true ∧ scReadySem r ≠ 0xFF ∧ scReadyPeg r = 0xFFFF ∧
        ∃ (t : State) (es : Table SeqEntry), s.buildAll ctx r (((s.ctx ctx).seq.build + 1) % 2 ^ 32) = .ok (t, es, 0) :=
  ⟨0, (row 64 [(0x0, 8, 0x18000), (0x8, 8, 0x100000), (0x10, 8, 0x19000), (0x19, 1, 0x3), (0x1a, 1, 0x4), (0x1c, 2, 0xffff)]),
    (withPage [] up).modCtx 0 fun (c : Ctx) => { c with seq := { control := some (row 64 [(0x0, 8, 0x18000), (0x8, 8, 0x100000), (0x10, 8, 0x19000), (0x19, 1, 0x3), (0x1a, 1, 0x4), (0x1c, 2, 0xffff)]), building := true } },
    by decide +kernel, by decide +kernel, by decide +kernel, by decide +kernel, build_of (by decide +kernel)⟩

theorem witness_SequenceAndLedger_7_limit :
    ∃ (_ctx : Nat) (_r : List Byte) (e : SeqEntry) (_s : State),
      e.state = 1 ∧ e.stopRef = 0 ∧ e.stepLimit ≠ 0 ∧ e.stepsDone = e.stepLimit :=
  ⟨0, (row 64 [(0x0, 8, 0x18000), (0x8, 8, 0x100000), (0x10, 8, 0x19000), (0x19, 1, 0x3), (0x1a, 1, 0x4), (0x1c, 2, 0xffff)]),
    { state := 1, stepLimit := 3, stepsDone := 3 }, up, by decide +kernel⟩

theorem witness_SequenceAndLedger_7_stop :
    ∃ (ctx : Nat) (_r : List Byte) (e : SeqEntry) (s : State) (b : List Byte),
      e.state = 1 ∧ e.stopRef ≠ 0 ∧ s.tryRead ctx (refAddr e.stopRef) 4 .module = .ok b ∧ leNat b ≠ 0 :=
  ⟨0, (row 64 [(0x0, 8, 0x18000), (0x8, 8, 0x100000), (0x10, 8, 0x19000), (0x19, 1, 0x3), (0x1a, 1, 0x4), (0x1c, 2, 0xffff)]),
    { state := 1, stopRef := 0x10000 }, withPage [1, 0, 0, 0] up, [1, 0, 0, 0], by decide +kernel⟩

theorem witness_SequenceAndLedger_7_runs :
    ∃ (_ctx : Nat) (_r : List Byte) (e : SeqEntry) (_s : State),
      e.state = 1 ∧ e.stopRef = 0 ∧ e.stepLimit = 0 :=
  ⟨0, (row 64 [(0x0, 8, 0x18000), (0x8, 8, 0x100000), (0x10, 8, 0x19000), (0x19, 1, 0x3), (0x1a, 1, 0x4), (0x1c, 2, 0xffff)]), { state := 1 }, up,
    by decide +kernel⟩

theorem witness_SequenceAndLedger_8 :
    ∃ (fn : Fin 9) (slot : Fin 4096) (c : Cmd) (b : List Byte) (s : State) (u : State),
      s.starts fn slot 0x1B 0 c ∧ c.par 0x10 8 % 64 = 0 ∧ refHigh (c.par 0x10 8) = 0 ∧ c.par 0x18 8 % 64 = 0 ∧ refHigh (c.par 0x18 8) = 0 ∧
        c.par 0x20 4 ≠ 0 ∧ c.par 0x20 4 ≤ 1048576 ∧ s.tryRead c.ctx (c.par 0x10 8) 64 .module = .ok b ∧ (anchorOf (c.par 0x10 8) b).legal = true ∧
        (anchorOf (c.par 0x10 8) b).busy = false ∧ u = s.countRange c.ctx (c.par 0x10 8) 64 .h0 ∧ ∃ (t : State),
        u.swapWrites c (c.par 0x10 8) (anchorOf (c.par 0x10 8) b) = .ok t :=
  ⟨0, 0, cmdOf (row 64 [(0x0, 1, 0x1b), (0x10, 8, 0x10000), (0x18, 8, 0x13000), (0x20, 4, 0x100000)]), (row 64 [(0x0, 8, 0x12000), (0x8, 4, 0x0), (0xe, 2,
    0x0), (0x10, 4, 0x10), (0x14, 1, 0x1), (0x16, 2, 0x1f), (0x18, 2, 0x200)]), withCmd (row 64 [(0x0, 1, 0x1b), (0x10, 8, 0x10000), (0x18, 8, 0x13000),
    (0x20, 4, 0x100000)]) (withPage (row 64 [(0x0, 8, 0x12000), (0x8, 4, 0x0), (0xe, 2, 0x0), (0x10, 4, 0x10), (0x14, 1, 0x1), (0x16, 2, 0x1f), (0x18, 2,
    0x200)]) up), State.countRange (withCmd (row 64 [(0x0, 1, 0x1b), (0x10, 8, 0x10000), (0x18, 8, 0x13000), (0x20, 4, 0x100000)]) (withPage (row 64 [(0x0,
    8, 0x12000), (0x8, 4, 0x0), (0xe, 2, 0x0), (0x10, 4, 0x10), (0x14, 1, 0x1), (0x16, 2, 0x1f), (0x18, 2, 0x200)]) up)) 0 0x10000 64 .h0,
    by decide +kernel, by decide +kernel, by decide +kernel, by decide +kernel, by decide +kernel, by decide +kernel, by decide +kernel, by decide +kernel,
    by decide +kernel, by decide +kernel, rfl, ok_of (by decide +kernel)⟩

theorem witness_SequenceAndLedger_9 :
    ∃ (fn : Fin 9) (slot : Fin 4096) (c : Cmd) (b : List Byte) (s : State),
      s.starts fn slot 0x1B 0 c ∧ c.par 0x10 8 % 64 = 0 ∧ refHigh (c.par 0x10 8) = 0 ∧ c.par 0x18 8 % 64 = 0 ∧ refHigh (c.par 0x18 8) = 0 ∧
        c.par 0x20 4 ≠ 0 ∧ c.par 0x20 4 ≤ 1048576 ∧ s.tryRead c.ctx (c.par 0x10 8) 64 .module = .ok b ∧ (anchorOf (c.par 0x10 8) b).legal = true ∧
        (anchorOf (c.par 0x10 8) b).busy = true :=
  ⟨0, 0, cmdOf (row 64 [(0x0, 1, 0x1b), (0x10, 8, 0x10000), (0x18, 8, 0x13000), (0x20, 4, 0x100000)]), (row 64 [(0x0, 8, 0x12000), (0x8, 4, 0x0), (0xe, 2,
    0x1), (0x10, 4, 0x10), (0x14, 1, 0x1), (0x16, 2, 0x1f), (0x18, 2, 0x200)]), withCmd (row 64 [(0x0, 1, 0x1b), (0x10, 8, 0x10000), (0x18, 8, 0x13000),
    (0x20, 4, 0x100000)]) (withPage (row 64 [(0x0, 8, 0x12000), (0x8, 4, 0x0), (0xe, 2, 0x1), (0x10, 4, 0x10), (0x14, 1, 0x1), (0x16, 2, 0x1f), (0x18, 2,
    0x200)]) up), by decide +kernel⟩

end Sys2Proof.Tests
end

/-! PROOF. Coordinates and route builds (O55): control packets of this chip's own change only the ports; what a write of a coordinate register does, case by case; how a route build starts and ends; the packing of a coordinate (R16, R19, R24, R322, R326). -/

namespace Sys2Proof.Machine

-- Control packets of this chip's own (R303, R322)

/-- A state with another table of ports: all that queueing a packet can change. -/
def State.withPorts (s : State) (ps : Table Port) : State := { s with links := { s.links with ports := ps } }

/-- Operations that change only the ports, done for each of a list, change only the ports. -/
theorem forAll_ports {α : Type} {f : α → State → State} (hf : ∀ a s, ∃ ps, f a s = s.withPorts ps) (l : List α) (s : State) :
    ∃ ps, forAll l f s = s.withPorts ps := by
  induction l generalizing s with
  | nil => exact ⟨s.links.ports, rfl⟩
  | cons a r ih =>
    obtain ⟨p, hp⟩ := hf a s
    obtain ⟨q, hq⟩ := ih (f a s)
    exact ⟨q, by rw [show forAll (a :: r) f s = forAll r f (f a s) from rfl, hq, hp]; rfl⟩

theorem State.enqueue_ports (s : State) (n : Nat) (p : Packet) : ∃ ps, s.enqueue n p = s.withPorts ps := ⟨_, rfl⟩

theorem State.ite_ports {c : Prop} [Decidable c] {s a b : State} (ha : ∃ ps, a = s.withPorts ps) (hb : ∃ ps, b = s.withPorts ps) :
    ∃ ps, (if c then a else b) = s.withPorts ps := by
  split
  · exact ha
  · exact hb

theorem State.sendFirm_ports (s : State) (vc dctx : Nat) (dest : BitVec 48) (ptag : BitVec 32) (kind : Nat) (args : List Nat) :
    ∃ ps, s.sendFirm vc dctx dest ptag kind args = s.withPorts ps := by
  unfold State.sendFirm
  split
  · exact ⟨s.links.ports, rfl⟩
  · exact State.ite_ports (s.enqueue_ports _ _) (State.ite_ports (s.enqueue_ports _ _) ⟨s.links.ports, rfl⟩)

theorem State.sayIdentity_ports (s : State) (n : Nat) : ∃ ps, s.sayIdentity n = s.withPorts ps := by
  unfold State.sayIdentity
  exact State.ite_ports ⟨s.links.ports, rfl⟩ (s.enqueue_ports _ _)

-- The start of a route build (R322)

/-- The start of a build sets BUSY and queues requests; nothing else changes. -/
theorem State.startRoute_ports (s : State) : ∃ ps, s.startRoute = (s.modLinks fun l => { l with busy := true }).withPorts ps :=
  forAll_ports (fun _ t => t.sendFirm_ports ..) _ _

theorem State.recompute0_start {s : State} {v : Nat} (on : s.reaches 0 = true) (hv : bit v 0 = true) (idle : s.anyAdmitted = false) :
    s.recompute0 v = s.startRoute := by
  simp [State.recompute0, on, hv, idle]

/-- The first VALID stores the coordinate and starts the first build. -/
theorem State.setCoord_firstValid {s : State} {v : Nat} (hv : bit v 63 = true) (invalid : s.aon.coordValid = false) (first : s.links.wasValid = false) :
    ∃ ps, s.setCoord false v = (({ s with
      aon := { s.aon with coord := BitVec.ofNat 48 v, coordValid := true }
      links := { s.links with wasValid := true, busy := true } } : State).withPorts ps) := by
  obtain ⟨ps, told⟩ := forAll_ports (fun n t => State.sayIdentity_ports t n) ((List.range 8).filter fun n => (s.port n).step == 5)
    (s.modAon fun a => { a with coord := BitVec.ofNat 48 v, coordValid := true })
  obtain ⟨qs, started⟩ := State.startRoute_ports
    (((s.modAon fun a => { a with coord := BitVec.ofNat 48 v, coordValid := true }).withPorts ps).modLinks fun l => { l with wasValid := true })
  refine ⟨qs, ?_⟩
  simp only [State.setCoord, hv, invalid, first, told, Bool.false_eq_true, if_false, Bool.not_true, Bool.or_self]
  exact started

-- Writes of the coordinate registers over PF0 BAR0 (R16, R19, R326)

theorem State.coordWrite_admitted {s : State} (r : Nat) (v : Word) (on : s.reaches 0 = true) (busy : s.anyAdmitted = true) :
    s.coordWrite .bar0 r v = s.accessErr 0 := by
  simp [State.coordWrite, on, busy, State.discarded]

theorem State.coordWrite_high {s : State} {r : Nat} (v : Word) (hr : r % 2 = 1) (on : s.reaches 0 = true) (idle : s.anyAdmitted = false) :
    s.coordWrite .bar0 r v = s.holdHi .bar0 (2 ^ 32 + r / 2) v := by
  simp [State.coordWrite, on, idle, hr]

theorem State.coordWrite_coord {s : State} (v : Word) (on : s.reaches 0 = true) (idle : s.anyAdmitted = false) :
    s.coordWrite .bar0 0 v
      = (s.setCoord false (v.toNat + 2 ^ 32 * s.heldHi .bar0 (2 ^ 32) (s.aon.coordPair / 2 ^ 32))).dropHi .bar0 (2 ^ 32) := by
  simp [State.coordWrite, on, idle]

theorem State.coordWrite_axisLen {s : State} (v : Word) (on : s.reaches 0 = true) (idle : s.anyAdmitted = false) :
    s.coordWrite .bar0 2 v
      = (s.setCoord true (v.toNat + 2 ^ 32 * s.heldHi .bar0 (2 ^ 32 + 1) (s.aon.axisLen.toNat / 2 ^ 32))).dropHi .bar0 (2 ^ 32 + 1) := by
  simp [State.coordWrite, on, idle]

/-- The held half is the one that takes effect. -/
@[simp] theorem State.heldHi_holdHi (s : State) (key : Nat) (v : Word) (own : Nat) : (s.holdHi .bar0 key v).heldHi .bar0 key own = v.toNat := by
  simp [State.heldHi, State.holdHi]

@[simp] theorem State.reaches_holdHi (s : State) (key : Nat) (v : Word) : (s.holdHi .bar0 key v).reaches 0 = s.reaches 0 := by
  simp [State.reaches, State.present, State.holdHi]

@[simp] theorem State.anyAdmitted_holdHi (s : State) (key : Nat) (v : Word) : (s.holdHi .bar0 key v).anyAdmitted = s.anyAdmitted := rfl

/-- The high half written before the low one: both halves of LNK_AXIS_LEN take the value. -/
theorem State.coordWrite_axisLen_held {s : State} (v : Word) (on : s.reaches 0 = true) (idle : s.anyAdmitted = false) :
    (s.holdHi .bar0 (2 ^ 32 + 1) v).coordWrite .bar0 2 v
      = ((s.holdHi .bar0 (2 ^ 32 + 1) v).setCoord true (v.toNat + 2 ^ 32 * v.toNat)).dropHi .bar0 (2 ^ 32 + 1) := by
  rw [State.coordWrite_axisLen v (by simpa using on) (by simpa using idle), State.heldHi_holdHi]

-- The end of a route build (R322, R324)

/-- The mask of the ports below 8 that a test keeps has a bit set only where the test holds. -/
theorem portMask_getLsbD {f : Nat → Bool} (l : List Nat) (m : BitVec 8) {n : Nat} (hn : n < 8)
    (h : (l.foldl (fun m k => if f k then m ||| BitVec.ofNat 8 (2 ^ k) else m) m).getLsbD n = true) : m.getLsbD n = true ∨ f n = true := by
  induction l generalizing m with
  | nil => exact .inl h
  | cons k r ih =>
    rcases ih _ h with hm | hf
    · dsimp only at hm
      split at hm
      next hk =>
        rw [BitVec.getLsbD_or, BitVec.getLsbD_ofNat, Nat.testBit_two_pow, Bool.or_eq_true] at hm
        refine hm.imp_right fun hb => ?_
        obtain rfl : k = n := by simpa [hn] using hb
        exact hk
      next => exact .inl hm
    · exact .inr hf

/-- A build that ends counts ROUTE_GEN, clears BUSY and puts ports that are up in the table and the plan. -/
theorem State.routeBuilt_ends {s : State} (breaks : List (Fin 4 × Nat)) (building : s.links.busy = true) (run : s.managing = true)
    (idle : s.anyAdmitted = false) :
    ∃ all tab, s.routeBuilt breaks = { s with
        links := { s.links with busy := false, routeGen := satAdd max16 s.links.routeGen 1, breaks := all, inTable := tab }
        plan := { s.plan with portUp := tab } }
      ∧ ∀ n, n < 8 → tab.getLsbD n = true → (s.port n).up = true := by
  simp only [State.routeBuilt, building, run, idle, Bool.not_true, Bool.or_self, Bool.false_eq_true, if_false]
  refine ⟨_, _, rfl, fun n hn h => ?_⟩
  rcases portMask_getLsbD _ _ hn h with h0 | hup
  · simp at h0
  · exact (Bool.and_eq_true_iff.1 hup).1

-- The packing of a coordinate (R24)

theorem coordAt_lt (c : BitVec 48) (axis : Nat) : coordAt c axis < 4096 := Nat.mod_lt _ (by decide)

theorem coordAt_fields (c : BitVec 48) :
    coordAt c 0 = bits c.toNat 11 0 ∧ coordAt c 1 = bits c.toNat 23 12 ∧ coordAt c 2 = bits c.toNat 35 24 ∧ coordAt c 3 = bits c.toNat 47 36 :=
  ⟨rfl, rfl, rfl, rfl⟩

/-- The four fields are the whole of a packed coordinate. -/
theorem coordAt_sum (c : BitVec 48) :
    c.toNat = coordAt c 0 + 2 ^ 12 * coordAt c 1 + 2 ^ 24 * coordAt c 2 + 2 ^ 36 * coordAt c 3 := by
  have lt := c.isLt
  simp only [coordAt]
  omega

-- The statement

/-- Settles O55: the cases of a coordinate write, the start and the end of a route build, and the packing of R24. -/
theorem coordinatesAndRoutes : Obligations.CoordinatesAndRoutes := by
  refine ⟨fun v s on busy => ?discarded, fun v s on idle => ?held, fun v s on hv idle => ?recompute, fun v s on idle invalid first hv => ?firstValid,
    fun s building run idle => ?built, fun c => ?packed⟩
  case discarded => exact congrArg Host.Outcome.next (State.coordWrite_admitted 0 v on busy)
  case held =>
    exact ⟨s.holdHi .bar0 (2 ^ 32 + 1) v, congrArg Host.Outcome.next (State.coordWrite_high v rfl on idle), rfl, _,
      congrArg Host.Outcome.next (State.coordWrite_axisLen_held v on idle), rfl, rfl, sameBytes_of_eq rfl rfl⟩
  case recompute =>
    obtain ⟨ps, hs⟩ := s.startRoute_ports
    have hb : bit v.toNat 0 = true := by simpa [bit, BitVec.getLsbD, Nat.testBit_zero] using hv
    refine ⟨s.startRoute, congrArg Host.Outcome.next (State.recompute0_start on hb idle), rfl, ?_⟩
    rw [hs]
    exact ⟨rfl, rfl, rfl, rfl, sameBytes_of_eq rfl rfl⟩
  case firstValid =>
    obtain ⟨ps, hs⟩ := State.setCoord_firstValid hv invalid first
    refine ⟨_, congrArg Host.Outcome.next (State.coordWrite_coord v on idle), ?_⟩
    rw [hs]
    exact ⟨rfl, rfl, rfl, rfl, sameBytes_of_eq rfl rfl⟩
  case built =>
    obtain ⟨all, tab, ht, hup⟩ := State.routeBuilt_ends [] building run idle
    exact ⟨_, congrArg Host.Outcome.next ht, rfl, rfl, rfl, hup, rfl, sameBytes_of_eq rfl rfl⟩
  case packed =>
    obtain ⟨hw, hx, hy, hz⟩ := coordAt_fields c
    exact ⟨hw, hx, hy, hz, coordAt_lt c, coordAt_sum c⟩

end Sys2Proof.Machine

/-! PROOF. Frames and their replay (O53): what work on one port leaves unchanged; the bytes of a frame's header; how a replay and a retrain start; what a frame period sends; what ACK, NAK and a bad frame do (R304, R309 to R312, R366). -/

namespace Sys2Proof.Machine

-- One port at a time

@[simp] theorem State.port_modPort (s : State) (n : Nat) (f : Port → Port) : (s.modPort n f).port n = f (s.port n) := s.port_setPort n _

@[simp] theorem State.port_nearMissDev (s : State) (n : Nat) : s.nearMissDev.port n = s.port n := rfl

/-- The second state differs from the first in port n alone. -/
def State.OnlyPort (n : Nat) (s t : State) : Prop := ∃ ps, t = s.withPorts ps ∧ ∀ m, m ≠ n → t.port m = s.port m

theorem State.OnlyPort.refl (n : Nat) (s : State) : s.OnlyPort n s := ⟨s.links.ports, rfl, fun _ _ => rfl⟩

theorem State.OnlyPort.trans {n : Nat} {s t u : State} (st : s.OnlyPort n t) (tu : t.OnlyPort n u) : s.OnlyPort n u := by
  obtain ⟨ps, rfl, hs⟩ := st
  obtain ⟨qs, rfl, ht⟩ := tu
  exact ⟨qs, rfl, fun m hm => (ht m hm).trans (hs m hm)⟩

theorem State.modPort_onlyPort (s : State) (n : Nat) (f : Port → Port) : s.OnlyPort n (s.modPort n f) :=
  ⟨_, rfl, fun _ hm => s.port_setPort_ne _ hm⟩

-- The header of a frame (R306)

@[simp] theorem length_toLE (n v : Nat) : (toLE n v).length = n := by
  induction n generalizing v with
  | zero => rfl
  | succ n ih => simp [toLE, ih]

theorem leNat_toLE (n v : Nat) : leNat (toLE n v) = v % 256 ^ n := by
  induction n generalizing v with
  | zero => simp [toLE, leNat, Nat.mod_one]
  | succ n ih => simp [toLE, leNat, ih, Nat.pow_succ', Nat.mod_mul]

/-- A field that begins a structure. -/
theorem fld_toLE (n v : Nat) (r : List Byte) : fld (toLE n v ++ r) 0 n = v % 256 ^ n := by
  rw [fld, List.drop_zero, List.take_left' (length_toLE n v), leNat_toLE]

/-- A field behind another one. -/
theorem fld_append (a r : List Byte) (off n : Nat) : fld (a ++ r) (a.length + off) n = fld r off n := by
  rw [fld, List.drop_length_add_append, fld]

theorem fld_frameBytes_fseq (fseq ack ctl credits : Nat) (hs : List (List Byte)) (pl : List Byte) (fill : Nat → Byte) :
    fld (frameBytes fseq ack ctl credits hs pl fill) 0 3 = fseq % 2 ^ 24 := by
  simp only [frameBytes, List.append_assoc]
  exact fld_toLE 3 fseq _

theorem fld_frameBytes_ctl (fseq ack ctl credits : Nat) (hs : List (List Byte)) (pl : List Byte) (fill : Nat → Byte) :
    fld (frameBytes fseq ack ctl credits hs pl fill) 6 1 = ctl % 256 := by
  simp only [frameBytes, List.append_assoc]
  calc fld (toLE 3 fseq ++ (toLE 3 ack ++ (toLE 1 ctl ++ _))) 6 1
      = fld (toLE 3 ack ++ (toLE 1 ctl ++ _)) 3 1 := by simpa using fld_append (toLE 3 fseq) _ 3 1
    _ = fld (toLE 1 ctl ++ _) 0 1 := by simpa using fld_append (toLE 3 ack) _ 0 1
    _ = ctl % 256 := by simpa using fld_toLE 1 ctl _

/-- IDLE stands in bit 3 of the control byte, beside NAK. -/
theorem bit_idle (nak : Bool) : bit ((8 + 16 * b2n nak) % 256) 3 = true := by cases nak <;> rfl

-- Retrain and replay (R304, R310, R311)

/-- A port in service that does not retrain begins to, and the retrain is counted. -/
theorem State.retrain_begins {s : State} {n : Nat} (up : (s.port n).up = true) (steady : (s.port n).retraining = false) :
    s.retrain n = s.modPort n fun p => { p with retraining := true, retrains := satAdd max16 p.retrains 1 } := by
  simp [State.retrain, up, steady]

/-- The start of a retrain keeps the frames to replay and the place of the replay. -/
theorem State.retrain_keepsReplay (s : State) (n : Nat) :
    ((s.retrain n).port n).replayBuf = (s.port n).replayBuf ∧ ((s.retrain n).port n).resend = (s.port n).resend := by
  unfold State.retrain
  split <;> simp

/-- Below REPLAY_LIMIT a replay starts at the oldest frame, and no retrain does. -/
theorem State.replay_belowLimit {s : State} {n : Nat} (unacked : (s.port n).replayBuf ≠ []) (below : (s.port n).replayRun + 1 < s.aon.replayLimit) :
    s.replay n = s.setPort n { s.port n with
      resend := some 0, replays := satAdd max16 (s.port n).replays 1, replayRun := (s.port n).replayRun + 1, ackTick := s.now (portHalf n) } := by
  simp [State.replay, unacked, below]

/-- A replay resends from the oldest unacknowledged frame, whether or not a retrain comes first. -/
theorem State.replay_resends {s : State} {n : Nat} (unacked : (s.port n).replayBuf ≠ []) :
    ((s.replay n).port n).resend = some 0 ∧ ((s.replay n).port n).replayBuf = (s.port n).replayBuf := by
  simp only [State.replay, List.isEmpty_iff, unacked, if_false]
  split
  · obtain ⟨hbuf, hresend⟩ := State.retrain_keepsReplay (s.setPort n { s.port n with
      resend := some 0, replays := satAdd max16 (s.port n).replays 1, replayRun := (s.port n).replayRun + 1, ackTick := s.now (portHalf n) }) n
    simp [hbuf, hresend]
  · simp

theorem State.replay_replayBuf (s : State) (n : Nat) : ((s.replay n).port n).replayBuf = (s.port n).replayBuf := by
  by_cases acked : (s.port n).replayBuf = []
  · simp [State.replay, acked]
  · exact (State.replay_resends acked).2

/-- ACK silent for more than REPLAY_TIMEOUT ticks while frames are unacknowledged. -/
theorem State.replayLate_silent {s : State} {n : Nat} (run : (s.port n).frames = true) (unacked : (s.port n).replayBuf ≠ [])
    (silent : (s.port n).ackTick + s.aon.replayTimeout < s.now (portHalf n)) : s.replayLate n = s.replay n := by
  simp [State.replayLate, run, unacked, expired, silent]

theorem State.replayLate_replayBuf (s : State) (n : Nat) : ((s.replayLate n).port n).replayBuf = (s.port n).replayBuf := by
  simp only [State.replayLate]
  split
  · rfl
  · exact s.replay_replayBuf n

-- ACK and NAK (R306, R310)

/-- An ACK of the k-th unacknowledged frame takes the first k from the replay buffer. -/
theorem State.ackFrames_replayBuf {s : State} {n ack : Nat} {f : Frame} {rest : List Frame} (buf : (s.port n).replayBuf = f :: rest)
    (sent : (ack + 2 ^ 24 - f.fseq) % 2 ^ 24 + 1 ≤ rest.length + 1) :
    ((s.ackFrames n ack).port n).replayBuf = (s.port n).replayBuf.drop ((ack + 2 ^ 24 - f.fseq) % 2 ^ 24 + 1) := by
  rw [← s.replayLate_replayBuf n]
  simp only [State.ackFrames, buf, Nat.not_lt.2 sent, if_false]
  split <;> simp

/-- A frame with NAK: its ACK and credits count first, then the replay starts. -/
theorem State.frameState_nak {s : State} {n : Nat} {bs : List Byte} (nak : bit (fld bs 6 1) 4 = true) :
    s.frameState n bs = ((s.ackFrames n (fld bs 3 3)).addCredits n (fld bs 7 7)).replay n := by
  simp [State.frameState, nak]

-- The frame of a frame period (R310, R312)

/-- 64 unacknowledged frames hold new ones back. -/
theorem Port.nextFrame_held {p : Port} (noReplay : p.resend = none) (full : 64 ≤ p.replayBuf.length) : p.nextFrame = (none, p) := by
  simp [Port.nextFrame, noReplay, full]

/-- A replay sends the frame it has come to and moves on by one. -/
theorem Port.nextFrame_resend {p : Port} {k : Nat} {f : Frame} (place : p.resend = some k) (there : p.replayBuf[k]? = some f) :
    p.nextFrame = (some f, { p with resend := if k + 1 < p.replayBuf.length then some (k + 1) else none }) := by
  simp [Port.nextFrame, place, there]

/-- With no frame to send, an IDLE frame goes out; only NAK, the credit returns, the frame sent and the wait for ACK change. -/
theorem State.framePeriod_idle {s : State} {n : Nat} {q : Port} (run : (s.port n).frames = true) (next : (s.port n).nextFrame = (none, q)) :
    ∃ returns fseq ack credits fill tick, (s.framePeriod n).port n = { q with
      nak := false, rxReturn := returns, lastFrame := frameBytes fseq ack (8 + 16 * b2n q.nak) credits [] [] fill, ackTick := tick } := by
  simp only [State.framePeriod, run, next, Bool.not_true, Bool.false_eq_true, if_false, State.port_setPort]
  exact ⟨_, _, _, _, _, _, rfl⟩

/-- A sequenced frame goes out under its own number. -/
theorem State.framePeriod_sequenced {s : State} {n : Nat} {f : Frame} {q : Port} (run : (s.port n).frames = true)
    (next : (s.port n).nextFrame = (some f, q)) :
    ∃ returns ack ctl credits fill tick, (s.framePeriod n).port n = { q with
      nak := false, rxReturn := returns, lastFrame := frameBytes f.fseq ack ctl credits f.headers f.payload fill, ackTick := tick } := by
  simp only [State.framePeriod, run, next, Bool.not_true, Bool.false_eq_true, if_false, State.port_setPort]
  exact ⟨_, _, _, _, _, _, rfl⟩

-- A frame that is not good (R304, R309)

/-- The lane-error counts stand within their window and are cleared with a new one. -/
theorem State.rollLane_cases (s : State) (n : Nat) :
    s.rollLane n = s ∨ ∃ since, s.rollLane n = s.modPort n fun p => { p with laneUe := [], laneUeEnded := since } := by
  simp only [State.rollLane]
  split
  · exact .inl rfl
  · exact .inr ⟨_, rfl⟩

theorem State.rollLane_onlyPort (s : State) (n : Nat) : s.OnlyPort n (s.rollLane n) := by
  obtain h | ⟨since, h⟩ := s.rollLane_cases n
  · rw [h]
    exact .refl n s
  · rw [h]
    exact s.modPort_onlyPort n _

theorem State.rollLane_clean {s : State} {n : Nat} (clean : (s.port n).laneUe = []) :
    ∃ since, (s.rollLane n).port n = { s.port n with laneUe := [], laneUeEnded := since } := by
  obtain h | ⟨since, h⟩ := s.rollLane_cases n
  · exact ⟨(s.port n).laneUeEnded, by rw [h, ← clean]⟩
  · exact ⟨since, by rw [h, State.port_modPort]⟩

theorem State.countFec_onlyPort (s : State) (n : Nat) (fec : List LaneFec) : s.OnlyPort n (s.countFec n fec) :=
  (s.rollLane_onlyPort n).trans (State.modPort_onlyPort _ n _)

/-- A frame without FEC errors on a port without lane errors: counters and the window alone are written. -/
theorem State.countFec_clean {s : State} {n : Nat} (clean : (s.port n).laneUe = []) :
    ∃ since ce ue, (s.countFec n []).port n = { s.port n with laneUe := [], laneUeEnded := since, fecCe := ce, fecUe := ue } := by
  obtain ⟨since, hport⟩ := State.rollLane_clean clean
  exact ⟨since, _, _, by rw [State.countFec, State.port_modPort, hport]; rfl⟩

theorem State.badFrame_onlyPort (s : State) (n : Nat) : s.OnlyPort n (s.badFrame n) := s.modPort_onlyPort n _

/-- A frame of another length or with a bad CRC, and no lane errors: it is counted and discarded. -/
theorem State.frameIn_bad {s : State} {n : Nat} {bs : List Byte} (run : (s.port n).frames = true)
    (bad : bs.length ≠ 7710 ∨ crc32c (bs.take 7706) ≠ leNat (bs.drop 7706)) (clean : (s.port n).laneUe = []) :
    s.frameIn n bs [] = (s.countFec n []).badFrame n := by
  obtain ⟨since, ce, ue, hport⟩ := State.countFec_clean clean
  have notGood : (decide (bs.length = 7710) && crc32c (bs.take 7706) == leNat (bs.drop 7706)) = false := by
    rw [Bool.and_eq_false_iff]
    exact bad.imp decide_eq_false beq_false_of_ne
  have noLane : (((s.countFec n []).badFrame n).port n).laneUe = [] := by simp [State.badFrame, hport]
  simp [State.frameIn, run, notGood, noLane]

theorem State.takeReports_none {s : State} (noReports : s.links.unreachable = []) : s.takeReports = s := by
  have same : (s.modLinks fun l => { l with unreachable := [] }) = s := by rw [State.modLinks, ← noReports]
  rw [State.takeReports, noReports, same]
  rfl

-- The statement

/-- Settles O53, clause by clause: each row of the link's frames through the lemma for its case. -/
theorem framesAreReplayed : Obligations.FramesAreReplayed := by
  refine ⟨fun n bs s run bad clean heard => ?bad, fun n s run unacked silent below => ?silent, fun n s ends => ?window, fun n lane s active up steady => ?marker,
    fun n s run noReplay full => ?full, fun n k f s run place there => ?resend, fun n bs s t ht nak unacked => ?nak, fun n ack k f rest s buf hk sent => ?ack⟩
  case bad =>
    obtain ⟨ps, hps, others⟩ := (s.countFec_onlyPort n []).trans (State.badFrame_onlyPort _ n)
    obtain ⟨since, ce, ue, hport⟩ := State.countFec_clean clean
    have hbad : ((s.countFec n []).badFrame n).port n
        = { s.port n with laneUe := [], laneUeEnded := since, fecCe := ce, fecUe := ue, nak := true, discarding := true } := by
      rw [State.badFrame, State.port_modPort, hport]
    have unheard : ((s.countFec n []).badFrame n).takeReports = (s.countFec n []).badFrame n :=
      State.takeReports_none (by rw [hps]; exact heard)
    refine ⟨(s.countFec n []).badFrame n, congrArg Host.Outcome.next ((congrArg State.takeReports (State.frameIn_bad run bad clean)).trans unheard), ?_⟩
    rw [hbad]
    refine ⟨rfl, rfl, rfl, rfl, others, ?_⟩
    rw [hps]
    exact ⟨rfl, sameBytes_of_eq rfl rfl⟩
  case silent => exact congrArg Host.Outcome.next ((State.replayLate_silent run unacked silent).trans (State.replay_belowLimit unacked below))
  case window => exact congrArg Host.Outcome.next (if_pos ends)
  case marker => exact congrArg Host.Outcome.next ((if_pos active).trans (State.retrain_begins up steady))
  case full =>
    obtain ⟨returns, fseq, ack, credits, fill, tick, hport⟩ := State.framePeriod_idle run (Port.nextFrame_held noReplay full)
    refine ⟨_, rfl, ?_⟩
    rw [hport, fld_frameBytes_ctl]
    exact ⟨rfl, rfl, rfl, bit_idle _⟩
  case resend =>
    obtain ⟨returns, ack, ctl, credits, fill, tick, hport⟩ := State.framePeriod_sequenced run (Port.nextFrame_resend place there)
    refine ⟨_, rfl, ?_⟩
    rw [hport]
    exact ⟨rfl, fld_frameBytes_fseq .., rfl⟩
  case nak =>
    rw [State.frameState_nak nak, ← ht]
    exact State.replay_resends unacked
  case ack =>
    subst hk
    exact State.ackFrames_replayBuf buf sent

end Sys2Proof.Machine

/-! PROOF. Commands that are not permitted (O18): how a VF's command is refused and why PF0's never is; what the fetch of a refused command does (R379, R387). -/

namespace Sys2Proof.Machine

-- How a fetched command is refused (R387)

/-- A structure of the length asked for is itself. -/
theorem cut_whole {bs : List Byte} {n : Nat} (whole : bs.length = n) : cut bs 0 n = bs := by
  subst whole
  simp [cut]

theorem knownOpcode_iff (o : Nat) : knownOpcode o = true ↔ (1 ≤ o ∧ o ≤ 7) ∨ (0x10 ≤ o ∧ o ≤ 0x1B) := by
  simp [knownOpcode]

theorem ctxCommand_iff (o : Nat) : ctxCommand o = true ↔ o = 6 ∨ 7 ≤ o := by
  simp [ctxCommand]

/-- A command that R387 bars a VF from is refused with NOT_PERMITTED, whatever the later checks would find. -/
theorem refusal_vf {recovery : Bool} {fn : Nat} {c : Cmd} (vf : fn ≠ 0) (known : knownOpcode c.opcode = true)
    (barred : (c.opcode = 4 ∨ c.opcode = 5 ∨ c.opcode = 6) ∨ (ctxCommand c.opcode = true ∧ c.ctx ≠ fn - 1)) :
    refusal recovery fn c = some (stNotPermitted, 0) := by
  have cond : (fn != 0 && ((c.opcode == 4 || c.opcode == 5 || c.opcode == 6) || (ctxCommand c.opcode && c.ctx != fn - 1))) = true := by
    simpa [vf, or_assoc] using barred
  simp [refusal, known, cond]

/-- PF0 passes the check of R387, and no other check answers NOT_PERMITTED. -/
theorem refusal_pf0_status {recovery : Bool} {c : Cmd} {r : Nat × Nat} (h : refusal recovery 0 c = some r) : r.1 = stCmdInvalid := by
  have pf0 : ∀ b : Bool, ((0 : Nat) != 0 && b) = false := fun _ => rfl
  simp only [refusal, pf0, Bool.false_eq_true, if_false] at h
  repeat' split at h
  all_goals cases h
  all_goals rfl

-- The fetch of a refused command (R379)

/-- A refused command is fetched and completes at once. -/
theorem State.fetchCmd_refused {s : State} {n : Nat} {bs : List Byte} {r : Nat × Nat} (may : s.mayFetch n = true) (whole : bs.length = 64)
    (refused : refusal s.sill.recovery n ⟨(s.fn n).cmdHead, bs, .fetched, 0⟩ = some r) :
    s.fetchCmd n (.data bs) = (s.setFn n { s.fn n with
      cmdHead := ((s.fn n).cmdHead + 1) % 4096
      outstanding := (s.fn n).outstanding ++ [⟨(s.fn n).cmdHead, bs, .fetched, 0⟩] }).done n (s.fn n).cmdHead r.1 r.2 := by
  simp [State.fetchCmd, may, cut_whole whole, refused]

-- The statement

/-- Settles O18: the two rows of R387 for a VF, each of which names a known command, and PF0's refusals. -/
theorem commandsNotPermitted : Obligations.CommandsNotPermitted := by
  refine ⟨fun fn bs s may vf barred whole => ?vf, fun recovery c status detail refused => ?pf0⟩
  case vf =>
    have known : knownOpcode (fld bs 0 1) = true := by
      rw [knownOpcode_iff]
      omega
    have isVf : fn.val ≠ 0 := fun h => vf (Fin.ext h)
    have refused : refusal s.sill.recovery fn.val ⟨(s.fn fn).cmdHead, bs, .fetched, 0⟩ = some (stNotPermitted, 0) := by
      refine refusal_vf isVf known (barred.imp_right fun ⟨context, other⟩ => ⟨(ctxCommand_iff (fld bs 0 1)).2 ?_, other⟩)
      omega
    exact congrArg Host.Outcome.next (State.fetchCmd_refused may whole refused)
  case pf0 =>
    have invalid : status = stCmdInvalid := refusal_pf0_status refused
    rw [invalid]
    decide

end Sys2Proof.Machine

/-! PROOF. How page faults end (O34): resolved before, at and after the limit; the command or status entry that waited (R187, R365, R396, R409). -/

namespace Sys2Proof.Machine

-- A fault that is dropped leaves commands and tasks as they are

@[simp] theorem State.cmd?_dropFault (s : State) (id fn slot : Nat) : (s.dropFault id).cmd? fn slot = s.cmd? fn slot := rfl

@[simp] theorem State.task?_dropFault (s : State) (id bay ctx idx : Nat) : (s.dropFault id).task? bay ctx idx = s.task? bay ctx idx := rfl

-- Resolved (R187 step 4, R365, R409)

/-- While the complex of its half does not run a fault waits. -/
theorem State.resolveFault_stopped {s : State} {id : Nat} {f : PFault} (there : s.fault? id = some f)
    (stopped : (s.aon.joiners.get f.half).running = false) : s.resolveFault id = s := by
  simp [State.resolveFault, there, stopped]

/-- Up to its deadline a fault that translates is dropped and counted, and what waited goes on; a near-miss counts at the deadline tick. -/
theorem State.resolveFault_inTime {s : State} {id : Nat} {f : PFault} (there : s.fault? id = some f)
    (run : (s.aon.joiners.get f.half).running = true) (resolves : s.resolvesNow f = true) (inTime : s.now f.half ≤ f.since + 12500) :
    s.resolveFault id = (((if s.now f.half = f.since + 12500 then s.nearMissDev else s).dropFault id).countResolved).resume f := by
  have notLate : expired (s.now f.half) f.since 12500 = false := decide_eq_false (Nat.not_lt.2 inTime)
  simp [State.resolveFault, there, run, resolves, notLate]

/-- A command that waited is taken up again. -/
theorem State.resume_command {s : State} {f : PFault} {fn slot : Nat} {c : Cmd} (who : f.who = .command fn slot)
    (waits : s.cmd? fn slot = some c) : s.resume f = s.await fn c := by
  simp [State.resume, who, waits]

-- Unresolved (R187 step 5, R277)

/-- Past its limit, and with no claim to wait for, a fault is dropped and what waited ends with PAGE_FAULT. -/
theorem State.faultLate_expired {s : State} {id : Nat} {f : PFault} (there : s.fault? id = some f)
    (late : f.since + 12500 < s.now f.half) (noClaim : s.awaitsClaim f = false) :
    s.faultLate id = (s.dropFault id).giveUp f stPageFault f.cause := by
  have isLate : expired (s.now f.half) f.since 12500 = true := decide_eq_true late
  simp [State.faultLate, there, isLate, noClaim]

theorem State.giveUp_command {s : State} {f : PFault} {fn slot : Nat} {c : Cmd} (status cause : Nat) (who : f.who = .command fn slot)
    (waits : s.cmd? fn slot = some c) : s.giveUp f status cause = s.cmdUnresolved fn c cause f.addr := by
  simp [State.giveUp, who, waits]

theorem State.giveUp_taskStatus {s : State} {f : PFault} {bay idx : Nat} {k : Task} (status cause : Nat) (who : f.who = .status 0 bay idx)
    (waits : s.task? bay f.ctx idx = some k) : s.giveUp f status cause = s.endUnwritten k f.addr cause := by
  simp [State.giveUp, who, waits]

/-- A command that is no XFER completes without an event and without a result. -/
theorem State.cmdUnresolved_notXfer {s : State} {fn : Nat} {c : Cmd} (cause addr : Nat) (notXfer : c.opcode ≠ 0x12) :
    s.cmdUnresolved fn c cause addr = s.complete fn c.slot stPageFault cause 0 0 := by
  simp [State.cmdUnresolved, notXfer]

-- The statement

/-- Settles O34: a fault resolved in time, one whose complex stands, one past its limit, and the numbers of the causes. -/
theorem faultsEnd : Obligations.FaultsEnd := by
  refine ⟨fun id f s there run resolves early => ?early, fun id f s there stopped => ?stopped, fun id f s there run resolves deadline => ?deadline,
    fun f fn slot c s who waits => ?resumed, fun id f fn slot c s there late noClaim who waits notXfer ownSlot => ?command,
    fun id f bay idx k s there late noClaim who waits => ?status, ?causes⟩
  case early =>
    refine congrArg Host.Outcome.next ((State.resolveFault_inTime there run resolves early.le).trans ?_)
    rw [if_neg early.ne]
  case stopped => exact congrArg Host.Outcome.next (State.resolveFault_stopped there stopped)
  case deadline =>
    refine congrArg Host.Outcome.next ((State.resolveFault_inTime there run resolves deadline.le).trans ?_)
    rw [if_pos deadline]
  case resumed => exact State.resume_command who waits
  case command =>
    have ends : s.faultLate id = (s.dropFault id).complete fn slot stPageFault f.cause 0 0 := by
      rw [State.faultLate_expired there late noClaim, State.giveUp_command _ _ who ((s.cmd?_dropFault id fn slot).trans waits),
        State.cmdUnresolved_notXfer _ _ notXfer, ownSlot]
    exact congrArg Host.Outcome.next ends
  case status =>
    have ends : s.faultLate id = (s.dropFault id).endUnwritten k f.addr f.cause := by
      rw [State.faultLate_expired there late noClaim, State.giveUp_taskStatus _ _ who ((s.task?_dropFault id bay f.ctx idx).trans waits)]
    exact congrArg Host.Outcome.next ends
  case causes => exact ⟨rfl, rfl, rfl, rfl, rfl, rfl, rfl, rfl⟩

end Sys2Proof.Machine

/-! PROOF. One step (O1, O2, O3, O5): every command answers a next state and keeps the factory records and the queue; on an empty queue one tick passes. -/

namespace Sys2Proof.Machine

-- Operations done for each of a list

/-- A relation that is reflexive and transitive and that every single operation keeps to holds of the operations done for each of a list. -/
theorem forAll_rel {α : Type} {f : α → State → State} {R : State → State → Prop} (refl : ∀ s, R s s) (trans : ∀ {s t u}, R s t → R t u → R s u)
    (hf : ∀ a s, R s (f a s)) (l : List α) (s : State) : R s (forAll l f s) := by
  induction l generalizing s with
  | nil => exact refl s
  | cons a r ih => exact trans (hf a s) (ih (f a s))

-- Commands

/-- No command stops the module: each answers a next state. -/
theorem exec_next (c : Instr) (s : State) : ∃ t, exec c s = .next t := by
  cases c
  case blockTranslate x => cases x <;> exact ⟨_, rfl⟩
  all_goals exact ⟨_, rfl⟩

theorem Fixed.refl (s : State) : Fixed s s := ⟨rfl, rfl, rfl⟩

/-- What a member does whose GO or ABORT has come keeps the records and the queue, if what it then does keeps them. -/
theorem Fixed.awaitsGo {s : State} {ctx k : Nat} {inst : BitVec 16} {f : Peg → State} (h : ∀ p, Fixed s (f p)) :
    Fixed s (match s.peg? ctx k with
      | none => s
      | some p => if p.awaitsGo inst (s.now .h0) then f p else s) := by
  split
  · exact .refl s
  · split
    · exact h _
    · exact .refl s

/-- Every command keeps the variant record, the factory floor plan and the queue: the operations it calls do (R31, R35). -/
theorem exec_fixed {c : Instr} {s t : State} (h : exec c s = .next t) : Fixed s t := by
  cases c
  case blockTranslate x => cases x <;> (cases h; exact ⟨by simp, by simp, by simp⟩)
  case pegGoReceived ctx k inst =>
    cases h
    exact Fixed.awaitsGo fun p => ⟨by simp, by simp, by simp⟩
  case pegAbortReceived ctx k inst code bad =>
    cases h
    exact Fixed.awaitsGo fun p => ⟨by simp, by simp, by simp⟩
  case coreSelftestTimeout core =>
    cases h
    show Fixed s (if s.aon.boot.stageTick + 62500 ≤ s.now .h0 then s.coreTested core false else s)
    split
    · exact ⟨by simp, by simp, by simp⟩
    · exact .refl s
  all_goals
    cases h
    exact ⟨by simp [State.begin_flash, State.migStep_flash], by simp [State.begin_flash, State.migStep_flash],
      by simp [State.begin_pending, State.migStep_pending]⟩

-- A step

theorem step_pending (c : Instr) (s : State) : step { s with pending := c :: s.pending } = exec c s := rfl

theorem step_empty {s : State} (empty : s.pending = []) : step s = .next s.idleAll := by rw [step, empty]

theorem step_front {s : State} {c : Instr} {rest : List Instr} (front : s.pending = c :: rest) : step s = exec c { s with pending := rest } := by
  rw [step, front]

theorem step_next (s : State) : ∃ t, step s = .next t := by
  cases hp : s.pending with
  | nil => exact ⟨_, step_empty hp⟩
  | cons c rest =>
    rw [step_front hp]
    exact exec_next c _

/-- A step keeps whatever one tick and every command keep. -/
theorem step_keeps {P : State → State → Prop} (tick : ∀ s, P s s.idleAll) (run : ∀ c rest s t, exec c { s with pending := rest } = .next t → P s t)
    {s t : State} (h : step s = .next t) : P s t := by
  cases hp : s.pending with
  | nil =>
    have ht : s.idleAll = t := Host.Outcome.next.inj ((step_empty hp).symm.trans h)
    exact ht ▸ tick s
  | cons c rest =>
    rw [step_front hp] at h
    exact run c rest s t h

-- One tick

/-- Nothing but the bays differs. -/
def State.OnlyBays (s t : State) : Prop := ∃ bs, t = { s with bays := bs }

theorem State.OnlyBays.refl (s : State) : s.OnlyBays s := ⟨s.bays, rfl⟩

theorem State.OnlyBays.trans {s t u : State} (st : s.OnlyBays t) (tu : t.OnlyBays u) : s.OnlyBays u := by
  obtain ⟨bs, rfl⟩ := st
  obtain ⟨cs, rfl⟩ := tu
  exact ⟨cs, rfl⟩

theorem State.idleTick_onlyBays (s : State) (b : Nat) : s.OnlyBays (s.idleTick b) := by
  unfold State.idleTick
  dsimp only
  repeat' split
  · exact .refl s
  · exact ⟨_, rfl⟩
  · exact .refl s
  · exact ⟨_, rfl⟩
  · exact .refl s

/-- Noting the idleness of bays changes only the bays. -/
theorem State.idle_bays (s : State) : s.tick.OnlyBays s.idle :=
  forAll_rel (R := State.OnlyBays) .refl .trans (fun b t => t.idleTick_onlyBays b) (List.range 64) s.tick

/-- A tick changes only the ticks of the island and their lag. -/
theorem State.tick_aon (s : State) : ∃ a, s.tick = { s with aon := a } := by
  unfold State.tick
  split
  · exact ⟨s.aon, rfl⟩
  · exact ⟨_, rfl⟩

theorem State.now_tick (s : State) (h : Half) : s.tick.now h
    = if s.aon.powered = true ∧ s.aon.lag.get h = 0 then (s.now h + 1) % 2 ^ 64 else if s.aon.powered = true then s.now h % 2 ^ 64 else s.now h := by
  unfold State.tick
  by_cases on : s.aon.powered = true
  · by_cases lag : s.aon.lag.get h = 0 <;> cases h <;> simp_all [State.now, PerHalf.get]
  · simp [on, State.now]

/-- With no BAR4 request waiting a tick with the bays noted is all that passes. -/
theorem State.idleAll_noBar4 {s : State} (none : s.hif.bar4Q = []) : s.idleAll = s.idle := by
  obtain ⟨bs, hidle⟩ := s.idle_bays
  obtain ⟨a, htick⟩ := s.tick_aon
  have : s.idle.hif.bar4Q = [] := by rw [hidle, htick]; exact none
  rw [State.idleAll, State.bar4Run, this]
  rfl

-- The statements

/-- Settles O3: every command keeps the factory records, and so does a tick. -/
theorem stepKeepsFactoryRecords : Obligations.StepKeepsFactoryRecords := by
  refine fun s t h => step_keeps (P := fun s t => t.flash.variant = s.flash.variant ∧ t.flash.factory = s.flash.factory) (fun s => ?tick) (fun c rest s t h => ?run) h
  case tick => exact ⟨by simp, by simp⟩
  case run => exact ⟨(exec_fixed h).variant, (exec_fixed h).factory⟩

/-- Settles O5: the queue is one of the things every command keeps. -/
theorem commandsLeaveTheQueue : Obligations.CommandsLeaveTheQueue := fun _ _ _ h => (exec_fixed h).pending

/-- Settles O1: the front command is run with the rest of the queue, and neither a command nor a tick stops the module. -/
theorem stepRunsTheFrontCommand : Obligations.StepRunsTheFrontCommand := ⟨step_pending, step_next⟩

/-- Settles O2: a tick, the bays' idleness noted, and no BAR4 request to serve. -/
theorem emptyQueueIsOneTick : Obligations.EmptyQueueIsOneTick := by
  intro s h empty noBar4
  obtain ⟨bs, hidle⟩ := s.idle_bays
  obtain ⟨a, htick⟩ := s.tick_aon
  have all : s.idleAll = { s.tick with bays := bs } := (State.idleAll_noBar4 noBar4).trans hidle
  refine ⟨s.idleAll, step_empty empty, ?_⟩
  rw [all]
  refine ⟨sameBytes_of_eq (by simp) ?_, ?_, ?_, s.now_tick h⟩ <;> rw [htick]

end Sys2Proof.Machine

/-! PROOF. Completions, events and signals (O21, O22): posting and completing change only the host interface; where a completion entry stands; what a full ring, an event without a place and a masked vector do (R383 to R385, R398, R399). -/

namespace Sys2Proof.Machine

-- What the host interface's operations leave alone

/-- Nothing but the host interface differs. -/
def State.OnlyHif (s t : State) : Prop := ∃ h, t = { s with hif := h }

theorem State.OnlyHif.refl (s : State) : s.OnlyHif s := ⟨s.hif, rfl⟩

theorem State.OnlyHif.trans {s t u : State} (st : s.OnlyHif t) (tu : t.OnlyHif u) : s.OnlyHif u := by
  obtain ⟨h, rfl⟩ := st
  obtain ⟨k, rfl⟩ := tu
  exact ⟨k, rfl⟩

theorem State.setFn_onlyHif (s : State) (n : Nat) (f : Fn) : s.OnlyHif (s.setFn n f) := ⟨_, rfl⟩

theorem State.setCmd_onlyHif (s : State) (n slot : Nat) (c : Cmd) : s.OnlyHif (s.setCmd n slot c) := ⟨_, rfl⟩

theorem State.accessErr_onlyHif (s : State) (n : Nat) : s.OnlyHif (s.accessErr n) := ⟨_, rfl⟩

theorem State.writeCpl_onlyHif (s : State) (n : Nat) : s.OnlyHif (s.writeCpl n) := by
  unfold State.writeCpl
  dsimp only
  split
  · exact .refl s
  · split
    · exact .refl s
    · split <;> exact ⟨_, rfl⟩

theorem State.writeCpls_onlyHif (n k : Nat) (s : State) : s.OnlyHif (s.writeCpls n k) := by
  induction k generalizing s with
  | zero => exact .refl s
  | succ k ih => exact (s.writeCpl_onlyHif n).trans (ih _)

theorem State.flushCpl_onlyHif (s : State) (n : Nat) : s.OnlyHif (s.flushCpl n) := s.writeCpls_onlyHif n _

theorem State.complete_onlyHif (s : State) (fn slot status detail r0 r1 : Nat) : s.OnlyHif (s.complete fn slot status detail r0 r1) := by
  unfold State.complete
  split
  · exact .refl s
  · exact (s.setFn_onlyHif fn _).trans (State.flushCpl_onlyHif _ fn)

theorem State.done_onlyHif (s : State) (fn slot status detail : Nat) : s.OnlyHif (s.done fn slot status detail) :=
  s.complete_onlyHif fn slot status detail 0 0

theorem State.writeEvent_onlyHif (s : State) (n : Nat) : s.OnlyHif (s.writeEvent n) := by
  unfold State.writeEvent
  dsimp only
  split
  · exact .refl s
  · split
    · exact .refl s
    · split <;> exact ⟨_, rfl⟩

theorem State.writeEvents_onlyHif (n k : Nat) (s : State) : s.OnlyHif (s.writeEvents n k) := by
  induction k generalizing s with
  | zero => exact .refl s
  | succ k ih => exact (s.writeEvent_onlyHif n).trans (ih _)

theorem State.flushEvents_onlyHif (s : State) (n : Nat) : s.OnlyHif (s.flushEvents n) := s.writeEvents_onlyHif n _

theorem State.eventsLost_onlyHif (s : State) (n : Nat) : s.OnlyHif (s.eventsLost n) := by
  unfold State.eventsLost
  dsimp only
  split
  · exact .refl s
  · exact (s.setFn_onlyHif n _).trans (State.flushEvents_onlyHif _ n)

theorem State.post_onlyHif (s : State) (n code ctx : Nat) (h : Half) (payload : List Byte) : s.OnlyHif (s.post n code ctx h payload) := by
  unfold State.post
  dsimp only
  split
  · exact ((s.eventsLost_onlyHif n).trans (State.setFn_onlyHif _ n _)).trans (State.flushEvents_onlyHif _ n)
  · exact (s.eventsLost_onlyHif n).trans (State.setFn_onlyHif _ n _)

theorem State.postPf0_onlyHif (s : State) (code ctx : Nat) (h : Half) (payload : List Byte) : s.OnlyHif (s.postPf0 code ctx h payload) :=
  s.post_onlyHif 0 code ctx h payload

theorem State.postCtx_onlyHif (s : State) (ctx code : Nat) (h : Half) (payload : List Byte) : s.OnlyHif (s.postCtx ctx code h payload) :=
  s.post_onlyHif (ctx + 1) code ctx h payload

-- Signals and error bits

/-- A signal changes only the pending bits and the count of signals made. -/
theorem fnSignal_eq (f : Fn) (v : Nat) : ∃ p c, fnSignal f v = { f with pba := p, signals := c } := by
  unfold fnSignal
  split <;> exact ⟨_, _, rfl⟩

/-- A masked vector pends. -/
theorem fnSignal_masked {f : Fn} {v : Nat} (masked : (tget f.msixTable (4 * v + 3) 0).getLsbD 0 = true) :
    fnSignal f v = { f with pba := f.pba ||| BitVec.ofNat 3 (2 ^ v) } := if_pos masked

/-- An error bit that is set changes nothing else but what its signal changes. -/
theorem fnErr_eq (f : Fn) (n : Nat) : ∃ p c, fnErr f n = { f with err := f.err ||| BitVec.ofNat 5 (2 ^ n), pba := p, signals := c } := by
  unfold fnErr
  dsimp only
  split
  · exact ⟨_, _, rfl⟩
  · obtain ⟨p, c, h⟩ := fnSignal_eq { f with err := f.err ||| BitVec.ofNat 5 (2 ^ n) } 2
    exact ⟨p, c, h⟩

/-- A completion that is counted changes only what vector 0 has pending and made. -/
theorem fnIrq_eq (f : Fn) (irq : Bool) (tick : Nat) :
    ∃ p c n t, fnIrq f irq tick = { f with pba := p, signals := c, irqPending := n, irqFirst := t } := by
  unfold fnIrq
  dsimp only
  repeat' split
  · exact ⟨_, _, _, _, rfl⟩
  · obtain ⟨p, c, h⟩ := fnSignal_eq { f with irqPending := 0, irqFirst := none } 0
    exact ⟨p, c, 0, none, h⟩
  · exact ⟨_, _, _, _, rfl⟩

/-- Setting one bit of five sets it. -/
theorem getLsbD_orBit {x : BitVec 5} {n : Nat} (h : n < 5) : (x ||| BitVec.ofNat 5 (2 ^ n)).getLsbD n = true := by
  have bitSet : (BitVec.ofNat 5 (2 ^ n)).getLsbD n = true := by
    interval_cases n <;> decide
  rw [BitVec.getLsbD_or, bitSet, Bool.or_true]

@[simp] theorem fnErr_cplTail (f : Fn) (n : Nat) : (fnErr f n).cplTail = f.cplTail := by
  obtain ⟨p, c, h⟩ := fnErr_eq f n
  rw [h]

@[simp] theorem fnErr_cplWait (f : Fn) (n : Nat) : (fnErr f n).cplWait = f.cplWait := by
  obtain ⟨p, c, h⟩ := fnErr_eq f n
  rw [h]

@[simp] theorem fnErr_outstanding (f : Fn) (n : Nat) : (fnErr f n).outstanding = f.outstanding := by
  obtain ⟨p, c, h⟩ := fnErr_eq f n
  rw [h]

@[simp] theorem fnErr_evqLost (f : Fn) (n : Nat) : (fnErr f n).evqLost = f.evqLost := by
  obtain ⟨p, c, h⟩ := fnErr_eq f n
  rw [h]

theorem fnErr_set {f : Fn} {n : Nat} (h : n < 5) : (fnErr f n).err.getLsbD n = true := by
  obtain ⟨p, c, he⟩ := fnErr_eq f n
  rw [he]
  exact getLsbD_orBit h

-- Completion entries

/-- The completion entry of a command. -/
def Cmd.entry (c : Cmd) (slot status detail r0 r1 : Nat) : Cpl :=
  ⟨BitVec.ofNat 16 (fld c.bytes 2 2), slot, status, detail, BitVec.ofNat 64 r0, BitVec.ofNat 64 r1, BitVec.ofNat 8 c.opcode, c.irq⟩

/-- A function's part once a command has ended: it is outstanding no longer and its entry waits. -/
def Fn.ended (f : Fn) (slot : Nat) (e : Cpl) : Fn :=
  { f with outstanding := f.outstanding.filter (fun d => d.slot != slot), cplWait := f.cplWait ++ [e] }

theorem State.complete_some {s : State} {fn slot : Nat} {c : Cmd} (h : s.cmd? fn slot = some c) (status detail r0 r1 : Nat) :
    s.complete fn slot status detail r0 r1 = (s.setFn fn ((s.fn fn).ended slot (c.entry slot status detail r0 r1))).flushCpl fn := by
  rw [State.complete, h]
  rfl

@[simp] theorem find?_ended (f : Fn) (slot : Nat) (e : Cpl) : (f.ended slot e).outstanding.find? (fun c => c.slot == slot) = none := by
  simp [Fn.ended, List.find?_eq_none]

/-- Without a free place no entry is written. -/
theorem State.writeCpl_full {s : State} {n : Nat} (full : cplFree (s.fn n) = false) : s.writeCpl n = s := by
  unfold State.writeCpl
  dsimp only
  split
  · rfl
  · rw [full]
    rfl

theorem State.writeCpls_full {s : State} {n : Nat} (full : cplFree (s.fn n) = false) (k : Nat) : s.writeCpls n k = s := by
  induction k with
  | zero => rfl
  | succ k ih => rw [State.writeCpls, State.writeCpl_full full, ih]

/-- A full ring keeps the entry of a command that ends. -/
theorem State.complete_full {s : State} {fn slot : Nat} {c : Cmd} (there : s.cmd? fn slot = some c) (full : cplFree (s.fn fn) = false)
    (status detail r0 r1 : Nat) :
    s.complete fn slot status detail r0 r1 = s.setFn fn ((s.fn fn).ended slot (c.entry slot status detail r0 r1)) := by
  rw [State.complete_some there, State.flushCpl, State.writeCpls_full]
  rw [State.fn_setFn]
  exact full

/-- The state once a write to host memory was asked for. -/
def State.askWrite (s : State) : State := { s with hif := { s.hif with writes := s.hif.writes + 1 } }

@[simp] theorem State.askWrite_host (s : State) : s.askWrite.hif.host = s.hif.host := rfl

theorem State.hostStore_host (s : State) (a : Nat) (bs : List Byte) : (s.hostStore a bs).hif.host = memWriteN s.hif.host a bs := rfl

@[simp] theorem State.setFn_host (s : State) (n : Nat) (f : Fn) : (s.setFn n f).hif.host = s.hif.host := rfl

/-- A function's part once its one waiting completion entry was written. -/
def Fn.wrote (f : Fn) (irq : Bool) (tick : Nat) : Fn :=
  fnIrq { f with cplWait := [], cplTail := (f.cplTail + 1) % 4096, cplPhase := if f.cplTail = 4095 then !f.cplPhase else f.cplPhase } irq tick

@[simp] theorem Fn.wrote_cplTail (f : Fn) (irq : Bool) (tick : Nat) : (f.wrote irq tick).cplTail = (f.cplTail + 1) % 4096 := by
  obtain ⟨p, c, n, t, h⟩ := fnIrq_eq { f with cplWait := [], cplTail := (f.cplTail + 1) % 4096, cplPhase := if f.cplTail = 4095 then !f.cplPhase else f.cplPhase } irq tick
  rw [Fn.wrote, h]

@[simp] theorem Fn.wrote_cplPhase (f : Fn) (irq : Bool) (tick : Nat) :
    (f.wrote irq tick).cplPhase = if f.cplTail = 4095 then !f.cplPhase else f.cplPhase := by
  obtain ⟨p, c, n, t, h⟩ := fnIrq_eq { f with cplWait := [], cplTail := (f.cplTail + 1) % 4096, cplPhase := if f.cplTail = 4095 then !f.cplPhase else f.cplPhase } irq tick
  rw [Fn.wrote, h]

@[simp] theorem Fn.wrote_outstanding (f : Fn) (irq : Bool) (tick : Nat) : (f.wrote irq tick).outstanding = f.outstanding := by
  obtain ⟨p, c, n, t, h⟩ := fnIrq_eq { f with cplWait := [], cplTail := (f.cplTail + 1) % 4096, cplPhase := if f.cplTail = 4095 then !f.cplPhase else f.cplPhase } irq tick
  rw [Fn.wrote, h]

/-- The one entry that waits is written at the tail, if the host takes the write. -/
theorem State.writeCpl_free {s : State} {n : Nat} {c : Cpl} (free : cplFree (s.fn n) = true) (waits : (s.fn n).cplWait = [c]) :
    s.writeCpl n = if Config.hostWriteOk s.hif.writes = true
      then (s.askWrite.hostStore ((s.fn n).cplBase.toNat + 32 * (s.fn n).cplTail) (cplBytes (s.fn n) c)).setFn n ((s.fn n).wrote c.irq (s.now .h0))
      else s.askWrite.setFn n (fnErr (s.fn n) errCplWrite) := by
  simp [State.writeCpl, waits, free, State.askWrite, State.hostStore, Fn.wrote]

/-- A completion entry is 32 bytes long. -/
theorem length_cplBytes (f : Fn) (c : Cpl) : (cplBytes f c).length = 32 := by simp [cplBytes]

theorem State.cmd?_setFn (s : State) (n slot : Nat) (f : Fn) : (s.setFn n f).cmd? n slot = f.outstanding.find? (fun c => c.slot == slot) := by
  rw [State.cmd?, State.fn_setFn]

-- Events

/-- An event without a free place is discarded and counted. -/
theorem State.post_noPlace {s : State} {n : Nat} (noPlace : evFree (s.fn n) = false) (code ctx : Nat) (h : Half) (payload : List Byte) :
    s.post n code ctx h payload
      = s.setFn n (fnErr { s.fn n with evqLost := satAdd max32 (s.fn n).evqLost 1, lostSince := satAdd max32 (s.fn n).lostSince 1 } errEvqLost) := by
  have none : s.eventsLost n = s := by simp [State.eventsLost, noPlace]
  simp [State.post, none, noPlace]

-- The statements

theorem tset_tset {α : Type} (t : Table α) (k : Nat) (v w : α) : tset (tset t k v) k w = tset t k w := by
  induction t with
  | nil => simp [tset]
  | cons e r ih =>
    obtain ⟨j, x⟩ := e
    rw [tset]
    split
    · rename_i h
      rw [tset, tset, if_pos h, if_pos h, ih]
    · rename_i h
      split
      · rename_i hk
        simp [tset, hk]
      · rename_i hk
        simp [tset, h, hk]

/-- The entry of a command that ends is written at once where no entry waits and a place is free, or waits if the host does not take the write. -/
theorem State.complete_free {s : State} {fn slot : Nat} {c : Cmd} (there : s.cmd? fn slot = some c) (idle : (s.fn fn).cplWait = [])
    (free : cplFree (s.fn fn) = true) (status detail r0 r1 : Nat) :
    s.complete fn slot status detail r0 r1 = if Config.hostWriteOk s.hif.writes = true
      then (s.askWrite.hostStore ((s.fn fn).cplBase.toNat + 32 * (s.fn fn).cplTail) (cplBytes (s.fn fn) (c.entry slot status detail r0 r1))).setFn fn
        (((s.fn fn).ended slot (c.entry slot status detail r0 r1)).wrote c.irq (s.now .h0))
      else s.askWrite.setFn fn (fnErr ((s.fn fn).ended slot (c.entry slot status detail r0 r1)) errCplWrite) := by
  have waits : ((s.fn fn).ended slot (c.entry slot status detail r0 r1)).cplWait = [c.entry slot status detail r0 r1] := by simp [Fn.ended, idle]
  have once := State.writeCpl_free (s := s.setFn fn ((s.fn fn).ended slot (c.entry slot status detail r0 r1))) (n := fn)
    (by rw [State.fn_setFn]; exact free) (by rw [State.fn_setFn]; exact waits)
  rw [State.complete_some there, State.flushCpl, State.fn_setFn, waits]
  refine once.trans ?_
  rw [State.fn_setFn, State.setFn_hif]
  split
  · simp only [State.setFn, State.askWrite, State.hostStore, tset_tset]
    rfl
  · simp only [State.setFn, State.askWrite, tset_tset]

/-- Settles O21: the entry is the only one that waits; the host takes its write or does not. -/
theorem completionEntryIsWritten : Obligations.CompletionEntryIsWritten := by
  intro fn slot status detail r0 r1 c s there idle free wf
  obtain ⟨h, only⟩ := s.complete_onlyHif fn slot status detail r0 r1
  refine ⟨_, rfl, ?_, fun a => by rw [only], by rw [only], by rw [only], ?_⟩
  · rw [State.complete_free there idle free]
    split <;> simp [State.cmd?_setFn]
  · rw [State.complete_free there idle free]
    split
    · rw [State.fn_setFn]
      refine ⟨Fn.wrote_cplTail .., Fn.wrote_cplPhase .., fun i hi => ?_, fun a ha => ?_⟩
      · rw [State.setFn_host, State.hostStore_host, State.askWrite_host,
          memRead_memWriteN_inside _ _ _ i wf (by rw [length_cplBytes]; exact hi), Cmd.entry]
      · rw [State.setFn_host, State.hostStore_host, State.askWrite_host, memRead_memWriteN_outside _ _ _ a (by rw [length_cplBytes]; exact ha)]
    · rw [State.fn_setFn]
      exact ⟨fnErr_set (by decide), fnErr_cplTail .., by simp [Fn.ended, idle], rfl⟩

/-- Settles O22: the full ring, the event without a place, the masked vector. -/
theorem ringsWithoutPlace : Obligations.RingsWithoutPlace := by
  refine ⟨fun fn slot status detail r0 r1 c s there full => ?ring, fun fn code ctx h payload s noPlace below => ?event, fun f v masked => ?masked⟩
  case ring =>
    refine ⟨_, rfl, ?_⟩
    rw [State.complete_full there full, State.cmd?_setFn, State.fn_setFn]
    exact ⟨find?_ended .., by simp [Fn.ended], rfl, rfl, rfl⟩
  case event =>
    rw [State.post_noPlace noPlace, State.fn_setFn]
    refine ⟨?_, fnErr_set (by decide), rfl, rfl, fun n other => State.fn_setFn_ne _ _ other⟩
    rw [fnErr_evqLost]
    exact Nat.min_eq_right below
  case masked =>
    rw [fnSignal_masked masked]
    have bitSet : (BitVec.ofNat 3 (2 ^ v.val)).getLsbD v = true := by
      fin_cases v <;> decide
    exact ⟨by rw [BitVec.getLsbD_or, bitSet, Bool.or_true], rfl⟩

end Sys2Proof.Machine

/-! PROOF. Semaphores and new pages (O29, O37): what a count reads after an add and a take; a page that is added is found and reads zero (R203, R204, R359, R360). -/

namespace Sys2Proof.Machine

-- Semaphores (R359)

theorem State.mayTake_iff (s : State) (ctx bay sem n seq : Nat) :
    s.mayTake ctx bay sem n seq = true ↔ n ≤ s.semCount ctx bay sem ∧ ∀ q ∈ s.waiters ctx bay sem, seq ≤ q := by
  simp [State.mayTake]

/-- An add stops at 65,535. -/
theorem State.semCount_semAdd (s : State) (ctx bay sem n : Nat) :
    (s.semAdd ctx bay sem n).semCount ctx bay sem = min max16 (s.semCount ctx bay sem + n) := by
  simp [State.semAdd, State.semCount]

theorem State.semCount_semAdd_ne (s : State) (ctx n : Nat) {bay sem b k : Nat} (h : 64 * b + k ≠ 64 * bay + sem) :
    (s.semAdd ctx bay sem n).semCount ctx b k = s.semCount ctx b k := by
  simp [State.semAdd, State.semCount, h]

theorem State.saturated_semAdd (s : State) (ctx bay sem n : Nat) : ((s.semAdd ctx bay sem n).ctx ctx).saturated
    = if max16 < s.semCount ctx bay sem + n then satAdd max16 (s.ctx ctx).saturated 1 else (s.ctx ctx).saturated := by
  rw [State.semAdd, State.ctx_setCtx]
  rfl

theorem State.semCount_semTake (s : State) (ctx bay sem n : Nat) :
    (s.semTake ctx bay sem n).semCount ctx bay sem = s.semCount ctx bay sem - n := by
  simp [State.semTake, State.semCount, State.modCtx]

-- New pages (R203, R204)

/-- An address that is not listed reads 0. -/
theorem memRead_unlisted {m : Memory} {a : Nat} (h : ∀ e ∈ m, e.1 ≠ a) : memRead m a = 0 := by
  induction m with
  | nil => rfl
  | cons e r ih =>
    show (if e.1 = a then e.2 else memRead r a) = 0
    rw [if_neg (h e List.mem_cons_self), ih fun x hx => h x (List.mem_cons_of_mem e hx)]

/-- The page that MAP adds. -/
def newPage (id ctx va : Nat) (attr : BitVec 32) (charge : Charge) (half : Half) (site frame part : Nat) : Page :=
  { id := id, ctx := ctx, va := va, big := attrBig attr, attr := attr, charge := charge, half := half, site := site, frame := frame, part := part,
    gen := 0, poison := [], stored := [], counts := ⟨0, 0⟩, mig := none, holders := [], mapped := true }

theorem State.addPage_eq (s : State) (ctx va : Nat) (attr : BitVec 32) (charge : Charge) (half : Half) (site frame part : Nat) :
    s.addPage ctx va attr charge half site frame part
      = { s with fresh := s.fresh + 1, pages := s.pages ++ [newPage s.fresh ctx va attr charge half site frame part] } := rfl

theorem Page.has_iff (p : Page) (ctx a : Nat) : p.has ctx a = true ↔ p.mapped = true ∧ p.ctx = ctx ∧ p.va ≤ a ∧ a < p.va + p.bytes := by
  simp [Page.has, and_assoc]

theorem pageBytes_pos (big : Bool) : 0 < pageBytes big := by cases big <;> decide

/-- Where no page of the context meets the new one it is the page of its address. -/
theorem State.page?_addPage {s : State} {ctx va : Nat} {attr : BitVec 32}
    (apart : ∀ p ∈ s.pages, p.mapped = true → p.ctx = ctx → va + pageBytes (attrBig attr) ≤ p.va ∨ p.va + p.bytes ≤ va)
    (charge : Charge) (half : Half) (site frame part : Nat) :
    (s.addPage ctx va attr charge half site frame part).page? ctx va = some (newPage s.fresh ctx va attr charge half site frame part) := by
  have none : s.pages.find? (fun p => p.has ctx va) = none := by
    refine List.find?_eq_none.2 fun p hp has => ?_
    obtain ⟨mapped, own, low, high⟩ := (Page.has_iff p ctx va).1 has
    have := pageBytes_pos (attrBig attr)
    have := apart p hp mapped own
    omega
  have new : (newPage s.fresh ctx va attr charge half site frame part).has ctx va = true :=
    (Page.has_iff ..).2 ⟨rfl, rfl, Nat.le_refl _, Nat.lt_add_of_pos_right (pageBytes_pos _)⟩
  rw [State.page?, State.addPage_eq, List.find?_append, none, Option.none_or]
  exact List.find?_cons_of_pos new

-- The statements

/-- Settles O37: what a wait may take, what it leaves, what an add gives, and that no other semaphore moves. -/
theorem semaphoresAreTakenInFull : Obligations.SemaphoresAreTakenInFull := by
  refine ⟨fun ctx bay sem n seq s h => (s.mayTake_iff ctx bay sem n seq).1 h, fun ctx bay sem n s h => ?take,
    fun ctx bay sem n s => ⟨s.semCount_semAdd ctx bay sem n, s.saturated_semAdd ctx bay sem n⟩, fun ctx bay sem n b k s h => s.semCount_semAdd_ne ctx n h⟩
  case take => rw [State.semCount_semTake, Nat.sub_add_cancel h]

/-- Settles O29: the new page has a number of its own, under which nothing is stored. -/
theorem newPagesReadZero : Obligations.NewPagesReadZero := by
  intro ctx va attr charge half site frame part s apart below
  refine ⟨_, State.page?_addPage apart charge half site frame part, rfl, rfl, rfl, rfl, fun o => ?_, fun q hq => List.mem_append_left _ hq⟩
  refine memRead_unlisted (m := s.mem) fun e he => ?_
  have := below e he
  show e.1 ≠ s.fresh * 2097152 + o
  omega

end Sys2Proof.Machine

/-! PROOF. Device commands (O23, O24, O25, O26): what each of them does once it starts, and what Sill's operations end (R388, R390, R427, R437, R445, R447). -/

namespace Sys2Proof.Machine

-- Commands that start

theorem exec_started {s t : State} {fn slot opcode op : Nat} {c : Cmd} (run : Cmd → State → State) (h : s.starts fn slot opcode op c) (ht : run c s = t) :
    Host.Outcome.next (ρ := Refusal) (φ := Fault) (s.begin fn slot opcode op run) = .next t :=
  congrArg Host.Outcome.next ((State.begin_of_starts run h).trans ht)

theorem State.starts_slot {s : State} {fn slot opcode op : Nat} {c : Cmd} (h : s.starts fn slot opcode op c) : c.slot = slot := h.2.1

theorem State.starts_there {s : State} {fn slot opcode op : Nat} {c : Cmd} (h : s.starts fn slot opcode op c) : s.cmd? fn slot = some c := h.1

-- FLOORPLAN_GET and TOPO_GET (R388, R390)

/-- A record goes to host memory with the command's completion, or the command ends with HOST_ERROR. -/
theorem State.giveHost_eq (s : State) (n a result : Nat) (c : Cmd) (bs : List Byte) :
    s.giveHost n c a bs result = if Config.hostWriteOk s.hif.writes = true then (s.askWrite.hostStore a bs).complete n c.slot stOk 0 result 0
      else s.askWrite.done n c.slot stHostError 0 := by
  by_cases ok : Config.hostWriteOk s.hif.writes = true <;> simp [State.giveHost, State.hostPut, ok] <;> rfl

/-- FLOORPLAN_GET of an aligned destination gives the live plan for 0 and the factory copy for 1. -/
theorem State.floorplanGet_aligned {s : State} {c : Cmd} (n : Nat) (factory : Bool) (aligned : c.par 8 8 % 64 = 0) (which : c.par 0x10 1 = b2n factory) :
    s.floorplanGet n c = s.giveHost n c (c.par 8 8) (planImage (if factory then s.flash.factory else s.plan) s.flash.variant factory)
      ((if factory then s.flash.factory else s.plan).generation + 2 ^ 32 * (if factory then s.flash.factory else s.plan).state) := by
  cases factory <;> simp [State.floorplanGet, aligned, which, b2n]

theorem State.topoGet_aligned {s : State} {c : Cmd} (n : Nat) (aligned : c.par 8 8 % 64 = 0) :
    s.topoGet n c = s.giveHost n c (c.par 8 8) s.topo s.links.routeGen := by simp [State.topoGet, aligned]

theorem length_cut (bs : List Byte) (off n : Nat) : (cut bs off n).length = n := by
  simp [cut]

/-- Settles O23: the two records, each for the write that host memory takes and for the one it does not. -/
theorem planAndTopologyAreWritten : Obligations.PlanAndTopologyAreWritten := by
  refine ⟨fun fn slot c s h aligned which => ?live, fun fn slot c s h aligned which => ?factory, fun fn slot c s h aligned => ?topo, fun s => length_cut _ 0 64⟩
  case live =>
    refine exec_started _ h ?_
    rw [State.floorplanGet_aligned fn false aligned which, State.giveHost_eq, State.starts_slot h]
    rfl
  case factory =>
    refine exec_started _ h ?_
    rw [State.floorplanGet_aligned fn true aligned which, State.giveHost_eq, State.starts_slot h]
    rfl
  case topo =>
    refine exec_started _ h ?_
    rw [State.topoGet_aligned fn aligned, State.giveHost_eq, State.starts_slot h]
    rfl

-- POWER_LIMIT (R427)

/-- Nothing but the always-on island and the host interface differs. -/
def State.OnlyAonHif (s t : State) : Prop := ∃ a h, t = { s with aon := a, hif := h }

theorem State.OnlyAonHif.refl (s : State) : s.OnlyAonHif s := ⟨s.aon, s.hif, rfl⟩

theorem State.OnlyAonHif.trans {s t u : State} (st : s.OnlyAonHif t) (tu : t.OnlyAonHif u) : s.OnlyAonHif u := by
  obtain ⟨a, h, rfl⟩ := st
  obtain ⟨b, k, rfl⟩ := tu
  exact ⟨b, k, rfl⟩

theorem State.OnlyHif.aonHif {s t : State} (h : s.OnlyHif t) : s.OnlyAonHif t := by
  obtain ⟨k, rfl⟩ := h
  exact ⟨s.aon, k, rfl⟩

/-- An alert changes only the sideband and its pin. -/
theorem State.alert_eq (s : State) (code : Nat) : ∃ pin sb, s.alert code = { s with aon := { s.aon with alertPin := pin, sb := sb } } := by
  unfold State.alert
  repeat' split
  · exact ⟨s.aon.alertPin, s.aon.sb, rfl⟩
  · exact ⟨_, _, rfl⟩
  · exact ⟨s.aon.alertPin, _, rfl⟩

theorem State.alert_onlyAonHif (s : State) (code : Nat) : s.OnlyAonHif (s.alert code) := by
  obtain ⟨pin, sb, h⟩ := s.alert_eq code
  exact ⟨_, s.hif, h⟩

@[simp] theorem State.alert_power (s : State) (code : Nat) : (s.alert code).aon.power = s.aon.power := by
  obtain ⟨pin, sb, h⟩ := s.alert_eq code
  rw [h]

theorem State.OnlyHif.aon {s t : State} (h : s.OnlyHif t) : t.aon = s.aon := by
  obtain ⟨k, rfl⟩ := h
  rfl

theorem State.postPower_onlyAonHif (s : State) (cause rail : Nat) : s.OnlyAonHif (s.postPower cause rail) :=
  (s.postPf0_onlyHif ..).aonHif.trans (State.alert_onlyAonHif _ _)

@[simp] theorem State.postPower_power (s : State) (cause rail : Nat) : (s.postPower cause rail).aon.power = s.aon.power := by
  rw [State.postPower, State.alert_power, (s.postPf0_onlyHif ..).aon]

/-- What completes changes the host interface and the list of waiting POWER_LIMIT commands. -/
theorem State.limitReached_eq (s : State) : ∃ l h, s.limitReached = { s with aon := { s.aon with power := { s.aon.power with limitCmds := l } }, hif := h } := by
  unfold State.limitReached
  dsimp only
  split
  · exact ⟨s.aon.power.limitCmds, s.hif, rfl⟩
  · obtain ⟨h, done⟩ := forAll_rel State.OnlyHif.refl State.OnlyHif.trans
      (fun (c : Nat × Nat) u => u.complete_onlyHif c.1 c.2 stOk 0 (s.aon.power.requested + 65536 * s.aon.power.inEffect) 0)
      s.aon.power.limitCmds (s.modPower fun q => { q with limitCmds := [] })
    exact ⟨[], h, done⟩

theorem State.limitReached_onlyAonHif (s : State) : s.OnlyAonHif s.limitReached := by
  obtain ⟨l, h, e⟩ := s.limitReached_eq
  exact ⟨_, h, e⟩

/-- The requested limit is taken over while the command waits. -/
def State.takeLimit (s : State) (n : Nat) (c : Cmd) : State :=
  (s.modPower fun q => { q with requested := c.par 8 2, limitCmds := q.limitCmds ++ [(n, c.slot)] }).setCmd n c.slot { c with phase := .running }

theorem State.powerLimit_legal {s : State} {c : Cmd} (n : Nat) (low : 1400 ≤ c.par 8 2) (high : c.par 8 2 ≤ 2400) :
    ∃ u, s.powerLimit n c = u.limitReached ∧ (s.takeLimit n c).OnlyAonHif u ∧ u.aon.power = (s.takeLimit n c).aon.power := by
  have legal : ¬ (c.par 8 2 < 1400 ∨ 2400 < c.par 8 2) := by omega
  have nonzero : c.par 8 2 ≠ 0 := by omega
  simp only [State.powerLimit, nonzero, if_false, Bool.or_eq_true, decide_eq_true_eq, legal]
  split
  · exact ⟨s.takeLimit n c, rfl, .refl _, rfl⟩
  · exact ⟨(s.takeLimit n c).postPower 0 0xFF, rfl, State.postPower_onlyAonHif .., State.postPower_power ..⟩

/-- Settles O24: a read, a value out of range, a legal value. -/
theorem powerLimitCommand : Obligations.PowerLimitCommand := by
  refine ⟨fun fn slot c s h zero => ?read, fun fn slot c s h nonzero out => ?range, fun fn slot c s h low high => ?legal⟩
  case read =>
    refine exec_started _ h ?_
    rw [State.powerLimit, if_pos zero, State.starts_slot h]
    rfl
  case range =>
    refine exec_started _ h ?_
    simp only [State.powerLimit, if_neg nonzero, Bool.or_eq_true, decide_eq_true_eq, if_pos out, State.starts_slot h]
    rfl
  case legal =>
    obtain ⟨u, legal, ⟨a, k, only⟩, power⟩ := State.powerLimit_legal (s := s) fn.val low high
    obtain ⟨l, i, reached⟩ := u.limitReached_eq
    refine ⟨_, exec_started _ h legal, ?_⟩
    rw [reached, power, only]
    exact ⟨rfl, rfl, rfl, rfl, rfl, fun a => rfl⟩

-- Sill's requests (R437, R445, R447)

theorem State.sillLow_free {s : State} (j : SillJob) (free : s.sill.cur = none) : s.sillLow j = { s with sill := { s.sill with cur := some j } } := by
  rw [State.sillLow, free]

theorem State.sillLow_busy {s : State} (j : SillJob) (busy : s.sill.cur ≠ none) : s.sillLow j = { s with sill := { s.sill with low := s.sill.low ++ [j] } } := by
  obtain ⟨k, hk⟩ := Option.ne_none_iff_exists'.1 busy
  rw [State.sillLow, hk]

/-- The operation was not its request's last: the request goes back to the front of its queue. -/
theorem State.sillAgain_eq {s : State} {j : SillJob} (serves : s.sill.cur = some j) :
    s.sillAgain = { s with sill := sillPick { s.sill with low := j :: s.sill.low } } := by
  rw [State.sillAgain, serves]
  rfl

/-- With both queues empty Sill serves nothing next. -/
theorem sillPick_empty {x : Sill} (high : x.high = []) (low : x.low = []) : sillPick x = { x with cur := none } := by
  rw [sillPick, high, low]

/-- The session that a key exchange opens. -/
theorem State.spdmDone_keyExchange {s : State} {n : Nat} (closed : s.session n = false) :
    s.spdmDone n .keyExchange = { s with sill := { s.sill with
      responses := tset s.sill.responses n (tget s.sill.responses n 0 + 1), signatures := satAdd max16 s.sill.signatures 1,
      open_ := s.sill.open_ ||| BitVec.ofNat 9 (2 ^ n), sessions := satAdd max16 s.sill.sessions 1 } } := by
  have still : (s.sill.open_).getLsbD n = false := closed
  simp [State.spdmDone, State.countSignature, State.modSill, State.session, still]

theorem getLsbD_orBit9 (x : BitVec 9) (n : Fin 9) : (x ||| BitVec.ofNat 9 (2 ^ n.val)).getLsbD n = true := by
  have bitSet : (BitVec.ofNat 9 (2 ^ n.val)).getLsbD n = true := by
    fin_cases n <;> decide
  rw [BitVec.getLsbD_or, bitSet, Bool.or_true]

/-- Settles O25: the requests that wait, the FW_UPDATE that is refused, and what an operation's end does. -/
theorem sillRequests : Obligations.SillRequests := by
  refine ⟨fun fn slot c s h free => ?attest, fun fn slot c s h idle free low high => ?update, fun fn slot c s h busy => ?second,
    fun fn r s there runs busy => ?spdm, fun fn slot s runs serves => ?again, fun fn s runs serves closed high low => ?last⟩
  case attest =>
    refine exec_started _ h ?_
    rw [State.attest, State.starts_slot h]
    exact State.sillLow_free _ free
  case update =>
    refine exec_started _ h ?_
    have len : ¬ (c.par 0x10 4 < 3424 ∨ 33554432 < c.par 0x10 4) := by omega
    simp only [State.fwUpdate, idle, Option.isSome_none, Bool.false_eq_true, if_false, Bool.or_eq_true, decide_eq_true_eq, if_neg len, State.starts_slot h]
    exact State.sillLow_free _ free
  case second =>
    refine exec_started _ h ?_
    rw [State.fwUpdate, if_pos (Option.isSome_iff_ne_none.2 busy), State.invalid, State.starts_slot h]
    rfl
  case spdm =>
    have served : (s.present fn && s.sill.state == 1) = true := by simp [there, runs]
    exact congrArg Host.Outcome.next ((if_pos served).trans (State.sillLow_busy _ busy))
  case again =>
    have goesOn : s.sillOp false = s.sillAgain := by simp [State.sillOp, runs, serves]
    exact congrArg Host.Outcome.next (goesOn.trans (State.sillAgain_eq serves))
  case last =>
    have ends : s.sillOp true = s.sillNext.spdmDone fn .keyExchange := by simp [State.sillOp, runs, serves]
    have next : s.sillNext = { s with sill := { s.sill with cur := none } } := by rw [State.sillNext, sillPick_empty high low]
    have opens := State.spdmDone_keyExchange (s := s.sillNext) (n := fn) (by rw [next]; exact closed)
    refine ⟨_, congrArg Host.Outcome.next (ends.trans opens), ?_⟩
    rw [next]
    exact ⟨getLsbD_orBit9 _ fn, rfl, rfl, rfl, rfl, rfl, sameBytes_of_eq rfl rfl⟩

-- FW_UPDATE (R445)

/-- Taking the next request changes only the queues and the request served. -/
theorem sillPick_eq (x : Sill) : ∃ c h l, sillPick x = { x with cur := c, high := h, low := l } := by
  rw [sillPick]
  split
  · exact ⟨_, _, x.low, rfl⟩
  · exact ⟨_, x.high, _, rfl⟩
  · exact ⟨_, x.high, x.low, rfl⟩

/-- The end of an update changes only Sill: no update stands and the next request is taken. -/
theorem State.updateEnds_eq (s : State) : ∃ c h l, s.updateEnds = { s with sill := { s.sill with update := none, cur := c, high := h, low := l } } := by
  obtain ⟨c, h, l, e⟩ := sillPick_eq { s.sill with update := none }
  refine ⟨c, h, l, ?_⟩
  rw [State.updateEnds, State.sillNext, State.modSill, e]

@[simp] theorem State.updateSlot_updateEnds (s : State) : s.updateEnds.updateSlot = s.updateSlot := by
  obtain ⟨c, h, l, e⟩ := s.updateEnds_eq
  rw [e]
  rfl

theorem State.imageWritten_unusable {s : State} {u : FwUpdate} {c : Cmd} (now : s.updateNow true = some (u, c)) (bad : imgUsable u.image s.flash = false) :
    s.imageWritten true = s.updateEnds.done u.fn u.slot stCmdInvalid 4 := by
  simp [State.imageWritten, now, bad]

theorem State.imageWritten_usable {s : State} {u : FwUpdate} {c : Cmd} (now : s.updateNow true = some (u, c)) (good : imgUsable u.image s.flash = true) :
    s.imageWritten true = State.complete { s.updateEnds with flash := { s.flash with
      images := tset s.flash.images s.updateSlot u.image, pending := true, pendingSlot := s.updateSlot, tried := false, fallback := false } }
      u.fn u.slot stOk 0 (imgVersion u.image) 0 := by
  simp [State.imageWritten, now, good]

/-- Settles O26: the image read, the image written, and the read that failed. -/
theorem firmwareUpdate : Obligations.FirmwareUpdate := by
  refine ⟨fun bs u c s now => ?checked, fun u c s now => ?written, fun why u c s now => ?failed⟩
  case checked =>
    refine congrArg Host.Outcome.next ?_
    simp only [State.imageChecked, now]
    cases s.imageRejected (cut bs 0 (c.par 0x10 4)) (c.par 0x10 4) <;> rfl
  case written =>
    obtain ⟨cur, high, low, ends⟩ := s.updateEnds_eq
    cases good : imgUsable u.image s.flash with
    | true =>
      obtain ⟨k, only⟩ := State.complete_onlyHif { s.updateEnds with flash := { s.flash with
        images := tset s.flash.images s.updateSlot u.image, pending := true, pendingSlot := s.updateSlot, tried := false, fallback := false } }
        u.fn u.slot stOk 0 (imgVersion u.image) 0
      refine ⟨_, congrArg Host.Outcome.next ((State.imageWritten_usable now good).trans only), ?_⟩
      rw [ends]
      exact ⟨rfl, rfl, rfl, fun a => rfl, rfl, rfl, rfl, rfl, tget_tset_same .., rfl⟩
    | false =>
      obtain ⟨k, only⟩ := s.updateEnds.done_onlyHif u.fn u.slot stCmdInvalid 4
      refine ⟨_, congrArg Host.Outcome.next ((State.imageWritten_unusable now good).trans only), ?_⟩
      rw [ends]
      exact ⟨rfl, rfl, rfl, fun a => rfl, rfl⟩
  case failed =>
    refine congrArg Host.Outcome.next ?_
    simp only [State.imageChecked, now]
    rfl

end Sys2Proof.Machine

/-! PROOF. The island, the rails and the stages (O6, O7, O60): what starting and stopping rails changes, what a module fault leaves, and what reset leaves (R422, R429, R460, R461, R464, R465). -/

namespace Sys2Proof.Machine

-- Rails

/-- Two states that differ at most in the rails of the island. -/
def State.OnlyRails (s t : State) : Prop := ∃ r, t = s.modAon fun a => { a with rails := r }

theorem State.OnlyRails.refl (s : State) : s.OnlyRails s := ⟨s.aon.rails, rfl⟩

theorem State.OnlyRails.trans {s t u : State} (st : s.OnlyRails t) (tu : t.OnlyRails u) : s.OnlyRails u := by
  obtain ⟨r, rfl⟩ := st
  obtain ⟨q, rfl⟩ := tu
  exact ⟨q, rfl⟩

theorem State.setRail_onlyRails (s : State) (n : Nat) (x : RailState) : s.OnlyRails (s.setRail n x) := ⟨_, rfl⟩

@[simp] theorem State.rail_setRail_same (s : State) (n : Nat) (x : RailState) : (s.setRail n x).rail n = x := tget_tset_same ..

theorem State.rail_setRail_ne (s : State) {n m : Nat} (x : RailState) (h : m ≠ n) : (s.setRail n x).rail m = s.rail m := tget_tset_ne _ _ _ h

/-- A rail that is not off stays as it is while the rails of a group are enabled. -/
theorem State.rail_enable (s : State) (g : List Nat) {m : Nat} (on : s.rail m ≠ .off) :
    (forAll g (fun n t => if t.rail n == .off then t.setRail n .enabling else t) s).rail m = s.rail m := by
  induction g generalizing s with
  | nil => rfl
  | cons n r ih =>
    have one : (if s.rail n == .off then s.setRail n .enabling else s).rail m = s.rail m := by
      split
      next off => exact s.rail_setRail_ne _ fun e => on (e ▸ beq_iff_eq.1 off)
      next => rfl
    exact (ih _ (one ▸ on)).trans one

theorem State.nextRails_onlyRails (s : State) (l : List (List Nat)) : s.OnlyRails (s.nextRails l).1 := by
  induction l with
  | nil => exact .refl s
  | cons g r ih =>
    unfold State.nextRails
    split
    · exact ih
    · refine forAll_rel State.OnlyRails.refl State.OnlyRails.trans (fun n t => ?_) g s
      split
      · exact t.setRail_onlyRails n _
      · exact .refl t

theorem State.rail_nextRails (s : State) (l : List (List Nat)) {m : Nat} (on : s.rail m ≠ .off) : (s.nextRails l).1.rail m = s.rail m := by
  induction l with
  | nil => rfl
  | cons g r ih =>
    unfold State.nextRails
    split
    · exact ih
    · exact s.rail_enable g on

/-- Starting the next rails changes the island, the power-on count and whether the link is up. -/
theorem State.startRails_eq (s : State) : ∃ a f up, s.startRails = { s with aon := a, flash := f, hif := { s.hif with linkUp := up } } := by
  obtain ⟨r, next⟩ := s.nextRails_onlyRails railGroups
  unfold State.startRails
  dsimp only
  rw [next]
  split
  · exact ⟨_, _, _, rfl⟩
  · exact ⟨_, s.flash, s.hif.linkUp, rfl⟩

theorem State.rail_startRails (s : State) {m : Nat} (on : s.rail m ≠ .off) : s.startRails.rail m = s.rail m := by
  rw [← s.rail_nextRails railGroups on, State.startRails]
  split <;> rfl

/-- A rail that has just come on, or is left unpowered, stays so as the next rails start, and nothing outside the island, the flash and the link changes. -/
theorem State.startRails_setRail (s : State) (n : Nat) {x : RailState} (on : x ≠ .off) :
    (s.setRail n x).startRails.rail n = x ∧ sameBytes s (s.setRail n x).startRails ∧ (s.setRail n x).startRails.plan = s.plan
      ∧ (s.setRail n x).startRails.ctxs = s.ctxs := by
  have kept := (s.setRail n x).rail_startRails (m := n) (by rw [s.rail_setRail_same]; exact on)
  obtain ⟨a, f, up, started⟩ := (s.setRail n x).startRails_eq
  refine ⟨kept.trans (s.rail_setRail_same n x), ?_⟩
  rw [started]
  exact ⟨sameBytes_of_eq rfl rfl, rfl, rfl⟩

theorem State.railsDown_onlyAon (s : State) : ∃ r off, s.railsDown = s.modAon fun a => { a with rails := r, turningOff := off } := by
  unfold State.railsDown
  split
  · exact ⟨s.aon.rails, false, rfl⟩
  next g _ =>
    obtain ⟨r, down⟩ := forAll_rel State.OnlyRails.refl State.OnlyRails.trans (fun n t => show t.OnlyRails (if t.rail n == .good || t.rail n == .enabling then t.setRail n .fallingOff else t) by
      split
      · exact t.setRail_onlyRails n _
      · exact .refl t) g s
    exact ⟨r, s.aon.turningOff, down⟩

theorem State.rail_railsDown (s : State) {m : Nat} (off : s.rail m = .off) : s.railsDown.rail m = .off := by
  unfold State.railsDown
  split
  · exact off
  next g _ =>
    clear * - off
    induction g generalizing s with
    | nil => exact off
    | cons n r ih =>
      refine ih (if s.rail n == .good || s.rail n == .enabling then s.setRail n .fallingOff else s) ?_
      split
      next on =>
        rw [s.rail_setRail_ne _ fun e => ?_, off]
        simp [← e, off] at on
      next => exact off

/-- With the rails, PWR_OK falls and everything they power is lost. -/
theorem State.railsOff_eq (s : State) : ∃ r off p j, s.railsOff = s.loseAll.modAon fun a =>
    { a with rails := r, turningOff := off, pwrOk := false, power := p, joiners := j } := by
  obtain ⟨r, off, down⟩ := (s.loseAll.modAon fun a =>
    { a with pwrOk := false, turningOff := true,
             power := { a.power with clocksOn := false, division := false, tripDivision := false, change := none, limitCmds := [] },
             joiners := ⟨{ a.joiners.h0 with running := false, restarting := false }, { a.joiners.h1 with running := false, restarting := false }⟩ }).railsDown_onlyAon
  exact ⟨r, off, _, _, down⟩

/-- A module fault: FAULT#, the recorded cause and rail, PWR_OK low, every page lost, the flash as before. -/
theorem State.moduleFault_leaves (s : State) (cause rail : Nat) :
    (s.moduleFault cause rail).aon.faultPin = true ∧ (s.moduleFault cause rail).aon.pwrOk = false
      ∧ (s.moduleFault cause rail).aon.thermal.tripCause = cause ∧ (s.moduleFault cause rail).aon.thermal.tripRail = rail
      ∧ (s.moduleFault cause rail).pages = [] ∧ (s.moduleFault cause rail).flash = s.flash := by
  have flash := s.moduleFault_flash cause rail
  unfold State.moduleFault at flash ⊢
  dsimp only at flash ⊢
  obtain ⟨pin, sb, alerted⟩ := (((s.postPower 4 rail).modAon fun a => { a with faultPin := true }).modThermal
    fun x => { x with tripCause := cause, tripRail := rail }).alert_eq 0x20
  rw [alerted] at flash ⊢
  obtain ⟨r, off, p, j, gone⟩ := State.railsOff_eq { (((s.postPower 4 rail).modAon fun a => { a with faultPin := true }).modThermal
    fun x => { x with tripCause := cause, tripRail := rail }) with aon := { (((s.postPower 4 rail).modAon fun a => { a with faultPin := true }).modThermal
    fun x => { x with tripCause := cause, tripRail := rail }).aon with alertPin := pin, sb := sb } }
  rw [gone] at flash ⊢
  exact ⟨rfl, rfl, rfl, rfl, rfl, flash⟩

/-- Settles O6: AON_PWRGD rises and falls. -/
theorem islandPower : Obligations.IslandPower := by
  refine ⟨fun mode addr s off => ?rises, fun s on => ?falls⟩
  case rises =>
    have started : ∃ b : Aon, s.powerOn mode addr = State.setRail { s.loseAll with aon := b } 7 .enabling ∧ b.powered = true ∧ b.sb.mode = mode ∧ b.sb.addr = addr
        ∧ b.boot.stage = 1 ∧ b.rails = [] ∧ b.pwrOk = false ∧ b.ticks = ⟨0, 0⟩ := by
      unfold State.powerOn
      rw [off]
      exact ⟨_, rfl, rfl, rfl, rfl, rfl, rfl, rfl, rfl⟩
    obtain ⟨b, start, powered, sbMode, sbAddr, stage, rails, low, ticks⟩ := started
    refine ⟨_, congrArg Host.Outcome.next start, powered, sbMode, sbAddr, stage, State.rail_setRail_same .., fun n ne => ?_, low, ?_, ?_, rfl, rfl, rfl, rfl⟩
    · rw [State.rail_setRail_ne _ _ ne]
      simp only [State.rail, rails]
      rfl
    · exact congrArg PerHalf.h0 ticks
    · exact congrArg PerHalf.h1 ticks
  case falls =>
    have fell : s.powerOff = { s.railsOff with aon := { ({} : Aon) with rails := s.railsOff.aon.rails, turningOff := s.railsOff.aon.turningOff } } := by
      unfold State.powerOff
      rw [on]
      rfl
    refine ⟨_, congrArg Host.Outcome.next fell, rfl, rfl, rfl, rfl, rfl, rfl, rfl, rfl, ?_, ?_, State.railsOff_flash s, State.railsOff_pending s⟩
    all_goals
      obtain ⟨r, off, p, j, gone⟩ := s.railsOff_eq
      rw [gone]
      rfl

/-- A rail that misses its bound while it is being enabled, and is no unanswering site's, is a rail fault. -/
theorem State.railLate_fault {s : State} {n : Nat} {answers : Bool} (enabling : s.rail n = .enabling) (up : s.aon.turningOff = false)
    (here : n < 8 ∨ answers = true) : s.railLate n answers = s.moduleFault 2 (if n < 8 then n else 0xFF) := by
  have fault : ¬ (8 ≤ n ∧ answers = false) := by
    rintro ⟨far, silent⟩
    rcases here with near | there
    · omega
    · simp [silent] at there
  simp [State.railLate, enabling, up, fault]

/-- Settles O7: rails that come, that stay away, that fall, that miss their bound, and polls of the stages. -/
theorem railsAndStages : Obligations.RailsAndStages := by
  refine ⟨fun rail s enabling up => ?good, fun m s enabling up => ?absent, fun rail s falling => ?off, fun rail answers s enabling up here => ?late,
    fun mv cur s on due => ?quiet, fun n mv cur s on due good => ?fault⟩
  case good =>
    refine ⟨_, congrArg Host.Outcome.next ?_, s.startRails_setRail (railNum rail) (x := .good) (by decide)⟩
    simp [State.railGood, enabling, up]
  case absent =>
    refine ⟨_, congrArg Host.Outcome.next ?_, s.startRails_setRail (railNum (.site m)) (x := .absent) (by decide)⟩
    have far : 8 ≤ railNum (.site m) := Nat.le_add_right 8 m
    simp [State.railLate, enabling, up, far]
  case off =>
    have fell : s.railDown (railNum rail) = if (s.setRail (railNum rail) .off).aon.turningOff then (s.setRail (railNum rail) .off).railsDown else s.setRail (railNum rail) .off := by
      simp [State.railDown, falling]
    refine ⟨_, congrArg Host.Outcome.next fell, ?_⟩
    split
    · have off := (s.setRail (railNum rail) .off).rail_railsDown (s.rail_setRail_same (railNum rail) .off)
      obtain ⟨r, o, down⟩ := (s.setRail (railNum rail) .off).railsDown_onlyAon
      refine ⟨off, ?_⟩
      rw [down]
      exact ⟨sameBytes_of_eq rfl rfl, rfl, rfl⟩
    · exact ⟨s.rail_setRail_same _ _, sameBytes_of_eq rfl rfl, rfl, rfl⟩
  case late =>
    exact ⟨_, congrArg Host.Outcome.next (State.railLate_fault enabling up here), s.moduleFault_leaves 2 _⟩
  case quiet =>
    have read : s.poll ⟨mv, cur, [], [], [], []⟩
        = s.modPower fun p => { p with polled := some (s.now .h0), railMv := listed mv, railCurrent := listed cur, missed := [] } := by
      simp [State.poll, on, due, polls, missedAfter]
    exact congrArg Host.Outcome.next read
  case fault =>
    refine ⟨(s.modPower fun p => { p with polled := some (s.now .h0), railMv := listed mv, railCurrent := listed cur, missed := [] }).moduleFault 2 n,
      congrArg Host.Outcome.next ?_, State.moduleFault_leaves _ 2 n⟩
    simp [State.poll, on, due, polls, missedAfter, good]

/-- Settles O60: reset is the state of empty tables and default records. -/
theorem resetValues : Obligations.ResetValues :=
  ⟨rfl, rfl, rfl, rfl, rfl, rfl, fun _ => rfl, fun _ => ⟨rfl, rfl, rfl, rfl⟩, fun _ => ⟨rfl, rfl, rfl⟩, rfl, reset_memWf⟩

end Sys2Proof.Machine

/-! PROOF. The power-on sequence (O8 to O13): what a service write, a conflict of the king post and the end of each step change, and then the steps themselves (R45, R224, R410 to R412, R416 to R420, R441, R442). -/

namespace Sys2Proof.Machine

-- Service writes

/-- Two states that differ at most in the service write, in the cores out of use and in what Sill serves. -/
def State.OnlyService (s t : State) : Prop := ∃ sc w o v c h,
  t = { s with scribe := sc, svcWait := w, svcOwed := o, svc := v, sill := { s.sill with cur := c, high := h } }

theorem State.OnlyService.refl (s : State) : s.OnlyService s := ⟨s.scribe, s.svcWait, s.svcOwed, s.svc, s.sill.cur, s.sill.high, rfl⟩

theorem State.OnlyService.trans {s t u : State} (st : s.OnlyService t) (tu : t.OnlyService u) : s.OnlyService u := by
  obtain ⟨_, _, _, _, _, _, rfl⟩ := st
  obtain ⟨sc, w, o, v, c, h, rfl⟩ := tu
  exact ⟨sc, w, o, v, c, h, rfl⟩

theorem State.sillHigh_onlyService (s : State) (j : SillJob) : s.OnlyService (s.sillHigh j) := by
  unfold State.sillHigh
  split
  · exact ⟨s.scribe, s.svcWait, s.svcOwed, s.svc, _, s.sill.high, rfl⟩
  · exact ⟨s.scribe, s.svcWait, s.svcOwed, s.svc, s.sill.cur, _, rfl⟩

theorem State.startService_onlyService (s : State) (boot : Bool) : s.OnlyService (s.startService boot) := by
  unfold State.startService
  dsimp only
  repeat' split
  · exact .refl s
  · exact ⟨_, _, _, s.svc, s.sill.cur, s.sill.high, rfl⟩
  · exact .refl s
  · exact ⟨_, _, s.svcOwed, s.svc, s.sill.cur, s.sill.high, rfl⟩
  · exact State.OnlyService.trans ⟨_, _, _, _, s.sill.cur, s.sill.high, rfl⟩ (State.sillHigh_onlyService _ _)

theorem State.oweService_onlyService (s : State) : s.OnlyService s.oweService := by
  have owed : s.OnlyService { s with svcOwed := true } := ⟨s.scribe, s.svcWait, true, s.svc, s.sill.cur, s.sill.high, rfl⟩
  unfold State.oweService
  dsimp only
  split
  · exact owed.trans (State.startService_onlyService _ _)
  · exact owed

/-- A core that takes no tile: it is excluded for the session, or quarantined. -/
def State.outOfUse (s : State) (core : Nat) : Prop := core ∈ s.scribe.excluded ∨ core ∈ s.scribe.quarantined

theorem State.outOfUse.coreGood {s : State} {core : Nat} (h : s.outOfUse core) : s.coreGood core = false := by
  rcases h with h | h <;> simp [State.coreGood, h]

theorem mem_excluded_or_kept {core : Nat} {excluded quarantined out : List Nat} (h : core ∈ excluded ∨ core ∈ quarantined) :
    core ∈ excluded ++ out ∨ core ∈ quarantined.filter fun c => !out.contains c := by
  by_cases gone : core ∈ out
  · exact .inl (List.mem_append_right _ gone)
  · rcases h with h | h
    · exact .inl (List.mem_append_left _ h)
    · exact .inr (List.mem_filter.2 ⟨h, by simp [gone]⟩)

@[simp] theorem State.sillHigh_scribe (s : State) (j : SillJob) : (s.sillHigh j).scribe = s.scribe := by
  unfold State.sillHigh
  split <;> rfl

/-- A service write lets no core back into use: one it takes out of quarantine is excluded. -/
theorem State.startService_outOfUse {s : State} {core : Nat} (boot : Bool) (h : s.outOfUse core) : (s.startService boot).outOfUse core := by
  unfold State.startService
  dsimp only
  split
  · exact h
  · split
    · exact mem_excluded_or_kept h
    · split
      · exact h
      · split
        · exact mem_excluded_or_kept h
        · unfold State.outOfUse
          rw [State.sillHigh_scribe]
          exact mem_excluded_or_kept h

-- The end of a step

/-- Two states that differ at most in the step of the power-on sequence, which does not go back. -/
def State.OnlyStage (s t : State) : Prop := ∃ n k, s.aon.boot.stage ≤ n ∧ t = s.modBoot fun b => { b with stage := n, stageTick := k }

theorem State.OnlyStage.refl (s : State) : s.OnlyStage s := ⟨s.aon.boot.stage, s.aon.boot.stageTick, le_rfl, rfl⟩

theorem State.OnlyStage.trans {s t u : State} (st : s.OnlyStage t) (tu : t.OnlyStage u) : s.OnlyStage u := by
  obtain ⟨n, _, le, rfl⟩ := st
  obtain ⟨m, k, ge, rfl⟩ := tu
  exact ⟨m, k, le_trans le ge, rfl⟩

theorem State.setStage_onlyStage {s : State} {n : Nat} (h : s.aon.boot.stage ≤ n) : s.OnlyStage (s.setStage n) := ⟨n, s.now .h0, h, rfl⟩

theorem State.bootLinks_onlyStage (s : State) : s.OnlyStage s.bootLinks := by
  unfold State.bootLinks
  split
  next h =>
    have now : s.aon.boot.stage = 7 := of_decide_eq_true (Bool.and_eq_true_iff.1 h).1
    exact State.setStage_onlyStage (by omega)
  next => exact .refl s

theorem State.bootYard_onlyStage (s : State) : s.OnlyStage s.bootYard := by
  unfold State.bootYard
  split
  next h =>
    have now : s.aon.boot.stage = 6 := of_decide_eq_true (Bool.and_eq_true_iff.1 h).1
    exact (State.setStage_onlyStage (by omega)).trans (State.bootLinks_onlyStage _)
  next => exact .refl s

/-- Two states that differ at most in the boot record, the flash and a service write. -/
def State.OnlyBoot (s t : State) : Prop := ∃ b f, State.OnlyService { s with aon := { s.aon with boot := b }, flash := f } t

theorem State.OnlyBoot.trans {s t u : State} (st : s.OnlyBoot t) (tu : t.OnlyBoot u) : s.OnlyBoot u := by
  obtain ⟨_, _, _, _, _, _, _, _, rfl⟩ := st
  obtain ⟨b, f, sc, w, o, v, c, h, rfl⟩ := tu
  exact ⟨b, f, sc, w, o, v, c, h, rfl⟩

theorem State.OnlyService.onlyBoot {s t : State} (h : s.OnlyService t) : s.OnlyBoot t := ⟨s.aon.boot, s.flash, h⟩

theorem State.OnlyStage.onlyBoot {s t : State} (h : s.OnlyStage t) : s.OnlyBoot t := by
  obtain ⟨n, k, _, rfl⟩ := h
  exact ⟨_, s.flash, .refl _⟩

theorem State.OnlyBoot.bytes {s t : State} (h : s.OnlyBoot t) : sameBytes s t := by
  obtain ⟨b, f, _, _, _, _, _, _, rfl⟩ := h
  exact sameBytes_of_eq rfl rfl

theorem State.commitImage_onlyBoot (s : State) : s.OnlyBoot s.commitImage := by
  unfold State.commitImage
  split
  · exact ⟨s.aon.boot, _, .refl _⟩
  · exact State.OnlyService.onlyBoot (.refl s)

@[simp] theorem State.commitImage_scribe (s : State) : s.commitImage.scribe = s.scribe := by
  unfold State.commitImage
  split <;> rfl

@[simp] theorem State.makeReady_scribe (s : State) : s.makeReady.scribe = s.scribe := by
  unfold State.makeReady
  split
  · exact State.commitImage_scribe _
  · rfl

theorem State.makeReady_onlyBoot (s : State) : s.OnlyBoot s.makeReady := by
  unfold State.makeReady
  split
  · exact State.OnlyBoot.trans ⟨{ s.aon.boot with stage := 12, stageTick := s.now .h0, ready := true }, s.flash, .refl _⟩ (State.commitImage_onlyBoot _)
  · exact State.OnlyService.onlyBoot (.refl s)

theorem State.finishBoot_onlyBoot (s : State) : s.OnlyBoot s.finishBoot := by
  unfold State.finishBoot
  dsimp only
  split
  · exact (s.startService_onlyService true).onlyBoot
  · exact (s.startService_onlyService true).onlyBoot.trans (State.makeReady_onlyBoot _)

theorem State.finishBoot_outOfUse {s : State} {core : Nat} (h : s.outOfUse core) : s.finishBoot.outOfUse core := by
  unfold State.finishBoot
  dsimp only
  split
  · exact State.startService_outOfUse true h
  · unfold State.outOfUse
    rw [State.makeReady_scribe]
    exact State.startService_outOfUse true h

theorem State.resumeBoot_onlyBoot (s : State) : s.OnlyBoot s.resumeBoot := by
  unfold State.resumeBoot
  split
  · exact s.finishBoot_onlyBoot
  · exact State.OnlyService.onlyBoot (.refl s)

theorem State.bootCores_onlyBoot (s : State) : s.OnlyBoot s.bootCores := by
  have ten : s.OnlyBoot (s.setStage 10) := ⟨_, s.flash, .refl _⟩
  have eleven (t : State) : t.OnlyBoot (t.setStage 11) := ⟨_, t.flash, .refl _⟩
  unfold State.bootCores
  dsimp only
  split
  · split
    · exact (ten.trans (eleven _)).trans (State.finishBoot_onlyBoot _)
    · exact ten
  · split
    · exact (eleven s).trans (State.finishBoot_onlyBoot _)
    · exact State.OnlyService.onlyBoot (.refl s)

theorem State.bootCores_outOfUse {s : State} {core : Nat} (h : s.outOfUse core) : s.bootCores.outOfUse core := by
  have tail (t : State) (ht : t.outOfUse core) : State.outOfUse (if t.aon.boot.stage = 10 && t.allTested then (t.setStage 11).finishBoot else t) core := by
    split
    · exact State.finishBoot_outOfUse ht
    · exact ht
  unfold State.bootCores
  dsimp only
  refine tail _ ?_
  split <;> exact h

/-- While cores lack microcode, step 10 does not end. -/
theorem State.bootCores_missing {s : State} (stage : s.aon.boot.stage = 9) (lacks : s.aon.boot.missing ≠ []) : s.bootCores = s := by
  simp [State.bootCores, stage, lacks]

-- The king post's claims

/-- Two states that differ at most in the host interface, in the king post's claims and conflict, and in a service write. -/
def State.OnlyClaims (s t : State) : Prop := ∃ c x b i, State.OnlyService { s with
  aon := { s.aon with king := { s.aon.king with claims := c, conflict := x, barred := b } }, hif := i } t

theorem State.OnlyClaims.refl (s : State) : s.OnlyClaims s := ⟨s.aon.king.claims, s.aon.king.conflict, s.aon.king.barred, s.hif, .refl s⟩

theorem State.OnlyClaims.trans {s t u : State} (st : s.OnlyClaims t) (tu : t.OnlyClaims u) : s.OnlyClaims u := by
  obtain ⟨_, _, _, _, _, _, _, _, _, _, rfl⟩ := st
  obtain ⟨c, x, b, i, sc, w, o, v, e, h, rfl⟩ := tu
  exact ⟨c, x, b, i, sc, w, o, v, e, h, rfl⟩

theorem State.OnlyHif.onlyClaims {s t : State} (h : s.OnlyHif t) : s.OnlyClaims t := by
  obtain ⟨i, rfl⟩ := h
  exact ⟨s.aon.king.claims, s.aon.king.conflict, s.aon.king.barred, i, .refl _⟩

theorem State.OnlyService.onlyClaims {s t : State} (h : s.OnlyService t) : s.OnlyClaims t :=
  ⟨s.aon.king.claims, s.aon.king.conflict, s.aon.king.barred, s.hif, h⟩

theorem State.OnlyClaims.holder {s t : State} (h : s.OnlyClaims t) : t.holder = s.holder := by
  obtain ⟨_, _, _, _, _, _, _, _, _, _, rfl⟩ := h
  rfl

/-- A conflict whose event is posted: CONFLICT is set and the half is barred. -/
theorem State.conflict_posts {s : State} (h : Half) (claim : Nat) (seen : BitVec 2) (first : s.aon.king.conflict = false) :
    s.conflict h claim seen =
      (let u := State.postPf0 (s.modAon fun a => { a with king := { a.king with conflict := true, barred := a.king.barred.set h true } }) 16 0xFF .h0
        (toLE 1 h.num ++ toLE 1 (holderNum s.holder) ++ toLE 1 claim ++ toLE 1 seen.toNat)
       if u.managed then u else u.startService false) := by
  simp [State.conflict, first]

/-- A conflict sets CONFLICT and bars the half; otherwise it changes only the host interface and a service write. -/
theorem State.conflict_onlyService (s : State) (h : Half) (claim : Nat) (seen : BitVec 2) : ∃ i, State.OnlyService { s with
    aon := { s.aon with king := { s.aon.king with conflict := true, barred := s.aon.king.barred.set h true } }, hif := i } (s.conflict h claim seen) := by
  have ends (u : State) : u.OnlyService (if u.managed then u else u.startService false) := by
    split
    · exact .refl u
    · exact u.startService_onlyService false
  unfold State.conflict
  dsimp only
  split
  · exact ⟨s.hif, ends _⟩
  · obtain ⟨i, posted⟩ := (s.modAon fun a => { a with king := { a.king with conflict := true, barred := a.king.barred.set h true } }).postPf0_onlyHif 16 0xFF .h0
      (toLE 1 h.num ++ toLE 1 (holderNum s.holder) ++ toLE 1 claim ++ toLE 1 seen.toNat)
    rw [posted]
    exact ⟨i, ends _⟩

theorem State.conflict_onlyClaims (s : State) (h : Half) (claim : Nat) (seen : BitVec 2) : s.OnlyClaims (s.conflict h claim seen) := by
  obtain ⟨i, only⟩ := s.conflict_onlyService h claim seen
  exact ⟨s.aon.king.claims, true, _, i, only⟩

theorem State.checkClaim_onlyClaims (s : State) (h : Half) (c : Claim) (seen : BitVec 2) : s.OnlyClaims (s.checkClaim h c seen) := by
  have claimed : s.OnlyClaims (s.modAon fun a => { a with king := { a.king with claims := a.king.claims.set h (some c) } }) :=
    ⟨_, s.aon.king.conflict, s.aon.king.barred, s.hif, .refl _⟩
  unfold State.checkClaim
  dsimp only
  split
  · exact claimed
  · exact claimed.trans (State.conflict_onlyClaims _ _ _ _)

theorem State.firstClaim_onlyClaims (s : State) (h : Half) (c : Claim) (seen : BitVec 2) : s.OnlyClaims (s.firstClaim h c seen) := by
  unfold State.firstClaim
  split
  · exact s.checkClaim_onlyClaims h c seen
  · exact .refl s

-- Sill's boot and the king post

/-- Settles O8: a failed self-test, and the first usable slot or the recovery loader. -/
theorem sillBoots : Obligations.SillBoots := by
  refine ⟨fun failing s on two idle fails => ?error, fun s on two idle => ?boots⟩
  case error =>
    have error : s.sillBoot failing = { (s.modBoot fun b => { b with fail := 1 }) with sill := { s.sill with state := 2, selftest := failing.val } } := by
      simp [State.sillBoot, on, two, idle, fails]
    exact congrArg Host.Outcome.next error
  case boots =>
    have goesOn : s.sillBoot (0 : Fin 7) =
        (match (bootOrder s.flash).1.find? (fun k => imgUsable ((bootOrder s.flash).2.image k) (bootOrder s.flash).2) with
        | none => State.recover { s with flash := (bootOrder s.flash).2, sill := { s.sill with state := 1 } } 1
        | some n => State.setStage { s with flash := (bootOrder s.flash).2, sill := { s.sill with state := 1, running := some n } } 3) := by
      simp [State.sillBoot, on, two, idle] <;> rfl
    refine congrArg Host.Outcome.next (goesOn.trans ?_)
    cases (bootOrder s.flash).1.find? (fun k => imgUsable ((bootOrder s.flash).2.image k) (bootOrder s.flash).2) <;> rfl

/-- A half's result goes into HALF_OK and starts its complex. -/
def State.resultIn (s : State) (h : Half) (passed : Bool) : State := s.modAon fun a => { a with
  king := { a.king with resultIn := a.king.resultIn.set h true, halfOk := a.king.halfOk.set h passed }
  joiners := a.joiners.set h { a.joiners.get h with running := passed, lastBeat := s.now h } }

theorem State.halfTested_first {s : State} {h : Half} (passed : Bool) (boots : s.booting = true) (three : s.aon.boot.stage = 3)
    (first : s.aon.king.resultIn.get h = false) :
    s.halfTested h passed = if s.aon.king.resultIn.get h.other = true then (s.resultIn h passed).setStage 4 else s.resultIn h passed := by
  have both : ((s.resultIn h passed).aon.king.resultIn.h0 && (s.resultIn h passed).aon.king.resultIn.h1) = s.aon.king.resultIn.get h.other := by
    cases h <;> simp [State.resultIn, PerHalf.set, PerHalf.get, Half.other]
  simp only [State.halfTested, boots, three, first]
  exact congrArg (fun b : Bool => if b = true then (s.resultIn h passed).setStage 4 else s.resultIn h passed) both

/-- The holder of the king post by the halves' self-tests (R410). -/
def grantee (ok : PerHalf Bool) : Option Half := if ok.h0 = true then some .h0 else if ok.h1 = true then some .h1 else none

/-- The state in which the granted king post's claims are compared. -/
def State.granted (s : State) : State :=
  let t := (s.modAon fun a => { a with king := { a.king with holder := grantee s.aon.king.halfOk } }).modBoot fun x => { x with fail := halfFail s.aon.king.halfOk }
  if (grantee s.aon.king.halfOk).isNone then t.recover 4 else t.setStage 5

theorem State.grant_due {s : State} (c0 c1 : Claim) (seen0 seen1 : BitVec 2) (boots : s.booting = true) (four : s.aon.boot.stage = 4) :
    s.grant c0 c1 seen0 seen1 = (s.granted.firstClaim .h0 c0 seen0).firstClaim .h1 c1 seen1 := by
  simp [State.grant, boots, four, State.granted, grantee]

theorem grantee_none {ok : PerHalf Bool} (h : grantee ok = none) : ok.h0 = false ∧ ok.h1 = false := by
  unfold grantee at h
  cases h0 : ok.h0 <;> cases h1 : ok.h1 <;> simp [h0, h1] at h ⊢

/-- What the grant leaves: the holder, FAIL, and either the recovery loader or step 5. -/
theorem State.granted_leaves (s : State) : s.granted.holder = grantee s.aon.king.halfOk ∧ s.granted.aon.boot.fail = halfFail s.aon.king.halfOk
    ∧ (grantee s.aon.king.halfOk = none → s.granted.sill.recovery = true) ∧ (grantee s.aon.king.halfOk ≠ none → s.granted.aon.boot.stage = 5)
    ∧ s.granted.mem = s.mem ∧ s.granted.flash = s.flash := by
  unfold State.granted
  dsimp only
  cases e : grantee s.aon.king.halfOk with
  | none =>
    obtain ⟨h0, h1⟩ := grantee_none e
    exact ⟨rfl, by simp [State.recover, halfFail, h0, h1], fun _ => rfl, fun ne => absurd rfl ne, rfl, rfl⟩
  | some h => exact ⟨rfl, rfl, fun no => by simp at no, fun _ => rfl, rfl, rfl⟩

/-- Settles O9: the halves' results, and the grant. -/
theorem halvesAndKingPost : Obligations.HalvesAndKingPost := by
  refine ⟨fun h passed s boots three first => ?result, fun c0 c1 seen0 seen1 s boots four => ?grant⟩
  case result =>
    refine ⟨_, congrArg Host.Outcome.next (State.halfTested_first passed boots three first), ?_⟩
    split
    · exact ⟨PerHalf.get_set_same .., PerHalf.get_set_other .., congrArg Joiner.running (PerHalf.get_set_same ..), rfl, rfl, rfl, rfl, rfl, sameBytes_of_eq rfl rfl⟩
    · exact ⟨PerHalf.get_set_same .., PerHalf.get_set_other .., congrArg Joiner.running (PerHalf.get_set_same ..), three, rfl, rfl, rfl, rfl, sameBytes_of_eq rfl rfl⟩
  case grant =>
    obtain ⟨holder, fail, recovery, five, mem, flash⟩ := s.granted_leaves
    have only := (s.granted.firstClaim_onlyClaims .h0 c0 seen0).trans (State.firstClaim_onlyClaims _ .h1 c1 seen1)
    refine ⟨_, congrArg Host.Outcome.next (State.grant_due c0 c1 seen0 seen1 boots four), ?_⟩
    obtain ⟨c, x, b, i, sc, w, o, v, e, g, after⟩ := only
    rw [after]
    refine ⟨fail, holder, fun none => recovery (holder.symm.trans none), fun some => five (holder ▸ some), fun a => congrArg (fun m => memRead m a) mem, congrArg Flash.variant flash⟩

end Sys2Proof.Machine

/-! PROOF. The floor plan's build, yard training, the start of bays and cores, and service writes (O10 to O13; R34, R36, R45, R224, R417, R419, R420). -/

namespace Sys2Proof.Machine

-- The live floor plan

/-- Two states that differ at most in the sites and the rails. -/
def State.OnlySites (s t : State) : Prop := ∃ x r, t = { s with sites := x, aon := { s.aon with rails := r } }

theorem State.OnlySites.refl (s : State) : s.OnlySites s := ⟨s.sites, s.aon.rails, rfl⟩

theorem State.OnlySites.trans {s t u : State} (st : s.OnlySites t) (tu : t.OnlySites u) : s.OnlySites u := by
  obtain ⟨_, _, rfl⟩ := st
  obtain ⟨x, r, rfl⟩ := tu
  exact ⟨x, r, rfl⟩

/-- The sites whose training starts with the plan, and the disabled ones, whose rails go off. -/
def State.startSites (s : State) : State := forAll (List.range 12) (fun m x =>
  if x.flash.variant.siteEnable.getLsbD m then
    (if x.halfIn (siteHalf m) then x.setSite m { x.site m with trial := some x.aon.rateTarget } else x)
  else if x.rail (8 + m) == .good then x.setRail (8 + m) .fallingOff else x) s

theorem State.startSites_onlySites (s : State) : s.OnlySites s.startSites := by
  refine forAll_rel State.OnlySites.refl State.OnlySites.trans (fun m x => ?_) (List.range 12) s
  split
  · split
    · exact ⟨_, x.aon.rails, rfl⟩
    · exact .refl x
  · split
    · exact ⟨x.sites, _, rfl⟩
    · exact .refl x

theorem State.planBuild_signed {s : State} (boots : s.booting = true) (five : s.aon.boot.stage = 5) (signed : s.flash.variant.sigOk = true) :
    s.planBuild = State.bootYard (State.setStage
      (if (State.startSites { s with plan := s.livePlan, planBuilt := true }).plan.halves == 3
       then State.startSites { s with plan := s.livePlan, planBuilt := true }
       else (State.startSites { s with plan := s.livePlan, planBuilt := true }).belowGuarantee) 6) := by
  simp only [State.planBuild, boots, five, signed]
  rfl

theorem State.belowGuarantee_onlyService (s : State) : State.OnlyService { s with plan := { s.plan with state := 1 } } s.belowGuarantee :=
  State.oweService_onlyService _

/-- Settles O10: the live plan, and a variant record that is not signed. -/
theorem liveFloorPlanIsBuilt : Obligations.LiveFloorPlanIsBuilt := by
  refine ⟨fun s boots five signed => ?built, fun s boots five unsigned => ?unsigned⟩
  case built =>
    refine ⟨_, congrArg Host.Outcome.next (State.planBuild_signed boots five signed), ?_⟩
    obtain ⟨x, r, started⟩ := State.startSites_onlySites { s with plan := s.livePlan, planBuilt := true }
    rw [started]
    obtain ⟨n, k, late, ended⟩ := State.bootYard_onlyStage (State.setStage
      (if (State.startSites { s with plan := s.livePlan, planBuilt := true }).plan.halves == 3
       then State.startSites { s with plan := s.livePlan, planBuilt := true }
       else (State.startSites { s with plan := s.livePlan, planBuilt := true }).belowGuarantee) 6)
    rw [started] at ended
    rw [ended]
    split
    · exact ⟨rfl, rfl, rfl, rfl, rfl, rfl, rfl, late, rfl, sameBytes_of_eq rfl rfl⟩
    · obtain ⟨_, _, _, _, _, _, owed⟩ := State.belowGuarantee_onlyService { s with plan := s.livePlan, planBuilt := true, sites := x, aon := { s.aon with rails := r } }
      rw [owed]
      exact ⟨rfl, rfl, rfl, rfl, rfl, rfl, rfl, late, rfl, sameBytes_of_eq rfl rfl⟩
  case unsigned =>
    have ends : s.planBuild = s.modBoot fun b => { b with fail := 5 } := by
      simp [State.planBuild, boots, five, unsigned]
    exact congrArg Host.Outcome.next ends

-- Yard training

/-- A failed site: SITE_STATE 2, trained, and the part in recovery service. -/
theorem State.siteFails_leaves (s : State) (m : Nat) : ((s.siteFails m).site m).trained = true ∧ ((s.siteFails m).plan.site m).state = 2
    ∧ (s.siteFails m).plan.state = 1 ∧ (s.siteFails m).flash = s.flash ∧ sameBytes s (s.siteFails m) := by
  unfold State.siteFails
  dsimp only
  obtain ⟨n, k, _, ended⟩ := State.bootYard_onlyStage (((s.setSite m { s.site m with trained := true, trial := none }).setSiteEntry m
    { (s.setSite m { s.site m with trained := true, trial := none }).plan.site m with state := 2 }).belowGuarantee)
  obtain ⟨_, _, _, _, _, _, owed⟩ := State.belowGuarantee_onlyService ((s.setSite m { s.site m with trained := true, trial := none }).setSiteEntry m
    { (s.setSite m { s.site m with trained := true, trial := none }).plan.site m with state := 2 })
  rw [ended, owed]
  exact ⟨congrArg Site.trained (tget_tset_same ..), congrArg SiteEntry.state (tget_tset_same ..), rfl, rfl, sameBytes_of_eq rfl rfl⟩

theorem State.siteInit_fails {s : State} {m : Nat} (boots : s.booting = true) (six : s.aon.boot.stage = 6) (trial : (s.site m).trial ≠ none)
    (first : (s.site m).initDone = false) (training : (s.site m).trained = false) : s.siteInit m false = s.siteFails m := by
  simp [State.siteInit, boots, six, trial, first, training]

/-- Settles O11: a site's initialisation and its training rounds. -/
theorem sitesTrain : Obligations.SitesTrain := by
  refine ⟨fun m s boots six trial first training good => ?ready, fun m s boots six trial first training => ?unlisted,
    fun m sub lanes r s boots six trial init training two => ?slower, fun m sub lanes s boots six trial init training two => ?lowest,
    fun m r s boots six trial init training => ?serves⟩
  case ready =>
    have ready : s.siteInit m true = s.setSite m { s.site m with initDone := true } := by
      simp [State.siteInit, boots, six, trial, first, training, good]
    exact congrArg Host.Outcome.next ready
  case unlisted =>
    exact ⟨_, congrArg Host.Outcome.next (State.siteInit_fails boots six trial first training), s.siteFails_leaves m⟩
  case slower =>
    have slower : s.siteRound m [(sub, lanes)] = s.setSite m { s.site m with trial := some r } := by
      simp [State.siteRound, boots, six, trial, init, training, failedTable, tset, two]
    exact congrArg Host.Outcome.next slower
  case lowest =>
    have fails : s.siteRound m [(sub, lanes)] = s.siteFails m := by
      simp [State.siteRound, boots, six, trial, init, training, failedTable, tset, two]
    obtain ⟨trained, entry, plan, _, _⟩ := s.siteFails_leaves m
    exact ⟨_, congrArg Host.Outcome.next fails, trained, entry, plan⟩
  case serves =>
    have serves : s.siteRound m [] = State.bootYard (
        let u := (s.setSite m { s.site m with rate := r, trial := none, trained := true, failed := [] }).setSiteEntry m ⟨0, 0, 0⟩
        { u with plan := { u.plan with siteMask := u.plan.siteMask ||| BitVec.ofNat 12 (2 ^ m.val) } }) := by
      simp only [State.siteRound, boots, six, trial, init, training]
      rfl
    refine ⟨_, congrArg Host.Outcome.next serves, ?_⟩
    obtain ⟨n, k, _, ended⟩ := State.bootYard_onlyStage (
        let u := (s.setSite m { s.site m with rate := r, trial := none, trained := true, failed := [] }).setSiteEntry m ⟨0, 0, 0⟩
        { u with plan := { u.plan with siteMask := u.plan.siteMask ||| BitVec.ofNat 12 (2 ^ m.val) } })
    rw [ended]
    refine ⟨congrArg Site.rate (tget_tset_same ..), congrArg Site.trained (tget_tset_same ..), congrArg SiteEntry.state (tget_tset_same ..), ?_, rfl, sameBytes_of_eq rfl rfl⟩
    show (s.plan.siteMask ||| BitVec.ofNat 12 (2 ^ m.val)).getLsbD m = true
    rw [BitVec.getLsbD_or, BitVec.getLsbD_ofNat, Nat.testBit_two_pow_self]
    simp [m.isLt]

-- Bays and cores

/-- The bays of a list that a wave starts. -/
def State.startBays (s : State) (l : List Nat) : State := forAll l (fun n x => if x.halfIn (bayHalf n) then x.setBay n { x.bay n with on := true } else x) s

theorem State.startBays_onlyBays (s : State) (l : List Nat) : ∃ b, s.startBays l = { s with bays := b } := by
  refine forAll_rel (R := fun s t => ∃ b, t = { s with bays := b }) (fun s => ⟨s.bays, rfl⟩) ?_ (fun n x => ?_) l s
  · rintro s t u ⟨b, rfl⟩ ⟨c, rfl⟩
    exact ⟨c, rfl⟩
  · split
    · exact ⟨_, rfl⟩
    · exact ⟨x.bays, rfl⟩

theorem State.bay_startBays_out (s : State) {l : List Nat} {n : Nat} (h : n ∉ l) : (s.startBays l).bay n = s.bay n := by
  induction l generalizing s with
  | nil => rfl
  | cons m r ih =>
    obtain ⟨ne, out⟩ := List.ne_and_not_mem_of_not_mem_cons h
    refine (ih (if s.halfIn (bayHalf m) then s.setBay m { s.bay m with on := true } else s) out).trans ?_
    split
    · exact tget_tset_ne _ _ _ ne
    · rfl

/-- A bay that runs goes on running as others start. -/
theorem State.startBays_keepsOn (s : State) (l : List Nat) {n : Nat} (on : (s.bay n).on = true) : ((s.startBays l).bay n).on = true := by
  induction l generalizing s with
  | nil => exact on
  | cons m r ih =>
    refine ih (if s.halfIn (bayHalf m) then s.setBay m { s.bay m with on := true } else s) ?_
    split
    · by_cases e : n = m
      · exact e ▸ congrArg Bay.on (tget_tset_same ..)
      · exact (congrArg Bay.on (tget_tset_ne _ _ _ e)).trans on
    · exact on

theorem State.bay_startBays_in (s : State) {l : List Nat} {n : Nat} (h : n ∈ l) (present : s.halfIn (bayHalf n) = true) : ((s.startBays l).bay n).on = true := by
  induction l generalizing s with
  | nil => simp at h
  | cons m r ih =>
    rcases List.mem_cons.1 h with rfl | later
    · refine State.startBays_keepsOn (if s.halfIn (bayHalf n) then s.setBay n { s.bay n with on := true } else s) r ?_
      rw [if_pos present]
      exact congrArg Bay.on (tget_tset_same ..)
    · refine ih (if s.halfIn (bayHalf m) then s.setBay m { s.bay m with on := true } else s) later ?_
      split <;> exact present

/-- The wave that is due starts its bays, counts itself and lets the clocks run. -/
def State.waved (s : State) : State :=
  (((s.startBays (waveBays s.aon.boot.wave)).modBoot fun x => { x with wave := s.aon.boot.wave + 1, waveTick := some (s.now .h0) }).modPower
    fun p => { p with clocksOn := true })

theorem State.wave_due {s : State} (boots : s.booting = true) (eight : s.aon.boot.stage = 8)
    (due : ∀ w, s.aon.boot.waveTick = some w → w + 250 ≤ s.now .h0) :
    s.wave = if s.aon.boot.wave = 7 then s.waved.setStage 9 else s.waved := by
  unfold State.wave
  dsimp only
  rw [boots, eight]
  cases w : s.aon.boot.waveTick with
  | none => rfl
  | some t =>
    simp only [decide_eq_false (Nat.not_lt.2 (due t w))]
    rfl

theorem State.retireCore_booting {s : State} (core cause : Nat) (boots : s.aon.boot.ready = false) :
    s.retireCore core cause = { s with svcWait := s.svcWait ++ [⟨core, cause, s.plan.bootSerial⟩],
                                       scribe := { s.scribe with quarantined := s.scribe.quarantined ++ [core] } } := by
  simp [State.retireCore, boots]

/-- A core whose self-test fails while the part boots takes no tile any more. -/
theorem State.coreTested_failed {s : State} {core : Nat} (boots : s.booting = true) (ten : s.aon.boot.stage = 10)
    (present : s.halfIn (bayHalf (coreBay core)) = true) (good : s.coreGood core = true)
    (first : (tget s.aon.boot.tested (coreBay core) 0).getLsbD (core % 416) = false) (starting : s.aon.boot.ready = false) :
    (s.coreTested core false).coreGood core = false ∧ sameBytes s (s.coreTested core false) := by
  have tested : s.coreTested core false = State.bootCores (State.retireCore (s.modBoot fun x =>
      { x with tested := tset x.tested (coreBay core) (tget s.aon.boot.tested (coreBay core) 0 ||| BitVec.ofNat 416 (2 ^ (core % 416))) }) core 3) := by
    simp only [State.coreTested, boots, ten, present, good, first]
    rfl
  have retired := State.retireCore_booting (s := s.modBoot fun x =>
      { x with tested := tset x.tested (coreBay core) (tget s.aon.boot.tested (coreBay core) 0 ||| BitVec.ofNat 416 (2 ^ (core % 416))) }) core 3 starting
  rw [tested, retired]
  exact ⟨(State.bootCores_outOfUse (.inr (List.mem_append_right _ (List.mem_singleton_self core)))).coreGood,
    (State.bootCores_onlyBoot _).bytes.1, (State.bootCores_onlyBoot _).bytes.2⟩

/-- A repair round that delivers every chunk leaves nothing of its half to repair. -/
theorem missing_delivered (p : Nat × BitVec 16 → Bool) (l : Table (BitVec 16)) :
    ((l.map fun e => if p e then (e.1, e.2 &&& tget ([] : Table (BitVec 16)) e.1 0) else e).filter fun e => e.2 != 0) = l.filter fun e => !p e && e.2 != 0 := by
  induction l with
  | nil => rfl
  | cons e r ih =>
    rw [List.map_cons]
    cases mine : p e with
    | false =>
      rw [List.filter_cons, List.filter_cons, ih]
      simp [mine]
    | true =>
      rw [List.filter_cons, List.filter_cons, ih]
      simp [mine]

theorem tset_ne_nil {α : Type} (t : Table α) (k : Nat) (v : α) : tset t k v ≠ [] := by
  unfold tset
  repeat' split
  all_goals simp

/-- Settles O12: waves, the broadcast, repair rounds and the cores' self-tests. -/
theorem baysAndCoresStart : Obligations.BaysAndCoresStart := by
  refine ⟨fun s boots eight due => ?wave, fun h core m s boots nine present first mine good lacks => ?broadcast, fun h s boots nine told few lacking => ?repair,
    fun core crc s boots ten present good first right => ?tested, fun core crc s boots ten present good first wrong starting _ => ?failed,
    fun core s boots ten silent present good first starting _ => ?silent⟩
  case wave =>
    obtain ⟨b, started⟩ := s.startBays_onlyBays (waveBays s.aon.boot.wave)
    have bays : s.waved.bays = (s.startBays (waveBays s.aon.boot.wave)).bays := rfl
    have others : s.waved.hif = s.hif ∧ sameBytes s s.waved := by
      unfold State.waved
      rw [started]
      exact ⟨rfl, sameBytes_of_eq rfl rfl⟩
    have onIn (n : Nat) (h : n ∈ waveBays s.aon.boot.wave) (present : s.halfIn (bayHalf n) = true) : (s.waved.bay n).on = true := s.bay_startBays_in h present
    have sameOut (n : Nat) (h : n ∉ waveBays s.aon.boot.wave) : s.waved.bay n = s.bay n := s.bay_startBays_out h
    have stays : s.waved.aon.boot.stage = 8 := by
      unfold State.waved
      rw [started]
      exact eight
    have counted : s.waved.aon.boot.wave = s.aon.boot.wave + 1 := rfl
    have clocks : s.waved.aon.power.clocksOn = true := rfl
    refine ⟨_, congrArg Host.Outcome.next (State.wave_due boots eight due), ?_⟩
    generalize s.waved = u at *
    split
    · exact ⟨onIn, sameOut, counted, clocks, rfl, others⟩
    · exact ⟨onIn, sameOut, counted, clocks, stays, others⟩
  case broadcast =>
    have told : s.broadcast h [(core, m)] = State.bootCores (s.modBoot fun x =>
        { x with broadcast := x.broadcast.set h true, missing := tset s.aon.boot.missing core.val m }) := by
      have counts : (decide (bayHalf (coreBay core) = h) && s.coreGood core && m != 0) = true := by
        rw [mine, good]
        simpa using lacks
      simp only [State.broadcast, boots, nine, present, first, List.foldl_cons, List.foldl_nil, if_pos counts]
      rfl
    refine ⟨_, congrArg Host.Outcome.next told, ?_⟩
    have same := State.bootCores_missing (s := s.modBoot fun x =>
        { x with broadcast := x.broadcast.set h true, missing := tset s.aon.boot.missing core.val m }) nine (tset_ne_nil _ _ _)
    rw [same]
    exact ⟨PerHalf.get_set_same .., tget_tset_same .., nine, rfl, sameBytes_of_eq rfl rfl⟩
  case repair =>
    have mine : (s.aon.boot.missing.any fun e => bayHalf (coreBay e.1) == h) = true := by
      obtain ⟨e, he, half⟩ := lacking
      exact List.any_eq_true.2 ⟨e, he, beq_iff_eq.2 half⟩
    have third : s.aon.boot.repairs.get h + 1 < 3 := by omega
    have given : s.repair h [] = State.bootCores (s.modBoot fun x => { x with
        missing := (s.aon.boot.missing.map fun e => if bayHalf (coreBay e.1) == h then (e.1, e.2 &&& tget ([] : Table (BitVec 16)) e.1 0) else e).filter fun e => e.2 != 0,
        repairs := x.repairs.set h (s.aon.boot.repairs.get h + 1) }) := by
      simp only [State.repair, boots, nine, told, mine, third]
      rfl
    rw [missing_delivered] at given
    exact congrArg Host.Outcome.next given
  case tested =>
    have passed : s.coreTested core (crc.toNat == imgSelftestCrc s.runningImage) = State.bootCores (s.modBoot fun x =>
        { x with tested := tset x.tested (coreBay core) (tget s.aon.boot.tested (coreBay core) 0 ||| BitVec.ofNat 416 (2 ^ (core.val % 416))) }) := by
      simp only [State.coreTested, boots, ten, present, good, first, right, beq_self_eq_true]
      rfl
    exact congrArg Host.Outcome.next passed
  case failed =>
    obtain ⟨out, bytes⟩ := State.coreTested_failed boots ten present good first starting
    have failed : (crc.toNat == imgSelftestCrc s.runningImage) = false := by simp [wrong]
    exact ⟨_, congrArg (fun b => Host.Outcome.next (s.coreTested core b)) failed, out, State.coreTested_variant .., bytes⟩
  case silent =>
    obtain ⟨out, bytes⟩ := State.coreTested_failed boots ten present good first starting
    exact ⟨_, congrArg Host.Outcome.next (if_pos silent), out, State.coreTested_variant .., bytes⟩

-- Service writes

@[simp] theorem Flash.setSlot_variant (f : Flash) (n : Nat) (x : FlashPlan) : (f.setSlot n x).variant = f.variant := by
  unfold Flash.setSlot
  split <;> rfl

@[simp] theorem Flash.setSlot_factory (f : Flash) (n : Nat) (x : FlashPlan) : (f.setSlot n x).factory = f.factory := by
  unfold Flash.setSlot
  split <;> rfl

/-- Settles O13: Sill's signature, and the image in flash. -/
theorem serviceWritesTakeEffect : Obligations.ServiceWritesTakeEffect := by
  refine ⟨fun v s svc signing cur idle => ?signed, fun v s svc flashing service => ?flashed⟩
  case signed =>
    refine ⟨s.planSigned, rfl, ?_⟩
    unfold State.planSigned
    rw [svc]
    simp only [signing, cur, idle]
    exact ⟨rfl, rfl, rfl, rfl, Flash.setSlot_variant .., Flash.setSlot_factory .., rfl, sameBytes_of_eq rfl rfl⟩
  case flashed =>
    have written : s.planFlashed = State.startService (State.postPf0 { s with svc := none, flash := s.flash.setSlot s.flash.freeSlot ⟨v.draft, true⟩ } 12 0xFF s.kingHalf
        (toLE 4 s.plan.generation ++ toLE 1 s.plan.state)) false := by
      unfold State.planFlashed
      rw [svc]
      simp only [flashing, service]
      rfl
    refine ⟨_, congrArg Host.Outcome.next written, by simp, ?_, by simp⟩
    obtain ⟨i, posted⟩ := State.postPf0_onlyHif { s with svc := none, flash := s.flash.setSlot s.flash.freeSlot ⟨v.draft, true⟩ } 12 0xFF s.kingHalf
      (toLE 4 s.plan.generation ++ toLE 1 s.plan.state)
    rw [posted]
    obtain ⟨_, _, _, _, _, _, started⟩ := State.startService_onlyService
      { ({ s with svc := none, flash := s.flash.setSlot s.flash.freeSlot ⟨v.draft, true⟩ } : State) with hif := i } false
    rw [started]

end Sys2Proof.Machine

/-! PROOF. The bridge, the joiners, the power manager, thermal trips and the sideband (O56 to O59; R373, R409 to R413, R421 to R430, R436, R444, R451, R469 to R475). -/

namespace Sys2Proof.Machine

-- The bridge (R451)

/-- Settles O56: good and bad flits, and the two ends of a retrain. -/
theorem bridgeTraffic : Obligations.BridgeTraffic := by
  refine ⟨fun h bs s on idle good => ?good, fun h bs s on idle bad few => ?bad, fun h bs s on idle bad many => ?sixteenth,
    fun t0 s trains inTime => ?done, fun t0 s trains late => ?late⟩
  case good =>
    have delivered : s.flit h bs = s.modLinks fun l => { l with bridgeRun := l.bridgeRun.set h 0, bridgeFlits := l.bridgeFlits.set h (l.bridgeFlits.get h + 1) } := by
      simp [State.flit, on, idle, good]
    exact congrArg Host.Outcome.next delivered
  case bad =>
    have fewer : s.links.bridgeRun.get h + 1 < 16 := by omega
    have replays : s.flit h bs = State.modLinks { s with sill := { s.sill with bridgeReplays := satAdd max16 s.sill.bridgeReplays 1 } }
        fun l => { l with bridgeRun := l.bridgeRun.set h (s.links.bridgeRun.get h + 1) } := by
      simp [State.flit, on, idle, bad, fewer]
    exact congrArg Host.Outcome.next replays
  case sixteenth =>
    have full : ¬ s.links.bridgeRun.get h + 1 < 16 := by omega
    refine ⟨s.flit h bs, rfl, ?_⟩
    simp only [State.flit, on, idle, bad, full]
    exact ⟨rfl, rfl, rfl, rfl, rfl, sameBytes_of_eq rfl rfl⟩
  case done =>
    have early : expired (s.now .h0) t0 12500 = false := by simpa [expired] using inTime
    refine congrArg Host.Outcome.next ?_
    rw [State.bridgeDone, trains]
    dsimp only
    rw [early]
    rfl
  case late =>
    have past : expired (s.now .h0) t0 12500 = true := by simpa [expired] using late
    have fails : s.bridgeLate = s.moduleFault 3 0xFF := by
      rw [State.bridgeLate, trains]
      dsimp only
      rw [past]
      rfl
    obtain ⟨fault, off, cause, _, pages, flash⟩ := s.moduleFault_leaves 3 0xFF
    exact ⟨_, congrArg Host.Outcome.next fails, fault, off, cause, pages, flash⟩

-- Joiners (R409 to R413, R436, R444)

theorem State.resumeBoot_over {s : State} (ended : s.aon.boot.stage ≠ 11 ∨ s.aon.boot.ready = true) : s.resumeBoot = s := by
  unfold State.resumeBoot
  rcases ended with h | h <;> simp [h]

/-- A heartbeat before its deadline is noted; from step 5 on its claim is compared. -/
theorem State.heartbeat_inTime {s : State} {h : Half} (c : Claim) (seen : BitVec 2) (on : s.aon.pwrOk = true)
    (runs : (s.aon.joiners.get h).running = true) (inTime : s.now h < (s.aon.joiners.get h).lastBeat + 2500) (five : 5 ≤ s.aon.boot.stage) :
    s.heartbeat h c seen = ((s.modJoiner h fun k => { k with lastBeat := s.now h }).checkClaim h c seen).resumeBoot := by
  have early : ¬ (s.aon.joiners.get h).lastBeat + 2500 < s.now h := by omega
  have notAt : ¬ s.now h = (s.aon.joiners.get h).lastBeat + 2500 := by omega
  have checks : ¬ s.aon.boot.stage < 5 := by omega
  simp [State.heartbeat, on, runs, expired, early, notAt, checks]

theorem State.checkClaim_differs {s : State} {h : Half} {c : Claim} (seen : BitVec 2) (differs : claimNum c ≠ holderNum s.holder)
    (free : s.aon.king.barred.get h = false) :
    s.checkClaim h c seen = (s.modAon fun a => { a with king := { a.king with claims := a.king.claims.set h (some c) } }).conflict h (claimNum c) seen := by
  simp [State.checkClaim, differs, free]

/-- A conflict, and the boot that may go on after it: CONFLICT is set, the half is barred, and the holder and the joiners stay. -/
theorem State.conflict_resumeBoot (s : State) (h : Half) (claim : Nat) (seen : BitVec 2) :
    (s.conflict h claim seen).resumeBoot.aon.king.conflict = true ∧ (s.conflict h claim seen).resumeBoot.aon.king.barred.get h = true
      ∧ (s.conflict h claim seen).resumeBoot.holder = s.holder ∧ (s.conflict h claim seen).resumeBoot.aon.joiners = s.aon.joiners := by
  obtain ⟨i, _, _, _, _, _, _, conflicts⟩ := s.conflict_onlyService h claim seen
  obtain ⟨b, f, _, _, _, _, _, _, resumed⟩ := (s.conflict h claim seen).resumeBoot_onlyBoot
  rw [resumed, conflicts]
  exact ⟨rfl, PerHalf.get_set_same .., rfl, rfl⟩

/-- A complex left stopped does not run, and its half is barred. -/
theorem State.leaveStopped_leaves (s : State) (h : Half) : ((s.leaveStopped h).aon.joiners.get h).stopped = true
    ∧ ((s.leaveStopped h).aon.joiners.get h).running = false ∧ (s.leaveStopped h).aon.king.barred.get h = true := by
  unfold State.leaveStopped
  dsimp only
  split
  next barred => exact ⟨congrArg Joiner.stopped (PerHalf.get_set_same ..), congrArg Joiner.running (PerHalf.get_set_same ..), barred⟩
  next =>
    obtain ⟨_, barred, _, joiners⟩ := State.conflict_resumeBoot { (s.modJoiner h fun j => { j with running := false, restarting := false, stopped := true }) with
      fresh := s.fresh + 1 } h 3 ((Config.freeByte s.fresh 0).setWidth 2)
    exact ⟨(congrArg (fun j => (PerHalf.get j h).stopped) joiners).trans (congrArg Joiner.stopped (PerHalf.get_set_same ..)),
      (congrArg (fun j => (PerHalf.get j h).running) joiners).trans (congrArg Joiner.running (PerHalf.get_set_same ..)), barred⟩

theorem State.abortHeld_other {s : State} {h : Half} (other : s.holder ≠ some h) : s.abortHeld h = s := by
  simp [State.abortHeld, other]

theorem State.sillHigh_free {s : State} (j : SillJob) (free : s.sill.cur = none) : s.sillHigh j = { s with sill := { s.sill with cur := some j } } := by
  rw [State.sillHigh, free]

@[simp] theorem PerHalf.set_set {α : Type} (p : PerHalf α) (h : Half) (v w : α) : (p.set h v).set h w = p.set h w := by cases h <;> rfl

/-- Settles O57: heartbeats, conflicts, restarts and health tests. -/
theorem joinersAndHealth : Obligations.JoinersAndHealth := by
  refine ⟨fun h c seen s on runs inTime five ended agrees => ?agrees, fun h c seen s on runs inTime five differs free => ?differs,
    fun h claim seen s u first posted => ?posted, fun h s on runs late few other idle => ?restarts, fun h s on runs late many => ?stopped,
    fun h s restarting one cur starting notLast => ?restarted, fun s on fine ended => ?health, fun s on fine starting boots => ?healthBoot⟩
  case agrees =>
    have same : (s.modJoiner h fun k => { k with lastBeat := s.now h }).checkClaim h c seen
        = (s.modJoiner h fun k => { k with lastBeat := s.now h }).modAon fun a => { a with king := { a.king with claims := a.king.claims.set h (some c) } } := by
      unfold State.checkClaim
      exact if_pos (by simp [State.holder, agrees.trans (congrArg holderNum (rfl : s.holder = s.aon.king.holder))])
    have noted := State.heartbeat_inTime c seen on runs inTime five
    rw [same] at noted
    exact congrArg Host.Outcome.next (noted.trans (State.resumeBoot_over ended))
  case differs =>
    have noted := State.heartbeat_inTime c seen on runs inTime five
    rw [State.checkClaim_differs (s := s.modJoiner h fun k => { k with lastBeat := s.now h }) seen differs free] at noted
    obtain ⟨conflict, barred, holder, _⟩ := State.conflict_resumeBoot ((s.modJoiner h fun k => { k with lastBeat := s.now h }).modAon
      fun a => { a with king := { a.king with claims := a.king.claims.set h (some c) } }) h (claimNum c) seen
    rw [← noted] at conflict barred holder
    exact ⟨_, rfl, conflict, barred, holder, State.heartbeat_variant .., fun a => congrArg (fun m => memRead m a) (State.heartbeat_mem ..)⟩
  case posted =>
    rw [State.conflict_posts h claim seen first, posted]
    rfl
  case restarts =>
    have past : expired (s.now h) (s.aon.joiners.get h).lastBeat 2500 = true := by simpa [expired] using late
    have again : ¬ 3 ≤ (s.aon.joiners.get h).restarts + 1 := by omega
    have counts : satAdd max16 (s.aon.joiners.get h).restarts 1 = (s.aon.joiners.get h).restarts + 1 := by
      unfold satAdd max16
      omega
    have restart : s.heartbeatLate h = State.sillHigh ((s.modJoiner h fun k => { k with running := false, restarts := satAdd max16 k.restarts 1 }).modJoiner h
        fun k => { k with restarting := true }) (.verifyJoiner h) := by
      simp only [State.heartbeatLate, on, runs, past, if_neg again]
      rw [State.abortHeld_other (s := s.modJoiner h fun k => { k with running := false, restarts := satAdd max16 k.restarts 1 }) other]
      rfl
    refine congrArg Host.Outcome.next ((restart.trans (State.sillHigh_free _ idle)).trans ?_)
    simp [State.modJoiner, State.modAon, counts]
  case stopped =>
    have past : expired (s.now h) (s.aon.joiners.get h).lastBeat 2500 = true := by simpa [expired] using late
    have third : 3 ≤ (s.aon.joiners.get h).restarts + 1 := by omega
    have stops : s.heartbeatLate h = ((s.modJoiner h fun k => { k with running := false, restarts := satAdd max16 k.restarts 1 }).abortHeld h).leaveStopped h := by
      simp only [State.heartbeatLate, on, runs, past, if_pos third]
      rfl
    obtain ⟨stopped, still, barred⟩ := ((s.modJoiner h fun k => { k with running := false, restarts := satAdd max16 k.restarts 1 }).abortHeld h).leaveStopped_leaves h
    rw [← stops] at stopped still barred
    exact ⟨_, rfl, stopped, still, barred, State.heartbeatLate_variant .., fun a => congrArg (fun m => memRead m a) (State.heartbeatLate_mem ..)⟩
  case restarted =>
    refine congrArg Host.Outcome.next ?_
    simp only [State.restarted, restarting, one, cur, bne_self_eq_false, Bool.not_true, Bool.or_false, Bool.false_eq_true, if_false]
    cases verified : joinerOk (s.flash.image s.flash.active) with
    | false => rfl
    | true =>
      have goesOn := State.resumeBoot_over (s := s.sillNext.modJoiner h fun j => { j with running := true, restarting := false, lastBeat := s.sillNext.now h }) (.inl notLast)
      simp only [Bool.not_true, Bool.false_eq_true, if_false]
      refine (if_neg (by simp [State.sillNext, starting])).trans ?_
      rw [goesOn]
      rfl
  case health =>
    have passed : (s.aon.boot.ready || !s.booting) = true := by
      rcases ended with h | h <;> simp [h]
    have fails : s.healthFail = { s with sill := { s.sill with state := 2, selftest := 5 } } := by
      simp only [State.healthFail, on, fine, passed]
      rfl
    exact congrArg Host.Outcome.next fails
  case healthBoot =>
    have fails : s.healthFail = State.modBoot { s with sill := { s.sill with state := 2, selftest := 5 } } fun b => { b with fail := 1 } := by
      simp only [State.healthFail, on, fine, starting, boots]
      rfl
    exact congrArg Host.Outcome.next fails

end Sys2Proof.Machine

/-! PROOF. The power manager, thermal trips and the sideband (O58, O59; R373, R421 to R430, R469 to R475). -/

namespace Sys2Proof.Machine

-- Evaluations (R424, R425, R428)

/-- Two states that differ at most in the island and the host interface, with the same measurements and the same requested limit. -/
def State.SameMeasures (s t : State) : Prop := s.OnlyAonHif t ∧ t.aon.power.moduleW = s.aon.power.moduleW ∧ t.aon.power.uncoreW = s.aon.power.uncoreW
  ∧ t.aon.power.evaluated = s.aon.power.evaluated ∧ t.aon.power.requested = s.aon.power.requested

theorem State.SameMeasures.refl (s : State) : s.SameMeasures s := ⟨.refl s, rfl, rfl, rfl, rfl⟩

theorem State.SameMeasures.trans {s t u : State} (st : s.SameMeasures t) (tu : t.SameMeasures u) : s.SameMeasures u := by
  obtain ⟨only, m, n, e, r⟩ := st
  obtain ⟨only', m', n', e', r'⟩ := tu
  exact ⟨only.trans only', m'.trans m, n'.trans n, e'.trans e, r'.trans r⟩

/-- What leaves the power manager's registers alone leaves the measurements. -/
theorem State.OnlyAonHif.sameMeasures {s t : State} (only : s.OnlyAonHif t) (power : t.aon.power = s.aon.power) : s.SameMeasures t := by
  refine ⟨only, ?_⟩
  rw [power]
  exact ⟨rfl, rfl, rfl, rfl⟩

theorem State.modThermal_sameMeasures (s : State) (f : Thermal → Thermal) : s.SameMeasures (s.modThermal f) := ⟨⟨_, s.hif, rfl⟩, rfl, rfl, rfl, rfl⟩

theorem State.throttle_sameMeasures (s : State) : s.SameMeasures s.throttle := by
  unfold State.throttle
  dsimp only
  split
  · split
    · exact s.modThermal_sameMeasures _
    · exact .refl s
  · split
    · exact s.modThermal_sameMeasures _
    · exact .refl s

theorem State.postThermal_onlyAonHif (s : State) (cause sensor : Nat) (t : Int) : s.OnlyAonHif (s.postThermal cause sensor t) :=
  (s.postPf0_onlyHif ..).aonHif.trans (State.alert_onlyAonHif _ _)

@[simp] theorem State.postThermal_power (s : State) (cause sensor : Nat) (t : Int) : (s.postThermal cause sensor t).aon.power = s.aon.power := by
  rw [State.postThermal, State.alert_power, (s.postPf0_onlyHif ..).aon]

theorem State.throttleEvent_sameMeasures (s before : State) : s.SameMeasures (s.throttleEvent before) := by
  have posts (cause sensor : Nat) (t : Int) := (s.postThermal_onlyAonHif cause sensor t).sameMeasures (s.postThermal_power cause sensor t)
  unfold State.throttleEvent
  dsimp only
  split
  · exact posts ..
  · split
    · exact posts ..
    · exact .refl s

theorem State.limitReached_sameMeasures (s : State) : s.SameMeasures s.limitReached := by
  obtain ⟨l, h, e⟩ := s.limitReached_eq
  rw [e]
  exact ⟨⟨_, h, rfl⟩, rfl, rfl, rfl, rfl⟩

theorem Power.changeKeeps (p : Power) (target : Nat) (ends : Bool) (now : Nat) : (p.change_ target ends now).moduleW = p.moduleW
    ∧ (p.change_ target ends now).uncoreW = p.uncoreW ∧ (p.change_ target ends now).evaluated = p.evaluated ∧ (p.change_ target ends now).requested = p.requested := by
  unfold Power.change_
  repeat' split
  all_goals exact ⟨rfl, rfl, rfl, rfl⟩

/-- The point is lowered or raised as the demand says, unless it is held. -/
def State.adjustPoint (b : State) (back : Bool) : State :=
  if b.pointHeld then b
  else b.modPower fun q =>
    { q.change_ (q.demand b.budgetPoint (b.now .h0) back b.aon.thermal.throttling) q.owedLowering (b.now .h0) with owedLowering := false }

/-- A back-stop's lowering is counted and posted. -/
def State.postLowering (c : State) (back : Bool) : State :=
  if back then (c.modPower fun q => { q with lowered := satAdd max16 q.lowered 1 }).postPower 1 0xFF else c

theorem State.adjustPoint_sameMeasures (b : State) (back : Bool) : b.SameMeasures (b.adjustPoint back) := by
  unfold State.adjustPoint
  split
  · exact .refl b
  · exact ⟨⟨_, b.hif, rfl⟩, b.aon.power.changeKeeps ..⟩

theorem State.postLowering_sameMeasures (c : State) (back : Bool) : c.SameMeasures (c.postLowering back) := by
  unfold State.postLowering
  split
  · have counted : c.SameMeasures (c.modPower fun q => { q with lowered := satAdd max16 q.lowered 1 }) := ⟨⟨_, c.hif, rfl⟩, rfl, rfl, rfl, rfl⟩
    exact counted.trans ((State.postPower_onlyAonHif _ 1 0xFF).sameMeasures (State.postPower_power _ 1 0xFF))
  · exact .refl c

/-- An evaluation as its parts in turn. -/
theorem State.evaluate_eq (s : State) (m u : Nat) (temps : List Int) : ∃ back, s.evaluate m u temps =
    ((((((s.modPower fun p => p.measure (s.now .h0) m u).modThermal fun t => t.record temps).throttle).adjustPoint back).postLowering back).throttleEvent
      ((s.modPower fun p => p.measure (s.now .h0) m u).modThermal fun t => t.record temps)).limitReached := ⟨_, rfl⟩

theorem State.evaluate_sameMeasures (s : State) (m u : Nat) (temps : List Int) :
    (s.modPower fun p => p.measure (s.now .h0) m u).SameMeasures (s.evaluate m u temps) := by
  obtain ⟨back, parts⟩ := s.evaluate_eq m u temps
  rw [parts]
  exact ((((State.modThermal_sameMeasures _ _).trans (State.throttle_sameMeasures _)).trans (State.adjustPoint_sameMeasures _ back)).trans
    (State.postLowering_sameMeasures _ back)).trans ((State.throttleEvent_sameMeasures _ _).trans (State.limitReached_sameMeasures _))

/-- The first measurement is the average and the largest of its window. -/
theorem Power.measure_first {p : Power} (now m u : Nat) (first : p.samples = []) :
    (p.measure now m u).moduleW = min 65535 m ∧ (p.measure now m u).uncoreW = min 65535 u := by
  simp [Power.measure, first, max16]

-- Protection, bays and meter windows

/-- Fast protection divides the clock, owes a lowering and counts. -/
theorem State.protectLeaves {s : State} (cause rail : Nat) (on : s.aon.pwrOk = true) : (s.protect_ cause rail).aon.power.division = true
    ∧ (s.protect_ cause rail).aon.power.owedLowering = true ∧ (s.protect_ cause rail).aon.power.alerts = min 65535 (s.aon.power.alerts + 1)
    ∧ (s.protect_ cause rail).aon.power.op = s.aon.power.op ∧ (s.protect_ cause rail).plan = s.plan
    ∧ ∀ a, memRead (s.protect_ cause rail).mem a = memRead s.mem a := by
  have divides : s.protect_ cause rail = (s.modPower fun p => { p with division := true, owedLowering := true, alerts := satAdd max16 p.alerts 1 }).postPower cause rail := by
    simp [State.protect_, on]
  have power := (s.modPower fun p => { p with division := true, owedLowering := true, alerts := satAdd max16 p.alerts 1 }).postPower_power cause rail
  obtain ⟨a, i, only⟩ := (s.modPower fun p => { p with division := true, owedLowering := true, alerts := satAdd max16 p.alerts 1 }).postPower_onlyAonHif cause rail
  rw [divides, power, only]
  exact ⟨rfl, rfl, rfl, rfl, rfl, fun _ => rfl⟩

/-- The point is lowered to what the budget allows, if that is slower. -/
def Power.lowerTo (p : Power) (target now : Nat) : Power := if p.op < target then p.change_ target p.owedLowering now else p

theorem Power.op_le_lowerTo (p : Power) (target now : Nat) : p.op ≤ (p.lowerTo target now).op := by
  unfold Power.lowerTo
  split
  next slower =>
    rw [Power.change_, if_pos slower]
    exact slower.le
  next => exact le_rfl

/-- The power manager with the point that the budget allows once one more bay runs. -/
def State.ungatePoint (s : State) : Power :=
  s.aon.power.lowerTo (bestPoint s.aon.power.inEffect s.aon.power.uncoreW (s.busyBays + 1) (s.gatedBays - 1) s.aon.power.cap) (s.now .h0)

/-- A bay's ungating changes the power manager and the bay, and lowers the point or leaves it. -/
theorem State.ungate_gated {s : State} {bay : Nat} (gated : (s.bay bay).gated = true) (busy : s.bayBusy bay = true)
    (unused : s.aon.power.ungates.get (bayHalf bay) = []) : ∃ q : Power, s.aon.power.op ≤ q.op
      ∧ s.ungate bay = (s.modPower fun _ => q).setBay bay { s.bay bay with gated := false, idleSince := none } := by
  refine ⟨{ s.ungatePoint with ungates := s.ungatePoint.ungates.set (bayHalf bay) [s.now (bayHalf bay)] }, Power.op_le_lowerTo .., ?_⟩
  simp only [State.ungate, gated, busy, unused]
  rfl

/-- A change of each context of a list in turn reaches each of them once. -/
theorem ctx_forAll_modCtx (f : Ctx → Ctx) (l : List Nat) (once : l.Nodup) (s : State) (n : Nat) :
    (forAll l (fun m x => x.modCtx m f) s).ctx n = if n ∈ l then f (s.ctx n) else s.ctx n := by
  induction l generalizing s with
  | nil => simp [forAll]
  | cons m r ih =>
    obtain ⟨out, rest⟩ := List.nodup_cons.1 once
    refine (ih rest (s.modCtx m f)).trans ?_
    by_cases e : n = m
    · subst e
      simp [out, State.modCtx]
    · simp [e, State.modCtx]

/-- A context's meter of a half starts again, and what it measured is written. -/
def Ctx.meterEnds (c : Ctx) (h : Half) : Ctx :=
  { c with meter := c.meter.set h (0, 0, 0), imeter := c.imeter.set h (meterRatio (c.meter.get h), min max16 (c.meter.get h).2.2) }

theorem State.meterEnd_quiet {s : State} {h : Half} (ends : windowEnd (s.now h) 20 (s.ctxRegs.meterEnded.get h) = true) (quiet : s.ctxRegs.alert = 0) :
    s.meterEnd h = forAll (List.range 8) (fun n x => x.modCtx n fun c => c.meterEnds h) { s with ctxRegs := { s.ctxRegs with
      window := s.ctxRegs.window.set h ((s.now h / 2 ^ 20 - 1) % 2 ^ 32), meterEnded := s.ctxRegs.meterEnded.set h (s.now h) } } := by
  simp only [State.meterEnd, ends, quiet]
  rfl

theorem forAll_modCtx_onlyCtxs (f : Ctx → Ctx) (l : List Nat) (s : State) : ∃ c, forAll l (fun m x => x.modCtx m f) s = { s with ctxs := c } := by
  refine forAll_rel (R := fun s t => ∃ c, t = { s with ctxs := c }) (fun s => ⟨s.ctxs, rfl⟩) ?_ (fun n x => ⟨_, rfl⟩) l s
  rintro s t u ⟨b, rfl⟩ ⟨c, rfl⟩
  exact ⟨c, rfl⟩

theorem State.limitReached_none {s : State} (unused : s.aon.power.limitCmds = []) : s.limitReached = s := by
  simp [State.limitReached, unused]

/-- Settles O58: evaluations, a settled point, protection, gating, and the end of a meter window. -/
theorem powerManager : Obligations.PowerManager := by
  refine ⟨fun m u temps s on due => ?evaluates, fun m u t0 temps s last early => ?early, fun c s changes unused => ?settles, fun s on => ?alert,
    fun h s on => ?limit, fun bay t0 s since runs open_ idle long => ?gates, fun bay s gated busy unused => ?ungates, fun h s ends quiet => ?meter⟩
  case evaluates =>
    have evaluates : (if s.aon.pwrOk && !periodEarly s.aon.power.evaluated (s.now .h0) then s.evaluate m u temps else s) = s.evaluate m u temps := by
      simp [on, due]
    obtain ⟨⟨a, i, only⟩, module, uncore, tick, requested⟩ := s.evaluate_sameMeasures m u temps
    refine ⟨_, congrArg Host.Outcome.next evaluates, module, uncore, tick, fun first => ?_, requested, ?_⟩
    · obtain ⟨m1, u1⟩ := Power.measure_first (s.now .h0) m u first
      exact ⟨module.trans m1, uncore.trans u1⟩
    · rw [only]
      exact ⟨rfl, rfl, fun _ => rfl⟩
  case early =>
    refine congrArg Host.Outcome.next (if_neg ?_)
    simp [periodEarly, last, early]
  case settles =>
    have settled : s.settled = (s.modPower fun p => { p with change := none, op := c.target, division := if c.endsDivision then false else p.division }).limitReached := by
      rw [State.settled, changes]
    exact congrArg Host.Outcome.next (settled.trans (State.limitReached_none unused))
  case alert => exact ⟨_, rfl, State.protectLeaves 2 0xFF on⟩
  case limit => exact ⟨_, rfl, State.protectLeaves 3 h.num on⟩
  case gates =>
    have gated : s.gate bay = s.setBay bay { s.bay bay with gated := true } := by
      simp [State.gate, since, runs, open_, idle, long]
    exact congrArg Host.Outcome.next gated
  case ungates =>
    obtain ⟨q, slower, ungated⟩ := State.ungate_gated gated busy unused
    refine ⟨_, congrArg Host.Outcome.next ungated, ?_, slower, fun n ne => tget_tset_ne _ _ _ ne, rfl, sameBytes_of_eq rfl rfl⟩
    exact congrArg Bay.gated (tget_tset_same ..)
  case meter =>
    have ctx := ctx_forAll_modCtx (fun c => c.meterEnds h) (List.range 8) List.nodup_range { s with ctxRegs := { s.ctxRegs with
      window := s.ctxRegs.window.set h ((s.now h / 2 ^ 20 - 1) % 2 ^ 32), meterEnded := s.ctxRegs.meterEnded.set h (s.now h) } }
    obtain ⟨c, only⟩ := forAll_modCtx_onlyCtxs (fun c => c.meterEnds h) (List.range 8) { s with ctxRegs := { s.ctxRegs with
      window := s.ctxRegs.window.set h ((s.now h / 2 ^ 20 - 1) % 2 ^ 32), meterEnded := s.ctxRegs.meterEnded.set h (s.now h) } }
    refine ⟨_, congrArg Host.Outcome.next (State.meterEnd_quiet ends quiet), ?_⟩
    rw [only] at ctx ⊢
    refine ⟨PerHalf.get_set_same .., PerHalf.get_set_same .., fun n lt => ?_, rfl, rfl, sameBytes_of_eq rfl rfl⟩
    have one := (ctx n).trans (if_pos (List.mem_range.2 lt))
    rw [one]
    exact ⟨PerHalf.get_set_same .., PerHalf.get_set_same ..⟩

-- Thermal trips and the sideband

/-- Posting a thermal event leaves the island but its pin and sideband as it is. -/
theorem State.postThermal_eq (s : State) (cause sensor : Nat) (t : Int) :
    ∃ pin sb i, s.postThermal cause sensor t = { s with aon := { s.aon with alertPin := pin, sb := sb }, hif := i } := by
  obtain ⟨i, posted⟩ := s.postPf0_onlyHif 18 0xFF .h0 (thermalPayload cause sensor t s.aon.power.op)
  obtain ⟨pin, sb, alerted⟩ := (s.postPf0 18 0xFF .h0 (thermalPayload cause sensor t s.aon.power.op)).alert_eq 18
  exact ⟨pin, sb, i, alerted.trans (by rw [posted])⟩

/-- Posting the trip's event leaves the trip recorded. -/
theorem State.postTrip_eq (s : State) : ∃ e pin sb i, s.postTrip = { s with
    aon := { s.aon with alertPin := pin, sb := sb, thermal := { s.aon.thermal with tripEvent := e } }, hif := i } := by
  have same (s : State) : s = { s with aon := { s.aon with alertPin := s.aon.alertPin, sb := s.aon.sb, thermal := { s.aon.thermal with tripEvent := s.aon.thermal.tripEvent } } } := rfl
  unfold State.postTrip
  split
  · exact ⟨_, _, _, s.hif, same s⟩
  next n t _ =>
    split
    · obtain ⟨pin, sb, i, posted⟩ := (s.modThermal fun x => { x with tripEvent := none }).postThermal_eq 3 n t
      exact ⟨none, pin, sb, i, posted⟩
    · exact ⟨_, _, _, s.hif, same s⟩

/-- Settles O59: trips, the shutdown, a site's over-temperature, and the sideband's writes. -/
theorem thermalAndSideband : Obligations.ThermalAndSideband := by
  refine ⟨fun n temp s on cold hot => ?trip, fun t0 s tick posted => ?shutdown, fun m temp s on => ?site, fun v s on out => ?range,
    fun v s on low high fits fitted => ?board, fun v s on => ?clear⟩
  case trip =>
    have trips : s.trip n temp = (State.alert (s.modAon fun a =>
        { a with tripPin := true, power := { a.power with tripDivision := true, division := false, owedLowering := false, change := none },
                 thermal := { a.thermal with
                   temps := tset a.thermal.temps n temp, tempMax := max a.thermal.tempMax temp, tripSensor := n, tripCause := 1,
                   tripEvent := some (n.val, temp), tripTick := some (a.ticks.get .h0) } }) 0x21).postTrip := by
      simp [State.trip, on, cold, hot]
    obtain ⟨pin, sb, alerted⟩ := State.alert_eq (s.modAon fun a =>
        { a with tripPin := true, power := { a.power with tripDivision := true, division := false, owedLowering := false, change := none },
                 thermal := { a.thermal with
                   temps := tset a.thermal.temps n temp, tempMax := max a.thermal.tempMax temp, tripSensor := n, tripCause := 1,
                   tripEvent := some (n.val, temp), tripTick := some (a.ticks.get .h0) } }) 0x21
    rw [alerted] at trips
    obtain ⟨e, pin', sb', i, posted⟩ := State.postTrip_eq { s with aon := { s.aon with
      tripPin := true, power := { s.aon.power with tripDivision := true, division := false, owedLowering := false, change := none },
      thermal := { s.aon.thermal with
        temps := tset s.aon.thermal.temps n temp, tempMax := max s.aon.thermal.tempMax temp, tripSensor := n, tripCause := 1,
        tripEvent := some (n.val, temp), tripTick := some (s.aon.ticks.get .h0) }, alertPin := pin, sb := sb } }
    exact ⟨_, congrArg Host.Outcome.next (trips.trans posted), rfl, rfl, rfl, rfl, rfl, rfl, fun _ => rfl⟩
  case shutdown =>
    have due : (s.aon.thermal.tripEvent.isNone || decide (t0 + 250 ≤ s.now .h0)) = true := by
      rcases posted with h | h <;> simp [h]
    have shuts : s.tripShutdown = (s.modThermal fun x => { x with tripTick := none, tripEvent := none }).railsOff := by
      rw [State.tripShutdown, tick]
      exact if_pos due
    obtain ⟨r, off, p, j, gone⟩ := (s.modThermal fun x => { x with tripTick := none, tripEvent := none }).railsOff_eq
    exact ⟨_, congrArg Host.Outcome.next (shuts.trans gone), rfl, rfl, rfl, rfl⟩
  case site => exact congrArg Host.Outcome.next (if_pos on)
  case range =>
    have refused : s.boardMax v.toNat = s.sbSet 1 := by
      rcases out with low | high
      · simp [State.boardMax, on, low]
      · simp [State.boardMax, on, high]
    exact congrArg Host.Outcome.next refused
  case board =>
    have within : ¬ (v.toNat < 1400 ∨ 2400 < v.toNat) := by omega
    have same : min s.aon.power.requested v.toNat = min s.aon.power.requested s.aon.power.boardMax := by omega
    have taken : s.boardMax v.toNat = s.modPower fun p => { p with boardMax := v.toNat } := by
      simp [State.boardMax, on, within, Power.inEffect, same]
    exact congrArg Host.Outcome.next taken
  case clear =>
    have clears : s.sbClear v.toNat = s.modAon fun a => { a with
        sb := { a.sb with status := s.aon.sb.status &&& ~~~(BitVec.ofNat 4 v.toNat) }
        alertPin := a.alertPin && (s.aon.sb.status &&& ~~~(BitVec.ofNat 4 v.toNat)).getLsbD 3 } := by
      simp [State.sbClear, on]
    exact congrArg Host.Outcome.next clears

end Sys2Proof.Machine

/-! PROOF. Resets, the rings' doorbells, the fetch of commands and the function registers (O14 to O17, O19; R16 to R19, R379 to R387, R399 to R403, R464). -/

namespace Sys2Proof.Machine

-- Resets of functions (R400 to R402)

/-- Two states that differ at most in the function records, Sill and the faults. -/
def State.OnlyFns (s t : State) : Prop := ∃ f x q, t = { s with hif := { s.hif with fns := f }, sill := x, faults := q }

theorem State.OnlyFns.trans {s t u : State} (st : s.OnlyFns t) (tu : t.OnlyFns u) : s.OnlyFns u := by
  obtain ⟨_, _, _, rfl⟩ := st
  obtain ⟨f, x, q, rfl⟩ := tu
  exact ⟨f, x, q, rfl⟩

theorem State.dropRequests_eq (s : State) (n : Nat) : ∃ x q, s.dropRequests n = { s with sill := x, faults := q } := ⟨_, _, rfl⟩

/-- A VF whose context is neither admitted nor being cleared is reset and nothing else. -/
theorem State.flrVf_left {s : State} {n : Nat} (out : (s.ctx (n - 1)).admitted = false) (still : (s.ctx (n - 1)).clearing = false) :
    s.flrVf n = ((s.dropRequests n).resetFn n).ideClear (2 ^ n) := by
  unfold State.flrVf
  dsimp only
  refine (if_neg ?_).trans (if_neg ?_)
  · exact fun h => Bool.false_ne_true (still.symm.trans h)
  · exact fun h => Bool.false_ne_true (out.symm.trans h)

theorem State.flrVf_onlyFns {s : State} {n : Nat} (out : (s.ctx (n - 1)).admitted = false) (still : (s.ctx (n - 1)).clearing = false) : s.OnlyFns (s.flrVf n) := by
  rw [State.flrVf_left out still]
  exact ⟨_, _, _, rfl⟩

theorem State.fn_resetFn (s : State) (n m : Nat) : (s.resetFn n).fn m = if m = n then { ({} : Fn) with signals := (s.fn n).signals } else s.fn m := tget_tset ..

theorem State.fn_flrVf {s : State} {n : Nat} (m : Nat) (out : (s.ctx (n - 1)).admitted = false) (still : (s.ctx (n - 1)).clearing = false) :
    (s.flrVf n).fn m = if m = n then { ({} : Fn) with signals := (s.fn n).signals } else s.fn m := by
  rw [State.flrVf_left out still]
  exact State.fn_resetFn (s.dropRequests n) n m

/-- The resets of VFs of which none has a context: each of them is reset, and no other function. -/
theorem flrVfs_left (l : List Nat) {s : State} (none : ∀ n, (s.ctx n).admitted = false ∧ (s.ctx n).clearing = false) :
    (l = [] ∨ s.OnlyFns (forAll l (fun n t => t.flrVf n) s)) ∧ ∀ m, (m ∉ l → (forAll l (fun n t => t.flrVf n) s).fn m = s.fn m)
      ∧ (m ∈ l → ((forAll l (fun n t => t.flrVf n) s).fn m).enable = false ∧ ((forAll l (fun n t => t.flrVf n) s).fn m).outstanding = []) := by
  induction l generalizing s with
  | nil => exact ⟨.inl rfl, fun m => ⟨fun _ => rfl, fun h => absurd h List.not_mem_nil⟩⟩
  | cons n r ih =>
    obtain ⟨out, still⟩ := none (n - 1)
    have first := State.flrVf_onlyFns out still
    have keep : ∀ k, ((s.flrVf n).ctx k).admitted = false ∧ ((s.flrVf n).ctx k).clearing = false := by
      obtain ⟨f, x, q, eq⟩ := first
      rw [eq]
      exact none
    obtain ⟨only, fns⟩ := ih keep
    refine ⟨.inr ?_, fun m => ⟨fun h => ?_, fun h => ?_⟩⟩
    · rcases only with rfl | only
      · exact first
      · exact first.trans only
    · obtain ⟨ne, later⟩ := List.ne_and_not_mem_of_not_mem_cons h
      exact ((fns m).1 later).trans ((State.fn_flrVf m out still).trans (if_neg ne))
    · by_cases later : m ∈ r
      · exact (fns m).2 later
      · have here : m = n := (List.mem_cons.1 h).resolve_right later
        have reset := ((fns m).1 later).trans ((State.fn_flrVf m out still).trans (if_pos here))
        refine ⟨?_, ?_⟩
        · exact congrArg Fn.enable reset
        · exact congrArg Fn.outstanding reset

/-- The reset of PF0: its function record, an update and the BAR4 registers return to reset; other functions, pages and memories stay. -/
theorem State.flrPf0_leaves (s : State) : s.flrPf0.fn 0 = { ({} : Fn) with signals := (s.fn 0).signals } ∧ s.flrPf0.sill.update = none
    ∧ s.flrPf0.hif.bar4Valid = false ∧ s.flrPf0.hif.bar4Base = 0 ∧ (∀ n, n ≠ 0 → s.flrPf0.fn n = s.fn n) ∧ s.flrPf0.pages = s.pages ∧ sameBytes s s.flrPf0 :=
  ⟨tget_tset_same .., rfl, rfl, rfl, fun _ ne => tget_tset_ne _ _ _ ne, rfl, sameBytes_of_eq rfl rfl⟩

/-- Settles O14: PERST#, link disable, and configuration requests. -/
theorem conventionalResets : Obligations.ConventionalResets := by
  refine ⟨fun s => ⟨(Config.linkTrains s.newId.1).1, (Config.linkTrains s.newId.1).2, rfl⟩, fun s on => ?perst, fun s on => ?disable,
    fun fn a s here early boots => ?retry, fun fn a s here late => ?completes, fun s => ?access⟩
  case perst =>
    have resets : s.conventional .perst = { s.flrVfs.flrPf0 with hif := { s.flrVfs.flrPf0.hif with perst := true, linkUp := false } } := by
      rw [State.conventional, if_pos on]
    have fn := s.flrVfs.flrPf0_leaves.1
    have flash : s.flrVfs.flrPf0.flash = s.flash := by simp
    refine ⟨_, congrArg Host.Outcome.next resets, ?_⟩
    generalize s.flrVfs.flrPf0 = t at fn flash
    exact ⟨rfl, rfl, congrArg Fn.enable fn, congrArg Fn.cmdTail fn, congrArg Fn.outstanding fn, flash⟩
  case disable =>
    have resets : s.conventional .linkDisable = { s.flrVfs.flrPf0 with hif := { s.flrVfs.flrPf0.hif with linkUp := false } } := by
      rw [State.conventional, if_pos on]
    have fn := s.flrVfs.flrPf0_leaves.1
    refine ⟨_, congrArg Host.Outcome.next resets, ?_⟩
    generalize s.flrVfs.flrPf0 = t at fn
    exact ⟨rfl, congrArg Fn.enable fn⟩
  case retry =>
    have early' : ¬ 4 ≤ s.aon.boot.stage := by omega
    have retries : s.configure fn a = { s with hif := { s.hif with out := { s.hif.out with config := some false } } } := by
      simp [State.configure, here, early', boots]
    exact congrArg Host.Outcome.next retries
  case completes =>
    have done : (decide (4 ≤ s.aon.boot.stage) || s.sill.recovery) = true := by
      rcases late with h | h <;> simp [h]
    have completes : s.configure fn a = State.access { s with hif := { s.hif with out := { s.hif.out with config := some true } } } fn a := by
      simp only [State.configure, here, done]
      rfl
    exact congrArg Host.Outcome.next completes
  case access => exact ⟨fun _ => rfl, rfl, fun _ => rfl, fun _ _ => ⟨rfl, rfl, rfl⟩⟩

/-- Settles O15: the reset of a VF and of PF0, and VF Enable cleared. -/
theorem functionLevelResets : Obligations.FunctionLevelResets := by
  refine ⟨fun vf s here out still => ?vf, fun s here => ⟨_, congrArg Host.Outcome.next (if_pos here), s.flrPf0_leaves⟩, fun s up on none => ?off⟩
  case vf =>
    refine ⟨_, congrArg Host.Outcome.next ((if_pos here).trans (State.flrVf_left (n := vf.val + 1) out still)), tget_tset_same .., fun n ne => tget_tset_ne _ _ _ ne,
      rfl, sameBytes_of_eq rfl rfl⟩
  case off =>
    have off : s.vfOff = { s.flrVfs with hif := { s.flrVfs.hif with vfEnable := false } } := by
      simp [State.vfOff, up, on]
    obtain ⟨only, fns⟩ : s.OnlyFns s.flrVfs ∧ ∀ m, (m ∉ [1, 2, 3, 4, 5, 6, 7, 8] → s.flrVfs.fn m = s.fn m)
        ∧ (m ∈ [1, 2, 3, 4, 5, 6, 7, 8] → (s.flrVfs.fn m).enable = false ∧ (s.flrVfs.fn m).outstanding = []) :=
      (flrVfs_left [1, 2, 3, 4, 5, 6, 7, 8] none).imp (fun only => only.resolve_left (List.cons_ne_nil _ _)) id
    refine ⟨_, congrArg Host.Outcome.next off, ?_⟩
    generalize s.flrVfs = t at only fns
    obtain ⟨f, x, q, rfl⟩ := only
    refine ⟨rfl, fun n low high => (fns n).2 ?_, (fns 0).1 (by decide), rfl, sameBytes_of_eq rfl rfl⟩
    have : n = 1 ∨ n = 2 ∨ n = 3 ∨ n = 4 ∨ n = 5 ∨ n = 6 ∨ n = 7 ∨ n = 8 := by omega
    simpa using this

-- Doorbells and events (R379, R383, R384, R399)

/-- With no event owed or waiting, a freed place lets nothing through. -/
theorem State.evqResume_quiet {s : State} {n : Nat} (owed : (s.fn n).lostSince = 0) (empty : (s.fn n).evWait = []) (trip : n = 0 → s.aon.thermal.tripEvent = none) :
    s.evqResume n = s := by
  have lost : s.eventsLost n = s := by
    simp [State.eventsLost, owed]
  have flush : s.flushEvents n = s := by
    rw [State.flushEvents, empty]
    rfl
  unfold State.evqResume
  dsimp only
  rw [lost, flush]
  split
  next zero => rw [State.postTrip, trip zero]
  next => rfl

/-- Settles O16: the three doorbells, and the delayed signal. -/
theorem doorbellsAndSignals : Obligations.DoorbellsAndSignals := by
  refine ⟨fun fn v s here => congrArg Host.Outcome.next (if_pos here), fun fn v s here => congrArg Host.Outcome.next (if_pos here),
    fun fn v s here owed empty trip => ?events, fun fn t0 s first delay late => ?delayed⟩
  case events =>
    have same : (s.fn fn).lostSince = ((s.setFn fn { s.fn fn with evqHead := v.toNat % 1024 }).fn fn).lostSince := by
      rw [State.fn_setFn]
    have quiet := State.evqResume_quiet (s := s.setFn fn { s.fn fn with evqHead := v.toNat % 1024 }) (same.symm.trans owed) (by rw [State.fn_setFn]; exact empty)
      fun zero => trip (Fin.ext zero)
    exact congrArg Host.Outcome.next ((if_pos here).trans quiet)
  case delayed =>
    have due : ¬ s.now .h0 < t0 + (s.fn fn).irqDelay := by omega
    have signals : s.irqDelayed fn = s.setFn fn (fnSignal { s.fn fn with irqPending := 0, irqFirst := none } 0) := by
      simp [State.irqDelayed, first, delay, due]
    exact congrArg Host.Outcome.next signals

-- The fetch of commands (R379, R380, R385, R387)

/-- Settles O17: a command that is taken, one that is refused, a failed read, and what AER logs. -/
theorem commandsAreFetched : Obligations.CommandsAreFetched := by
  refine ⟨fun fn bs s may fine => ?taken, fun fn bs status detail s may refused => ?refused, fun fn why s may => ?failed, fun n why s => ?logs⟩
  case taken =>
    have taken : s.fetchCmd fn (.data bs) = s.setFn fn { s.fn fn with
        cmdHead := ((s.fn fn).cmdHead + 1) % 4096, outstanding := (s.fn fn).outstanding ++ [⟨(s.fn fn).cmdHead, cut bs 0 64, .fetched, 0⟩] } := by
      simp [State.fetchCmd, may, fine]
    exact congrArg Host.Outcome.next taken
  case refused =>
    have ends : s.fetchCmd fn (.data bs) = State.done (s.setFn fn { s.fn fn with
        cmdHead := ((s.fn fn).cmdHead + 1) % 4096, outstanding := (s.fn fn).outstanding ++ [⟨(s.fn fn).cmdHead, cut bs 0 64, .fetched, 0⟩] })
        fn (s.fn fn).cmdHead status detail := by
      simp [State.fetchCmd, may, refused]
    exact congrArg Host.Outcome.next ends
  case failed =>
    have failed : s.fetchCmd fn (.failed why) = State.logRead (s.setFn fn (fnErr (s.fn fn) errCmdRead)) fn why := by
      simp [State.fetchCmd, may]
    exact congrArg Host.Outcome.next failed
  case logs => cases why <;> rfl

-- Function control and errors (R403)

/-- A bit of a number that a word holds is the word's bit. -/
theorem bit_toNat {n : Nat} (v : BitVec n) (i : Nat) : bit v.toNat i = v.getLsbD i := by
  rw [BitVec.getLsbD, Nat.testBit_eq_decide_div_mod_eq]
  rfl

theorem State.fnCtl_enables {s : State} {n v : Nat} (here : s.reaches n = true) (enable : bit v 0 = true) (events : bit v 1 = false)
    (off : (s.fn n).enable = false) (idle : (s.fn n).busy = false) : s.fnCtl n v = State.evqResume (s.setFn n { s.fn n with
      enable := true, evqEn := false, cmdHead := 0, cmdTail := 0, cplHead := 0, cplTail := 0, cplPhase := true, evqHead := 0, evqTail := 0, evqPhase := true }) n := by
  simp [State.fnCtl, here, enable, events, off, idle]

/-- HIF_ERR_STATUS with no entry waiting: the written bits clear. -/
theorem State.errClear_quiet {s : State} {n : Nat} (v : Nat) (here : s.reaches n = true) (empty : (s.fn n).cplWait = []) :
    s.errClear n v = (s.setFn n { s.fn n with err := (s.fn n).err &&& ~~~(BitVec.ofNat 5 v) }).evqResume n := by
  have flush : (s.setFn n { s.fn n with err := (s.fn n).err &&& ~~~(BitVec.ofNat 5 v) }).flushCpl n = s.setFn n { s.fn n with err := (s.fn n).err &&& ~~~(BitVec.ofNat 5 v) } := by
    rw [State.flushCpl, State.fn_setFn]
    dsimp only
    rw [empty]
    rfl
  rw [State.errClear, here]
  exact congrArg (fun t => State.evqResume t n) flush

-- Register reads (R16, R19)

/-- A read inside one register answers what the latch gives. -/
theorem State.readHost_inside {s : State} {n key blk off len : Nat} {pairs : List (Nat × Nat × Nat)} {plain : Nat → Nat} (here : s.reaches n = true)
    (inside : len ≠ 0 ∧ off % 4 + len ≤ 4) : s.readHost n key pairs plain blk off len =
      (s.setFn n { s.fn n with shadow := (latchRead pairs (plain (off - off % 4)) blk (off - off % 4) 4 (s.fn n).shadow (key + (off - off % 4))).2 }).answer
        (subRead (latchRead pairs (plain (off - off % 4)) blk (off - off % 4) 4 (s.fn n).shadow (key + (off - off % 4))).1 off len) := by
  obtain ⟨some, fits⟩ := inside
  simp [State.readHost, here, some, Nat.not_lt.2 fits]

/-- A register that is no part of a pair reads its own value. -/
theorem latchRead_plain {pairs : List (Nat × Nat × Nat)} {blk o : Nat} (plain : Nat) (shadow : Table Word) (key : Nat) (alone : pairAt pairs blk o = none)
    (lower : pairAt pairs blk (o - 4) = none) : latchRead pairs plain blk o 4 shadow key = (plain, shadow) := by
  simp [latchRead, alone, lower]

/-- The _LO half reads the low word and latches the high one. -/
theorem latchRead_low {pairs : List (Nat × Nat × Nat)} {blk o v : Nat} (plain step : Nat) (shadow : Table Word) (key : Nat) (pair : pairAt pairs blk o = some v) :
    latchRead pairs plain blk o step shadow key = (v % 2 ^ 32, tset shadow key (BitVec.ofNat 32 (v / 2 ^ 32))) := by
  simp [latchRead, pair]

/-- The _HI half reads what its _LO read has latched. -/
theorem latchRead_high {pairs : List (Nat × Nat × Nat)} {blk o v : Nat} (plain : Nat) {shadow : Table Word} {key : Nat} {w : Word} (alone : pairAt pairs blk o = none)
    (far : 4 ≤ o) (pair : pairAt pairs blk (o - 4) = some v) (latched : tfind shadow (key - 4) = some w) :
    latchRead pairs plain blk o 4 shadow key = (w.toNat, tdel shadow (key - 4)) := by
  simp [latchRead, alone, far, pair, latched]

theorem subRead_whole {v o : Nat} (aligned : o % 4 = 0) : subRead v o 4 = BitVec.ofNat 32 v := by
  apply BitVec.eq_of_toNat_eq
  simp [subRead, aligned]

/-- Settles O19: function control and errors, writes that are not whole, AON_THERM_CFG, and register reads. -/
theorem functionRegisters : Obligations.FunctionRegisters := by
  refine ⟨fun fn v s here enable events off idle owed empty trip => ?enables, fun fn v s here changes busy => ?busy, fun fn v s here waits owed empty trip => ?clears,
    fun fn off bs s here part => ?part, fun w s here => ?throttle, fun off len s here outside => ?outside, fun s here => ?boot, fun s here => ?ticks⟩
  case enables =>
    have enabled := State.fnCtl_enables here ((bit_toNat v 0).trans enable) ((bit_toNat v 1).trans events) off idle
    refine congrArg Host.Outcome.next (enabled.trans (State.evqResume_quiet ?_ ?_ fun zero => trip (Fin.ext zero)))
    · rw [State.fn_setFn]
      exact owed
    · rw [State.fn_setFn]
      exact empty
  case busy =>
    have refused : (bit v.toNat 0 != (s.fn fn).enable && (s.fn fn).busy) = true := by
      rw [bit_toNat, busy, Bool.and_true]
      exact bne_iff_ne.2 changes
    have discards : s.fnCtl fn v.toNat = s.accessErr fn := by
      simp only [State.fnCtl, here, refused]
      rfl
    exact congrArg Host.Outcome.next discards
  case clears =>
    refine congrArg Host.Outcome.next ((State.errClear_quiet v.toNat here waits).trans (State.evqResume_quiet ?_ ?_ fun zero => trip (Fin.ext zero)))
    · rw [State.fn_setFn]
      exact owed
    · rw [State.fn_setFn]
      exact empty
  case part =>
    have discards : s.regWriteAt (.bar2 fn) off bs = s.accessErr fn := by
      rcases part with h | h <;> simp [State.regWriteAt, here, h]
    exact congrArg Host.Outcome.next discards
  case throttle =>
    have word : (BitVec.ofNat 32 (leNat (toLE 4 w.toNat)) : Word) = w := by
      apply BitVec.eq_of_toNat_eq
      rw [leNat_toLE, BitVec.toNat_ofNat]
      have := w.isLt
      omega
    have field : bits w.toNat 7 0 = w.toNat % 256 := by simp [bits]
    have written : s.regWriteAt .bar0 0x10010 (toLE 4 w.toNat) = s.modThermal fun t => { t with throttleC := ranged 85 105 t.throttleC (w.toNat % 256) } := by
      simp [State.regWriteAt, here, word, State.write0, field]
    exact congrArg Host.Outcome.next written
  case outside =>
    have discards : (len = 0 || decide (4 < off % 65536 % 4 + len)) = true := by
      rcases outside with h | h
      · rw [decide_eq_true h, Bool.true_or]
      · rw [decide_eq_true h, Bool.or_true]
    refine congrArg Host.Outcome.next ?_
    simp only [State.regReadAt, State.readHost, here, discards]
    rfl
  case boot =>
    have reads : s.regReadAt .bar0 0x10004 4 = (s.setFn 0 { s.fn 0 with shadow := (s.fn 0).shadow }).answer (subRead (s.reg0 1 4) 4 4) := by
      rw [State.regReadAt, State.readHost_inside here (by decide)]
      rw [latchRead_plain _ _ _ rfl rfl]
    refine ⟨_, congrArg Host.Outcome.next reads, ?_, rfl, rfl, sameBytes_of_eq rfl rfl⟩
    exact congrArg some (subRead_whole rfl)
  case ticks =>
    have reads : s.regReadAt .bar0 0x180008 4 = (s.setFn 0 { s.fn 0 with
        shadow := tset (s.fn 0).shadow (2 ^ 24 + 0x180008) (BitVec.ofNat 32 (s.aon.ticks.h0 / 2 ^ 32)) }).answer (subRead (s.aon.ticks.h0 % 2 ^ 32) 8 4) := by
      rw [State.regReadAt, State.readHost_inside here (by decide)]
      rw [latchRead_low _ _ _ _ rfl]
    have low : subRead (s.aon.ticks.h0 % 2 ^ 32) 8 4 = BitVec.ofNat 32 s.aon.ticks.h0 := by
      rw [subRead_whole rfl]
      apply BitVec.eq_of_toNat_eq
      simp
    refine ⟨_, congrArg Host.Outcome.next reads, congrArg some low, rfl, fun later here same => ?_⟩
    have latched : tfind (later.fn 0).shadow (2 ^ 24 + 0x180008) = some (BitVec.ofNat 32 (s.aon.ticks.h0 / 2 ^ 32)) := by
      rw [same]
      exact (congrArg (fun f => tfind (Fn.shadow f) (2 ^ 24 + 0x180008)) (tget_tset_same ..)).trans (tfind_tset_same ..)
    have high : later.regReadAt .bar0 0x18000C 4 = (later.setFn 0 { later.fn 0 with shadow := tdel (later.fn 0).shadow (2 ^ 24 + 0x180008) }).answer
        (subRead (BitVec.ofNat 32 (s.aon.ticks.h0 / 2 ^ 32)).toNat 0xC 4) := by
      rw [State.regReadAt, State.readHost_inside here (by decide)]
      rw [latchRead_high _ rfl (by decide) rfl latched]
      rfl
    refine ⟨_, congrArg Host.Outcome.next high, congrArg some ?_⟩
    rw [subRead_whole rfl, BitVec.ofNat_toNat, BitVec.setWidth_eq]

end Sys2Proof.Machine

/-! PROOF. The aperture and transfers (O20, O30; R182, R378, R395). -/

namespace Sys2Proof.Machine

-- The aperture (R378)

/-- A BAR4 request with the aperture's registers as they stand. -/
def State.bar4Req (s : State) (off len : Nat) (bytes : Option (List Byte)) (poisoned : Bool) : Bar4Req :=
  ⟨s.hif.bar4Valid, s.hif.bar4Ctx, s.hif.bar4Base.toNat, off, len, bytes, poisoned⟩

/-- The request waits alone. -/
def State.bar4Queued (s : State) (q : List Bar4Req) : State := { s with hif := { s.hif with bar4Q := q } }

theorem State.bar4Queued_nil {s : State} (empty : s.hif.bar4Q = []) : s.bar4Queued [] = s := by
  unfold State.bar4Queued
  rw [← empty]

/-- With no request before it, a request that is served leaves the queue empty. -/
theorem State.bar4Take_served {s t : State} {off len : Nat} {bytes : Option (List Byte)} {poisoned : Bool} (here : s.reaches 0 = true)
    (empty : s.hif.bar4Q = []) (inside : off + len ≤ 2 ^ s.hif.bar4Log2) (some : len ≠ 0)
    (served : (s.bar4Queued [s.bar4Req off len bytes poisoned]).bar4Serve (s.bar4Req off len bytes poisoned) = (t, true)) :
    s.bar4Take off len bytes poisoned = t.bar4Queued [] := by
  have takes : (!s.reaches 0 || decide (2 ^ s.hif.bar4Log2 < off + len) || len == 0) = false := by
    simp [here, Nat.not_lt.2 inside, some]
  unfold State.bar4Take
  rw [takes, empty]
  show (s.bar4Queued [s.bar4Req off len bytes poisoned]).bar4Pump 1 = _
  unfold State.bar4Pump
  show (if ((s.bar4Queued [s.bar4Req off len bytes poisoned]).bar4Serve (s.bar4Req off len bytes poisoned)).2 then _ else _) = _
  rw [served]
  rfl

/-- A request that has no admitted context is refused. -/
theorem State.bar4Serve_refused {s : State} {q : Bar4Req} (none : q.valid = false ∨ s.admitted q.ctx = false) : s.bar4Serve q = (s.bar4Refuse q, true) := by
  rcases none with h | h <;> simp [State.bar4Serve, h]

theorem State.readVa_bar4Queued (s : State) (q : List Bar4Req) (ctx a n : Nat) : (s.bar4Queued q).readVa ctx a n = s.readVa ctx a n := by
  induction n generalizing a with
  | zero => rfl
  | succ n ih => exact congrArg₂ List.cons rfl (ih (a + 1))

theorem State.tryRead_bar4Queued (s : State) (q : List Bar4Req) (ctx a n : Nat) (r : Reach) : (s.bar4Queued q).tryRead ctx a n r = s.tryRead ctx a n r := by
  unfold State.tryRead
  rw [State.readVa_bar4Queued]
  rfl

/-- Operations done for each of a list commute with a change that each of them commutes with. -/
theorem forAll_comm {α : Type} {f : α → State → State} {g : State → State} (one : ∀ a s, f a (g s) = g (f a s)) (l : List α) (s : State) :
    forAll l f (g s) = g (forAll l f s) := by
  induction l generalizing s with
  | nil => rfl
  | cons a r ih =>
    show forAll r f (f a (g s)) = _
    rw [one, ih]
    rfl

theorem State.countRange_bar4Queued (s : State) (q : List Bar4Req) (ctx a n : Nat) (h : Half) :
    (s.bar4Queued q).countRange ctx a n h = (s.countRange ctx a n h).bar4Queued q := by
  refine forAll_comm (g := fun s => s.bar4Queued q) (fun id t => ?_) (s.pagesOf ctx a n) s
  show (match t.pageById id with | some p => _ | none => _) = _
  cases t.pageById id <;> rfl

/-- A read that translates, waits for no copy and meets no bad byte answers its bytes. -/
theorem State.bar4Serve_reads {s : State} {q : Bar4Req} {bs : List Byte} (valid : q.valid = true) (admitted : s.admitted q.ctx = true)
    (stays : (s.ctx q.ctx).clearing = false) (free : s.bar4Held = false) (read : q.bytes = none) (settled : s.cuttingOver q.ctx (q.base + q.offset) q.len = false)
    (mapped : s.rangeFault q.ctx (q.base + q.offset) q.len false .bar4 = none) (clean : s.tryRead q.ctx (q.base + q.offset) q.len .bar4 = .ok bs) :
    s.bar4Serve q = ((s.countRange q.ctx (q.base + q.offset) q.len .h0).bar4Answer (some bs, false), true) := by
  simp [State.bar4Serve, valid, admitted, stays, free, read, settled, mapped, clean]

/-- A write that may go on stores its bytes. -/
theorem State.bar4Serve_writes {s t : State} {q : Bar4Req} {bs : List Byte} (valid : q.valid = true) (admitted : s.admitted q.ctx = true)
    (stays : (s.ctx q.ctx).clearing = false) (free : s.bar4Held = false) (write : q.bytes = some bs) (settled : s.writesHeld q.ctx (q.base + q.offset) bs.length = false)
    (stored : s.tryWrite q.ctx (q.base + q.offset) bs true q.poisoned .h0 .bar4 = .ok t) : s.bar4Serve q = (t, true) := by
  simp [State.bar4Serve, valid, admitted, stays, free, write, settled, stored]

/-- Settles O20: requests that have no admitted context, a read and a write. -/
theorem apertureRequests : Obligations.ApertureRequests := by
  refine ⟨fun off len s here empty inside some none => ?unsupported, fun off bs p s here empty inside none => ?discarded,
    fun off len bs s here empty inside some valid admitted stays free settled mapped clean => ?read,
    fun off bs p s q t here empty inside some valid admitted stays free settled queued stored => ?write⟩
  case unsupported =>
    have refused := State.bar4Serve_refused (s := s.bar4Queued [s.bar4Req off len .none false]) (q := s.bar4Req off len .none false) none
    refine congrArg Host.Outcome.next ((State.bar4Take_served here empty inside some refused).trans ?_)
    exact congrArg (fun t => State.bar4Answer t (.none, false)) (State.bar4Queued_nil empty)
  case discarded =>
    by_cases any : bs.length = 0
    · have nothing : s.bar4Take off bs.length (Option.some bs) p = s := by
        simp [State.bar4Take, any]
      exact congrArg Host.Outcome.next nothing
    · have refused := State.bar4Serve_refused (s := s.bar4Queued [s.bar4Req off bs.length (Option.some bs) p]) (q := s.bar4Req off bs.length (Option.some bs) p) none
      exact congrArg Host.Outcome.next ((State.bar4Take_served here empty inside any refused).trans (State.bar4Queued_nil empty))
  case read =>
    have served := State.bar4Serve_reads (s := s.bar4Queued [s.bar4Req off len none false]) (q := s.bar4Req off len none false) (bs := bs) valid admitted stays free rfl
      settled mapped ((s.tryRead_bar4Queued ..).trans clean)
    rw [State.countRange_bar4Queued] at served
    refine congrArg Host.Outcome.next ((State.bar4Take_served here empty inside some served).trans ?_)
    obtain ⟨ps, counts⟩ := s.countRange_eq s.hif.bar4Ctx (s.hif.bar4Base.toNat + off) len .h0
    have still : (s.countRange s.hif.bar4Ctx (s.hif.bar4Base.toNat + off) len .h0).hif.bar4Q = [] := by
      rw [counts]
      exact empty
    exact congrArg (fun t => State.bar4Answer t (Option.some bs, false)) (State.bar4Queued_nil still)
  case write =>
    have any : bs.length ≠ 0 := fun h => some (List.length_eq_zero_iff.1 h)
    have served := State.bar4Serve_writes (s := q) (t := t) (q := s.bar4Req off bs.length (Option.some bs) p) (bs := bs) valid (by rw [queued]; exact admitted)
      (by rw [queued]; exact stays) (by rw [queued]; exact free) rfl (by rw [queued]; exact settled) stored
    have alone : q = s.bar4Queued [s.bar4Req off bs.length (Option.some bs) p] := by
      rw [queued, State.bar4Queued, State.bar4Req, valid]
    rw [alone] at served
    exact congrArg Host.Outcome.next (State.bar4Take_served here empty inside any served)

-- Transfers (R395)

/-- A chunk of a running transfer that is not its last is written where the bytes moved so far end. -/
theorem State.hostData_chunk {s t : State} {n slot : Nat} {c : Cmd} {bs : List Byte} (cmd : s.cmd? n slot = some c) (xfer : c.opcode = 0x12) (runs : c.phase = .running)
    (some : bs ≠ []) (more : c.moved + bs.length < c.xferBytes) (free : s.writesHeld c.ctx (c.xferVa + c.moved) bs.length = false)
    (stored : s.tryWrite c.ctx (c.xferVa + c.moved) bs true false .h0 .module = .ok t) :
    s.hostData n slot (.data bs) = t.setCmd n slot { c with moved := c.moved + bs.length } := by
  have whole : bs.take (c.xferBytes - c.moved) = bs := List.take_of_length_le (by omega)
  simp [State.hostData, cmd, xfer, runs, whole, some, free, stored, Nat.not_le.2 more]

/-- Settles O30: XFER to the host and to the device, its data, and a failed read. -/
theorem transfersMoveBytes : Obligations.TransfersMoveBytes := by
  refine ⟨fun fn slot c s h fine out mapped settled clean => ?toHost, fun fn slot c s h fine into mapped more => ?toDevice,
    fun fn slot c bs s t cmd xfer runs some more free stored => congrArg Host.Outcome.next (State.hostData_chunk cmd xfer runs some more free stored),
    fun fn slot c why s cmd xfer runs => ?failed⟩
  case toHost =>
    refine exec_started _ h ?_
    simp only [State.xferStart, fine, out, State.starts_slot h]
    simp [mapped, State.xferOut, settled, clean, State.starts_slot h, stOk]
  case toDevice =>
    refine exec_started _ h ?_
    simp [State.xferStart, fine, into, mapped, Nat.not_le.2 more, State.starts_slot h]
  case failed =>
    have fails : s.hostData fn slot (.failed why) = (s.logRead fn why).complete fn slot 35 0 c.moved 0 := by
      simp [State.hostData, cmd, xfer, runs, stHostError]
    exact congrArg Host.Outcome.next fails

end Sys2Proof.Machine

/-! PROOF. Contexts that come and go, MAP and UNMAP (O27, O28; R197 to R215, R356, R389, R397). -/

namespace Sys2Proof.Machine

-- Admission

theorem State.ctx_modCtx (s : State) (n : Nat) (f : Ctx → Ctx) : (s.modCtx n f).ctx n = f (s.ctx n) := tget_tset_same ..

-- The context switch (R356)

/-- Two states that differ at most in what the engines of a context work on: runs, faults, fetches, bays, requests and the auger's registers. -/
def State.OnlyWork (s t : State) : Prop := ∃ c q f b r a, t = { s with scribe := c, faults := q, fetches := f, bays := b, reqs := r, aug := a }

theorem State.OnlyWork.refl (s : State) : s.OnlyWork s := ⟨s.scribe, s.faults, s.fetches, s.bays, s.reqs, s.aug, rfl⟩

theorem State.OnlyWork.trans {s t u : State} (st : s.OnlyWork t) (tu : t.OnlyWork u) : s.OnlyWork u := by
  obtain ⟨_, _, _, _, _, _, rfl⟩ := st
  obtain ⟨c, q, f, b, r, a, rfl⟩ := tu
  exact ⟨c, q, f, b, r, a, rfl⟩

theorem State.dropRuns_onlyWork (s : State) (ctx : Nat) : s.OnlyWork (s.dropRuns ctx) := by
  obtain ⟨c, q, f, b, r, a, gone⟩ := forAll_rel State.OnlyWork.refl State.OnlyWork.trans
    (fun (r : Run) x => show x.OnlyWork (x.delRun r.core) from ⟨_, _, x.fetches, x.bays, x.reqs, x.aug, rfl⟩) (s.scribe.runs.filter fun r => r.ctx == ctx) s
  unfold State.dropRuns
  dsimp only
  rw [gone]
  exact ⟨_, _, _, _, _, _, rfl⟩

/-- A run that is left after the runs of some cores are abandoned stood before, on another core. -/
theorem mem_runs_delRuns {r : Run} (l : List Run) {s : State} (h : r ∈ (forAll l (fun g x => x.delRun g.core) s).scribe.runs) :
    r ∈ s.scribe.runs ∧ ∀ g ∈ l, r.core ≠ g.core := by
  induction l generalizing s with
  | nil => exact ⟨h, fun _ hg => absurd hg List.not_mem_nil⟩
  | cons g rest ih =>
    obtain ⟨before, others⟩ := ih (s := s.delRun g.core) h
    obtain ⟨there, other⟩ := List.mem_filter.1 before
    exact ⟨there, fun k hk => by
      rcases List.mem_cons.1 hk with rfl | hk
      · simpa using other
      · exact others k hk⟩

theorem State.runs_dropRuns {s : State} {ctx : Nat} {r : Run} (h : r ∈ (s.dropRuns ctx).scribe.runs) : r.ctx ≠ ctx := by
  intro own
  obtain ⟨there, others⟩ := mem_runs_delRuns (s.scribe.runs.filter fun r => r.ctx == ctx) (s := s) h
  exact others r (List.mem_filter.2 ⟨there, beq_iff_eq.2 own⟩) rfl

/-- The cancelled fetches leave the runs as they are. -/
theorem scribe_cancelFetches (l : List Fetch) (s : State) : (forAll l (fun f x => x.cancelFetch f.id) s).scribe = s.scribe := by
  induction l generalizing s with
  | nil => rfl
  | cons f r ih => exact ih (s.cancelFetch f.id)

/-- The context as the switch begins, its lists and faults gone. -/
def State.switchBegins (s : State) (ctx : Nat) (rel : Option (Nat × Nat)) (byReset : Bool) : State :=
  let a := (s.modCtx ctx fun c => { c with clearing := true, release := rel, byReset := byReset }).dropRuns ctx
  { a with lists := a.lists.filter fun l => l.ctx != ctx, faults := a.faults.filter fun f => f.ctx != ctx }

/-- The switch begun, with the fetches and the engines of the context stopped. -/
def State.switchStops (s : State) (ctx : Nat) (rel : Option (Nat × Nat)) (byReset : Bool) : State :=
  let b := s.switchBegins ctx rel byReset
  let c := forAll (b.fetches.filter fun f => f.ctx == ctx) (fun f x => x.cancelFetch f.id) (b.dropClaims ctx)
  (c.dropEngines ctx).modCtx ctx fun x => { x with pegs := [], planes := [], seq := {}, stash := x.stash.map fun st => { st with jobs := [] } }

theorem State.switchStops_eq (s : State) (ctx : Nat) (rel : Option (Nat × Nat)) (byReset : Bool) : ∃ c q f b r a,
    s.switchStops ctx rel byReset = { s.modCtx ctx fun x => { x with
      clearing := true, release := rel, byReset := byReset, pegs := [], planes := [], seq := {}, stash := x.stash.map fun st => { st with jobs := [] } } with
      lists := s.lists.filter fun l => l.ctx != ctx, scribe := c, faults := q, fetches := f, bays := b, reqs := r, aug := a } := by
  have begins : ∃ c q f b r a, s.switchBegins ctx rel byReset = { s.modCtx ctx fun x => { x with clearing := true, release := rel, byReset := byReset } with
      lists := s.lists.filter fun l => l.ctx != ctx, scribe := c, faults := q, fetches := f, bays := b, reqs := r, aug := a } := by
    obtain ⟨c, q, f, b, r, a, dropped⟩ := (s.modCtx ctx fun c => { c with clearing := true, release := rel, byReset := byReset }).dropRuns_onlyWork ctx
    unfold State.switchBegins
    dsimp only
    rw [dropped]
    exact ⟨c, _, f, b, r, a, rfl⟩
  obtain ⟨c, q, f, b, r, a, begins⟩ := begins
  obtain ⟨c', q', f', b', r', a', cancelled⟩ := forAll_rel State.OnlyWork.refl State.OnlyWork.trans
    (fun (f : Fetch) x => show x.OnlyWork (x.cancelFetch f.id) from ⟨x.scribe, _, _, x.bays, _, _, rfl⟩)
    ((s.switchBegins ctx rel byReset).fetches.filter fun f => f.ctx == ctx) ((s.switchBegins ctx rel byReset).dropClaims ctx)
  unfold State.switchStops
  dsimp only
  rw [cancelled, begins]
  refine ⟨c', q', f', b', (State.dropEngines { s with reqs := r' } ctx).reqs, a', ?_⟩
  simp only [State.modCtx, State.setCtx, State.dropEngines, State.dropOwner, State.dropClaims, State.ctx, tget_tset_same, tset_tset]

theorem State.startSwitch_noStreams {s : State} {ctx : Nat} (rel : Option (Nat × Nat)) (byReset : Bool) (none : ∀ x ∈ s.streams, x.ctx ≠ ctx) :
    s.startSwitch ctx rel byReset = s.switchStops ctx rel byReset := by
  have empty : (s.switchStops ctx rel byReset).streams.filter (fun x => x.ctx == ctx) = [] := by
    obtain ⟨c, q, f, b, r, a, stops⟩ := s.switchStops_eq ctx rel byReset
    rw [stops]
    exact List.filter_eq_nil_iff.2 fun x hx own => none x hx (beq_iff_eq.1 own)
  show forAll ((s.switchStops ctx rel byReset).streams.filter fun x => x.ctx == ctx) _ (s.switchStops ctx rel byReset) = _
  rw [empty]
  rfl

/-- The switch stops the context's runs: none of it is left. -/
theorem State.runs_switchStops {s : State} {ctx : Nat} {rel : Option (Nat × Nat)} {byReset : Bool} {r : Run}
    (h : r ∈ (s.switchStops ctx rel byReset).scribe.runs) : r.ctx ≠ ctx := by
  have kept : (s.switchStops ctx rel byReset).scribe = (s.switchBegins ctx rel byReset).scribe := scribe_cancelFetches _ ((s.switchBegins ctx rel byReset).dropClaims ctx)
  rw [kept] at h
  exact State.runs_dropRuns h

-- The end of the switch (R356, R397)

/-- A page that is left after a sweep stood before, perhaps with its migration ended. -/
theorem State.mem_sweepPages {s : State} {p : Page} (h : p ∈ s.sweepPages.pages) : ∃ q ∈ s.pages, p = q ∨ p = { q with mig := none } := by
  obtain ⟨q, there, rfl⟩ := List.mem_map.1 h
  refine ⟨q, (List.mem_filter.1 there).1, ?_⟩
  split
  · split
    · exact .inr rfl
    · exact .inl rfl
  · exact .inl rfl

/-- A page that a sweep leaves mapped was mapped, in the same context. -/
theorem State.mapped_sweepPages {s : State} {p : Page} (h : p ∈ s.sweepPages.pages) (mapped : p.mapped = true) : ∃ q ∈ s.pages, q.mapped = true ∧ q.ctx = p.ctx := by
  obtain ⟨q, there, rfl | rfl⟩ := State.mem_sweepPages h
  · exact ⟨p, there, mapped, rfl⟩
  · exact ⟨q, there, mapped, rfl⟩

theorem State.abortCmds_onlyHif (s : State) (ctx : Nat) (rel : Option (Nat × Nat)) : s.OnlyHif (s.abortCmds ctx rel) :=
  forAll_rel State.OnlyHif.refl State.OnlyHif.trans (fun n t => forAll_rel State.OnlyHif.refl State.OnlyHif.trans
    (fun (c : Cmd) u => u.done_onlyHif n c.slot stAborted 0) _ t) (List.range 9) s

/-- The context's pages unmapped and its other records gone, before the commands end. -/
def State.ctxGone (s : State) (ctx : Nat) : State := State.setCtx (State.sweepPages { s with
  pages := s.pages.map fun (p : Page) => if p.ctx == ctx then { p with mapped := false, mig := none } else p
  loft := s.loft.filter fun r => r.ctx != ctx
  handles := s.handles.filter fun h => h.ctx != ctx
  faults := s.faults.filter fun f => f.ctx != ctx
  yard := { s.yard with packLow := s.yard.packLow.filter fun k => k / 2 != ctx } }) ctx (s.ctx ctx).cleared

theorem State.clearCtx_done {s : State} {ctx : Nat} (clearing : (s.ctx ctx).clearing = true) (streams : ∀ x ∈ s.streams, x.ctx ≠ ctx) (reqs : ∀ r ∈ s.reqs, r.ctx ≠ ctx) :
    (s.ctxGone ctx).OnlyHif (s.clearCtx ctx) := by
  have ready : (!(s.ctx ctx).clearing || s.streams.any (fun y => y.ctx == ctx) || s.reqs.any (fun r => r.ctx == ctx)) = false := by
    simp only [clearing, Bool.not_true, Bool.false_or, Bool.or_eq_false_iff, List.any_eq_false, beq_iff_eq]
    exact ⟨streams, reqs⟩
  have ends : s.clearCtx ctx = (match (s.ctx ctx).release with
      | some c => ((s.ctxGone ctx).abortCmds ctx (s.ctx ctx).release).done c.1 c.2 stOk 0
      | none => (s.ctxGone ctx).abortCmds ctx (s.ctx ctx).release) := by
    unfold State.clearCtx
    dsimp only
    rw [ready]
    rfl
  rw [ends]
  have aborted := (s.ctxGone ctx).abortCmds_onlyHif ctx (s.ctx ctx).release
  split
  · exact aborted.trans (State.done_onlyHif ..)
  · exact aborted

/-- Settles O27: an admission and its refusal, the start of the context switch, and its end. -/
theorem contextsComeAndGo : Obligations.ContextsComeAndGo := by
  refine ⟨fun fn slot c s h stays fine => ?admits, fun fn slot c d s h stays refused => ?refused, fun fn slot c s h none => ?releases,
    fun ctx s clearing streams reqs => ?clears⟩
  case admits =>
    have admits : s.ctxAdmit fn c = (s.admitCtx c).done fn c.slot stOk 0 := by
      simp [State.ctxAdmit, stays, fine]
    obtain ⟨i, done⟩ := (s.admitCtx c).done_onlyHif fn c.slot stOk 0
    refine ⟨_, exec_started _ h admits, ?_⟩
    have ctx : ((s.admitCtx c).ctx c.ctx) = _ := s.ctx_modCtx c.ctx _
    rw [done]
    exact ⟨congrArg Ctx.admitted ctx, congrArg Ctx.be ctx, congrArg Ctx.explicit ctx, congrArg Ctx.tenancy ctx, congrArg Ctx.res ctx,
      fun n ne => tget_tset_ne _ _ _ ne, rfl, rfl, fun _ => rfl⟩
  case refused =>
    refine exec_started _ h ?_
    simp [State.ctxAdmit, stays, refused, State.starts_slot h, stCtxRefused]
  case releases =>
    have starts := State.startSwitch_noStreams (s := s.setCmd fn c.slot { c with phase := .running }) (ctx := c.ctx) (some (fn.val, c.slot)) false none
    have runs (r : Run) (hr : r ∈ ((s.setCmd fn c.slot { c with phase := .running }).switchStops c.ctx (some (fn.val, c.slot)) false).scribe.runs) : r.ctx ≠ c.ctx :=
      State.runs_switchStops hr
    obtain ⟨d, q, f, b, r, a, stops⟩ := (s.setCmd fn c.slot { c with phase := .running }).switchStops_eq c.ctx (some (fn.val, c.slot)) false
    refine ⟨_, exec_started _ h starts, ?_⟩
    rw [stops] at runs ⊢
    have ctx := (s.setCmd fn c.slot { c with phase := .running }).ctx_modCtx c.ctx fun x => { x with
      clearing := true, release := some (fn.val, c.slot), byReset := false, pegs := [], planes := [], seq := {}, stash := x.stash.map fun st => { st with jobs := [] } }
    refine ⟨congrArg Ctx.clearing ctx, (congrArg Ctx.release ctx).trans (by rw [State.starts_slot h]), congrArg Ctx.pegs ctx, congrArg Ctx.planes ctx, fun l hl own => ?_, runs,
      fun n ne => tget_tset_ne _ _ _ ne, rfl, fun _ => rfl⟩
    simpa [own] using (List.mem_filter.1 hl).2
  case clears =>
    obtain ⟨i, ends⟩ := State.clearCtx_done clearing streams reqs
    have cleared : (s.ctxGone ctx).ctx ctx = (s.ctx ctx).cleared := tget_tset_same ..
    refine ⟨s.clearCtx ctx, rfl, ?_⟩
    rw [ends]
    refine ⟨congrArg Ctx.admitted cleared, congrArg Ctx.clearing cleared, (congrArg Ctx.tenancy cleared).trans rfl, congrArg Ctx.sems cleared, congrArg Ctx.pairs cleared,
      congrArg Ctx.groups cleared, congrArg Ctx.pegs cleared, fun p hp mapped own => ?_, fun n ne => tget_tset_ne _ _ _ ne, rfl⟩
    obtain ⟨q, hq, still, same⟩ := State.mapped_sweepPages hp mapped
    obtain ⟨r, _, rfl⟩ := List.mem_map.1 hq
    by_cases e : r.ctx = ctx.val
    · simp [e] at still
    · exact e (by simp [e, own] at same)

-- MAP and UNMAP (R201 to R205, R215)

/-- The pages of a MAP's range in turn. -/
def Cmd.mapPages (c : Cmd) : List Nat := (List.range (c.par 0x10 8 / pageBytes (attrBig (BitVec.ofNat 32 (c.par 0x18 4))))).map
  fun i => c.par 8 8 + pageBytes (attrBig (BitVec.ofNat 32 (c.par 0x18 4))) * i

theorem State.mapCmd_good {s : State} {c : Cmd} (n : Nat) (attr : s.attrBad c.ctx (BitVec.ofNat 32 (c.par 0x18 4)) = false)
    (range : s.mapRangeBad c.ctx (c.par 8 8) (c.par 0x10 8) (BitVec.ofNat 32 (c.par 0x18 4)) = false) :
    s.mapCmd n c = match (if attrTier (BitVec.ofNat 32 (c.par 0x18 4)) = 1 then .ok (c.mapPages.foldl (fun t v => t.mapBench c.ctx (BitVec.ofNat 32 (c.par 0x18 4)) v) s)
        else if attrTier (BitVec.ofNat 32 (c.par 0x18 4)) = 2 then s.mapLoft c.ctx (BitVec.ofNat 32 (c.par 0x18 4)) c.mapPages
        else s.mapYard c.ctx (BitVec.ofNat 32 (c.par 0x18 4)) c.mapPages) with
      | .ok t => t.done n c.slot stOk 0
      | .error d => s.done n c.slot stReservation d := by
  unfold State.mapCmd
  dsimp only
  rw [attr, range]
  rfl

theorem State.packChecks_leaves (s : State) (ctx : Nat) : ∃ y i, s.packChecks ctx = { s with yard := y, hif := i } := by
  have one (h : Half) (s : State) : ∃ y i, s.packCheck ctx h = { s with yard := y, hif := i } := by
    unfold State.packCheck
    dsimp only
    split
    · obtain ⟨i, posted⟩ := State.postCtx_onlyHif { s with yard := { s.yard with packLow := s.yard.packLow ++ [2 * ctx + h.num] } } ctx 7 h
        (toLE 1 h.num ++ toLE 4 (s.packCap ctx h - s.packLines ctx h))
      exact ⟨_, i, posted⟩
    · split
      · exact ⟨_, s.hif, rfl⟩
      · exact ⟨s.yard, s.hif, rfl⟩
  obtain ⟨y, i, first⟩ := one .h0 s
  obtain ⟨z, j, second⟩ := one .h1 (s.packCheck ctx .h0)
  exact ⟨z, j, by rw [State.packChecks, second, first]⟩

/-- A page inside a range is not mapped once the mapped ones of it are unmapped. -/
theorem Page.mapped_unmap (r : Page) {ctx a n : Nat} (inside : (if r.mapped && r.inside ctx a n then { r with mapped := false } else r).inside ctx a n = true) :
    (if r.mapped && r.inside ctx a n then { r with mapped := false } else r).mapped = false := by
  split at inside
  next h => rw [if_pos h]
  next h =>
    rw [if_neg h]
    exact Bool.eq_false_iff.2 fun mapped => h (by rw [mapped, inside]; rfl)

/-- After a range is unmapped no page inside it is mapped. -/
theorem State.unmapRange_unmaps {s : State} {ctx a n : Nat} {p : Page} (h : p ∈ (s.unmapRange ctx a n).pages) (inside : p.inside ctx a n = true) : p.mapped = false := by
  obtain ⟨y, i, checked⟩ := (((s.unmapWhere fun p => p.inside ctx a n).freeLoft (s.pages.filter fun p => p.mapped && p.inside ctx a n))).packChecks_leaves ctx
  rw [State.unmapRange, checked] at h
  obtain ⟨q, hq, same⟩ := State.mem_sweepPages h
  obtain ⟨r, _, rfl⟩ := List.mem_map.1 hq
  rcases same with rfl | rfl
  · exact r.mapped_unmap inside
  · exact r.mapped_unmap (ctx := ctx) (a := a) (n := n) inside

/-- Settles O28: the refusals of MAP and UNMAP, pages placed, and a range unmapped. -/
theorem mapAndUnmap : Obligations.MapAndUnmap := by
  refine ⟨fun fn slot c s h bad => ?refused, fun fn slot c s h attr range one bench => ?bench, fun fn slot c s h attr range yard notLoft vas pages => ?yard,
    fun fn slot c s h low high some fits whole free => ?unmapped, fun fn slot c s h cuts => ?cuts⟩
  case refused =>
    refine exec_started _ h ?_
    have refused : (s.attrBad c.ctx (BitVec.ofNat 32 (c.par 0x18 4)) || s.mapRangeBad c.ctx (c.par 8 8) (c.par 0x10 8) (BitVec.ofNat 32 (c.par 0x18 4))) = true := by
      rcases bad with h | h <;> simp [h]
    unfold State.mapCmd
    dsimp only
    rw [refused, State.starts_slot h]
    rfl
  case bench =>
    refine exec_started _ h ((State.mapCmd_good fn attr (one ▸ range)).trans ?_)
    have alone : c.mapPages = [c.par 8 8] := by
      have small : attrBig (BitVec.ofNat 32 (c.par 0x18 4)) = false := by
        cases big : attrBig (BitVec.ofNat 32 (c.par 0x18 4)) with
        | true => simp [State.attrBad, bench, big] at attr
        | false => rfl
      simp [Cmd.mapPages, small, one, pageBytes]
    rw [if_pos bench, alone, State.starts_slot h]
    rfl
  case yard =>
    have good := State.mapCmd_good fn.val attr range
    rw [if_neg yard, if_neg notLoft] at good
    subst pages
    refine ⟨fun t placed => exec_started _ h (good.trans ?_), fun d short => exec_started _ h (good.trans ?_)⟩
    · rw [show s.mapYard c.ctx (BitVec.ofNat 32 (c.par 0x18 4)) c.mapPages = .ok t from placed, State.starts_slot h]
      rfl
    · rw [show s.mapYard c.ctx (BitVec.ofNat 32 (c.par 0x18 4)) c.mapPages = .error d from short, State.starts_slot h]
      rfl
  case unmapped =>
    have unmaps : s.unmapCmd fn c = (s.unmapRange c.ctx (c.par 8 8) (c.par 0x10 8)).done fn c.slot stOk 0 := by
      have fine : (c.par 8 8 % 65536 != 0 || c.par 0x10 8 % 65536 != 0 || c.par 0x10 8 == 0 || decide (2 ^ 57 < c.par 8 8 + c.par 0x10 8)
          || s.cutsPage c.ctx (c.par 8 8) (c.par 0x10 8)) = false := by
        rw [decide_eq_false (Nat.not_lt.2 fits)]
        simp [low, high, some, whole]
      unfold State.unmapCmd
      dsimp only
      rw [fine, free]
      rfl
    refine ⟨_, exec_started _ h unmaps, ?_⟩
    obtain ⟨i, done⟩ := (s.unmapRange c.ctx (c.par 8 8) (c.par 0x10 8)).done_onlyHif fn c.slot stOk 0
    obtain ⟨y, j, checked⟩ := (((s.unmapWhere fun p => p.inside c.ctx (c.par 8 8) (c.par 0x10 8)).freeLoft
      (s.pages.filter fun p => p.mapped && p.inside c.ctx (c.par 8 8) (c.par 0x10 8)))).packChecks_leaves c.ctx
    rw [done]
    refine ⟨fun p hp inside => State.unmapRange_unmaps hp inside, ?_, ?_⟩
    · exact (congrArg State.plan checked).trans rfl
    · exact (congrArg State.streams checked).trans rfl
  case cuts =>
    refine exec_started _ h ?_
    have refused : (c.par 8 8 % 65536 != 0 || c.par 0x10 8 % 65536 != 0 || c.par 0x10 8 == 0 || decide (2 ^ 57 < c.par 8 8 + c.par 0x10 8)
        || s.cutsPage c.ctx (c.par 8 8) (c.par 0x10 8)) = true := by
      rcases cuts with h | h | h <;> simp [h]
    unfold State.unmapCmd
    dsimp only
    rw [refused, State.starts_slot h]
    rfl

end Sys2Proof.Machine

/-! PROOF. What a write to device memory changes (R182, R208, R222, R227, R229), and the stash: arming, resets, releases, claims and drops (O32, O35; R273 to R281, R392, R480). -/

namespace Sys2Proof.Machine

-- Writes to device memory

/-- What a page keeps over writes: all but its generation count, its marks, its stored lines, its access counts and its migration's dirty granules. -/
def Page.place (p : Page) : Page := { p with gen := 0, poison := [], stored := [], counts := ⟨0, 0⟩, mig := none }

/-- Two states that differ at most in the bytes and marks of pages, in Kerf's registers and in the host interface. -/
def State.OnlyStored (s t : State) : Prop := ∃ ps m y i, t = { s with pages := ps, mem := m, yard := y, hif := i } ∧ ps.map Page.place = s.pages.map Page.place

theorem State.OnlyStored.refl (s : State) : s.OnlyStored s := ⟨s.pages, s.mem, s.yard, s.hif, rfl, rfl⟩

theorem State.OnlyStored.trans {s t u : State} (st : s.OnlyStored t) (tu : t.OnlyStored u) : s.OnlyStored u := by
  obtain ⟨_, _, _, _, rfl, same⟩ := st
  obtain ⟨ps, m, y, i, rfl, same'⟩ := tu
  exact ⟨ps, m, y, i, rfl, same'.trans same⟩

theorem State.OnlyHif.onlyStored {s t : State} (h : s.OnlyHif t) : s.OnlyStored t := by
  obtain ⟨i, rfl⟩ := h
  exact ⟨s.pages, s.mem, s.yard, i, rfl, rfl⟩

/-- A change of one page keeps what the change of a page keeps. -/
theorem map_modPage {β : Type} (g : Page → β) {f : Page → Page} (id : Nat) (keeps : ∀ p, g (f p) = g p) (s : State) :
    (s.modPage id f).pages.map g = s.pages.map g := by
  rw [State.modPage, List.map_map]
  refine List.map_congr_left fun p _ => ?_
  rw [Function.comp_apply]
  split
  · exact keeps p
  · rfl

theorem State.modPage_onlyStored {f : Page → Page} (id : Nat) (keeps : ∀ p, (f p).place = p.place) (s : State) : s.OnlyStored (s.modPage id f) :=
  ⟨_, s.mem, s.yard, s.hif, rfl, map_modPage Page.place id keeps s⟩

theorem Page.place_dirtied (p : Page) (g : Nat) : (p.dirtied g).place = p.place := by
  unfold Page.dirtied
  split
  · split <;> rfl
  · rfl

theorem State.countLines_onlyStored (s : State) (id n : Nat) (h : Half) : s.OnlyStored (s.countLines id n h) := by
  refine State.modPage_onlyStored id (fun p => ?_) s
  split <;> rfl

theorem State.countRange_onlyStored (s : State) (ctx a n : Nat) (h : Half) : s.OnlyStored (s.countRange ctx a n h) := by
  refine forAll_rel State.OnlyStored.refl State.OnlyStored.trans (fun id t => ?_) (s.pagesOf ctx a n) s
  split
  · exact t.countLines_onlyStored ..
  · exact .refl t

theorem State.writePiece_onlyStored (s : State) (id off : Nat) (bs : List Byte) (poison : Bool) : s.OnlyStored (s.writePiece id off bs poison) := by
  unfold State.writePiece
  split
  · exact .refl s
  · dsimp only
    split
    · exact State.modPage_onlyStored id (fun q => by exact q.place_dirtied (off / 4096)) s
    · exact State.OnlyStored.trans ⟨s.pages, _, s.yard, s.hif, rfl, rfl⟩ (State.modPage_onlyStored id (fun q => by exact q.place_dirtied (off / 4096)) _)

theorem State.writeBytes_onlyStored (s : State) (ctx a : Nat) (bs : List Byte) (poison : Bool) : s.OnlyStored (s.writeBytes ctx a bs poison) := by
  refine forAll_rel State.OnlyStored.refl State.OnlyStored.trans (fun pc t => ?_) (pieces a bs) s
  split
  · exact .refl t
  · exact t.writePiece_onlyStored ..

theorem State.recompress_onlyStored (s : State) (id g : Nat) : s.OnlyStored (s.recompress id g) := by
  unfold State.recompress
  split
  · exact .refl s
  · dsimp only
    split
    · exact .refl s
    · split
      · exact State.modPage_onlyStored id (fun _ => by rfl) s
      · exact State.OnlyStored.trans ⟨s.pages, s.mem, _, s.hif, rfl, rfl⟩ (State.modPage_onlyStored id (fun _ => by rfl) _)

theorem State.packChecks_onlyStored (s : State) (ctx : Nat) : s.OnlyStored (s.packChecks ctx) := by
  obtain ⟨y, i, checked⟩ := s.packChecks_leaves ctx
  exact ⟨s.pages, s.mem, y, i, checked, rfl⟩

theorem State.commitAll_onlyStored {s t : State} {ctx : Nat} {l : List (Nat × List Byte)} {counted poison : Bool} (h : s.commitAll ctx l counted poison = .ok t) : s.OnlyStored t := by
  unfold State.commitAll at h
  extract_lets written packed counts at h
  have stored : s.OnlyStored written := forAll_rel State.OnlyStored.refl State.OnlyStored.trans (fun w x => x.writeBytes_onlyStored ctx w.1 w.2 poison) l s
  have kerfed : s.OnlyStored packed := stored.trans (forAll_rel State.OnlyStored.refl State.OnlyStored.trans (fun (g : Nat × Nat) x => x.recompress_onlyStored g.1 g.2) _ written)
  have counted : s.OnlyStored counts := by
    refine kerfed.trans ?_
    show packed.OnlyStored (if counted then _ else packed)
    split
    · exact forAll_rel State.OnlyStored.refl State.OnlyStored.trans (fun id x => State.modPage_onlyStored id (fun _ => by rfl) x) _ packed
    · exact .refl packed
  split at h
  · cases h
  · split at h
    · cases h
    · obtain rfl := Except.ok.inj h
      exact counted.trans (State.packChecks_onlyStored _ ctx)

/-- A write that translates changes what is stored and nothing else. -/
theorem State.tryWrite_onlyStored {s t : State} {ctx a : Nat} {bs : List Byte} {counted poison : Bool} {h : Half} {r : Reach}
    (written : s.tryWrite ctx a bs counted poison h r = .ok t) : s.OnlyStored t := by
  unfold State.tryWrite at written
  split at written
  · cases written
  · exact (s.countRange_onlyStored ctx a bs.length h).trans (State.commitAll_onlyStored written)

/-- Two states that differ at most in what is stored and in the faults that wait. -/
def State.OnlyWritten (s t : State) : Prop := ∃ q f, State.OnlyStored { s with faults := q, fresh := f } t

theorem State.OnlyStored.onlyWritten {s t : State} (h : s.OnlyStored t) : s.OnlyWritten t := ⟨s.faults, s.fresh, h⟩

theorem State.OnlyWritten.refl (s : State) : s.OnlyWritten s := (State.OnlyStored.refl s).onlyWritten

theorem State.OnlyWritten.trans {s t u : State} (st : s.OnlyWritten t) (tu : t.OnlyWritten u) : s.OnlyWritten u := by
  obtain ⟨_, _, _, _, _, _, rfl, same⟩ := st
  obtain ⟨q, f, ps, m, y, i, rfl, same'⟩ := tu
  exact ⟨q, f, ps, m, y, i, rfl, same'.trans same⟩

theorem State.postFault_onlyWritten (s : State) (ctx addr : Nat) (write : Bool) (cause : Nat) (who : Waiter) (h : Half) :
    s.OnlyWritten (s.postFault ctx addr write cause who h).2 := ⟨_, _, .refl _⟩

/-- A page after writes is a page from before, in the same place. -/
theorem State.OnlyWritten.page {s t : State} (h : s.OnlyWritten t) {p : Page} (hp : p ∈ t.pages) : ∃ q ∈ s.pages, q.place = p.place := by
  obtain ⟨_, _, ps, m, y, i, rfl, same⟩ := h
  exact List.mem_map.1 (same ▸ List.mem_map_of_mem hp)

/-- The stash's record is written, or its write waits. -/
theorem State.writeStash_onlyWritten (s : State) (ctx : Nat) : s.OnlyWritten (s.writeStash ctx) := by
  unfold State.writeStash
  split
  · exact .refl s
  · split
    next written => exact (State.tryWrite_onlyStored written).onlyWritten
    next => exact s.postFault_onlyWritten ..

-- Commands that read structures (R208, R481)

/-- A structure that is read whole goes on with its bytes, its lines counted. -/
theorem State.cmdRead_ok {s : State} {c : Cmd} {a len : Nat} {bs : List Byte} (n : Nat) (k : List Byte → State → State) (h : s.tryRead c.ctx a len .module = .ok bs) :
    s.cmdRead n c a len k = k bs (s.countRange c.ctx a len .h0) := by
  rw [State.cmdRead, h]

-- The stash by command (R273 to R276, R281, R392)

/-- A page in the window of a stash stays there over writes. -/
theorem Stash.owns_place {st : Stash} {ctx : Nat} {p q : Page} (h : q.place = p.place) : st.owns ctx q = st.owns ctx p := by
  have ctxs : q.ctx = p.ctx := (congrArg Page.ctx h :)
  have vas : q.va = p.va := (congrArg Page.va h :)
  rw [Stash.owns, Stash.owns, ctxs, vas]

/-- After pages are unmapped by a condition that their mapping and their migration do not touch, none that meets it is mapped. -/
theorem State.mapped_unmapWhere {s : State} {f : Page → Bool} (hf : ∀ p : Page, ∀ b m, f { p with mapped := b, mig := m } = f p) {p : Page}
    (h : p ∈ (s.unmapWhere f).pages) (meets : f p = true) : p.mapped = false := by
  obtain ⟨q, hq, same⟩ := State.mem_sweepPages h
  obtain ⟨r, _, rfl⟩ := List.mem_map.1 hq
  have fr : f r = true := by
    rcases same with rfl | rfl
    · split at meets
      · exact (hf r false r.mig).symm.trans meets
      · exact meets
    · split at meets
      · exact (hf r false none).symm.trans meets
      · exact (hf r r.mapped none).symm.trans meets
  have unmapped : (if r.mapped && f r then { r with mapped := false } else r).mapped = false := by
    rw [fr, Bool.and_true]
    split
    · rfl
    next on => simpa using on
  rcases same with rfl | rfl <;> exact unmapped

theorem State.unmapWhere_eq (s : State) (f : Page → Bool) : ∃ ps m, s.unmapWhere f = { s with pages := ps, mem := m } := ⟨_, _, rfl⟩

/-- Settles O32: the stash armed, reset and released, and a release without one. -/
theorem stashByCommand : Obligations.StashByCommand := by
  refine ⟨fun fn slot c h bs s u v t hs aligned low explicit unarmed read good hu readLayers hv fine apart clear scratch cap0 cap1 cleared => ?arm,
    fun fn slot c st bs s u t hs armed free stays read hu cleared => ?reset, fun fn slot c st s u hs armed free stays hu => ?release, fun fn slot c s hs unarmed => ?none⟩
  case arm =>
    have room : ((sdPolicy h == 0 && sdScratch h == 0) || decide (v.stashCap c.ctx .h0 < 2 * sdScratch h) || decide (v.stashCap c.ctx .h1 < 2 * sdScratch h)) = false := by
      rw [decide_eq_false (Nat.not_lt.2 cap0), decide_eq_false (Nat.not_lt.2 cap1)]
      simpa using scratch
    refine exec_started _ hs ?_
    simp only [State.stashArm, aligned, low, explicit, unarmed, bne_self_eq_false, Bool.or_false, Option.isSome_none, Bool.false_eq_true, if_false]
    rw [State.cmdRead_ok _ _ read, ← hu]
    simp only [good, Bool.false_eq_true, if_false]
    rw [State.cmdRead_ok _ _ readLayers, ← hv]
    simp only [fine, apart, clear, room, Bool.or_false, Bool.false_eq_true, if_false, cleared]
    rw [State.starts_slot hs]
    rfl
  case reset =>
    refine exec_started _ hs ?_
    simp only [State.stashReset, armed, free, stays, Bool.or_false, Bool.false_eq_true, if_false]
    rw [State.cmdRead_ok _ _ read, ← hu]
    simp only [cleared]
    rw [State.starts_slot hs]
    rfl
  case release =>
    have releases : s.stashRelease fn c = if u.stashHeld c.ctx then u.await fn c else (u.modCtx c.ctx fun x => { x with stash := none }).done fn c.slot stOk 0 := by
      simp only [State.stashRelease, armed, free, stays]
      rw [hu]
      rfl
    refine ⟨fun done => ?_, fun waits => exec_started _ hs ?_⟩
    · rw [done] at releases
      refine ⟨_, exec_started _ hs releases, ?_⟩
      obtain ⟨i, ended⟩ := (u.modCtx c.ctx fun x => { x with stash := none }).done_onlyHif fn c.slot stOk 0
      have written : ((s.unmapWhere (st.owns c.ctx)).modCtx c.ctx fun x => { x with stash := some { st with releasing := true, setOwner := [], jobs := [] } }).OnlyWritten u := by
        rw [hu]
        exact State.writeStash_onlyWritten _ _
      have end_ : (if false = true then u.await fn c else (u.modCtx c.ctx fun x => { x with stash := none }).done fn c.slot stOk 0)
          = { (u.modCtx c.ctx fun x => { x with stash := none }) with hif := i } := ended
      rw [end_]
      refine ⟨congrArg Ctx.stash (tget_tset_same ..), fun p hp own => ?_, ?_⟩
      · obtain ⟨q, hq, place⟩ := written.page hp
        have unmapped := State.mapped_unmapWhere (fun _ _ _ => rfl) hq ((Stash.owns_place place).trans own)
        have mapped : q.mapped = p.mapped := (congrArg Page.mapped place :)
        exact mapped.symm.trans unmapped
      · obtain ⟨_, _, _, _, _, _, rfl, _⟩ := written
        rfl
    · rw [releases, waits, if_pos rfl, State.await, State.starts_slot hs]
  case none =>
    refine exec_started _ hs ?_
    rw [State.stashRelease, unarmed, State.starts_slot hs]
    rfl

-- Claims and drops (R277 to R279)

/-- What a page keeps when its accesses are counted. -/
def Page.uncounted (p : Page) : Page := { p with counts := ⟨0, 0⟩ }

theorem State.countRange_uncounted (s : State) (ctx a n : Nat) (h : Half) : (s.countRange ctx a n h).pages.map Page.uncounted = s.pages.map Page.uncounted := by
  refine forAll_rel (R := fun s t => t.pages.map Page.uncounted = s.pages.map Page.uncounted) (fun _ => rfl) (fun st tu => tu.trans st) (fun id t => ?_) (s.pagesOf ctx a n) s
  split
  · refine map_modPage Page.uncounted id (fun p => ?_) t
    split <;> rfl
  · rfl

theorem State.countSpans_eq (s : State) (ctx : Nat) (l : List (Nat × Nat)) (h : Half) :
    ∃ ps, s.countSpans ctx l h = { s with pages := ps } ∧ ps.map Page.uncounted = s.pages.map Page.uncounted := by
  refine forAll_rel (R := fun s t => ∃ ps, t = { s with pages := ps } ∧ ps.map Page.uncounted = s.pages.map Page.uncounted) (fun s => ⟨s.pages, rfl, rfl⟩) ?_ (fun a t => ?_) l s
  · rintro s t u ⟨_, rfl, same⟩ ⟨ps, rfl, same'⟩
    exact ⟨ps, rfl, same'.trans same⟩
  · obtain ⟨ps, counted⟩ := t.countRange_eq ctx a.1 a.2 h
    have same := t.countRange_uncounted ctx a.1 a.2 h
    rw [counted] at same
    exact ⟨ps, counted, same⟩

/-- The free frames of a stash do not depend on access counts. -/
theorem State.stashFree_uncounted {s : State} {ps : List Page} (same : ps.map Page.uncounted = s.pages.map Page.uncounted) (ctx : Nat) (st : Stash) (h : Half) :
    State.stashFree { s with pages := ps } ctx st h = s.stashFree ctx st h := by
  have counts (l : List Page) : (l.filter fun p => p.mapped && p.ctx == ctx && p.half == h && p.kept).length
      = ((l.map Page.uncounted).filter fun p => p.mapped && p.ctx == ctx && p.half == h && p.kept).length := by
    rw [List.filter_map, List.length_map]
    rfl
  have length : (ps.filter fun p => p.mapped && p.ctx == ctx && p.half == h && p.kept).length = (s.pages.filter fun p => p.mapped && p.ctx == ctx && p.half == h && p.kept).length := by
    rw [counts ps, counts s.pages, same]
  exact congrArg (fun k => s.stashCap ctx h - 2 * sdScratch st.hdr - k) length

/-- A claim whose slot is empty and whose halves have the frames keeps them. -/
theorem State.claimSized_fits {s : State} {ctx : Nat} {st : Stash} {layer : Nat} {e : List Byte} {frames : Nat} (size : frames ≤ leSlotFrames e) (empty : leState e = 0)
    (h0 : slotShare e frames .h0 ≤ s.stashFree ctx st .h0) (h1 : slotShare e frames .h1 ≤ s.stashFree ctx st .h1) :
    ∃ ids, s.claimSized ctx st layer e frames
      = (s.claimStarts ctx st layer).modCtx ctx fun x => { x with stash := some { st with jobs := [⟨ids, layer, frames, 1⟩] } } := by
  refine ⟨((s.claimStarts ctx st layer).claimable.filter fun f => f.ctx == ctx && (s.claimStarts ctx st layer).layerAt ctx f.addr st == some layer).map PFault.id, ?_⟩
  unfold State.claimSized
  dsimp only
  rw [if_neg (Nat.not_lt.2 size), if_pos]
  simp [empty, h0, h1]

/-- Settles O35: a claim that keeps its frames, one mapped, and a drop. -/
theorem stashClaims : Obligations.StashClaims := by
  refine ⟨fun ctx f rest st i n e s oldest own armed manages idle free stays waits layer read empty frames size h0 h1 => ?claim,
    fun ctx st j s job manages => ?mapped, fun ctx st j s job manages copied => ?drop⟩
  case claim =>
    obtain ⟨ps, counted, same⟩ := s.countSpans_eq ctx [(st.entryAt i, 64), (leShape e, if leShape e = 0 then 0 else 8)] s.kingHalf
    have claims : s.stashClaim ctx = (s.countSpans ctx [(st.entryAt i, 64), (leShape e, if leShape e = 0 then 0 else 8)] s.kingHalf).claimSized ctx st i e n := by
      simp [State.stashClaim, oldest, armed, own, manages, idle, free, stays, waits, layer, read, empty, frames]
    rw [counted] at claims
    obtain ⟨ids, sized⟩ := State.claimSized_fits (s := { s with pages := ps }) (ctx := ctx) (st := st) (layer := i) size empty
      ((State.stashFree_uncounted same ctx st .h0).symm ▸ h0) ((State.stashFree_uncounted same ctx st .h1).symm ▸ h1)
    refine ⟨_, ids, congrArg Host.Outcome.next (claims.trans sized), congrArg Ctx.stash (State.ctx_modCtx ..), ?_, fun p hp => ?_, rfl, sameBytes_of_eq rfl rfl⟩
    · show ps.length = s.pages.length
      simpa using congrArg List.length same
    · obtain ⟨q, hq, unc⟩ := List.mem_map.1 (same ▸ List.mem_map_of_mem hp : Page.uncounted p ∈ s.pages.map Page.uncounted)
      exact ⟨q, hq, congrArg (fun r => { r with counts := p.counts }) unc.symm⟩
  case mapped =>
    refine congrArg Host.Outcome.next ?_
    simp only [State.claimMapped, job, manages]
    rfl
  case drop =>
    refine ⟨_, congrArg Host.Outcome.next ?_, rfl⟩
    simp only [State.dropDone, job, manages, copied]
    rfl

end Sys2Proof.Machine

/-! PROOF. Streams, the rollout sequence table and LEDGER_SWAP by command (O31, O33; R163 to R180, R262, R367 to R370, R392, R394). -/

namespace Sys2Proof.Machine

-- Streams by command

/-- A good stream header that is read goes on to what the slots and the lofts allow. -/
theorem State.streamArm_read {s u : State} {c : Cmd} {h : List Byte} (n : Nat) (bay : c.par 9 1 ≤ 63) (masked : s.inMask c.ctx (c.par 9 1) = true) (aligned : c.par 0x10 8 % 64 = 0)
    (low : refHigh (c.par 0x10 8) = 0) (read : s.tryRead c.ctx (c.par 0x10 8) 64 .module = .ok h) (good : hdrBad h = false)
    (hu : s.countRange c.ctx (c.par 0x10 8) 64 .h0 = u) :
    s.streamArm n c = match u.freeSlot (c.par 9 1), u.streamRun c.ctx (c.par 9 1) (hdrDepth h * (hdrBufGran h + 1)) with
      | some slot, some run => if u.queueTaken c.ctx (c.par 9 1) h then u.done n c.slot stStreamBusy 0 else u.armStream n c (c.par 0x10 8) (c.par 9 1) slot h run
      | _, _ => u.done n c.slot stStreamNoResource 0 := by
  have fine : (decide (63 < c.par 9 1) || !s.inMask c.ctx (c.par 9 1) || c.par 0x10 8 % 64 != 0 || refHigh (c.par 0x10 8) != 0) = false := by
    simp [masked, aligned, low, bay]
  unfold State.streamArm
  dsimp only
  rw [fine]
  refine (if_neg Bool.false_ne_true).trans ((State.cmdRead_ok n _ read).trans ?_)
  rw [good, hu]
  rfl

theorem State.namedStream_own {s : State} {c : Cmd} {x : Stream} (n : Nat) (k : Stream → State) (bay : c.par 9 1 ≤ 63) (slot : c.par 0xA 1 ≤ 63)
    (there : s.stream? (c.par 9 1) (c.par 0xA 1) = some x) (own : x.ctx = c.ctx) : s.namedStream n c k = k x := by
  have fine : (decide (63 < c.par 9 1) || decide (63 < c.par 0xA 1)) = false := by
    simp [bay, slot]
  unfold State.namedStream
  dsimp only
  rw [fine, there]
  exact if_pos (beq_iff_eq.2 own)

theorem State.armedStream_own {s : State} {c : Cmd} {x : Stream} (n : Nat) (k : Stream → State) (bay : c.par 9 1 ≤ 63) (slot : c.par 0xA 1 ≤ 63)
    (there : s.stream? (c.par 9 1) (c.par 0xA 1) = some x) (own : x.ctx = c.ctx) (armed : x.state ≠ 4) : s.armedStream n c k = k x :=
  (State.namedStream_own n _ bay slot there own).trans (if_neg armed)

/-- The bases of a REARM, all of them plain addresses. -/
theorem Cmd.bases_plain {c : Cmd} (plain : ∀ i, i < 4 → refHigh (c.par (0x18 + 8 * i) 8) = 0) :
    (((List.range 4).map fun i => c.par (0x18 + 8 * i) 8).any fun b => refHigh b != 0) = false := by
  refine List.any_eq_false.2 fun b hb => ?_
  obtain ⟨i, hi, rfl⟩ := List.mem_map.1 hb
  simp [plain i (List.mem_range.1 hi)]

/-- Settles O31: the six operations of STREAM_ARM. -/
theorem streamsByCommand : Obligations.StreamsByCommand := by
  refine ⟨fun fn slot c h i run s hs bay masked aligned low read good free room unused => ?arm, fun fn slot c h s hs bay masked aligned low read good full => ?full,
    fun fn slot c x s hs bay sl there own persists armed due held plain => ?rearm, fun fn slot c x s hs bay sl there own persists busy plain => ?busy,
    fun fn slot c x s hs bay sl there own idle => ?cancel, fun fn slot c x s hs bay sl there own faulted stays => ?restart,
    fun fn slot c x s hs bay sl there own armed stays => ?release⟩
  case arm =>
    obtain ⟨ps, counted⟩ := s.countRange_eq c.ctx (c.par 0x10 8) 64 .h0
    have free' : State.freeSlot { s with pages := ps } (c.par 9 1) = some i := free
    have room' : State.streamRun { s with pages := ps } c.ctx (c.par 9 1) (hdrDepth h * (hdrBufGran h + 1)) = some run := room
    have unused' : State.queueTaken { s with pages := ps } c.ctx (c.par 9 1) h = false := unused
    refine exec_started _ hs ((State.streamArm_read fn bay masked aligned low read good counted).trans ?_)
    rw [free', room', counted]
    exact if_neg (by rw [unused']; exact Bool.false_ne_true)
  case full =>
    obtain ⟨ps, counted⟩ := s.countRange_eq c.ctx (c.par 0x10 8) 64 .h0
    have full' : State.freeSlot { s with pages := ps } (c.par 9 1) = none := full
    refine exec_started _ hs ((State.streamArm_read fn bay masked aligned low read good counted).trans ?_)
    rw [full', counted, State.starts_slot hs]
    rfl
  case rearm =>
    refine exec_started _ hs ?_
    unfold State.streamRearm
    dsimp only
    rw [Cmd.bases_plain plain, State.starts_slot hs]
    refine (State.namedStream_own fn _ bay sl there own).trans ?_
    simp only [persists, armed, held, due]
    rfl
  case busy =>
    have refuses : (decide (x.state = 3) || decide (x.state = 4) || x.heldBases.isSome) = true := by
      rcases busy with h | h | h
      · simp [h]
      · simp [h]
      · simp [Option.isSome_iff_ne_none.2 h]
    refine exec_started _ hs ?_
    unfold State.streamRearm
    dsimp only
    rw [Cmd.bases_plain plain, State.starts_slot hs]
    refine (State.namedStream_own fn _ bay sl there own).trans ?_
    rw [persists, refuses]
    rfl
  case cancel =>
    have armed : x.state ≠ 4 := by omega
    have ends : (decide (x.state = 0) || decide (x.state = 3)) = true := by
      rcases idle with h | h <;> simp [h]
    refine exec_started _ hs ((State.armedStream_own fn _ bay sl there own armed).trans ?_)
    rw [ends, State.starts_slot hs]
    rfl
  case restart =>
    have armed : x.state ≠ 4 := by omega
    refine exec_started _ hs ((State.armedStream_own fn _ bay sl there own armed).trans ?_)
    rw [faulted, stays, State.starts_slot hs]
    rfl
  case release =>
    refine exec_started _ hs ((State.armedStream_own fn _ bay sl there own armed).trans ?_)
    rw [stays, State.starts_slot hs]
    rfl

-- The sequence table (R367 to R370, R394)

/-- An edit of a table that no build holds goes on with its address. -/
theorem State.seqCmd_free {s : State} {c : Cmd} (n : Nat) (k : Nat → State) (idle : (s.ctx c.ctx).seq.building = false) (low : refHigh (c.par 0x10 8) = 0)
    (table : (s.ctx c.ctx).res.seq ≠ 0) : s.seqCmd n c k = k (c.par 0x10 8) := by
  simp [State.seqCmd, idle, low, table]

/-- What a build makes of a slot that decodes and whose stop word is clear. -/
theorem State.buildSlot_decode {s : State} {ctx : Nat} {r : List Byte} {e : SeqEntry} (decode : e.state = 1) (unstopped : e.stopRef = 0) :
    s.buildSlot ctx r e = if e.stepLimit != 0 && e.stepsDone == e.stepLimit then .ok ({ e with state := 2, cause := 2 }, 0, false, true)
      else .ok ({ e with stepsDone := (e.stepsDone + 1) % 2 ^ 32 }, scTemplate r + 1, true, false) := by
  unfold State.buildSlot
  rw [decode, unstopped]
  rfl

theorem State.buildSlot_stopped {s : State} {ctx : Nat} {r : List Byte} {e : SeqEntry} {b : List Byte} (decode : e.state = 1) (stop : e.stopRef ≠ 0)
    (read : s.tryRead ctx (refAddr e.stopRef) 4 .module = .ok b) (stopped : leNat b ≠ 0) : s.buildSlot ctx r e = .ok ({ e with state := 2, cause := 1 }, 0, false, true) := by
  unfold State.buildSlot
  rw [decode, if_neg stop, read]
  show (if leNat b != 0 then _ else _) = _
  exact if_pos (bne_iff_ne.2 stopped)

/-- LEDGER_SWAP of good parameters reads the anchor. -/
theorem State.ledgerSwap_read {s u : State} {c : Cmd} {b : List Byte} (n : Nat) (anchor : c.par 0x10 8 % 64 = 0) (anchorLow : refHigh (c.par 0x10 8) = 0) (root : c.par 0x18 8 % 64 = 0)
    (rootLow : refHigh (c.par 0x18 8) = 0) (some : c.par 0x20 4 ≠ 0) (few : c.par 0x20 4 ≤ 1048576) (read : s.tryRead c.ctx (c.par 0x10 8) 64 .module = .ok b)
    (legal : (anchorOf (c.par 0x10 8) b).legal = true) (hu : s.countRange c.ctx (c.par 0x10 8) 64 .h0 = u) :
    s.ledgerSwap n c = if (anchorOf (c.par 0x10 8) b).busy then u.done n c.slot stLedgerBusy 0
      else match u.swapWrites c (c.par 0x10 8) (anchorOf (c.par 0x10 8) b) with
        | .error f => u.cmdFault n c f.1 f.2 true
        | .ok t => (t.setCmd n c.slot { c with phase := .running, moved := (anchorOf (c.par 0x10 8) b).rootSeq }).sweepSwaps := by
  have fine : (c.par 0x10 8 % 64 != 0 || refHigh (c.par 0x10 8) != 0 || c.par 0x18 8 % 64 != 0 || refHigh (c.par 0x18 8) != 0 || c.par 0x20 4 == 0
      || decide (1048576 < c.par 0x20 4)) = false := by
    simp [anchor, anchorLow, root, rootLow, some, few]
  unfold State.ledgerSwap
  dsimp only
  rw [fine]
  refine (if_neg Bool.false_ne_true).trans ((State.cmdRead_ok n _ read).trans ?_)
  rw [legal, hu]
  rfl

/-- Settles O33: edits of the sequence table, its builds, and LEDGER_SWAP. -/
theorem sequenceAndLedger : Obligations.SequenceAndLedger := by
  refine ⟨fun fn slot c r s hs idle low table read good => ?control, fun fn slot c b s hs idle low table inside one length good read => ?write,
    fun fn slot c s t hs idle low table inside written => ?read, fun fn slot c s hs idle low table beyond => ?beyond, fun ctx r s control idle edited may => ?start,
    fun ctx r t es s control builds all ready peg => ?built,
    fun ctx r e s => ⟨fun other => ?other, fun decode unstopped limit atLimit => ?limit, fun decode unstopped unlimited => ?step,
      fun b decode stop read stopped => State.buildSlot_stopped decode stop read stopped⟩,
    fun fn slot c b s u t hs anchor anchorLow root rootLow some few read legal free hu swapped => ?swap,
    fun fn slot c b s hs anchor anchorLow root rootLow some few read legal busy => ?swapBusy⟩
  case control =>
    obtain ⟨ps, counted⟩ := s.countRange_eq c.ctx (c.par 0x10 8) 64 .h0
    have good' : State.controlBad { s with pages := ps } c.ctx r = false := good
    refine exec_started _ hs ((State.seqCmd_free fn _ idle low table).trans ((State.cmdRead_ok fn _ read).trans ?_))
    rw [counted, good', State.starts_slot hs]
    rfl
  case write =>
    have read' : s.tryRead c.ctx (c.par 0x10 8) (32 * c.seqCount) .module = .ok b := by
      rw [one]
      exact read
    refine exec_started _ hs ((State.seqCmd_free fn _ idle low table).trans ?_)
    rw [inside]
    refine (if_neg Bool.false_ne_true).trans ((State.cmdRead_ok fn _ read').trans ?_)
    have whole : (List.range c.seqCount).map (fun i => cut b (32 * i) 32) = [b] := by
      rw [one]
      exact congrArg (fun x => [x]) (cut_whole length)
    rw [whole, one, State.starts_slot hs]
    simp [good, stOk]
  case read =>
    refine exec_started _ hs ((State.seqCmd_free fn _ idle low table).trans ?_)
    rw [inside]
    simp only [written, Bool.false_eq_true, if_false]
    rw [State.starts_slot hs]
    rfl
  case beyond =>
    refine exec_started _ hs ((State.seqCmd_free fn _ idle low table).trans ?_)
    rw [beyond, State.starts_slot hs]
    rfl
  case start =>
    refine congrArg Host.Outcome.next ?_
    simp only [State.buildStart, control, idle, edited, may]
    rfl
  case built =>
    refine congrArg Host.Outcome.next ?_
    simp only [State.buildDone, control, builds, all, if_neg ready, peg]
    rfl
  case other =>
    unfold State.buildSlot
    rw [if_pos (bne_iff_ne.2 other)]
    rfl
  case limit =>
    rw [State.buildSlot_decode decode unstopped, if_pos]
    simp [limit, atLimit]
  case step =>
    rw [State.buildSlot_decode decode unstopped, if_neg]
    simp [unlimited]
  case swap =>
    refine exec_started _ hs ((State.ledgerSwap_read fn anchor anchorLow root rootLow some few read legal hu.symm).trans ?_)
    rw [free, swapped, State.starts_slot hs]
    rfl
  case swapBusy =>
    refine exec_started _ hs ((State.ledgerSwap_read fn anchor anchorLow root rootLow some few read legal rfl).trans ?_)
    rw [busy, State.starts_slot hs]
    rfl

end Sys2Proof.Machine

/-! PROOF. Passes, semaphore pairs and blocks: the auger's steps on streams and fetches (O36, O38). -/
namespace Sys2Proof.Machine

/-- Settles O36, branch by branch: the premises of each clause decide every guard before the branch it claims. -/
theorem passesAndPairs : Obligations.PassesAndPairs := by
  unfold Obligations.PassesAndPairs
  refine ⟨fun bay slot x s there armed due fault stop again cancel noSem => ?unguarded,
    fun bay slot x s there armed due fault stop again cancel sem may => ?guarded,
    fun bay slot x s there running cancel cur stop again fault left kind free empty => ?fill,
    fun agent bay slot x b raw s there kind full buf ready fresh => ?read,
    fun agent bay slot x b raw s there kind full buf ready check stale => ?stale,
    fun bay slot x s there running cancel cur stop again fault left kind full => ?writeBack,
    fun agent bay slot x raw s there kind free => ?agentFills⟩
  case unguarded =>
    have starts : s.startPass bay slot = s.putStream { x with
        state := 1, due := false, ended := false, next := 0, watermark := 0, cur := none, order := [], stop := none } := by
      simp [State.startPass, there, armed, due, fault, stop, again, cancel, noSem]
    exact congrArg Host.Outcome.next starts
  case guarded =>
    have starts : s.startPass bay slot = State.putStream (s.semTake x.ctx bay (hdrWaitSem x.hdr) (hdrWaitN x.hdr))
        { x with state := 1, due := false, ended := false, next := 0, watermark := 0, cur := none, order := [], stop := none } := by
      simp [State.startPass, there, armed, due, fault, stop, again, cancel, sem, may]
    exact congrArg Host.Outcome.next starts
  case fill =>
    have takes : s.augerTake bay slot = State.setStream (s.pairTake x.ctx bay (hdrQueue x.hdr) false)
        { x with cur := some x.ringPos, order := x.order ++ [x.ringPos], ringPos := (x.ringPos + 1) % hdrDepth x.hdr,
                 bufs := tset x.bufs x.ringPos {} } := by
      simp [State.augerTake, there, running, cancel, cur, stop, again, fault, left, kind, free, empty]
    exact congrArg Host.Outcome.next takes
  case read =>
    have current : (hdrCheckGen x.hdr && !(s.staleGens x.ctx b).isEmpty) = false := by
      cases fresh with
      | inl unchecked => simp [unchecked]
      | inr none => simp [none]
    have takes : s.agentTake agent bay slot raw = State.settleStream (State.pairAdd (State.setStream (State.pairTake
        (if agent = .plane then s.planeGets x.ctx bay (hdrQueue x.hdr) (memReadN b.data 0 (hdrBufBytes x.hdr)) else s) x.ctx bay (hdrQueue x.hdr) true)
        { x with bufs := tdel x.bufs x.agentPos, agentPos := (x.agentPos + 1) % hdrDepth x.hdr }) x.ctx bay (hdrQueue x.hdr) false 1) bay slot := by
      simp [State.agentTake, there, kind, full, buf, ready, current]
    exact congrArg Host.Outcome.next takes
  case stale =>
    have refetches : s.agentTake agent bay slot raw = s.startRefetch x x.agentPos b (s.staleGens x.ctx b) := by
      simp [State.agentTake, there, kind, full, buf, ready, check, stale]
    exact congrArg Host.Outcome.next refetches
  case writeBack =>
    have takes : s.augerTake bay slot = State.setStream (s.pairTake x.ctx bay (hdrQueue x.hdr) true)
        { x with cur := some x.ringPos, order := x.order ++ [x.ringPos], ringPos := (x.ringPos + 1) % hdrDepth x.hdr,
                 bufs := tset x.bufs x.ringPos { data := (tget x.bufs x.ringPos {}).data } } := by
      simp [State.augerTake, there, running, cancel, cur, stop, again, fault, left, kind, full]
    exact congrArg Host.Outcome.next takes
  case agentFills =>
    have fills : s.agentTake agent bay slot raw = State.pairAdd (State.setStream (s.pairTake x.ctx bay (hdrQueue x.hdr) false)
        { x with bufs := tset x.bufs x.agentPos { data := memWriteN [] 0 (raw.take (hdrBufBytes x.hdr)), use := 2 },
                 agentPos := (x.agentPos + 1) % hdrDepth x.hdr }) x.ctx bay (hdrQueue x.hdr) true 1 := by
      simp [State.agentTake, there, kind, free]
    exact congrArg Host.Outcome.next fills

/-- A running stream with a buffer open and none to be fetched again goes on to its next block. -/
theorem State.translateStream_next {s : State} {bay slot : Nat} {x : Stream} {i : Nat} {b : Buf} (there : s.stream? bay slot = some x)
    (running : x.state = 1) (cancel : x.cancelling = false) (stop : x.stop = none) (again : x.reStop = none)
    (current : ∀ y ∈ x.bufs, y.2.refetch = []) (left : x.next ≤ hdrEntries x.hdr) (cur : x.cur = some i) (buf : tfind x.bufs i = some b)
    (unheld : x.recordHeld = false) : s.translateStream bay slot = s.nextBlock x i b := by
  have noneFirst : (x.bufs.find? fun e => !e.2.refetch.isEmpty && !decide (e.1 ∈ x.order)) = none :=
    List.find?_eq_none.2 fun y hy => by simp [current y hy]
  have noneThen : (x.bufs.find? fun e => !e.2.refetch.isEmpty) = none :=
    List.find?_eq_none.2 fun y hy => by simp [current y hy]
  simp [State.translateStream, there, running, cancel, stop, again, noneFirst, noneThen, Nat.not_lt.2 left, cur, buf, unheld]

/-- Settles O38: a row or entry that translates has its lines requested, and one that does not stops its transfer before it. -/
theorem blocksAreTranslated : Obligations.BlocksAreTranslated := by
  unfold Obligations.BlocksAreTranslated
  refine ⟨fun id a n f s there stop fault failed current row quiet good => ?row,
    fun id a n v c f s there stop fault failed current row quiet bad => ?rowFaults,
    fun bay slot x e i b s there running cancel stop again fault current left cur buf entry bad => ?badEntry,
    fun bay slot x e i b s there running cancel stop again fault current left cur buf entry legal quiet good => ?block⟩
  case row =>
    refine congrArg Host.Outcome.next ?_
    simp [State.translateFetch, there, stop, fault, failed, current, row, quiet, good]
  case rowFaults =>
    refine congrArg Host.Outcome.next ?_
    simp [State.translateFetch, there, stop, fault, failed, current, row, quiet, bad, stPageFault]
  case badEntry =>
    refine congrArg Host.Outcome.next ((State.translateStream_next there running cancel stop again current left cur buf ?_).trans ?_)
    · simp [Stream.recordHeld, fault]
    · simp [State.nextBlock, entry, bad, stDescInvalid]
  case block =>
    refine congrArg Host.Outcome.next ((State.translateStream_next there running cancel stop again current left cur buf ?_).trans ?_)
    · simp [Stream.recordHeld, fault]
    · simp only [State.nextBlock, entry, legal, quiet, good]; rfl

end Sys2Proof.Machine

/-! PROOF. Request slots and the requests they serve (O39; R189, R190, R200, R221, R222, R228, R451). -/

namespace Sys2Proof.Machine

-- Slots

/-- Where the first request in turn of a bay may have a slot and its bank has one, the bay takes it. -/
theorem State.grantBay_first {s : State} {site bay : Nat} {r : Req} {rest : List Req} (room : s.bankBlocked site bay < 64) (may : s.grantable r = true)
    (bank : s.bankSlots site r.bank < s.aug.bankCap) : s.grantBay site bay (r :: rest)
      = ((s.grantReq r.id).setSite site { s.site site with lastBay := bay, lastXfer := tset (s.site site).lastXfer bay r.turn }, true) := by
  simp [State.grantBay, Nat.not_le.2 room, may, bank]

/-- Where no bank-blocked request may have a slot, the bays take their turns from the one after the last. -/
theorem State.slotGrant_turns {s : State} {site : Nat} (blocked : ∀ q ∈ s.reqs, q.site = site → s.unblocks q = false) :
    s.slotGrant site = s.grantBays site (((s.site site).lastBay + 1) % 65 :: (List.range 64).map fun i => ((s.site site).lastBay + 1 + (i + 1)) % 65) := by
  have none : (s.reqs.find? fun q => q.site == site && s.unblocks q) = none :=
    List.find?_eq_none.2 fun q there => by
      by_cases own : q.site = site
      · simp [blocked q there own]
      · simp [own]
  have turns : (List.range 65).map (fun i => ((s.site site).lastBay + 1 + i) % 65)
      = ((s.site site).lastBay + 1) % 65 :: (List.range 64).map fun i => ((s.site site).lastBay + 1 + (i + 1)) % 65 := by
    rw [List.range_succ_eq_map, List.map_cons, List.map_map]
    rfl
  rw [State.slotGrant, none, turns]

/-- A request that is given a slot is granted. -/
theorem State.granted_grantReq {s : State} {id : Nat} {q : Req} (h : q ∈ (s.grantReq id).reqs) (same : q.id = id) : q.state = .granted := by
  rcases List.mem_append.1 h with kept | given
  · simp [same] at kept
  · obtain ⟨r, _, rfl⟩ := List.mem_map.1 given
    rfl

/-- A request other than the one given a slot stays as it is. -/
theorem State.mem_grantReq {s : State} {id : Nat} {q : Req} (there : q ∈ s.reqs) (other : q.id ≠ id) : q ∈ (s.grantReq id).reqs :=
  List.mem_append_left _ (List.mem_filter.2 ⟨there, by simp [other]⟩)

-- Completions

/-- A granted request that nothing delays completes with what its page and the lane code say. -/
theorem State.completeReq_granted {s : State} {id : Nat} {r : Req} {p : Page} (o : LineOutcome) (there : s.req? id = some r) (granted : r.state = .granted)
    (page : s.pageById r.page = some p) (bridge : s.bridgeWaits r.half r.site = false) (first : s.behindReq r = false) :
    s.completeReq id o = if p.badFor r = true then State.servePoisoned (s.countLines r.page 1 r.half) r (if r.site < 12 then pfYard else pfLoft)
      else if 12 ≤ r.site ∨ r.fullLine = true ∨ p.badUnder r = true then State.serve (s.countLines r.page 1 r.half) r
      else match (s.site r.site).sees (r.bank / 16) o with
        | .clean => State.serve (s.countLines r.page 1 r.half) r
        | .corrected l => State.serve (State.lineCorrected (s.countLines r.page 1 r.half) r.site (r.bank / 16) (some l)) r
        | .uncorrectable => State.setReq (s.countLines r.page 1 r.half) id .retrying := by
  simp only [State.completeReq, there, granted, page, bridge, first, bne_self_eq_false, Bool.or_false, Bool.false_eq_true, if_false, Bool.or_eq_true,
    decide_eq_true_eq, or_assoc] <;> rfl

/-- The completion of a request that stands in the list is also the moment its bay's claim is noticed. -/
theorem exec_lineRequestComplete {s t : State} {id : Nat} {r : Req} {o : LineOutcome} (there : s.req? id = some r) (completes : s.completeReq id o = t) :
    exec (.lineRequestComplete id o) s = .next (t.noticeClaim r.bay) := by
  have bay : s.reqBay id = r.bay := by rw [State.reqBay, there]
  exact congrArg Host.Outcome.next (congrArg₂ State.noticeClaim completes bay)

/-- What the lane code says: an erased lane is rebuilt, and with a lane erased a further one is not corrected. -/
theorem Site.sees_corrected (x : Site) (sub : Nat) (l : Fin 12) :
    ((∀ k ∈ x.erased, k / 16 ≠ sub) → x.sees sub (.corrected l) = .corrected l)
    ∧ (sub * 16 + l.val ∈ x.erased → x.sees sub (.corrected l) = .clean)
    ∧ (sub * 16 + l.val ∉ x.erased → (∃ k ∈ x.erased, k / 16 = sub) → x.sees sub (.corrected l) = .uncorrectable) := by
  refine ⟨fun whole => ?_, fun erased => ?_, fun other some => ?_⟩
  · have notErased : sub * 16 + l.val ∉ x.erased := fun h => whole _ h (by omega)
    have none : x.erased.any (fun k => k / 16 == sub) = false := by
      simpa using whole
    simp [Site.sees, notErased, none]
  · simp [Site.sees, erased]
  · have any : x.erased.any (fun k => k / 16 == sub) = true := by
      simpa using some
    simp [Site.sees, other, any]

/-- Settles O39: the order of the slots, then each outcome of a line request by `State.completeReq_granted`. -/
theorem requestsAreServed : Obligations.RequestsAreServed := by
  unfold Obligations.RequestsAreServed
  refine ⟨fun site bay r rest s blocked turn waits room may bank => ?slot, fun site q s oldest => ?blocked,
    fun id r p o s there granted page yard bridge first clean whole part => ?line,
    fun id r p o s there granted page bridge first clean noRead => ?noCheck,
    fun id r p o s there granted page bridge first bad => ?poisoned,
    fun x sub => ⟨rfl, rfl, x.sees_corrected sub⟩,
    fun id r o s there granted waits => ?waits,
    fun id r p o s there retrying page => ?retry⟩
  case slot =>
    have takes : s.slotGrant site = (s.grantReq r.id).setSite site { s.site site with lastBay := bay, lastXfer := tset (s.site site).lastXfer bay r.turn } := by
      rw [State.slotGrant_turns blocked, ← turn, State.grantBays, waits, State.grantBay_first room may bank]
      rfl
    exact ⟨_, congrArg Host.Outcome.next takes, rfl, fun q => State.granted_grantReq, fun q => State.mem_grantReq,
      fun n other => State.site_setSite_ne _ _ other, rfl, rfl, sameBytes_of_eq rfl rfl⟩
  case blocked =>
    refine congrArg Host.Outcome.next ?_
    rw [State.slotGrant, oldest]
  case line =>
    exact exec_lineRequestComplete there ((State.completeReq_granted o there granted page bridge first).trans
      ((if_neg (by simp [clean])).trans ((if_neg (by simp [whole, part, yard])).trans rfl)))
  case noCheck =>
    refine exec_lineRequestComplete there ((State.completeReq_granted o there granted page bridge first).trans ?_)
    rw [if_neg (by simp [clean]), if_pos noRead]
  case poisoned =>
    refine exec_lineRequestComplete there ((State.completeReq_granted o there granted page bridge first).trans ?_)
    rw [if_pos bad]
    rfl
  case waits =>
    refine exec_lineRequestComplete there ?_
    have delayed : (s.bridgeWaits r.half r.site || s.behindReq r) = true := by simpa using waits
    simp [State.completeReq, there, Bool.or_assoc, delayed]
  case retry =>
    have bay : s.reqBay id = r.bay := by rw [State.reqBay, there]
    refine congrArg Host.Outcome.next (congrArg₂ State.noticeClaim ?_ bay)
    simp only [State.retryDone, there, retrying, page, bne_self_eq_false, Bool.false_eq_true, if_false]
    rfl

end Sys2Proof.Machine

/-! PROOF. The upkeep of memory and the migration of pages (O40, O41; R200, R208, R209, R222, R223, R225). -/

namespace Sys2Proof.Machine

-- Sparing

/-- What the lanes that wait for a spare leave as it is: the floor plan, the pages, the bytes, the other sites, and the lane being switched in where its spare is in use. -/
def State.OnlyErases (site sub : Nat) (s t : State) : Prop :=
  t.plan = s.plan ∧ t.pages = s.pages ∧ t.mem = s.mem ∧ (∀ n, n ≠ site → t.site n = s.site n)
    ∧ ((s.plan.site site).spareUsed.getLsbD sub = true → (t.site site).sparing = (s.site site).sparing)

theorem State.OnlyErases.refl (site sub : Nat) (s : State) : s.OnlyErases site sub s := ⟨rfl, rfl, rfl, fun _ _ => rfl, fun _ => rfl⟩

theorem State.OnlyErases.trans {site sub : Nat} {s t u : State} (st : s.OnlyErases site sub t) (tu : t.OnlyErases site sub u) : s.OnlyErases site sub u := by
  obtain ⟨plan, pages, mem, others, sparing⟩ := st
  obtain ⟨plan', pages', mem', others', sparing'⟩ := tu
  exact ⟨plan'.trans plan, pages'.trans pages, mem'.trans mem, fun n ne => (others' n ne).trans (others n ne),
    fun used => (sparing' (by rwa [plan])).trans (sparing used)⟩

/-- The event and the service write owed touch neither sites nor pages nor the plan. -/
theorem State.laneSpared_onlyErases (s : State) (site sub lane outcome : Nat) : s.OnlyErases site sub (s.laneSpared site sub lane outcome) := by
  obtain ⟨i, posts⟩ := s.postPf0_onlyHif 13 0xFF (siteHalf site) (toLE 1 site ++ toLE 1 sub ++ toLE 1 lane ++ toLE 1 outcome)
  obtain ⟨_, _, _, _, _, _, owes⟩ := State.oweService_onlyService { s with hif := i }
  rw [State.laneSpared, posts, owes]
  exact ⟨rfl, rfl, rfl, fun _ _ => rfl, fun _ => rfl⟩

theorem State.spareTrigger_onlyErases (s : State) (site sub lane : Nat) : s.OnlyErases site sub (s.spareTrigger site sub lane) := by
  unfold State.spareTrigger
  dsimp only
  split
  · exact .refl site sub s
  · split
    · rename_i idle
      refine ⟨rfl, rfl, rfl, fun n ne => State.site_setSite_ne _ _ ne, fun used => ?_⟩
      simp [State.spareIdle, used] at idle
    · refine State.OnlyErases.trans ?_ (State.laneSpared_onlyErases _ site sub lane 1)
      exact ⟨rfl, rfl, rfl, fun n ne => State.site_setSite_ne _ _ ne, fun _ => (congrArg Site.sparing (State.site_setSite s site _)).trans rfl⟩

theorem State.spareTriggers_onlyErases (s : State) (site sub : Nat) : s.OnlyErases site sub (s.spareTriggers site sub) :=
  forAll_rel (State.OnlyErases.refl site sub) State.OnlyErases.trans (fun lane t => t.spareTrigger_onlyErases site sub lane) (List.range 12) s

theorem getLsbD_orTwoPow (x : BitVec 32) {n : Nat} (h : n < 32) : (x ||| BitVec.ofNat 32 (2 ^ n)).getLsbD n = true := by
  rw [BitVec.getLsbD_or, BitVec.getLsbD_ofNat]
  simp [h]

/-- A site's entry with the spare of a sub-channel in use for a lane (R38, R225). -/
def SiteEntry.spare (e : SiteEntry) (sub lane : Nat) : SiteEntry :=
  { e with spareUsed := e.spareUsed ||| BitVec.ofNat 32 (2 ^ sub)
           spareFor := (e.spareFor &&& ~~~(BitVec.ofNat 128 (15 * 2 ^ (4 * sub)))) ||| BitVec.ofNat 128 (lane * 2 ^ (4 * sub)) }

/-- A site that has a lane's spare switched in: the sub-channel waits no longer, and the lane's count is gone (R225). -/
def Site.spared (x : Site) (sub lane : Nat) : Site := { x with sparing := tdel x.sparing sub, laneCe := tdel x.laneCe (sub * 16 + lane) }

/-- The spare of a drained sub-channel is switched in: its bit of SPARE_USED is set, and no lane of it is being switched in any more. -/
theorem State.spareSwitched_drained {s : State} {site sub lane : Nat} (low : sub < 32) (waits : tfind (s.site site).sparing sub = some lane)
    (drained : ∀ r ∈ s.reqs, r.site = site → r.bank / 16 = sub → r.inFlight = false) :
    ((s.spareSwitched site sub).plan.site site).spareUsed = ((s.plan.site site).spareUsed ||| BitVec.ofNat 32 (2 ^ sub))
      ∧ ((s.spareSwitched site sub).site site).sparing = tdel (s.site site).sparing sub ∧ (∀ n, n ≠ site → (s.spareSwitched site sub).site n = s.site n)
      ∧ (s.spareSwitched site sub).plan.goodMap = s.plan.goodMap ∧ (s.spareSwitched site sub).pages = s.pages ∧ (s.spareSwitched site sub).mem = s.mem := by
  have none : (s.reqs.any fun r => r.site == site && r.bank / 16 == sub && r.inFlight) = false := by
    refine List.any_eq_false.2 fun r there => ?_
    by_cases own : r.site = site ∧ r.bank / 16 = sub
    · simp [drained r there own.1 own.2]
    · simpa using fun here bank => absurd ⟨here, bank⟩ own
  have switched : s.spareSwitched site sub = State.spareTriggers (State.laneSpared (State.setSiteEntry (s.setSite site ((s.site site).spared sub lane)) site
      ((s.plan.site site).spare sub lane)) site sub lane 0) site sub := by
    unfold State.spareSwitched
    rw [waits]
    dsimp only
    rw [none]
    rfl
  have entry : (State.setSiteEntry (s.setSite site ((s.site site).spared sub lane)) site ((s.plan.site site).spare sub lane)).plan.site site
      = (s.plan.site site).spare sub lane := tget_tset_same ..
  obtain ⟨plan, pages, mem, others, sparing⟩ := (State.laneSpared_onlyErases (State.setSiteEntry (s.setSite site ((s.site site).spared sub lane)) site
    ((s.plan.site site).spare sub lane)) site sub lane 0).trans (State.spareTriggers_onlyErases _ site sub)
  rw [← switched] at plan pages mem others sparing
  have used : (((s.plan.site site).spare sub lane).spareUsed).getLsbD sub = true := getLsbD_orTwoPow _ low
  refine ⟨congrArg SiteEntry.spareUsed ((congrArg (FloorPlan.site · site) plan).trans entry),
    (sparing ((congrArg (SiteEntry.spareUsed · |>.getLsbD sub) entry).trans used)).trans (congrArg Site.sparing (State.site_setSite ..)),
    fun n ne => (others n ne).trans (State.site_setSite_ne _ _ ne), (congrArg FloorPlan.goodMap plan).trans rfl, pages, mem⟩

-- Patrols

/-- A patrol of a site with a line left and no request waiting reads that line. -/
theorem State.patrol_reads {s : State} {site n : Nat} {x : Site} (o retry : LineOutcome) (own : x = s.site site)
    (next : n = if s.now (siteHalf site) / 2 ^ s.yard.scrubPeriod = x.patrolWin then x.patrolNext else 0) (enabled : s.yard.scrubEnable = true)
    (up : s.siteUp site = true) (left : n < siteLines) (quiet : ∀ r ∈ s.reqs, r.site = site → r.state ≠ .waiting ∧ r.state ≠ .bankBlocked) :
    s.patrol site o retry = (let t := s.setSite site { x with patrolNext := n + 1, patrolWin := s.now (siteHalf site) / 2 ^ s.yard.scrubPeriod }
      let sub := (granuleBank site (n / 8192) (n % 8192 / 16)).1
      match x.sees sub o with
      | .clean => t
      | .corrected l => t.lineCorrected site sub (some l)
      | .uncorrectable => match x.sees sub retry with
        | .clean => t.lineCorrected site sub none
        | .corrected l => t.lineCorrected site sub (some l)
        | .uncorrectable => t.patrolLost site n) := by
  subst own
  have none : (s.reqs.any fun r => r.site == site && (r.state == .waiting || r.state == .bankBlocked)) = false := by
    refine List.any_eq_false.2 fun r there => ?_
    by_cases here : r.site = site
    · obtain ⟨waiting, blocked⟩ := quiet r there here
      simp [waiting, blocked]
    · simp [here]
  unfold State.patrol
  dsimp only
  rw [← next, enabled, up, none, decide_eq_false (Nat.not_le.2 left)]
  rfl

/-- Settles O40: spares, the window's end, both patrols and the two outcomes of a double-bit error in a LOAD buffer. -/
theorem upkeepOfMemory : Obligations.UpkeepOfMemory := by
  unfold Obligations.UpkeepOfMemory
  refine ⟨fun site sub lane s waits drained => ?spare, fun site s ends => ?window, fun h m site o retry n x t s same own next enabled up left quiet after => ?patrol,
    fun bay single n s next left => ?loft, fun bay slot x i b s there buf load first => ?again, fun bay slot x i b s there buf load second => ?lost⟩
  case spare =>
    obtain ⟨used, sparing, others, good, pages, mem⟩ := State.spareSwitched_drained sub.isLt waits drained
    exact ⟨_, rfl, used, sparing, others, good, pages, fun a => congrArg (memRead · a) mem⟩
  case window =>
    refine congrArg Host.Outcome.next ?_
    simp [State.spareWindow, ends]
  case patrol =>
    subst same after
    exact congrArg Host.Outcome.next ((State.patrol_reads o retry own next enabled up left quiet).trans rfl)
  case loft =>
    have reads : s.loftPatrol bay single = (if single = true
        then { s.setBay bay { s.bay bay with loftNext := n + 1, loftWin := s.now (bayHalf bay) / 2 ^ 24 } with
          yard := { s.yard with loftCe := min max32 (s.yard.loftCe + 1) } }
        else s.setBay bay { s.bay bay with loftNext := n + 1, loftWin := s.now (bayHalf bay) / 2 ^ 24 }) := by
      unfold State.loftPatrol
      dsimp only
      rw [← next, if_neg (Nat.not_le.2 left)]
      rfl
    refine ⟨_, congrArg Host.Outcome.next reads, ?_⟩
    cases single
    · exact ⟨State.bay_setBay .., rfl, fun k ne => State.bay_setBay_ne _ _ ne, rfl, sameBytes_of_eq rfl rfl⟩
    · exact ⟨State.bay_setBay .., rfl, fun k ne => State.bay_setBay_ne _ _ ne, rfl, sameBytes_of_eq rfl rfl⟩
  case again =>
    refine congrArg Host.Outcome.next ?_
    simp [State.loftHit, State.loftBad, State.loftStream, there, buf, load, first]
  case lost =>
    refine congrArg Host.Outcome.next ?_
    simp [State.loftHit, State.loftBad, State.loftStream, there, buf, load, second, stPageFault, pfLoft]

-- Migration

/-- What the start of a migration leaves: the half's count within the budget, and everything that is not a page. -/
def State.OnlyMigrates (h : Half) (s t : State) : Prop :=
  (s.migSpent.get h ≤ s.yard.migBudget → t.migSpent.get h ≤ s.yard.migBudget) ∧ t.yard = s.yard ∧ t.plan = s.plan ∧ t.streams = s.streams
    ∧ t.epochEnded = s.epochEnded ∧ t.mem = s.mem

theorem State.OnlyMigrates.refl (h : Half) (s : State) : s.OnlyMigrates h s := ⟨id, rfl, rfl, rfl, rfl, rfl⟩

theorem State.OnlyMigrates.trans {h : Half} {s t u : State} (st : s.OnlyMigrates h t) (tu : t.OnlyMigrates h u) : s.OnlyMigrates h u := by
  obtain ⟨spent, yard, plan, streams, epoch, mem⟩ := st
  obtain ⟨spent', yard', plan', streams', epoch', mem'⟩ := tu
  rw [yard] at spent'
  exact ⟨fun within => spent' (spent within), yard'.trans yard, plan'.trans plan, streams'.trans streams, epoch'.trans epoch, mem'.trans mem⟩

theorem State.startMig_onlyMigrates (s : State) (h : Half) (p : Page) : s.OnlyMigrates h (s.startMig h p) := by
  unfold State.startMig
  split
  · exact .refl h s
  · rename_i left
    generalize (if p.big = true then 32 else 1) = units
    dsimp only
    split
    · exact .refl h s
    · split
      · exact .refl h s
      · refine ⟨fun _ => ?_, rfl, rfl, rfl, rfl, rfl⟩
        show (s.migSpent.set h (s.migSpent.get h + 1)).get h ≤ s.yard.migBudget
        rw [PerHalf.get_set_same]
        omega

/-- The page of a number, after a change of the page of that number. -/
theorem State.pageById_modPage {s : State} {id : Nat} {p : Page} {f : Page → Page} (there : s.pageById id = some p) (keeps : ∀ q, (f q).id = q.id) :
    (s.modPage id f).pageById id = some (f p) := by
  have own : (p.id == id) = true := List.find?_some (p := fun q : Page => q.id == id) there
  have same : ((fun q : Page => q.id == id) ∘ fun q => if q.id == id then f q else q) = fun q => q.id == id := by
    funext q
    simp only [Function.comp]
    split
    · rw [keeps]
    · rfl
  show (s.pages.map fun q => if q.id == id then f q else q).find? (fun q => q.id == id) = some (f p)
  rw [List.find?_map, same]
  have found : s.pages.find? (fun q => q.id == id) = some p := there
  rw [found]
  exact congrArg some (if_pos own)

/-- What a first element found is, it is too among the elements that another test keeps. -/
theorem find?_filter_of {α : Type} {p q : α → Bool} {l : List α} {a : α} (found : l.find? p = some a) (kept : q a = true) : (l.filter q).find? p = some a := by
  obtain ⟨is, before, after, rfl, none⟩ := List.find?_eq_some_iff_append.1 found
  rw [List.filter_append, List.filter_cons_of_pos kept, List.find?_append, List.find?_eq_none.2 fun x hx => by simpa using none x (List.mem_filter.1 hx).1,
    Option.none_or, List.find?_cons_of_pos is]

/-- A mapped page outlives a sweep; its migration ends where nothing reads its old frame any more. -/
theorem State.pageById_sweepPages {s : State} {id : Nat} {p : Page} (there : s.pageById id = some p) (mapped : p.mapped = true) :
    s.sweepPages.pageById id = some (match p.mig with
      | some g => if g.step == .draining && !(s.reqs.any fun r => r.page == p.id && r.site == g.site) then { p with mig := none } else p
      | none => p) := by
  let f : Page → Page := fun p => match p.mig with
    | some g => if g.step == .draining && !(s.reqs.any fun r => r.page == p.id && r.site == g.site) then { p with mig := none } else p
    | none => p
  have keeps : ∀ q, (f q).id = q.id := fun q => by
    show Page.id (match q.mig with
      | some g => if g.step == .draining && !(s.reqs.any fun r => r.page == q.id && r.site == g.site) then { q with mig := none } else q
      | none => q) = q.id
    split
    · split <;> rfl
    · rfl
  have found : (s.pages.filter fun q => q.mapped || (s.reqs.any (fun r => r.page == q.id) || (s.ctx q.ctx).planes.any fun e => e.2.pages.contains q.id)).find?
      (fun q => q.id == id) = some p := find?_filter_of there (by simp [mapped])
  show ((s.pages.filter fun q => q.mapped || (s.reqs.any (fun r => r.page == q.id) || (s.ctx q.ctx).planes.any fun e => e.2.pages.contains q.id)).map f).find?
    (fun q => q.id == id) = some (f p)
  rw [List.find?_map, show ((fun q : Page => q.id == id) ∘ f) = fun q => q.id == id from funext fun q => congrArg (· == id) (keeps q), found]
  rfl

/-- A page's migration that stands at a step goes on from it. -/
theorem State.migStep_at {s : State} {page : Nat} {p : Page} {m : Mig} (f : Page → Mig → State) (there : s.pageById page = some p) (mig : p.mig = some m)
    (mapped : p.mapped = true) : s.migStep page m.step f = f p m := by
  simp [State.migStep, there, mig, mapped]

/-- The page of a cutover, at its new home with its old frame draining. -/
def Page.moved (q p : Page) (m : Mig) : Page :=
  { q with half := m.half, site := m.site, frame := m.frame, part := m.part, mig := some ⟨.draining, p.half, p.site, p.frame, p.part, [], 0⟩ }

/-- The state at the start of an epoch of a half. -/
def State.epochBegun (s : State) (h : Half) : State := { s with migSpent := s.migSpent.set h 0, epochEnded := s.epochEnded.set h (s.now h) }

/-- The pages that qualify start their migrations, while management is enabled. -/
def State.epochMigrated (s : State) (h : Half) : State :=
  if s.yard.migEnable = true ∧ s.managing = true then forAll (s.migrants h) (fun p y => y.startMig h p) (s.epochBegun h) else s.epochBegun h

theorem State.epochMigrated_onlyMigrates (s : State) (h : Half) : (s.epochBegun h).OnlyMigrates h (s.epochMigrated h) := by
  unfold State.epochMigrated
  split
  · exact forAll_rel (State.OnlyMigrates.refl h) State.OnlyMigrates.trans (fun p t => t.startMig_onlyMigrates h p) _ _
  · exact .refl h _

/-- Settles O41: the epoch's end, the rounds of copying and the cutover. -/
theorem pagesMigrate : Obligations.PagesMigrate := by
  unfold Obligations.PagesMigrate
  refine ⟨fun h s ends => ?epoch, fun h s early => ?early, fun page p m s there mig mapped copying => ?copied,
    fun page p m s there mig mapped copying => ?recopied, fun page p m s there mig mapped cutover => ?cutover⟩
  case epoch =>
    obtain ⟨spent, yard, plan, streams, epoch, mem⟩ := s.epochMigrated_onlyMigrates h
    have finished : s.epochEnd h = { s.epochMigrated h with pages := (s.epochMigrated h).pages.map fun p => if p.half == h then { p with counts := ⟨0, 0⟩ } else p } := by
      simp only [State.epochEnd, ends, Bool.not_true, Bool.false_eq_true, if_false, Bool.and_eq_true]
      rfl
    refine ⟨_, s.epochMigrated h, congrArg Host.Outcome.next finished, rfl, rfl, spent ?_, fun p there own => ?_,
      (congrArg (PerHalf.get · h) epoch).trans (PerHalf.get_set_same ..), yard, plan, streams, fun a => congrArg (memRead · a) mem⟩
    · show (s.migSpent.set h 0).get h ≤ s.yard.migBudget
      rw [PerHalf.get_set_same]
      exact Nat.zero_le _
    · obtain ⟨q, _, rfl⟩ := List.mem_map.1 there
      by_cases half : q.half = h
      · simp [half]
      · simp [half] at own
  case early =>
    refine congrArg Host.Outcome.next ?_
    simp [State.epochEnd, early]
  case copied =>
    have steps := State.migStep_at (fun _ m => s.setMig page m.nextRound) there mig mapped
    rw [copying] at steps
    refine congrArg Host.Outcome.next (steps.trans ?_)
    simp [Mig.nextRound]
  case recopied =>
    have steps := State.migStep_at (fun _ m => s.setMig page ({ m with rounds := m.rounds + 1 }).nextRound) there mig mapped
    rw [copying] at steps
    refine congrArg Host.Outcome.next (steps.trans ?_)
    simp [Mig.nextRound]
  case cutover =>
    have steps := State.migStep_at (fun p m => State.sweepPages { s with
      pages := (s.modPage page fun q => q.moved p m).pages, yard := { s.yard with migCount := min (2 ^ 64 - 1) (s.yard.migCount + 1) } }) there mig mapped
    rw [cutover] at steps
    have placed : State.pageById { s with
        pages := (s.modPage page fun q => q.moved p m).pages, yard := { s.yard with migCount := min (2 ^ 64 - 1) (s.yard.migCount + 1) } } page
        = some (p.moved p m) := State.pageById_modPage (f := fun q => q.moved p m) there fun _ => rfl
    have swept := State.pageById_sweepPages placed mapped
    have id : p.id = page := beq_iff_eq.1 (List.find?_some (p := fun q : Page => q.id == page) there)
    refine ⟨_, congrArg Host.Outcome.next steps, rfl, rfl, rfl, rfl, ?_⟩
    cases kept : (s.reqs.any fun r => r.page == p.id && r.site == p.site) with
    | false => exact ⟨_, swept.trans (congrArg some (if_pos (congrArg (fun b => true && !b) kept))), rfl, rfl, rfl, rfl, rfl, rfl, .inl rfl⟩
    | true =>
      obtain ⟨r, there, reads⟩ := List.any_eq_true.1 kept
      obtain ⟨page, site⟩ := Bool.and_eq_true_iff.1 reads
      exact ⟨_, swept.trans (congrArg some (if_neg (Bool.eq_false_iff.1 (congrArg (fun b => true && !b) kept)))), rfl, rfl, rfl, rfl, rfl, rfl,
        .inr ⟨r, there, (beq_iff_eq.1 page).trans id, beq_iff_eq.1 site⟩⟩

end Sys2Proof.Machine

/-! PROOF. Task lists by command, and tasks up to their tiles (O42, O43; R125, R126, R128, R148, R256, R360, R364, R365, R391). -/

namespace Sys2Proof.Machine

/-- Settles O42: a list is bound, run, refused and halted. -/
theorem taskListsByCommand : Obligations.TaskListsByCommand := by
  unfold Obligations.TaskListsByCommand
  refine ⟨fun fn slot c s hs bay masked list area listLow areaLow stands => ?load,
    fun fn slot c l s hs bay there => ⟨fun stands => ?start, fun runs => ?busy⟩, fun fn slot c l s hs bay there runs => ?halt⟩
  case load =>
    have free : (s.lists.any fun l => l.bay == c.par 8 1 && l.ctx == c.ctx && l.launch.isSome) = false := by
      refine List.any_eq_false.2 fun l mem => ?_
      by_cases own : l.bay = c.par 8 1 ∧ l.ctx = c.ctx
      · simp [stands l mem own.1 own.2]
      · simpa using fun hb hc => absurd ⟨hb, hc⟩ own
    have legal : (decide (63 < c.par 8 1) || !s.inMask c.ctx (c.par 8 1) || c.par 0x10 8 % 128 != 0 || c.par 0x18 8 % 16 != 0
        || refHigh (c.par 0x10 8) != 0 || refHigh (c.par 0x18 8) != 0) = false := by
      simp [Nat.not_lt.2 bay, masked, list, area, listLow, areaLow]
    refine exec_started _ hs ?_
    unfold State.loadTasks
    dsimp only
    rw [legal, free, State.starts_slot hs]
    rfl
  case start =>
    refine exec_started _ hs ?_
    simp [State.launch, Nat.not_lt.2 bay, there, stands, State.starts_slot hs]
  case busy =>
    refine exec_started _ hs ?_
    simp [State.launch, Nat.not_lt.2 bay, there, Option.isSome_iff_ne_none.2 runs, State.starts_slot hs, stListBusy]
  case halt =>
    refine exec_started _ hs ?_
    simp [State.haltLaunch, Nat.not_lt.2 bay, there, runs, State.starts_slot hs, stAborted, stOk]

-- Tasks that wait (R148 step 3, R360, R364, R365)

/-- A waiting task that may take its count in time takes it; where it came at the deadline tick, that is a near-miss. -/
theorem State.takeWait_may {s : State} {bay ctx : Nat} {k : Task} (waits : s.waiting? bay ctx = some k)
    (may : s.mayTake ctx bay (tkWaitSem k.a) (tkWaitN k.a) k.waitSeq = true) (inTime : s.inTime k = true) :
    s.takeWait bay ctx = if (k.deadline.any fun d => decide (s.heldBefore ctx bay (tkWaitSem k.a) d < tkWaitN k.a)) = true
      then State.nearMiss (State.setTask (s.semTake ctx bay (tkWaitSem k.a) (tkWaitN k.a)) { k with phase := .reading }) ctx
      else State.setTask (s.semTake ctx bay (tkWaitSem k.a) (tkWaitN k.a)) { k with phase := .reading } := by
  unfold State.takeWait
  rw [waits]
  dsimp only
  rw [may, inTime]
  rfl

-- Step 4 of R148

/-- A task that is to read its start, and that no fault of its own holds. -/
theorem State.readTask_reading {s : State} {bay ctx : Nat} {k : Task} (reads : s.inPhase? bay ctx .reading = some k) (unheld : s.taskHeld k = false)
    (op : tkOpcode k.a ≠ opNop) : s.readTask bay ctx = match s.readStart k with
      | .error (.fault a c) => s.taskFault k a c false
      | .error (.ends st d) => s.failTask bay ctx k.idx st d
      | .ok y => if (tkAppends k.a && !y.appending.isEmpty) = true then State.setTask (s.countSpans k.ctx y.startSpans k.half) { y with phase := .locking }
        else State.openTask (s.countSpans k.ctx y.startSpans k.half) y := by
  unfold State.readTask
  rw [reads]
  dsimp only
  rw [unheld]
  exact (if_neg Bool.false_ne_true).trans ((if_neg op).trans rfl)

/-- Settles O43: reading ahead, taking, waiting and starting, each by the branch its premises choose. -/
theorem tasksAreTaken : Obligations.TasksAreTaken := by
  unfold Obligations.TasksAreTaken
  refine ⟨fun bay ctx l b s there runs unhalted few inside notEnd read => ?fetch,
    fun bay ctx l h rest s there runs unhalted ahead fine good op prev single => ?take,
    fun bay ctx l h rest s there runs unhalted ahead fine good op legal done => ?ends,
    fun bay ctx k s waits forever may => ?wait,
    fun bay ctx k d s waits deadline ownCtx ownBay may came => ?inTime,
    fun bay ctx k d s waits deadline late missed ownCtx ownBay => ?late,
    fun bay ctx k s reads unheld op => ?nop,
    fun bay ctx k y s reads unheld op good noAppend => ?opens,
    fun bay ctx k y s reads unheld op good appends some => ?locks,
    fun bay ctx k st d s reads unheld op bad => ?bad,
    fun bay ctx k t locked checks rooms s locking unheld checked lock room => ?locked,
    fun bay ctx k a checks s locking unheld checked race => ?race⟩
  case fetch =>
    refine congrArg Host.Outcome.next ?_
    simp [State.fetchDescriptor, there, runs, unhalted, Nat.not_le.2 few, Nat.not_lt.2 inside, notEnd, State.readAhead, read]
  case take =>
    refine congrArg Host.Outcome.next ?_
    simp [State.takeTask, there, runs, unhalted, ahead, fine, good, op, prev, single]
  case ends =>
    refine congrArg Host.Outcome.next ?_
    simp [State.takeTask, there, runs, unhalted, ahead, fine, good, op, legal, done, stOk]
  case wait =>
    refine congrArg Host.Outcome.next ((State.takeWait_may waits may ?_).trans ?_)
    · rw [State.inTime, forever]
    · simp [forever]
  case inTime =>
    refine congrArg Host.Outcome.next ((State.takeWait_may waits may ?_).trans ?_)
    · simpa [State.inTime, deadline, ownCtx, ownBay] using came
    · simp [deadline]
  case late =>
    refine congrArg Host.Outcome.next ?_
    have missed' : (s.inTime k && s.mayTake ctx bay (tkWaitSem k.a) (tkWaitN k.a) k.waitSeq) = false := by
      rcases missed with refused | short
      · simp [refused]
      · simp [State.inTime, deadline, ownCtx, ownBay, Nat.not_le.2 short]
    simp [State.waitLate, waits, deadline, Nat.not_le.2 late, missed', stWaitTimeout]
  case nop =>
    refine congrArg (fun t => Host.Outcome.next (State.noticeClaim t bay)) ?_
    simp [State.readTask, reads, unheld, op, stOk]
  case opens =>
    refine congrArg (fun t => Host.Outcome.next (State.noticeClaim t bay)) ((State.readTask_reading reads unheld op).trans ?_)
    have direct : (tkAppends k.a && !y.appending.isEmpty) = false := by
      rcases noAppend with plain | none
      · simp [plain]
      · simp [none]
    simp [good, direct]
  case locks =>
    refine congrArg (fun t => Host.Outcome.next (State.noticeClaim t bay)) ((State.readTask_reading reads unheld op).trans ?_)
    simp [good, appends, some]
  case bad =>
    refine congrArg (fun t => Host.Outcome.next (State.noticeClaim t bay)) ((State.readTask_reading reads unheld op).trans ?_)
    rw [bad]
  case locked =>
    refine congrArg (fun t => Host.Outcome.next (State.noticeClaim t bay)) ?_
    simp only [State.lockTask, locking, unheld, checked, lock, room, bind, Except.bind]
    rfl
  case race =>
    refine congrArg (fun t => Host.Outcome.next (State.noticeClaim t bay)) ?_
    simp only [State.lockTask, locking, unheld, checked, race, bind, Except.bind]
    rfl

end Sys2Proof.Machine

/-! PROOF. Tiles on cores and spot checks (O44 to O46; R143, R150 to R157, R195, R259, R351, R352, R364). -/

namespace Sys2Proof.Machine

/-- Settles O44: both classes' turns, the claim that is forced, and the handle that comes too late. -/
theorem tilesAreIssued : Obligations.TilesAreIssued := by
  unfold Obligations.TilesAreIssued
  refine ⟨fun bay c core x s t runs after turn free => ?lc, fun bay c core x s t runs after noLc turn free unclaimed => ?be,
    fun bay k r s t claim fresh old after some full victim => ?forced, fun bay ctx index k t rest d s there todo deadline phase live fresh late waits => ?late⟩
  case lc =>
    refine congrArg (fun t => Host.Outcome.next (State.noticeClaim t bay)) ?_
    unfold State.tileIssue
    rw [runs, ← after]
    simp [turn, State.issueLc, free]
  case be =>
    refine congrArg (fun t => Host.Outcome.next (State.noticeClaim t bay)) ?_
    unfold State.tileIssue
    rw [runs, ← after]
    simp [noLc, turn, free, unclaimed]
  case forced =>
    refine congrArg Host.Outcome.next ?_
    unfold State.forceClaim
    rw [claim]
    dsimp only
    rw [← after]
    simp [fresh, Nat.not_lt.2 old, full, victim, Option.isSome_iff_ne_none.1 some]
  case late =>
    refine congrArg Host.Outcome.next ?_
    simp [State.handleLate, there, todo, deadline, phase, live, fresh, Nat.not_le.2 late, waits, stWaitTimeout]

-- Ends of tiles

/-- No fault of a run's own waits for the joiner. -/
theorem any_who_eq_false {l : List PFault} {w : Waiter} (none : ∀ f ∈ l, f.who ≠ w) : (l.any fun f => f.who == w) = false :=
  List.any_eq_false.2 fun f there => by simpa using none f there

/-- Settles O45: a tile's end, the second reading of a walk's entries, and a bench that fails parity. -/
theorem tilesAreDone : Obligations.TilesAreDone := by
  unfold Obligations.TilesAreDone
  refine ⟨fun core wrong r k w o s t run task unfinished again lost unheld walked after rows computed => ?done,
    fun core r k w o s run task out walk unheld => ⟨fun same => ?same, fun x changed => ?changed⟩, fun core r s run => ?parity⟩
  case done =>
    refine congrArg (fun t => Host.Outcome.next (State.noticeClaim t (coreBay core))) ?_
    have noneLost : (t.tileFetches k r.tile).findSome? Fetch.failed = none :=
      List.findSome?_eq_none_iff.2 fun f there => (rows f there).1
    have complete : (t.tileFetches k r.tile).all Fetch.complete = true :=
      List.all_eq_true.2 fun f there => (rows f there).2
    have idle : (r.out.isSome || s.operandAgain k r.tile || s.faults.any fun f => f.who == .tile core) = false := by
      simp [unfinished, again, any_who_eq_false unheld]
    unfold State.tileDone
    rw [run]
    dsimp only
    rw [task]
    dsimp only
    rw [idle, lost, walked]
    dsimp only at after ⊢
    rw [← after, noneLost, complete, computed]
    rfl
  case same =>
    refine congrArg (fun t => Host.Outcome.next (State.noticeClaim t (coreBay core))) ?_
    unfold State.recheck
    rw [run]
    dsimp only
    rw [out, walk, task]
    dsimp only
    rw [any_who_eq_false unheld, same]
    rfl
  case changed =>
    refine congrArg (fun t => Host.Outcome.next (State.noticeClaim t (coreBay core))) ?_
    unfold State.recheck
    rw [run]
    dsimp only
    rw [out, walk, task]
    dsimp only
    rw [any_who_eq_false unheld, changed]
    rfl
  case parity =>
    have fails : s.parityFail core = (s.returnRun r).modScribe (fun x => { x with setAside := x.setAside ++ [core.val] }) := by
      rw [State.parityFail, run]
    exact ⟨_, congrArg Host.Outcome.next fails, by simp [State.coreGood, State.modScribe], rfl⟩

-- Spot checks

/-- A service write changes no tally of the spot checks. -/
theorem State.startService_tally (s : State) (boot : Bool) :
    (s.startService boot).scribe.unchecked = s.scribe.unchecked ∧ (s.startService boot).scribe.sdcResolved = s.scribe.sdcResolved := by
  unfold State.startService
  dsimp only
  repeat' split
  · exact ⟨rfl, rfl⟩
  · exact ⟨rfl, rfl⟩
  · exact ⟨rfl, rfl⟩
  · exact ⟨rfl, rfl⟩
  · rw [State.sillHigh_scribe]
    exact ⟨rfl, rfl⟩

/-- A core that is retired is out of use at once, and the tallies of the spot checks stand. -/
theorem State.retireCore_leaves (s : State) (core cause : Nat) : (s.retireCore core cause).outOfUse core
    ∧ (s.retireCore core cause).scribe.unchecked = s.scribe.unchecked ∧ (s.retireCore core cause).scribe.sdcResolved = s.scribe.sdcResolved := by
  unfold State.retireCore
  dsimp only
  split
  · exact ⟨State.startService_outOfUse false (.inr (List.mem_append_right _ (List.mem_singleton_self core))), State.startService_tally _ false⟩
  · exact ⟨.inr (List.mem_append_right _ (List.mem_singleton_self core)), rfl, rfl⟩

@[simp] theorem State.sdcEvent_scribe (s : State) (k : Task) (c : Check) (resolved : Bool) (unchecked : Nat) :
    (s.sdcEvent k c resolved unchecked).scribe = s.scribe := by
  obtain ⟨h, posts⟩ : s.OnlyHif (s.sdcEvent k c resolved unchecked) := (s.postCtx_onlyHif _ _ _ _).trans (State.postPf0_onlyHif _ _ _ _ _)
  rw [posts]

@[simp] theorem State.setTask_scribe (s : State) (k : Task) : (s.setTask k).scribe = s.scribe := by
  unfold State.setTask
  split <;> rfl

@[simp] theorem State.modTask_scribe (s : State) (bay ctx idx : Nat) (f : Task → Task) : (s.modTask bay ctx idx f).scribe = s.scribe := by
  unfold State.modTask
  split
  · exact State.setTask_scribe _ _
  · rfl

/-- The tallies once a majority has decided a check: the task's and the module's counts, and the cores that agreed (R155, R156). -/
def State.tallied (s : State) (c : Check) (agree : List Nat) : State :=
  ((s.agreed c agree).modTask c.bay c.ctx c.task fun j => { j with resolved := satAdd max16 j.resolved 1 }).modScribe fun x =>
    { x with sdcResolved := satAdd max16 x.sdcResolved 1 }

/-- A majority sets the core that disagreed aside, counts it, and leaves the cores that agreed with no unchecked tile. -/
theorem State.outvoted_leaves (s : State) (k : Task) (c : Check) (agree : List Nat) (bad : Nat) : (s.outvoted k c agree bad).coreGood bad = false
    ∧ (s.outvoted k c agree bad).scribe.sdcResolved = min max16 (s.scribe.sdcResolved + 1) ∧ ∀ e ∈ (s.outvoted k c agree bad).scribe.unchecked, e.1 ∉ agree := by
  have votes : s.outvoted k c agree bad = ((s.tallied c agree).sdcEvent k c true (s.uncheckedOf bad)).retireCore bad 2 := rfl
  obtain ⟨out, unchecked, resolved⟩ := State.retireCore_leaves ((s.tallied c agree).sdcEvent k c true (s.uncheckedOf bad)) bad 2
  rw [votes, resolved, unchecked, State.sdcEvent_scribe]
  refine ⟨out.coreGood, ?_, fun e there => ?_⟩
  · show min max16 (State.scribe (State.modTask _ _ _ _ _)).sdcResolved.succ = _
    rw [State.modTask_scribe]
    rfl
  · have kept : e ∈ (s.agreed c agree).scribe.unchecked := by
      rw [← State.modTask_scribe]
      exact there
    simpa using (List.mem_filter.1 kept).2

/-- Settles O46: two runs that agree or differ, the third that decides, and what a majority leaves. -/
theorem spotChecksDecide : Obligations.SpotChecksDecide := by
  unfold Obligations.SpotChecksDecide
  refine ⟨fun id c k p d s there task first second two unheld same => ?agree, fun id c k p d b s there task first second two unheld differ bay => ?differ,
    fun id c k p d x s there task first second third unheld => ⟨fun same => ?firstWins, fun differ same => ?secondWins, fun differ differ' => ?noneWins⟩,
    fun k c o agree bad s undecided => ?majority⟩
  case agree =>
    have noThird : (c.bays.any fun b => b.1 == 2) = false := List.any_eq_false.2 fun b hb => by simpa using two b hb
    refine congrArg Host.Outcome.next ?_
    simp only [State.spotCompare, there, task, first, second, noThird, any_who_eq_false unheld, same, beq_self_eq_true, Bool.or_self, Bool.false_eq_true, if_false, if_true]
  case differ =>
    have noThird : (c.bays.any fun b => b.1 == 2) = false := List.any_eq_false.2 fun b hb => by simpa using two b hb
    refine congrArg Host.Outcome.next ?_
    simp only [State.spotCompare, there, task, first, second, noThird, any_who_eq_false unheld, bay, beq_false_of_ne differ, Bool.or_self, Bool.false_eq_true, if_false]
  case firstWins =>
    refine congrArg Host.Outcome.next ?_
    simp only [State.thirdCompare, there, task, first, second, third, any_who_eq_false unheld, same, beq_self_eq_true, Bool.false_eq_true, if_false, if_true]
  case secondWins =>
    refine congrArg Host.Outcome.next ?_
    simp only [State.thirdCompare, there, task, first, second, third, any_who_eq_false unheld, beq_false_of_ne differ, beq_iff_eq.2 same,
      Bool.false_eq_true, if_false, if_true]
  case noneWins =>
    refine congrArg Host.Outcome.next ?_
    simp only [State.thirdCompare, there, task, first, second, third, any_who_eq_false unheld, beq_false_of_ne differ, beq_false_of_ne differ', Bool.false_eq_true,
      if_false]
    rfl
  case majority =>
    obtain ⟨out, resolved, unchecked⟩ := s.outvoted_leaves k c agree bad
    refine ⟨s.outvoted k c agree bad, ?_, out, resolved, unchecked, congrArg Flash.variant (State.outvoted_flash ..), fun a => congrArg (memRead · a) (State.outvoted_mem ..)⟩
    rw [State.majority, undecided]
    rfl

end Sys2Proof.Machine

/-! PROOF. The end of a task (O47; R115, R127, R128, R150, R256, R480). -/

namespace Sys2Proof.Machine

-- A list and a task after they are replaced

/-- A list that is replaced is found, where there is one. -/
theorem State.list?_setList (s : State) (y : TList) {bay ctx : Nat} (hb : y.bay = bay) (hc : y.ctx = ctx) :
    (s.setList y).list? bay ctx = (s.list? bay ctx).map fun _ => y := by
  subst hb hc
  have same : ((fun l : TList => l.bay == y.bay && l.ctx == y.ctx) ∘ fun l => if l.bay == y.bay && l.ctx == y.ctx then y else l)
      = fun l => l.bay == y.bay && l.ctx == y.ctx := by
    funext l
    simp only [Function.comp]
    split
    · simp [*]
    · rfl
  show ((s.lists.map fun l => if l.bay == y.bay && l.ctx == y.ctx then y else l).find? fun l => l.bay == y.bay && l.ctx == y.ctx) = _
  rw [List.find?_map, same]
  show (s.list? y.bay y.ctx).map _ = _
  cases found : s.list? y.bay y.ctx with
  | none => rfl
  | some l => exact congrArg some (if_pos (List.find?_some (p := fun l : TList => l.bay == y.bay && l.ctx == y.ctx) found))

/-- A list found by its numbers has them. -/
theorem State.list?_own {s : State} {bay ctx : Nat} {l : TList} (there : s.list? bay ctx = some l) : l.bay = bay ∧ l.ctx = ctx := by
  obtain ⟨hb, hc⟩ := Bool.and_eq_true_iff.1 (List.find?_some (p := fun l : TList => l.bay == bay && l.ctx == ctx) there)
  exact ⟨beq_iff_eq.1 hb, beq_iff_eq.1 hc⟩

/-- Tasks are found by the lists alone. -/
theorem State.task?_of_lists {s t : State} (same : t.lists = s.lists) (bay ctx idx : Nat) : t.task? bay ctx idx = s.task? bay ctx idx := by
  rw [State.task?, State.task?, State.list?, State.list?, same]

/-- A task that is replaced is found. -/
theorem State.task?_setTask {s : State} {k y : Task} (there : s.task? y.bay y.ctx y.idx = some k) : (s.setTask y).task? y.bay y.ctx y.idx = some y := by
  unfold State.task? at there
  split at there
  next l list =>
    obtain ⟨hb, hc⟩ := State.list?_own list
    have same : ((fun k : Task => k.idx == y.idx) ∘ fun k => if k.idx == y.idx then y else k) = fun k => k.idx == y.idx := by
      funext k
      simp only [Function.comp]
      split
      · simp [*]
      · rfl
    have sets : s.setTask y = s.setList { l with tasks := l.tasks.map fun k => if k.idx == y.idx then y else k } := by
      rw [State.setTask, list]
    have found : (s.setTask y).list? y.bay y.ctx = some { l with tasks := l.tasks.map fun k => if k.idx == y.idx then y else k } := by
      rw [sets, s.list?_setList { l with tasks := l.tasks.map fun k => if k.idx == y.idx then y else k } hb hc, list]
      rfl
    rw [State.task?, found]
    dsimp only
    rw [List.find?_map, same, there]
    exact congrArg some (if_pos (List.find?_some (p := fun k : Task => k.idx == y.idx) there))
  · cases there

/-- A task that has been found has the number asked for. -/
theorem State.task?_idx {s : State} {bay ctx idx : Nat} {k : Task} (there : s.task? bay ctx idx = some k) : k.idx = idx := by
  unfold State.task? at there
  split at there
  · exact beq_iff_eq.1 (List.find?_some (p := fun k : Task => k.idx == idx) there)
  · cases there

-- Row statistics

/-- A put of the final records changes no list. -/
theorem State.lists_put {ctx a : Nat} {bs : List Byte} {h : Half} {t u : State} (put : (match t.tryWrite ctx a bs false false h .module with
    | .ok u => pure u
    | .error f => throw (.fault f.1 f.2) : Start State) = .ok u) : u.lists = t.lists := by
  split at put
  next written =>
    obtain rfl := Except.ok.inj put
    obtain ⟨_, _, _, _, rfl, _⟩ := State.tryWrite_onlyStored written
    rfl
  next => cases put

/-- The records of a task that are written leave it ready to end with STATUS 0. -/
theorem State.writeStats_ok {s u : State} {k : Task} (written : s.writeStats k = .ok u) :
    ∃ (v : State) (f : BitVec 8), v.lists = s.lists ∧ u = v.setTask { k with phase := .finishing, status := some (stOk, 0), partials := [], flags := f } := by
  obtain ⟨recs, _, written⟩ := ok_of_bind written
  obtain ⟨t, scratch, written⟩ := ok_of_bind written
  obtain ⟨v, final, written⟩ := ok_of_bind written
  refine ⟨v, _, ?_, (Except.ok.inj written).symm⟩
  have inScratch : t.lists = s.newId.2.lists := keeps_foldlM State.lists (fun _ _ _ h => State.lists_put h) _ _ _ scratch
  have inFinal : v.lists = t.lists := keeps_foldlM State.lists (fun _ _ _ h => State.lists_put h) _ _ _ final
  exact inFinal.trans inScratch

-- Completion

/-- A list without tasks that is put in place has none to find. -/
theorem State.task?_setList_none (s : State) {y : TList} {bay ctx idx : Nat} (hb : y.bay = bay) (hc : y.ctx = ctx)
    (gone : (y.tasks.find? fun k => k.idx == idx) = none) : (s.setList y).task? bay ctx idx = none := by
  rw [State.task?, s.list?_setList y hb hc]
  cases s.list? bay ctx with
  | none => rfl
  | some _ => exact gone

/-- The end of a halted LAUNCH brings no task back. -/
theorem State.task?_checkHalt_none {s : State} {bay ctx idx : Nat} (gone : s.task? bay ctx idx = none) : (s.checkHalt bay ctx).task? bay ctx idx = none := by
  unfold State.checkHalt
  split
  · exact gone
  next l list =>
    obtain ⟨hb, hc⟩ := State.list?_own list
    split
    · exact gone
    · split
      · unfold State.endLaunch
        dsimp only
        have cleared := (s.cancelPasses bay ctx).task?_setList_none (idx := idx)
          (y := { l with launch := none, next := 0, fetchNext := 0, ahead := [], tasks := [], halt := none }) hb hc rfl
        split
        · obtain ⟨i, completes⟩ := State.complete_onlyHif ((s.cancelPasses bay ctx).setList
            { l with launch := none, next := 0, fetchNext := 0, ahead := [], tasks := [], halt := none }) _ _ _ _ _ _
          rw [completes]
          exact cleared
        · exact cleared
      · exact gone

/-- A task that leaves its list is found no more. -/
theorem State.task?_leaveTask (s : State) (bay ctx idx : Nat) (wrote : Bool) : (s.leaveTask bay ctx idx wrote).task? bay ctx idx = none := by
  unfold State.leaveTask
  split
  next list => rw [State.task?, list]
  next l list =>
    obtain ⟨hb, hc⟩ := State.list?_own list
    have gone : ((l.tasks.filter fun k : Task => k.idx != idx).find? fun k => k.idx == idx) = none :=
      List.find?_eq_none.2 fun k there => by simpa using (List.mem_filter.1 there).2
    exact State.task?_checkHalt_none (State.task?_setList_none _ hb hc gone)

/-- A status entry that is written is acted on. -/
theorem State.writeRecord_ok {s w : State} {y : Task} {l : TList} {status : Nat} (list : s.list? y.bay y.ctx = some l)
    (written : s.tryWrite y.ctx (l.status + 16 * y.idx) (y.record status (s.now y.half)) false false y.half .module = .ok w) :
    s.writeRecord y status = w.afterRecord y status := by
  rw [State.writeRecord, list]
  dsimp only
  rw [written]

/-- A task whose anchors are released and whose record is written acts on it. -/
theorem State.endTask_written {s u w : State} {k : Task} {st : Nat × Nat} {l : TList} (unlocked : s.unlock k (decide (st.1 ≤ 1)) = .ok u)
    (list : (u.setTask { k with appends := [] }).list? k.bay k.ctx = some l)
    (written : (u.setTask { k with appends := [] }).tryWrite k.ctx (l.status + 16 * k.idx)
      (Task.record { k with appends := [] } st.1 ((u.setTask { k with appends := [] }).now k.half)) false false k.half .module = .ok w) :
    s.endTask k st = w.afterRecord { k with appends := [] } st.1 := by
  unfold State.endTask
  rw [unlocked]
  dsimp only
  exact State.writeRecord_ok (y := { k with appends := [] }) list written

/-- Settles O47: the merge of the partial records, and the end of a task. -/
theorem tasksComplete : Obligations.TasksComplete := by
  unfold Obligations.TasksComplete
  refine ⟨fun bay ctx index k s t u after task done partials unheld fits written => ⟨?merges, fun ownBay ownCtx => ?merged⟩,
    fun bay ctx index k st s t after task unheld ends => ?ends,
    fun bay ctx index k y st l s t u v w after task unheld ends released unlocked set list written => ⟨?writes, fun ownBay ownCtx => ?left⟩,
    fun k s => ⟨fun status failed => ?failed, fun noTile noDone post => ?posts, fun noTile peg noPost => ?raises⟩, fun k now => ?length⟩
  case merges =>
    refine congrArg Host.Outcome.next ?_
    unfold State.mergeStats
    dsimp only
    rw [← after, task]
    dsimp only
    have kept : k.partials.isEmpty = false := by simpa using partials
    rw [done, kept, unheld, fits, written]
    rfl
  case merged =>
    obtain ⟨v, f, lists, rfl⟩ := State.writeStats_ok written
    have idx := State.task?_idx task
    refine ⟨f, ?_⟩
    have there : v.task? k.bay k.ctx k.idx = some k := by
      rw [State.task?_of_lists lists, ownBay, ownCtx, idx, task]
    have sets := State.task?_setTask (y := { k with phase := .finishing, status := some (stOk, 0), partials := [], flags := f }) there
    rw [← ownBay, ← ownCtx, ← idx]
    exact sets
  case ends =>
    refine congrArg Host.Outcome.next ?_
    unfold State.completeTask
    dsimp only
    rw [← after, task]
    dsimp only
    rw [unheld, ends]
    rfl
  case writes =>
    subst set
    subst y
    refine congrArg Host.Outcome.next (Eq.trans ?_ (State.endTask_written unlocked list written))
    unfold State.completeTask
    dsimp only
    rw [← after, task]
    dsimp only
    rw [unheld, ends]
    rfl
  case left =>
    subst y
    rw [← ownBay, ← ownCtx, ← State.task?_idx task]
    exact State.task?_leaveTask _ k.bay k.ctx k.idx true
  case failed =>
    simp [State.afterRecord, Nat.not_le.2 failed]
  case posts =>
    simp [State.afterRecord, noTile, noDone, post]
  case raises =>
    simp [State.afterRecord, noTile, peg, noPost]
  case length => simp [Task.record]

end Sys2Proof.Machine

/-! PROOF. The Plane unit's descriptors and passes (O48; R285 to R289, R294, R392). -/

namespace Sys2Proof.Machine

/-- Storing a descriptor changes, besides the descriptor, only what its status record's write does. -/
theorem State.putPlane_onlyWritten (s : State) (ctx id : Nat) (p : Plane) : (s.setPlane ctx id p).OnlyWritten (s.putPlane ctx id p) := by
  unfold State.putPlane
  dsimp only
  split
  next written => exact (State.tryWrite_onlyStored written).onlyWritten
  next => exact State.postFault_onlyWritten ..

/-- A descriptor that is stored is found. -/
theorem State.plane?_putPlane (s : State) (ctx id : Nat) (p : Plane) : (s.putPlane ctx id p).plane? ctx id = some p := by
  have stored : (s.setPlane ctx id p).plane? ctx id = some p := by
    rw [State.plane?, State.setPlane, State.ctx_modCtx]
    exact tfind_tset_same ..
  obtain ⟨_, _, _, _, _, _, same, _⟩ := s.putPlane_onlyWritten ctx id p
  rw [same]
  exact stored

/-- A pass that is prepared has its ranges counted, and then fails, begins, or has no unit to run. -/
theorem State.planeBegin_ready {s : State} {ctx id : Nat} {q : Plane} {step : List Byte} {es : List (List Byte)} (ready : s.planePrepare ctx q = .ok (step, es)) :
    s.planeBegin ctx id q = (let t := s.countSpans ctx [(refAddr (plStep q.hdr), 192), (q.desc + 64, 64 * plEntries q.hdr)] q.half
      if (decide (plKind q.hdr = 1) && !stepOk step) = true then t.failPlane ctx id q stStepInvalid true
      else
        let u := t.setPlane ctx id { q with step := step, ready := true, entries := es, pages := s.passPages ctx q.hdr es }
        if (decide (plKind q.hdr = 1) && normOver (srNorm2 step)) = true then u else u.passRequests ctx id q.hdr es) := by
  rw [State.planeBegin, ready]

/-- A pass whose requests are complete and whose gradients are all there is applied. -/
theorem State.endPass_full {s : State} {ctx id : Nat} {p : Plane} (there : s.plane? ctx id = some p) (running : p.state = 1) (ready : p.ready = true)
    (unheld : s.planeHeld ctx id = false) (quiet : s.passWaits ctx id = false) (full : ringsFull (ringParts p.gIn p.entries) = true) :
    s.endPass ctx id = if plKind p.hdr = 0 then s.normPass ctx id p (ringParts p.gIn p.entries) else s.updatePass ctx id p (ringParts p.gIn p.entries) := by
  simp [State.endPass, there, running, ready, unheld, quiet, full]

/-- Settles O48: descriptors by command, and a pass from its start to its end. -/
theorem planePasses : Obligations.PlanePasses := by
  unfold Obligations.PlanePasses
  refine ⟨fun fn slot c h es id s u v hs aligned low header good masked counted entries counted' legal free => ?arm,
    fun fn slot c p s hs few there live unreleased => ?release,
    fun ctx id p q s t u there armed unheld may taken begun stored unheld' => ?starts,
    fun ctx id q step es s t ready counted => ⟨fun update bad => ?stepInvalid, fun fine => ?runs, fun update good overflows => ?skips⟩,
    fun ctx id p s there running ready unheld quiet full => ⟨fun norm => ?norm, fun update => ?update⟩⟩
  case arm =>
    refine exec_started _ hs ?_
    have masked' : u.inMask c.ctx (plBay h) = true := by
      obtain ⟨ps, counts⟩ := s.countRange_eq c.ctx (c.par 0x10 8) 64 .h0
      rw [counted, counts]
      exact masked
    have fine : ((List.range (plEntries h)).any fun i => plEntryBad h (cut es (64 * i) 64)) = false :=
      List.any_eq_false.2 fun i there => by simp [legal i (List.mem_range.1 there)]
    have aligned' : (c.par 0x10 8 % 64 != 0 || refHigh (c.par 0x10 8) != 0) = false := by
      simp [aligned, low]
    simp only [State.planeArm, aligned', State.cmdRead_ok fn _ header, ← counted, good, masked', State.cmdRead_ok fn _ entries, ← counted', fine, free,
      State.starts_slot hs, Bool.not_true, Bool.or_self, Bool.false_eq_true, if_false]
    rfl
  case release =>
    refine exec_started _ hs ?_
    simp [State.planeRelease, Nat.not_lt.2 few, there, live, unreleased, State.starts_slot hs]
  case starts =>
    have found : u.plane? ctx id = some q := by
      rw [stored]
      exact State.plane?_putPlane ..
    have fresh : q.state = 1 ∧ q.ready = false := by
      rw [begun]
      exact ⟨rfl, rfl⟩
    have goesOn : s.startPlane ctx id = if u.planeHeld ctx id then u else u.planeWritten ctx id := by
      rw [stored, begun, taken]
      simp [State.startPlane, there, armed, unheld, may]
    refine congrArg Host.Outcome.next (goesOn.trans ?_)
    rw [unheld']
    simp [State.planeWritten, found, fresh.1, fresh.2]
  case stepInvalid =>
    rw [State.planeBegin_ready ready, ← counted]
    simp [update, bad, stStepInvalid]
  case runs =>
    rw [State.planeBegin_ready ready, ← counted]
    by_cases update : plKind q.hdr = 1
    · obtain ⟨good, fits⟩ := fine update
      simp [good, fits]
    · simp [update]
  case skips =>
    rw [State.planeBegin_ready ready, ← counted]
    simp [update, good, overflows]
  case norm =>
    exact congrArg Host.Outcome.next ((State.endPass_full there running ready unheld quiet full).trans (if_pos norm))
  case update =>
    refine congrArg Host.Outcome.next ((State.endPass_full there running ready unheld quiet full).trans (if_neg ?_))
    rw [update]
    decide

end Sys2Proof.Machine

/-! PROOF. Groups, pegs and collectives (O49, O50; R327 to R347, R393). -/

namespace Sys2Proof.Machine

/-- A context without the pegs of a range. -/
def Ctx.unload (x : Ctx) (first n : Nat) : Ctx := { x with pegs := x.pegs.filter fun e => decide (e.1 < first) || decide (first + n ≤ e.1) }

/-- A range of pegs none of which runs is unloaded, with the faults they wait for. -/
theorem State.pegUnload_eq (s : State) (n : Nat) (c : Cmd) (fits : c.par 0xA 2 + c.par 0xC 2 < 1024)
    (idle : ((List.range (c.par 0xC 2 + 1)).any fun i => s.pegRuns c.ctx (c.par 0xA 2 + i)) = false) : ∃ q,
    s.pegUnload n c = State.done { (s.modCtx c.ctx fun x => x.unload (c.par 0xA 2) (c.par 0xC 2 + 1)) with faults := q } n c.slot stOk 0 := by
  have inside : ¬1024 < c.par 0xA 2 + (c.par 0xC 2 + 1) := by omega
  unfold State.pegUnload
  dsimp only
  rw [if_neg inside, if_neg (Bool.eq_false_iff.1 idle)]
  exact ⟨_, rfl⟩

/-- Settles O49: a group is defined, and pegs are loaded, rearmed and unloaded, or are busy. -/
theorem groupsAndPegsByCommand : Obligations.GroupsAndPegsByCommand := by
  unfold Obligations.GroupsAndPegsByCommand
  refine ⟨fun fn slot c s hs few good reach unnamed => ?define, fun fn slot c bs s hs aligned low fits read firstArea sameArea legal idle => ?load,
    fun fn slot c p s hs there armed done one legal => ?rearm, fun fn slot c s hs fits idle => ?unload, fun fn slot c s hs fits runs => ?busy⟩
  case define =>
    have reachable : ((List.range (grpSize (cut c.bytes 0x10 16))).any fun r => !s.reachable (s.member (cut c.bytes 0x10 16) r)) = false :=
      List.any_eq_false.2 fun r there => by simp [reach r (List.mem_range.1 there)]
    have free : ((s.ctx c.ctx).pegs.any fun e => pgOp e.2.entry != 0 && pgGroup e.2.entry == c.par 8 1) = false :=
      List.any_eq_false.2 fun e there => by
        rcases unnamed e there with local_ | other
        · simp [local_]
        · simp [other]
    refine exec_started _ hs ?_
    simp only [State.groupDefine, if_neg (Nat.not_lt.2 few), good, reachable, free, State.starts_slot hs, Bool.false_eq_true, if_false]
    rfl
  case load =>
    have place : (c.par 0x10 8 % 64 != 0 || refHigh (c.par 0x10 8) != 0) = false := by simp [aligned, low]
    have area : (match (s.ctx c.ctx).pegArea with
        | none => c.par 0x18 8 == 0 || c.par 0x18 8 % 16 != 0 || refHigh (c.par 0x18 8) != 0
        | some a => c.par 0x18 8 != 0 && c.par 0x18 8 != a) = false := by
      cases stands : (s.ctx c.ctx).pegArea with
      | none =>
        obtain ⟨some, units, bits⟩ := firstArea stands
        simp [some, units, bits]
      | some a =>
        rcases sameArea a stands with none | same
        · simp [none]
        · simp [same]
    have legal' : (((List.range (c.par 0xC 2 + 1)).map fun i => cut bs (64 * i) 64).any pegBad) = false := by
      refine List.any_eq_false.2 fun e there => ?_
      obtain ⟨i, small, rfl⟩ := List.mem_map.1 there
      simp [legal i (Nat.lt_succ_iff.1 (List.mem_range.1 small))]
    have idle' : ((List.range (c.par 0xC 2 + 1)).any fun i =>
        (s.countRange c.ctx (c.par 0x10 8) (64 * (c.par 0xC 2 + 1)) .h0).pegRuns c.ctx (c.par 0xA 2 + i)) = false :=
      List.any_eq_false.2 fun i small => by simp [idle i (Nat.lt_succ_iff.1 (List.mem_range.1 small))]
    refine exec_started _ hs ?_
    unfold State.pegLoad
    dsimp only
    rw [place]
    refine (if_neg Bool.false_ne_true).trans ((if_neg (Nat.not_lt.2 fits)).trans ((if_neg (Bool.eq_false_iff.1 area)).trans ((State.cmdRead_ok fn _ read).trans ?_)))
    rw [legal', idle', State.starts_slot hs]
    exact (if_neg Bool.false_ne_true).trans (if_neg Bool.false_ne_true)
  case rearm =>
    refine exec_started _ hs ?_
    simp only [State.pegRearm, there, armed, done, one, legal, State.starts_slot hs, bne_self_eq_false, Bool.or_self, Bool.false_eq_true, if_false]
    rfl
  case unload =>
    have idle' : ((List.range (c.par 0xC 2 + 1)).any fun i => s.pegRuns c.ctx (c.par 0xA 2 + i)) = false :=
      List.any_eq_false.2 fun i small => by simp [idle i (Nat.lt_succ_iff.1 (List.mem_range.1 small))]
    obtain ⟨q, unloads⟩ := s.pegUnload_eq fn c fits idle'
    obtain ⟨i, completes⟩ := State.done_onlyHif { (s.modCtx c.ctx fun x => x.unload (c.par 0xA 2) (c.par 0xC 2 + 1)) with faults := q } fn c.slot stOk 0
    refine ⟨_, exec_started _ hs unloads, ?_⟩
    rw [completes]
    refine ⟨fun e there => ?_, rfl, rfl, fun a => rfl⟩
    have kept : e ∈ ((s.ctx c.ctx).unload (c.par 0xA 2) (c.par 0xC 2 + 1)).pegs :=
      congrArg Ctx.pegs (State.ctx_modCtx s c.ctx fun x => x.unload (c.par 0xA 2) (c.par 0xC 2 + 1)) ▸ there
    have out := (List.mem_filter.1 kept).2
    simp only [Bool.or_eq_true, decide_eq_true_eq] at out
    omega
  case busy =>
    have some : ((List.range (c.par 0xC 2 + 1)).any fun i => s.pegRuns c.ctx (c.par 0xA 2 + i)) = true :=
      List.any_eq_true.2 ⟨0, List.mem_range.2 (Nat.succ_pos _), runs⟩
    refine exec_started _ hs ?_
    unfold State.pegUnload
    dsimp only
    rw [if_neg (by omega), some, State.starts_slot hs]
    rfl

-- Collectives

theorem not_expired {now since limit : Nat} (inTime : now ≤ since + limit) : expired now since limit = false :=
  decide_eq_false (Nat.not_lt.2 inTime)

/-- A loaded peg that is replaced is found. -/
theorem State.peg?_setPeg (s : State) (ctx k : Nat) (p : Peg) : (s.setPeg ctx k p).peg? ctx k = some p := by
  rw [State.peg?, State.setPeg, State.ctx_modCtx]
  exact tfind_tset_same ..

/-- A packet that a WRITE's fields make is the WRITE that a peg's data is. -/
theorem State.dataIn_write {s : State} {ctx k : Nat} {inst : BitVec 16} {port : Nat} {kind : PegPacket} {first : Nat} {bs : List Byte} {p : Peg} {w : Packet}
    (there : s.peg? ctx k = some p) (valid : s.aon.coordValid = true) (packet : w =
      { vc := s.dataVc ctx, sub := 0, dir := 0, kind := 0, dctx := ctx, poison := false, dest := s.aon.coord,
        src := s.member (s.group ctx (pgGroup p.entry)) (pgPred p.entry (grpSize (s.group ctx (pgGroup p.entry))) (s.rank (s.group ctx (pgGroup p.entry)))),
        target := BitVec.ofNat 64 (landAt p ⟨kind == .final, first, bs⟩), ptag := BitVec.ofNat 32 (k + 65536 * inst.toNat), payload := bs }) :
    s.dataIn ctx k inst port kind first bs = (let t := s.modPort port fun q => { q with commit := tset q.commit w.vc (tget q.commit w.vc [] ++ [w]) }
      if t.nextWrite port w.vc = some w then t.remoteWrite port w.vc else t) := by
  subst packet
  simp only [State.dataIn, there, valid, Bool.not_true, Bool.false_eq_true, if_false]
  rfl

/-- Settles O50: what the members of a collective receive, a peg's end, its timeout and its raises. -/
theorem collectivesRun : Obligations.CollectivesRun := by
  unfold Obligations.CollectivesRun
  refine ⟨fun ctx k inst rank sig p s there root inside other collective armed next => ?opens, fun ctx k p s there runs signed waits inTime => ?go,
    fun ctx k rank p s there runs signed waits inTime => ?abort, fun ctx k p s there runs signed op go inTime => ?grant,
    fun ctx k p s there runs signed op early => ?grantHeld, fun ctx k inst p s there other => ?grantOther,
    fun ctx k inst port kind first bs p w s t there valid vc sub dir wkind dctx poison dest payload ptag buf order src target after => ?data,
    fun ctx addr ptag bs p s there runs signed inst go inTime => ?landed, fun ctx k p s there runs awaits late member => ?timeout,
    fun ctx k p s live done => ?complete, fun ctx k n p s there below => ?raise, fun ctx k n s none => ?stray⟩
  case opens =>
    refine congrArg Host.Outcome.next ?_
    simp [State.openIn, there, root, Nat.not_le.2 inside, other, Nat.not_lt.2 collective, armed, next]
  case go =>
    refine congrArg Host.Outcome.next ?_
    simp [there, Peg.awaitsGo, runs, signed, waits, not_expired inTime, State.pegNear]
  case abort =>
    refine congrArg Host.Outcome.next ?_
    simp [there, Peg.awaitsGo, runs, signed, waits, not_expired inTime.le, State.pegNear, inTime.ne, stCollMismatch]
  case grant =>
    refine congrArg Host.Outcome.next ?_
    simp [State.grantIn, there, runs, signed, op, go, not_expired inTime, State.pegNear]
  case grantHeld =>
    have held : (!p.go || expired (s.now .h0) p.since p.limit) = true := by
      rcases early with before | late
      · simp [before]
      · simp [expired, late]
    refine congrArg Host.Outcome.next ?_
    simp only [State.grantIn, there, runs, signed, op, held, bne_self_eq_false, Bool.not_true, Bool.or_self, Bool.false_eq_true, if_false, if_true]
  case grantOther =>
    refine congrArg Host.Outcome.next ?_
    simp [State.grantIn, there, other]
  case data =>
    refine congrArg Host.Outcome.next ((State.dataIn_write there valid (w := w) ?_).trans ?_)
    · obtain ⟨wvc, wsub, wdir, wk, wdctx, wpoison, wdest, wsrc, wtarget, wptag, wpayload, wbuf, worder⟩ := w
      dsimp only at vc sub dir wkind dctx poison dest payload ptag buf order src target
      have class_ : wvc = s.dataVc ctx := vc.trans rfl
      rw [class_, sub, dir, wkind, dctx, poison, dest, payload, ptag, buf, order, src, target]
    · rw [after]
  case landed =>
    simp [State.pegLanded, there, runs, signed, inst, go, not_expired inTime, State.pegNear]
  case timeout =>
    have noneHeld : (if (!p.go && s.rank (s.group ctx (pgGroup p.entry)) == 0) = true then p.opens.filter fun o => o.inst == p.inst && o.rank != 0 else []) = [] := by
      rcases member with other | going
      · simp [other]
      · simp [going]
    refine congrArg Host.Outcome.next ?_
    unfold State.pegLate
    rw [there]
    dsimp only
    rw [runs, awaits, noneHeld, show expired (s.now .h0) p.since p.limit = true from decide_eq_true late]
    rfl
  case complete =>
    refine congrArg Host.Outcome.next ?_
    simp [State.pegComplete, live, done]
  case raise =>
    have waits : (s.setPeg ctx k { p with counter := min max32 (p.counter + n) }).pegCheck ctx k = s.setPeg ctx k { p with counter := min max32 (p.counter + n) } := by
      simp [State.pegCheck, State.peg?_setPeg, below]
    simp only [State.raisePeg, there]
    exact waits
  case stray =>
    have counts : s.raisePeg ctx k n = s.modLinks fun l => { l with pegStray := satAdd max32 l.pegStray 1 } := by
      rw [State.raisePeg, none]
    rw [counts]
    exact ⟨rfl, rfl, rfl⟩

end Sys2Proof.Machine

/-! PROOF. Remote packets and sending (O51, O52; R304, R308, R314, R317, R318, R350, R358). -/

namespace Sys2Proof.Machine

/-- A stray signal counts, and no semaphore changes. -/
theorem State.strayCount_counts (s : State) (ctx : Nat) : ((s.strayCount ctx).ctx ctx).stray = min 65535 ((s.ctx ctx).stray + 1)
    ∧ ((s.strayCount ctx).ctx ctx).sems = (s.ctx ctx).sems := by
  rw [State.strayCount, State.ctx_modCtx]
  exact ⟨rfl, rfl⟩

/-- A WRITE that nothing refuses, holds or delays goes to memory, or meets its fault. -/
theorem State.remoteWrite_free {s : State} {n vc : Nat} {p : Packet} (next : s.nextWrite n vc = some p) (admitted : s.admitted p.dctx = true)
    (alive : s.isDead p.dctx n p.vc = false) (unheld : s.writesHeld p.dctx (refAddr p.target.toNat) p.payload.length = false)
    (bridge : s.bridgeHolds (portHalf (n % 8)) p.dctx (refAddr p.target.toNat) p.payload.length = false) :
    s.remoteWrite n vc = match s.portWrite p.dctx (p.ptag.toNat % 1024) (refAddr p.target.toNat) p.payload true p.poison (portHalf (n % 8)) with
      | .ok t => (t.committed n p).pegLanded p.dctx p.ptag (refAddr p.target.toNat) p.payload
      | .error f => if f.2 = pfRight then s.discardRemote n p f.1 else (s.postFault p.dctx f.1 true f.2 (.remote n p.cls) (portHalf (n % 8))).2 := by
  simp only [State.remoteWrite, next, State.refusesRemote, admitted, alive, unheld, bridge, Bool.not_true, Bool.or_self, Bool.false_eq_true, if_false] <;> rfl

/-- A WRITE whose fault waits for the joiner holds its sub-class. -/
theorem State.clsHeld_postFault (s : State) (ctx addr cause n c : Nat) (write : Bool) (h : Half) :
    (s.postFault ctx addr write cause (.remote n c) h).2.clsHeld n c = true :=
  List.any_eq_true.2 ⟨_, List.mem_append_right _ (List.mem_singleton_self _), by simp⟩

/-- Settles O51: a WRITE's commit or fault, a SIGNAL's commit, a refused packet, and the targets of a SIGNAL. -/
theorem remotePacketsCommit : Obligations.RemotePacketsCommit := by
  unfold Obligations.RemotePacketsCommit
  refine ⟨fun n vc p s t next admitted alive unheld bridge written => ?commits,
    fun n vc p f s next admitted alive unheld bridge fails => ⟨fun right => ?discards, fun other => ?holds⟩,
    fun n vc p rest s queue kind admitted alive first bridge => ?signals, fun n vc p s next out => ?refused,
    fun ctx addr ptag bs s idle => ?noPeg,
    fun ctx target n s => ⟨fun kind bay masked sem => ?semaphore, fun kind bay masked pair => ?full, fun kind bay masked pair => ?free, fun kind => ?peg,
      fun kind unmasked => ?stray⟩⟩
  case commits =>
    refine congrArg Host.Outcome.next ((State.remoteWrite_free next admitted alive unheld bridge).trans ?_)
    rw [written]
  case discards =>
    refine congrArg Host.Outcome.next ((State.remoteWrite_free next admitted alive unheld bridge).trans ?_)
    rw [fails]
    exact if_pos right
  case holds =>
    have posts : s.remoteWrite n vc = (s.postFault p.dctx f.1 true f.2 (.remote n p.cls) (portHalf (n % 8))).2 := by
      refine (State.remoteWrite_free next admitted alive unheld bridge).trans ?_
      rw [fails]
      exact if_neg other
    exact ⟨_, congrArg Host.Outcome.next posts, s.clsHeld_postFault .., rfl, fun a => rfl⟩
  case signals =>
    refine congrArg Host.Outcome.next ?_
    simp [State.remoteSignal, queue, kind, first, bridge, State.refusesRemote, admitted, alive]
  case refused =>
    refine congrArg Host.Outcome.next ?_
    simp [State.remoteWrite, next, State.refusesRemote, out]
  case noPeg =>
    unfold State.pegLanded
    dsimp only
    split
    · rfl
    next p there => simp [idle p there]
  case semaphore => simp [State.signal, kind, Nat.not_lt.2 bay, masked, sem]
  case full => simp [State.signal, kind, Nat.not_lt.2 bay, masked, pair]
  case free => simp [State.signal, kind, Nat.not_lt.2 bay, masked, pair]
  case peg => simp [State.signal, kind]
  case stray =>
    have strays : s.signal ctx target n = s.strayCount ctx := by simp [State.signal, kind, unmasked]
    rw [strays]
    exact s.strayCount_counts ctx

-- Sending

/-- A frame period changes its port alone, besides the model's free values. -/
theorem State.framePeriod_leaves (s : State) (n : Nat) : (∀ m, m ≠ n → (s.framePeriod n).port m = s.port m) ∧ (s.framePeriod n).ctxs = s.ctxs
    ∧ sameBytes s (s.framePeriod n) := by
  unfold State.framePeriod
  dsimp only
  split
  · exact ⟨fun _ _ => rfl, rfl, sameBytes_of_eq rfl rfl⟩
  · exact ⟨fun m other => State.port_setPort_ne _ _ other, rfl, sameBytes_of_eq rfl rfl⟩

/-- With room in the replay buffer the next packets of the stream go out in a frame of the next number. -/
theorem Port.nextFrame_new {p : Port} (noReplay : p.resend = none) (waiting : p.stream ≠ []) (room : p.replayBuf.length < 64) :
    p.nextFrame = (let r := fillFrame (p.stream.length + 1) p.stream [] []
      let f : Frame := ⟨p.txSeq, r.1, r.2.1⟩
      (some f, { p with txSeq := (p.txSeq + 1) % 2 ^ 24, stream := r.2.2, replayBuf := p.replayBuf ++ [f] })) := by
  simp only [Port.nextFrame, noReplay, List.isEmpty_eq_false_iff.2 waiting, decide_eq_false (Nat.not_le.2 room), Bool.or_self, Bool.false_eq_true, if_false]

/-- Settles O52: a packet's start, a sequenced frame and an IDLE one. -/
theorem packetsAreSent : Obligations.PacketsAreSent := by
  unfold Obligations.PacketsAreSent
  refine ⟨fun n v k s run next may own => ?start, fun n s run noReplay waiting room => ?sequenced, fun n s run noReplay empty => ?idle⟩
  case start =>
    have starts : s.packetStart n = s.setPort n { s.port n with
        queues := tset (s.port n).queues v ((tget (s.port n).queues v []).erase k)
        txCredits := tset (s.port n).txCredits k.cls (tget (s.port n).txCredits k.cls 0 - k.credits)
        stream := (s.port n).stream ++ [(k.header 0, k.payload)]
        vc0Run := if v = 0 then min 15 ((s.port n).vc0Run + 1) else 0 } := by
      simp [State.packetStart, run, next, may, State.freeCredits, own]
    refine ⟨_, congrArg Host.Outcome.next starts, ?_⟩
    rw [State.port_setPort]
    exact ⟨tget_tset_same .., tget_tset_same .., rfl, fun m other => State.port_setPort_ne _ _ other, rfl, sameBytes_of_eq rfl rfl⟩
  case sequenced =>
    have next := Port.nextFrame_new noReplay waiting room
    obtain ⟨_, _, _, _, _, _, port⟩ := State.framePeriod_sequenced run next
    obtain ⟨others, ctxs, bytes⟩ := s.framePeriod_leaves n
    refine ⟨_, ⟨(s.port n).txSeq, (fillFrame ((s.port n).stream.length + 1) (s.port n).stream [] []).1,
      (fillFrame ((s.port n).stream.length + 1) (s.port n).stream [] []).2.1⟩, rfl, ?_, rfl, ?_, ?_, others, ctxs, bytes⟩
    · rw [port]
    · rw [port]
    · rw [port]
  case idle =>
    have next : (s.port n).nextFrame = (none, s.port n) := by simp [Port.nextFrame, noReplay, empty]
    obtain ⟨_, _, _, _, _, _, port⟩ := State.framePeriod_idle run next
    refine ⟨_, rfl, ?_⟩
    rw [port, fld_frameBytes_ctl]
    exact ⟨rfl, rfl, bit_idle _, (s.framePeriod_leaves n).2.2⟩

end Sys2Proof.Machine

/-! PROOF. The training of a port (O54; R302 to R306, R314, R319, R322, R324). -/

namespace Sys2Proof.Machine

-- The active set (R303 step 4, R304)

/-- How many of the lowest k lanes a mask holds. -/
def lanesBelow (m : BitVec 14) (k : Nat) : Nat := ((List.range k).filter fun i => m.getLsbD i).length

theorem lanesBelow_succ (m : BitVec 14) (k : Nat) : lanesBelow m (k + 1) = lanesBelow m k + b2n (m.getLsbD k) := by
  rw [lanesBelow, List.range_succ, List.filter_append, List.length_append, lanesBelow]
  cases h : m.getLsbD k <;> simp [h, b2n]

/-- The bits of a number, counted from the low end. -/
theorem popCount_succ (n v : Nat) : popCount (n + 1) v = popCount n v + v / 2 ^ n % 2 := by
  induction n generalizing v with
  | zero => simp [popCount]
  | succ n ih =>
    rw [popCount, ih, popCount, Nat.div_div_eq_div_mul, Nat.pow_succ']
    omega

theorem popCount_lanes (m : BitVec 14) (k : Nat) : popCount k m.toNat = lanesBelow m k := by
  induction k with
  | zero => rfl
  | succ k ih =>
    rw [popCount_succ, ih, lanesBelow_succ, BitVec.getLsbD, Nat.testBit_eq_decide_div_mod_eq, b2n]
    rcases Nat.mod_two_eq_zero_or_one (m.toNat / 2 ^ k) with h | h <;> simp [h]

theorem getLsbD_addLane (acc : BitVec 14) {k : Nat} (h : k < 14) (j : Nat) : (acc ||| BitVec.ofNat 14 (2 ^ k)).getLsbD j = (acc.getLsbD j || decide (j = k)) := by
  rw [BitVec.getLsbD_or, BitVec.getLsbD_ofNat, Nat.testBit_two_pow]
  by_cases same : j = k
  · simp [same, h]
  · simp [same, Ne.symm same]

/-- A lane that a mask lacks, added to it, counts one more. -/
theorem lanesBelow_addLane {acc : BitVec 14} {k : Nat} (h : k < 14) (off : acc.getLsbD k = false) (n : Nat) :
    lanesBelow (acc ||| BitVec.ofNat 14 (2 ^ k)) n = lanesBelow acc n + b2n (decide (k < n)) := by
  induction n with
  | zero => rfl
  | succ n ih =>
    rw [lanesBelow_succ, lanesBelow_succ, ih, getLsbD_addLane acc h]
    rcases Nat.lt_trichotomy n k with below | same | above
    · simp [b2n, below.ne, Nat.not_lt.2 below.le, Nat.not_lt.2 (Nat.succ_le_of_lt below)]
    · simp [b2n, same, off]
    · simp [b2n, above.ne', above, Nat.lt_succ_of_lt above]
      omega

/-- The lowest lanes of a mask, taken from the lowest k. -/
def lowestOf (n : Nat) (m : BitVec 14) (k : Nat) : BitVec 14 :=
  (List.range k).foldl (fun acc i => if m.getLsbD i && decide (popCount 14 acc.toNat < n) then acc ||| BitVec.ofNat 14 (2 ^ i) else acc) 0

theorem lowestOf_succ (n : Nat) (m : BitVec 14) (k : Nat) : lowestOf n m (k + 1)
    = if m.getLsbD k && decide (popCount 14 (lowestOf n m k).toNat < n) then lowestOf n m k ||| BitVec.ofNat 14 (2 ^ k) else lowestOf n m k := by
  rw [lowestOf, List.range_succ, List.foldl_append]
  rfl

/-- The lowest lanes are lanes of the mask, as many as asked for or as it has. -/
theorem lowestOf_spec (n : Nat) (m : BitVec 14) {k : Nat} (h : k ≤ 14) : (∀ j, (lowestOf n m k).getLsbD j = true → j < k ∧ m.getLsbD j = true)
    ∧ popCount 14 (lowestOf n m k).toNat = min n (lanesBelow m k) := by
  induction k with
  | zero => exact ⟨fun j on => by simp [lowestOf] at on, by simp [lowestOf, lanesBelow]; rfl⟩
  | succ k ih =>
    obtain ⟨lanes, count⟩ := ih (Nat.le_of_succ_le h)
    rw [lowestOf_succ, lanesBelow_succ]
    have off : (lowestOf n m k).getLsbD k = false := by
      by_contra on
      exact absurd (lanes k (by simpa using on)).1 (lt_irrefl k)
    cases good : m.getLsbD k with
    | false => exact ⟨fun j on => ⟨Nat.lt_succ_of_lt (lanes j on).1, (lanes j on).2⟩, count⟩
    | true =>
      by_cases room : popCount 14 (lowestOf n m k).toNat < n
      · rw [if_pos (by simp [room])]
        refine ⟨fun j on => ?_, ?_⟩
        · rw [getLsbD_addLane _ h, Bool.or_eq_true, decide_eq_true_eq] at on
          rcases on with on | rfl
          · exact ⟨Nat.lt_succ_of_lt (lanes j on).1, (lanes j on).2⟩
          · exact ⟨Nat.lt_succ_self j, good⟩
        · rw [popCount_lanes, lanesBelow_addLane h off, ← popCount_lanes, count]
          rw [count] at room
          simp only [b2n, Nat.lt_of_succ_le h, decide_true, if_true]
          omega
      · rw [if_neg (by simp [room])]
        refine ⟨fun j on => ⟨Nat.lt_succ_of_lt (lanes j on).1, (lanes j on).2⟩, ?_⟩
        rw [count] at room ⊢
        omega

theorem lowestLanes_spec (n : Nat) (m : BitVec 14) : lowestLanes n m &&& m = lowestLanes n m ∧ popCount 14 (lowestLanes n m).toNat = min n (popCount 14 m.toNat) := by
  obtain ⟨lanes, count⟩ := lowestOf_spec n m (le_refl 14)
  refine ⟨BitVec.eq_of_getLsbD_eq fun j _ => ?_, count.trans (congrArg (min n) (popCount_lanes m 14).symm)⟩
  rw [BitVec.getLsbD_and]
  cases on : (lowestLanes n m).getLsbD j with
  | false => rfl
  | true => exact (lanes j on).2

/-- The active set is 12 good lanes, or 6, or none. -/
theorem activeSet_spec (good : BitVec 14) : activeSet good false &&& good = activeSet good false
    ∧ popCount 14 (activeSet good false).toNat = if 12 ≤ popCount 14 good.toNat then 12 else if 6 ≤ popCount 14 good.toNat then 6 else 0 := by
  obtain ⟨six, count6⟩ := lowestLanes_spec 6 good
  obtain ⟨twelve, count12⟩ := lowestLanes_spec 12 good
  by_cases few : popCount 14 good.toNat < 6
  · simp [activeSet, few, Nat.not_le.2 few, Nat.not_le.2 (few.trans (by decide : 6 < 12)), show popCount 14 0 = 0 from rfl]
  · by_cases half : popCount 14 good.toNat < 12
    · simp [activeSet, few, half, six, count6, Nat.not_le.2 half, Nat.not_lt.1 few]
    · simp [activeSet, few, half, twelve, count12, Nat.not_lt.1 half]

-- Identities and retrains

/-- Writing the floor plan's entry of a port changes the floor plan alone, and the entry has the port's state. -/
theorem State.writePortEntry_eq (s : State) (n : Nat) : ∃ pl, s.writePortEntry n = { s with plan := pl } ∧ (pl.port n).state = (s.port n).state := by
  refine ⟨_, rfl, ?_⟩
  exact congrArg PortEntry.state (tget_tset_same ..)

theorem State.linkDegraded_onlyHif (s : State) (n outcome lost : Nat) : s.OnlyHif (s.linkDegraded n outcome lost) := s.postPf0_onlyHif ..

theorem State.degradedIf_onlyHif (s : State) (n : Nat) : s.OnlyHif (s.degradedIf n) := by
  unfold State.degradedIf
  dsimp only
  split
  · exact s.linkDegraded_onlyHif n 1 0
  · split
    · exact s.linkDegraded_onlyHif n 0 0
    · exact .refl s

/-- The event and the service write owed after a change of a port leave the links, the contexts and memory. -/
theorem State.portChanged_leaves (s : State) (n outcome : Nat) : ((s.writePortEntry n).linkDegraded n outcome 0).oweService.links = s.links
    ∧ ((s.writePortEntry n).linkDegraded n outcome 0).oweService.mem = s.mem := by
  obtain ⟨pl, writes, _⟩ := s.writePortEntry_eq n
  obtain ⟨i, posts⟩ := (s.writePortEntry n).linkDegraded_onlyHif n outcome 0
  obtain ⟨_, _, _, _, _, _, owes⟩ := State.oweService_onlyService ((s.writePortEntry n).linkDegraded n outcome 0)
  rw [owes, posts, writes]
  exact ⟨rfl, rfl⟩

/-- A port as a retrain that keeps some lanes leaves it (R304, R314). -/
def Port.resumed (p : Port) (good act : BitVec 14) (half : Bool) (tick : Nat) (credits : List Nat) (own : Table Nat) : Port :=
  { p with
    retraining := false, laneGood := good, laneActive := act, state := if half then 1 else 0, halfLocked := half || p.halfLocked
    resend := if p.replayBuf.isEmpty then none else some 0, replayRun := 0, nak := false, discarding := false, laneUe := []
    ackTick := tick, txGrant := creditTable credits, rxGrant := own
    txCredits := (List.range 8).map fun i => (i, tget p.txCredits i 0 + tget (creditTable credits) i 0 - tget p.txGrant i 0) }

/-- A retrain that keeps some lanes resumes the port; where they are not those from before, the port's entry and its event follow. -/
theorem State.retrained_resumes {s : State} {n : Nat} {passed partner good act : BitVec 14} (credits : List Nat) (retrains : (s.port n).retraining = true)
    (hgood : passed &&& partner = good) (hact : activeSet good (s.port n).halfLocked = act) (lanes : act ≠ 0) : ∃ half,
    s.retrained n passed partner credits = if act = (s.port n).laneActive
      then s.setPort n ((s.port n).resumed good act half (s.now (portHalf n)) credits s.ownCredits)
      else ((State.writePortEntry (s.setPort n ((s.port n).resumed good act half (s.now (portHalf n)) credits s.ownCredits)) n).linkDegraded n
        (if half then 1 else 0) 0).oweService := by
  refine ⟨decide (popCount 14 act.toNat < 12), ?_⟩
  unfold State.retrained
  dsimp only
  rw [retrains, hgood, hact]
  exact (if_neg Bool.false_ne_true).trans (if_neg lanes)

/-- What a resumed port's entry and event leave. -/
theorem State.retrained_leaves {s : State} {n : Nat} {passed partner good act : BitVec 14} (credits : List Nat) (retrains : (s.port n).retraining = true)
    (hgood : passed &&& partner = good) (hact : activeSet good (s.port n).halfLocked = act) (lanes : act ≠ 0) : ∃ half,
    (s.retrained n passed partner credits).port n = (s.port n).resumed good act half (s.now (portHalf n)) credits s.ownCredits
      ∧ (s.retrained n passed partner credits).mem = s.mem := by
  obtain ⟨half, resumes⟩ := State.retrained_resumes credits retrains hgood hact lanes
  refine ⟨half, ?_⟩
  have port := State.port_setPort s n ((s.port n).resumed good act half (s.now (portHalf n)) credits s.ownCredits)
  have mem : (s.setPort n ((s.port n).resumed good act half (s.now (portHalf n)) credits s.ownCredits)).mem = s.mem := rfl
  rw [resumes]
  generalize s.setPort n ((s.port n).resumed good act half (s.now (portHalf n)) credits s.ownCredits) = t at port mem ⊢
  split
  · exact ⟨port, mem⟩
  · obtain ⟨links, stays⟩ := t.portChanged_leaves n (if half then 1 else 0)
    exact ⟨(congrArg (fun l : Links => tget l.ports n {}) links).trans port, stays.trans mem⟩

/-- A port whose partner is the neighbour it should be: in service at its width (R303 steps 6 and 7). -/
def Port.joined (p : Port) (half : Bool) (partner : BitVec 48 × BitVec 8 × BitVec 64) : Port :=
  { p with step := 7, state := if half then 1 else 0, halfLocked := half, partner := some partner }

/-- Settles O54: each step of training, the partner's check, the active set, the retrain's two ends, and the route table that stands. -/
theorem portsTrain : Obligations.PortsTrain := by
  unfold Obligations.PortsTrain
  refine ⟨fun n signal s on stage present idle => ?reset, fun n s one => ?signal, fun n passed s two => ?pmd, fun n partner s three lanes => ?masks,
    fun n credits s four alive => ?lock, fun n coord pp serial s five alive steady valid wrong => ?miscabled,
    fun n coord pp serial s five alive steady valid right long => ?up, activeSet_spec,
    fun n passed partner credits s retrains gone => ?down, fun n passed partner credits s retrains lanes => ?resumed, fun breaks s admitted => ?stands⟩
  case reset =>
    refine congrArg Host.Outcome.next ?_
    simp [State.laneReset, on, Nat.not_lt.2 stage, present, idle, State.modPort]
  case signal => exact congrArg Host.Outcome.next (if_pos one)
  case pmd => exact congrArg Host.Outcome.next (if_pos two)
  case masks =>
    refine congrArg Host.Outcome.next ?_
    simp only [State.masksExchanged, three, bne_iff_ne.2 lanes, bne_self_eq_false, Bool.false_eq_true, if_false, if_true]
    rfl
  case lock =>
    refine congrArg Host.Outcome.next ?_
    simp [State.locked, four, alive, State.modPort]
  case miscabled =>
    have checks : s.identity n coord pp serial = (s.modPort n fun q => { q with step := 7, state := 3, miscabled := true, partner := none }).writePortEntry n := by
      simp [State.identity, five, alive, steady, valid, wrong]
    obtain ⟨pl, writes, entry⟩ := State.writePortEntry_eq (s.modPort n fun q => { q with step := 7, state := 3, miscabled := true, partner := none }) n
    have port : (s.modPort n fun q => { q with step := 7, state := 3, miscabled := true, partner := none }).port n
        = { s.port n with step := 7, state := 3, miscabled := true, partner := none } := State.port_modPort ..
    refine ⟨_, congrArg Host.Outcome.next (checks.trans writes), congrArg Port.miscabled port, congrArg Port.state port,
      entry.trans (congrArg Port.state port), rfl, sameBytes_of_eq rfl rfl⟩
  case up =>
    obtain ⟨half, width, joins⟩ : ∃ half : Bool, (if half = true then 1 else 0) = (if popCount 14 (s.port n).laneActive.toNat < 12 then 1 else 0)
        ∧ s.identity n coord pp serial = State.degradedIf (State.writePortEntry (s.modPort n fun q => q.joined half (coord, pp, serial)) n) n := by
      refine ⟨decide (popCount 14 (s.port n).laneActive.toNat < 12), by simp, ?_⟩
      simp only [State.identity, five, beq_false_of_ne alive, steady, valid, right, long, bne_self_eq_false, Bool.not_true, Bool.or_self, Bool.false_eq_true, if_false]
      rfl
    have port : (s.modPort n fun q => q.joined half (coord, pp, serial)).port n = (s.port n).joined half (coord, pp, serial) := State.port_modPort ..
    have mem : (s.modPort n fun q => q.joined half (coord, pp, serial)).mem = s.mem := rfl
    have ctxs : (s.modPort n fun q => q.joined half (coord, pp, serial)).ctxs = s.ctxs := rfl
    generalize s.modPort n (fun q => q.joined half (coord, pp, serial)) = t at port mem ctxs joins
    obtain ⟨pl, writes, _⟩ := t.writePortEntry_eq n
    obtain ⟨i, posts⟩ := (t.writePortEntry n).degradedIf_onlyHif n
    rw [posts, writes] at joins
    have port' : State.port { t with plan := pl, hif := i } n = (s.port n).joined half (coord, pp, serial) := port
    refine ⟨_, congrArg Host.Outcome.next joins, ?_⟩
    rw [port']
    refine ⟨?_, rfl, width, ctxs, fun a => congrArg (memRead · a) mem⟩
    cases half <;> rfl
  case down =>
    refine congrArg Host.Outcome.next ?_
    simp [State.retrained, retrains, gone]
  case resumed =>
    obtain ⟨half, port, mem⟩ := State.retrained_leaves credits retrains rfl rfl lanes
    refine ⟨_, rfl, ?_⟩
    rw [port, mem]
    dsimp only [Port.resumed]
    have replays : (s.port n).replayBuf ≠ [] → (if (s.port n).replayBuf.isEmpty = true then none else some 0) = some 0 := fun unacked =>
      if_neg (by simpa using unacked)
    exact ⟨rfl, rfl, rfl, rfl, replays, rfl, rfl, fun a => rfl⟩
  case stands =>
    refine congrArg Host.Outcome.next ?_
    simp [State.routeBuilt, admitted]

end Sys2Proof.Machine

/-! PROOF. The form of memory (O4): one lemma per operation that keeps device memory and host memory in canonical form; a step keeps it because each operation it calls does. -/

namespace Sys2Proof.Machine

-- The form of a state's memories

/-- Device memory and host memory are in canonical form (log entry 5): `State.memoryOk` as a notion that `simp` does not take apart. -/
def State.formed (s : State) : Prop := s.memoryOk

@[simp] theorem State.formed_mk (pending : List Instr) (flash : Flash) (aon : Aon) (sill : Sill) (hif : Hif) (plan : FloorPlan) (planBuilt : Bool) (svc : Option Svc)
    (svcWait : List Retire) (svcOwed : Bool) (pages : List Page) (mem : Memory) (loft : List LoftRun) (sites : Table Site) (yard : YardRegs)
    (migSpent epochEnded : PerHalf Nat) (aug : AugRegs) (streams : List Stream) (fetches : List Fetch) (handles : List Handle) (reqs : List Req)
    (faults : List PFault) (lists : List TList) (bays : Table Bay) (scribe : Scribe) (ctxs : Table Ctx) (ctxRegs : CtxRegs) (links : Links) (fresh : Nat) :
    State.formed ⟨pending, flash, aon, sill, hif, plan, planBuilt, svc, svcWait, svcOwed, pages, mem, loft, sites, yard, migSpent, epochEnded, aug, streams,
      fetches, handles, reqs, faults, lists, bays, scribe, ctxs, ctxRegs, links, fresh⟩ ↔ memWf mem = true ∧ memWf hif.host = true := Iff.rfl

/-- A state that differs in other parts only has its form by the parts. -/
@[simp] theorem State.formed_parts (s : State) : (memWf s.mem = true ∧ memWf s.hif.host = true) ↔ s.formed := Iff.rfl

@[simp] theorem State.formed_memWf {s : State} (h : s.formed) : memWf s.mem = true := h.1

@[simp] theorem State.formed_hostWf {s : State} (h : s.formed) : memWf s.hif.host = true := h.2

@[simp] theorem memWriteN_formed {m : Memory} (a : Nat) (bs : List Byte) (h : memWf m = true) : memWf (memWriteN m a bs) = true := memWriteN_wf bs m a h

/-- Stores, one for each of a list, keep the canonical form if each does. -/
theorem memWf_foldl {α : Type} {f : Memory → α → Memory} (hf : ∀ m a, memWf m = true → memWf (f m a) = true) (l : List α) (m : Memory) (h : memWf m = true) :
    memWf (l.foldl f m) = true := List.foldlRecOn l f h fun m hm a _ => hf m a hm

-- Folds and continuations

@[simp] theorem State.ite_formed (c : Prop) [Decidable c] (a b : State) : (if c then a else b).formed ↔ if c then a.formed else b.formed := by
  split <;> rfl

theorem State.formed_ite {c : Prop} [Decidable c] {a b : State} (ha : a.formed) (hb : b.formed) : (if c then a else b).formed := by
  split <;> assumption

/-- Operations that touch neither memory, done for each of a list. -/
@[simp] theorem State.forAll_formed_iff {α : Type} (l : List α) (f : α → State → State) (s : State) (hf : ∀ a t, (f a t).formed ↔ t.formed) :
    (forAll l f s).formed ↔ s.formed :=
  forAll_rel (R := fun s t => t.formed ↔ s.formed) (fun _ => Iff.rfl) (fun st tu => tu.trans st) hf l s

theorem State.forAll_formed {α : Type} {f : α → State → State} {s : State} (l : List α) (hf : ∀ a t, t.formed → (f a t).formed) (h : s.formed) :
    (forAll l f s).formed := forAll_rel (R := fun s t => s.formed → t.formed) (fun _ => id) (fun st tu => tu ∘ st) (fun a t => hf a t) l s h

theorem State.foldl_formed {α : Type} {f : State → α → State} {s : State} (l : List α) (hf : ∀ a t, t.formed → (f t a).formed) (h : s.formed) :
    (l.foldl f s).formed := State.forAll_formed l hf h

/-- A fold whose steps may fail keeps a property of the state if each step that answers does. -/
theorem foldlM_ok_keeps {ε σ α : Type} {P : σ → Prop} {f : σ → α → Except ε σ} (hf : ∀ t a u, f t a = .ok u → P t → P u) (l : List α) (s u : σ)
    (e : l.foldlM f s = .ok u) (h : P s) : P u := by
  induction l generalizing s with
  | nil => exact Except.ok.inj e ▸ h
  | cons a r ih =>
    obtain ⟨v, hv, hu⟩ := ok_of_bind (x := f s a) (f := fun v => r.foldlM f v) e
    exact ih v hu (hf _ _ _ hv h)

theorem foldlM_some_keeps {σ α : Type} {P : σ → Prop} {f : σ → α → Option σ} (hf : ∀ t a u, f t a = some u → P t → P u) (l : List α) (s u : σ)
    (e : l.foldlM f s = some u) (h : P s) : P u := by
  induction l generalizing s with
  | nil => exact Option.some.inj e ▸ h
  | cons a r ih =>
    obtain ⟨v, hv, hu⟩ := Option.bind_eq_some_iff.1 (show (f s a).bind (fun v => r.foldlM f v) = some u from e)
    exact ih v hu (hf _ _ _ hv h)

-- Operations of Machine/Ops

@[simp] theorem State.setFn_formed (s : State) (n f) : (s.setFn n f).formed ↔ s.formed := Iff.rfl

@[simp] theorem State.setCtx_formed (s : State) (n c) : (s.setCtx n c).formed ↔ s.formed := Iff.rfl

@[simp] theorem State.setBay_formed (s : State) (n b) : (s.setBay n b).formed ↔ s.formed := Iff.rfl

@[simp] theorem State.setSite_formed (s : State) (n x) : (s.setSite n x).formed ↔ s.formed := Iff.rfl

@[simp] theorem State.setPort_formed (s : State) (n p) : (s.setPort n p).formed ↔ s.formed := Iff.rfl

@[simp] theorem State.newId_formed (s : State) : s.newId.2.formed ↔ s.formed := Iff.rfl

@[simp] theorem State.hostPut_formed {s : State} (a bs) (wf : s.formed) : (s.hostPut a bs).1.formed := by
  unfold State.hostPut
  split <;> simp [wf]

@[simp] theorem State.accessErr_formed (s : State) (fn) : (s.accessErr fn).formed ↔ s.formed := Iff.rfl

@[simp] theorem State.writeCpl_formed {s : State} (n) (wf : s.formed) : (s.writeCpl n).formed := by
  unfold State.writeCpl
  dsimp -iota only
  split <;> simp [wf]

@[simp] theorem State.writeCpls_formed {s : State} (n k) (wf : s.formed) : (s.writeCpls n k).formed := by
  induction k generalizing s with
  | zero => exact wf
  | succ k ih => exact ih (State.writeCpl_formed n wf)

@[simp] theorem State.flushCpl_formed {s : State} (n) (wf : s.formed) : (s.flushCpl n).formed := by
  unfold State.flushCpl
  simp [wf]

@[simp] theorem State.writeEvent_formed {s : State} (n) (wf : s.formed) : (s.writeEvent n).formed := by
  unfold State.writeEvent
  dsimp -iota only
  split <;> simp [wf]

@[simp] theorem State.writeEvents_formed {s : State} (n k) (wf : s.formed) : (s.writeEvents n k).formed := by
  induction k generalizing s with
  | zero => exact wf
  | succ k ih => exact ih (State.writeEvent_formed n wf)

@[simp] theorem State.flushEvents_formed {s : State} (n) (wf : s.formed) : (s.flushEvents n).formed := by
  unfold State.flushEvents
  simp [wf]

@[simp] theorem State.eventsLost_formed {s : State} (n) (wf : s.formed) : (s.eventsLost n).formed := by
  unfold State.eventsLost
  simp [wf]

@[simp] theorem State.post_formed {s : State} (n code ctx h payload) (wf : s.formed) : (s.post n code ctx h payload).formed := by
  unfold State.post
  simp [wf]

@[simp] theorem State.postCtx_formed {s : State} (ctx code h payload) (wf : s.formed) : (s.postCtx ctx code h payload).formed :=
  State.post_formed _ _ _ _ _ wf

@[simp] theorem State.postPf0_formed {s : State} (code ctx h payload) (wf : s.formed) : (s.postPf0 code ctx h payload).formed :=
  State.post_formed _ _ _ _ _ wf

@[simp] theorem State.setCmd_formed (s : State) (fn slot c) : (s.setCmd fn slot c).formed ↔ s.formed := Iff.rfl

@[simp] theorem State.complete_formed {s : State} (fn slot status detail r0 r1) (wf : s.formed) : (s.complete fn slot status detail r0 r1).formed := by
  unfold State.complete
  split <;> simp [wf]

@[simp] theorem State.done_formed {s : State} (fn slot status detail) (wf : s.formed) : (s.done fn slot status detail).formed := by
  unfold State.done
  simp [wf]

@[simp] theorem State.tick_formed (s : State) : s.tick.formed ↔ s.formed := by
  unfold State.tick
  simp

-- Operations of Machine/Plan

@[simp] theorem State.sillHigh_formed (s : State) (j) : (s.sillHigh j).formed ↔ s.formed := by
  unfold State.sillHigh
  split <;> simp

@[simp] theorem State.sillLow_formed (s : State) (j) : (s.sillLow j).formed ↔ s.formed := by
  unfold State.sillLow
  split <;> simp

@[simp] theorem State.sillNext_formed (s : State) : s.sillNext.formed ↔ s.formed := Iff.rfl

@[simp] theorem State.modSill_formed (s : State) (f) : (s.modSill f).formed ↔ s.formed := Iff.rfl

@[simp] theorem State.sillDrop_formed (s : State) (f) : (s.sillDrop f).formed ↔ s.formed := Iff.rfl

@[simp] theorem State.sillAgain_formed (s : State) : s.sillAgain.formed ↔ s.formed := by
  unfold State.sillAgain
  split <;> simp

@[simp] theorem State.startService_formed (s : State) (boot) : (s.startService boot).formed ↔ s.formed := by
  unfold State.startService
  simp

@[simp] theorem State.oweService_formed (s : State) : s.oweService.formed ↔ s.formed := by
  unfold State.oweService
  simp

@[simp] theorem State.retireCore_formed (s : State) (core cause) : (s.retireCore core cause).formed ↔ s.formed := by
  unfold State.retireCore
  simp

@[simp] theorem State.setSiteEntry_formed (s : State) (m e) : (s.setSiteEntry m e).formed ↔ s.formed := Iff.rfl

@[simp] theorem State.setPortEntry_formed (s : State) (n e) : (s.setPortEntry n e).formed ↔ s.formed := Iff.rfl

@[simp] theorem State.setPortUp_formed (s : State) (n up) : (s.setPortUp n up).formed ↔ s.formed := Iff.rfl

@[simp] theorem State.setPortHalf_formed (s : State) (n b) : (s.setPortHalf n b).formed ↔ s.formed := Iff.rfl

-- Operations of Machine/Sync

@[simp] theorem State.modCtx_formed (s : State) (n f) : (s.modCtx n f).formed ↔ s.formed := Iff.rfl

@[simp] theorem State.semAdd_formed (s : State) (ctx bay sem n) : (s.semAdd ctx bay sem n).formed ↔ s.formed := Iff.rfl

@[simp] theorem State.semTake_formed (s : State) (ctx bay sem n) : (s.semTake ctx bay sem n).formed ↔ s.formed := Iff.rfl

@[simp] theorem State.pairAdd_formed (s : State) (ctx bay n full k) : (s.pairAdd ctx bay n full k).formed ↔ s.formed := Iff.rfl

@[simp] theorem State.pairTake_formed (s : State) (ctx bay n full) : (s.pairTake ctx bay n full).formed ↔ s.formed := Iff.rfl

@[simp] theorem State.nearMiss_formed (s : State) (ctx) : (s.nearMiss ctx).formed ↔ s.formed := Iff.rfl

@[simp] theorem State.nearMissDev_formed (s : State) : s.nearMissDev.formed ↔ s.formed := Iff.rfl

@[simp] theorem State.strayCount_formed (s : State) (ctx) : (s.strayCount ctx).formed ↔ s.formed := Iff.rfl

@[simp] theorem State.alert_formed (s : State) (code) : (s.alert code).formed ↔ s.formed := by
  unfold State.alert
  simp

-- Operations of Machine/Yard

@[simp] theorem State.modPage_formed (s : State) (id f) : (s.modPage id f).formed ↔ s.formed := Iff.rfl

@[simp] theorem State.recompress_formed (s : State) (id g) : (s.recompress id g).formed ↔ s.formed := by
  unfold State.recompress
  split <;> simp

@[simp] theorem State.packCheck_formed {s : State} (ctx h) (wf : s.formed) : (s.packCheck ctx h).formed := by
  unfold State.packCheck
  simp [wf]

@[simp] theorem State.packChecks_formed {s : State} (ctx) (wf : s.formed) : (s.packChecks ctx).formed := by
  unfold State.packChecks
  simp [wf]

@[simp] theorem State.countLines_formed (s : State) (id n h) : (s.countLines id n h).formed ↔ s.formed := Iff.rfl

@[simp] theorem State.countRange_formed (s : State) (ctx a n h) : (s.countRange ctx a n h).formed ↔ s.formed := by
  unfold State.countRange
  refine State.forAll_formed_iff _ _ _ fun _ _ => ?_
  (repeat' split) <;> simp

@[simp] theorem State.countSpans_formed (s : State) (ctx l h) : (s.countSpans ctx l h).formed ↔ s.formed := by
  unfold State.countSpans
  exact State.forAll_formed_iff _ _ _ fun _ _ => by simp

@[simp] theorem State.writePiece_formed {s : State} (id off bs poison) (wf : s.formed) : (s.writePiece id off bs poison).formed := by
  unfold State.writePiece
  split
  · exact wf
  · extract_lets lost t
    have stored : t.formed := by
      simp only [t, State.ite_formed]
      split
      · exact wf
      · exact ⟨memWf_foldl (fun _ _ => memWriteN_formed _ _) _ _ wf.1, wf.2⟩
    exact stored

@[simp] theorem State.writeBytes_formed {s : State} (ctx a bs poison) (wf : s.formed) : (s.writeBytes ctx a bs poison).formed := by
  unfold State.writeBytes
  refine State.forAll_formed _ (fun _ _ _ => ?_) (by simp [wf])
  (repeat' split) <;> simp [*]

theorem State.commitAll_formed {s t : State} {ctx l counted poison} (e : s.commitAll ctx l counted poison = .ok t) (wf : s.formed) : t.formed := by
  unfold State.commitAll at e
  extract_lets t1 t2 t3 at e
  have written : t2.formed := State.forAll_formed _ (fun _ _ h => by simp [h]) (State.forAll_formed _ (fun _ _ h => by simp [h]) wf)
  have packed : t3.formed := by
    simp only [t3, State.ite_formed]
    split
    · exact State.forAll_formed _ (fun _ _ h => by simp [h]) written
    · exact written
  split at e
  · cases e
  · split at e
    · cases e
    · obtain rfl := Except.ok.inj e
      simp [packed]

theorem State.commit_formed {s t : State} {ctx a bs counted poison h} (e : s.commit ctx a bs counted poison h = .ok t) (wf : s.formed) : t.formed :=
  State.commitAll_formed e (by simp [wf])

theorem State.tryWrite_formed {s t : State} {ctx a bs counted poison h r} (e : s.tryWrite ctx a bs counted poison h r = .ok t) (wf : s.formed) :
    t.formed := by
  unfold State.tryWrite at e
  split at e
  · cases e
  · exact State.commit_formed e wf

@[simp] theorem State.postFault_formed (s : State) (ctx addr write cause who h) : (s.postFault ctx addr write cause who h).2.formed ↔ s.formed := Iff.rfl

@[simp] theorem State.dropFault_formed (s : State) (id) : (s.dropFault id).formed ↔ s.formed := Iff.rfl

@[simp] theorem State.faultEvent_formed {s : State} (fn ctx h cause source tag addr coord) (wf : s.formed) :
    (s.faultEvent fn ctx h cause source tag addr coord).formed := State.post_formed _ _ _ _ _ wf

@[simp] theorem State.countResolved_formed (s : State) : s.countResolved.formed ↔ s.formed := Iff.rfl

@[simp] theorem State.countUnresolved_formed (s : State) : s.countUnresolved.formed ↔ s.formed := Iff.rfl

@[simp] theorem State.logUe_formed (s : State) (site frame g kind) : (s.logUe site frame g kind).formed ↔ s.formed := Iff.rfl

@[simp] theorem State.poisonLine_formed (s : State) (id line) : (s.poisonLine id line).formed ↔ s.formed := Iff.rfl

-- Operations of Machine/Auger

@[simp] theorem State.setStream_formed (s : State) (y) : (s.setStream y).formed ↔ s.formed := Iff.rfl

@[simp] theorem State.delStream_formed (s : State) (bay slot) : (s.delStream bay slot).formed ↔ s.formed := Iff.rfl

@[simp] theorem State.setFetch_formed (s : State) (g) : (s.setFetch g).formed ↔ s.formed := Iff.rfl

@[simp] theorem State.putStream_formed {s : State} (x) (wf : s.formed) : (s.putStream x).formed := by
  unfold State.putStream
  extract_lets t
  have set : t.formed := wf
  split
  · exact set
  · split
    next u hu => exact State.tryWrite_formed hu set
    next => exact set

@[simp] theorem State.issue_formed {s : State} (owner ctx bay half buf block write again lines) (wf : s.formed) : (s.issue owner ctx bay half buf block write again lines).formed := by
  unfold State.issue
  refine State.forAll_formed _ (fun _ _ _ => ?_) (by simp [wf])
  (repeat' split) <;> simp [*]

@[simp] theorem State.issueEngine_formed {s : State} (owner ctx half write a n) (wf : s.formed) : (s.issueEngine owner ctx half write a n).formed := by
  unfold State.issueEngine
  simp [wf]

@[simp] theorem State.dropOwner_formed (s : State) (x) : (s.dropOwner x).formed ↔ s.formed := Iff.rfl

@[simp] theorem State.dropEngines_formed (s : State) (ctx) : (s.dropEngines ctx).formed ↔ s.formed := Iff.rfl

@[simp] theorem State.startRefetch_formed {s : State} (x i b vas) (wf : s.formed) : (s.startRefetch x i b vas).formed := by
  unfold State.startRefetch
  extract_lets blks u c
  have held : u.formed := by
    simp only [u, State.ite_formed]
    split
    · exact State.forAll_formed _ (fun _ _ h => by split <;> simp [h]) wf
    · exact wf
  exact held

@[simp] theorem State.endHold_formed (s : State) (x) : (s.endHold x).formed ↔ s.formed := Iff.rfl

@[simp] theorem State.sweepPages_formed {s : State} (wf : s.formed) : s.sweepPages.formed :=
  ⟨memWf_foldl (fun _ _ => memZero_wf _ _ _) _ _ wf.1, wf.2⟩

@[simp] theorem State.wakeWaiters_formed {s : State} (l) (wf : s.formed) : (s.wakeWaiters l).formed :=
  State.forAll_formed _ (fun _ _ h => by simp [h]) wf

@[simp] theorem State.freeStream_formed (s : State) (x) : (s.freeStream x).formed ↔ s.formed := Iff.rfl

@[simp] theorem State.releaseStream_formed {s : State} (x) (wf : s.formed) : (s.releaseStream x).formed := by
  unfold State.releaseStream
  dsimp -iota only
  split <;> simp [wf]

@[simp] theorem State.rearmed_formed {s : State} (x) (wf : s.formed) : (s.rearmed x).formed := by
  unfold State.rearmed
  simp [wf]

@[simp] theorem State.passEnd_formed {s : State} (x) (wf : s.formed) : (s.passEnd x).formed := by
  unfold State.passEnd
  simp [wf]

@[simp] theorem State.ringBack_formed (s : State) (x delivered freed) : (s.ringBack x delivered freed).formed ↔ s.formed := by
  unfold State.ringBack
  simp

@[simp] theorem State.dropReqs_formed (s : State) (x gone) : (s.dropReqs x gone).formed ↔ s.formed := Iff.rfl

@[simp] theorem State.faultStream_formed {s : State} (x code cause addr watermark) (wf : s.formed) : (s.faultStream x code cause addr watermark).formed := by
  unfold State.faultStream
  simp [wf]

@[simp] theorem State.finishCancel_formed {s : State} (x) (wf : s.formed) : (s.finishCancel x).formed := by
  unfold State.finishCancel
  simp [wf]

@[simp] theorem State.cancelStream_formed {s : State} (x) (wf : s.formed) : (s.cancelStream x).formed := by
  unfold State.cancelStream
  simp [wf]

@[simp] theorem State.deliverOne_formed (s : State) (bay slot) : (s.deliverOne bay slot).formed ↔ s.formed := by
  unfold State.deliverOne
  (repeat' split) <;> simp

@[simp] theorem State.deliver_formed {s : State} (bay slot k) (wf : s.formed) : (s.deliver bay slot k).formed := by
  induction k generalizing s with
  | zero => exact wf
  | succ k ih => exact ih (by simp [wf])

@[simp] theorem State.checkPassEnd_formed {s : State} (bay slot) (wf : s.formed) : (s.checkPassEnd bay slot).formed := by
  unfold State.checkPassEnd
  split <;> simp [wf]

@[simp] theorem State.checkStop_formed {s : State} (bay slot) (wf : s.formed) : (s.checkStop bay slot).formed := by
  unfold State.checkStop
  (repeat' split) <;> simp [wf]

@[simp] theorem State.checkRefetch_formed {s : State} (bay slot) (wf : s.formed) : (s.checkRefetch bay slot).formed := by
  unfold State.checkRefetch
  (repeat' split) <;> simp [wf]

@[simp] theorem State.loseRing_formed (s : State) (x) : (s.loseRing x).1.formed ↔ s.formed := by
  unfold State.loseRing
  (repeat' split) <;> simp

@[simp] theorem State.failRefetch_formed {s : State} (x st) (wf : s.formed) : (s.failRefetch x st).formed := by
  unfold State.failRefetch
  dsimp -iota only
  split <;> simp [wf]

@[simp] theorem State.checkReStop_formed {s : State} (bay slot) (wf : s.formed) : (s.checkReStop bay slot).formed := by
  unfold State.checkReStop
  (repeat' split) <;> simp [wf]

@[simp] theorem State.settleStream_formed {s : State} (bay slot) (wf : s.formed) : (s.settleStream bay slot).formed := by
  unfold State.settleStream
  split
  · exact wf
  · split
    · split <;> simp [wf]
    · exact State.checkPassEnd_formed _ _ (State.checkStop_formed _ _ (State.checkReStop_formed _ _ (State.checkRefetch_formed _ _
        (State.deliver_formed _ _ _ wf))))

@[simp] theorem State.settleFetch_formed (s : State) (id) : (s.settleFetch id).formed ↔ s.formed := by
  unfold State.settleFetch
  (repeat' split) <;> simp

@[simp] theorem State.dropFetch_formed (s : State) (id) : (s.dropFetch id).formed ↔ s.formed := Iff.rfl

@[simp] theorem State.cancelFetch_formed (s : State) (id) : (s.cancelFetch id).formed ↔ s.formed := Iff.rfl

@[simp] theorem State.settle_formed {s : State} (x) (wf : s.formed) : (s.settle x).formed := by
  unfold State.settle
  split <;> simp [wf]

@[simp] theorem State.popHandle_formed (s : State) (h) : (s.popHandle h).formed ↔ s.formed := Iff.rfl

@[simp] theorem State.returnBuf_formed {s : State} (bay slot buf) (wf : s.formed) : (s.returnBuf bay slot buf).formed := by
  unfold State.returnBuf
  split <;> simp [wf]

@[simp] theorem State.laneSpared_formed {s : State} (site sub lane outcome) (wf : s.formed) : (s.laneSpared site sub lane outcome).formed := by
  unfold State.laneSpared
  simp [wf]

@[simp] theorem State.spareTrigger_formed {s : State} (site sub lane) (wf : s.formed) : (s.spareTrigger site sub lane).formed := by
  unfold State.spareTrigger
  simp [wf]

@[simp] theorem State.spareTriggers_formed {s : State} (site sub) (wf : s.formed) : (s.spareTriggers site sub).formed :=
  State.forAll_formed _ (fun _ _ h => by simp [h]) wf

@[simp] theorem State.rollSpare_formed (s : State) (site) : (s.rollSpare site).formed ↔ s.formed := by
  unfold State.rollSpare
  simp

@[simp] theorem State.laneCorrected_formed {s : State} (site sub lane) (wf : s.formed) : (s.laneCorrected site sub lane).formed := by
  unfold State.laneCorrected
  simp [wf]

@[simp] theorem State.lineCorrected_formed {s : State} (site sub lane) (wf : s.formed) : (s.lineCorrected site sub lane).formed := by
  unfold State.lineCorrected
  split <;> simp [wf]

-- Operations of Machine/Streams

@[simp] theorem State.startPass_formed {s : State} (bay slot) (wf : s.formed) : (s.startPass bay slot).formed := by
  unfold State.startPass
  split <;> simp [wf]

@[simp] theorem State.stopStream_formed {s : State} (x st) (wf : s.formed) : (s.stopStream x st).formed := by
  unfold State.stopStream
  simp [wf]

@[simp] theorem State.stopRefetch_formed {s : State} (x st) (wf : s.formed) : (s.stopRefetch x st).formed := by
  unfold State.stopRefetch
  simp [wf]

@[simp] theorem State.issueBlock_formed {s : State} (x i b k base e again) (wf : s.formed) : (s.issueBlock x i b k base e again).formed := by
  unfold State.issueBlock
  simp [wf]

@[simp] theorem State.nextBlock_formed {s : State} (x i b) (wf : s.formed) : (s.nextBlock x i b).formed := by
  unfold State.nextBlock
  dsimp -iota only
  (repeat' split) <;> simp [wf]

theorem State.blockAgain_formed {s : State} (x i b) {f} (hf : ∀ t y st, t.formed → (f t y st).formed) (wf : s.formed) : (s.blockAgain x i b f).formed := by
  unfold State.blockAgain
  extract_lets
  (repeat' split) <;> simp [wf, hf]

@[simp] theorem State.translateStream_formed {s : State} (bay slot) (wf : s.formed) : (s.translateStream bay slot).formed := by
  unfold State.translateStream
  have refetch : ∀ x i b, (s.blockAgain x i b State.stopRefetch).formed := fun _ _ _ =>
    State.blockAgain_formed _ _ _ (fun _ _ _ h => State.stopRefetch_formed _ _ h) wf
  have again : ∀ x i b, (s.blockAgain x i b State.stopStream).formed := fun _ _ _ =>
    State.blockAgain_formed _ _ _ (fun _ _ _ h => State.stopStream_formed _ _ h) wf
  (repeat' split) <;> simp [wf, refetch, again]

@[simp] theorem State.translateFetch_formed {s : State} (id) (wf : s.formed) : (s.translateFetch id).formed := by
  unfold State.translateFetch
  dsimp -iota only
  (repeat' split) <;> simp [wf]

@[simp] theorem State.setReq_formed (s : State) (id st) : (s.setReq id st).formed ↔ s.formed := Iff.rfl

@[simp] theorem State.grantReq_formed (s : State) (id) : (s.grantReq id).formed ↔ s.formed := Iff.rfl

@[simp] theorem State.grantBay_formed {s : State} (site bay l) (wf : s.formed) : (s.grantBay site bay l).1.formed := by
  induction l generalizing s with
  | nil => exact wf
  | cons r rest ih =>
    simp only [State.grantBay]
    split
    · exact wf
    · split
      · exact ih wf
      · split
        · simp [wf]
        · exact ih wf

@[simp] theorem State.grantBays_formed {s : State} (site l) (wf : s.formed) : (s.grantBays site l).formed := by
  induction l generalizing s with
  | nil => exact wf
  | cons b rest ih =>
    have granted := State.grantBay_formed site b (s.inTurn site b) wf
    simp only [State.grantBays]
    split
    · exact granted
    · exact ih granted

@[simp] theorem State.slotGrant_formed {s : State} (site) (wf : s.formed) : (s.slotGrant site).formed := by
  unfold State.slotGrant
  split <;> simp [wf]

@[simp] theorem State.passSlot_formed (s : State) (r) : (s.passSlot r).formed ↔ s.formed := by
  unfold State.passSlot
  split <;> simp

@[simp] theorem State.leaveReqs_formed {s : State} (r ids) (wf : s.formed) : (s.leaveReqs r ids).formed := by
  unfold State.leaveReqs
  dsimp -iota only
  (repeat' split) <;> simp [wf]

@[simp] theorem State.endReq_formed {s : State} (r) (wf : s.formed) : (s.endReq r).formed := by
  unfold State.endReq
  simp [wf]

@[simp] theorem State.fillRaw_formed (s : State) (r) : (s.fillRaw r).formed ↔ s.formed := by
  unfold State.fillRaw
  (repeat' split) <;> simp

@[simp] theorem State.stopReq_formed {s : State} (r addr cause op) (wf : s.formed) : (s.stopReq r addr cause op).formed := by
  unfold State.stopReq
  (repeat' split) <;> simp [wf]

@[simp] theorem State.clearLine_formed (s : State) (id line) : (s.clearLine id line).formed ↔ s.formed := Iff.rfl

@[simp] theorem State.storeReq_formed {s : State} (q) (wf : s.formed) : (s.storeReq q).formed :=
  State.forAll_formed _ (fun _ _ h => State.writePiece_formed _ _ _ _ h) (by split <;> simp [wf])

@[simp] theorem State.refuseBlock_formed {s : State} (r) (wf : s.formed) : (s.refuseBlock r).formed := by
  unfold State.refuseBlock
  (repeat' split) <;> simp [wf]

@[simp] theorem State.commitBlock_formed {s : State} (r l) (wf : s.formed) : (s.commitBlock r l).formed := by
  unfold State.commitBlock
  extract_lets ids t u
  have stored : t.formed := State.forAll_formed _ (fun _ _ h => State.storeReq_formed _ h) wf
  have packed : u.formed := State.forAll_formed _ (fun _ _ h => by simp [h]) stored
  split
  · exact State.stopReq_formed _ _ _ _ (State.leaveReqs_formed _ _ wf)
  · split
    · exact State.refuseBlock_formed _ (State.leaveReqs_formed _ _ wf)
    · exact State.settle_formed _ (State.leaveReqs_formed _ _ (State.packChecks_formed _ packed))

@[simp] theorem State.accept_formed {s : State} (r) (wf : s.formed) : (s.accept r).formed := by
  unfold State.accept
  simp [wf]

@[simp] theorem State.serve_formed {s : State} (r) (wf : s.formed) : (s.serve r).formed := by
  unfold State.serve
  simp [wf]

@[simp] theorem State.dropBlock_formed (s : State) (r) : (s.dropBlock r).formed ↔ s.formed := Iff.rfl

@[simp] theorem State.servePoisoned_formed {s : State} (r cause) (wf : s.formed) : (s.servePoisoned r cause).formed := by
  unfold State.servePoisoned
  simp [wf]

@[simp] theorem State.lineLost_formed {s : State} (p r) (wf : s.formed) : (s.lineLost p r).formed := by
  unfold State.lineLost
  simp [wf]

@[simp] theorem State.completeReq_formed {s : State} (id o) (wf : s.formed) : (s.completeReq id o).formed := by
  unfold State.completeReq
  (repeat' split) <;> simp [wf]

@[simp] theorem State.retryDone_formed {s : State} (id o) (wf : s.formed) : (s.retryDone id o).formed := by
  unfold State.retryDone
  (repeat' split) <;> simp [wf]

@[simp] theorem State.augerTake_formed (s : State) (bay slot) : (s.augerTake bay slot).formed ↔ s.formed := by
  unfold State.augerTake
  split <;> simp

@[simp] theorem State.planeGets_formed (s : State) (ctx bay pair bs) : (s.planeGets ctx bay pair bs).formed ↔ s.formed := Iff.rfl

@[simp] theorem State.agentTake_formed {s : State} (agent bay slot fill) (wf : s.formed) : (s.agentTake agent bay slot fill).formed := by
  unfold State.agentTake
  dsimp -iota only
  (repeat' split) <;> simp [wf]

@[simp] theorem State.spareSwitched_formed {s : State} (site sub) (wf : s.formed) : (s.spareSwitched site sub).formed := by
  unfold State.spareSwitched
  split <;> simp [wf]

@[simp] theorem State.spareWindow_formed (s : State) (site) : (s.spareWindow site).formed ↔ s.formed := by
  unfold State.spareWindow
  simp

@[simp] theorem State.patrolLost_formed (s : State) (site line) : (s.patrolLost site line).formed ↔ s.formed := by
  unfold State.patrolLost
  dsimp -iota only
  split <;> simp

@[simp] theorem State.patrol_formed {s : State} (site o retry) (wf : s.formed) : (s.patrol site o retry).formed := by
  unfold State.patrol
  dsimp -iota only
  (repeat' split) <;> simp [wf]

@[simp] theorem State.loftPatrol_formed (s : State) (bay singleBit) : (s.loftPatrol bay singleBit).formed ↔ s.formed := by
  unfold State.loftPatrol
  simp

@[simp] theorem State.loftStream_formed {s : State} (x i f) (wf : s.formed) : (s.loftStream x i f).formed := by
  unfold State.loftStream
  simp [wf]

@[simp] theorem State.loftBad_formed {s : State} (target) (wf : s.formed) : (s.loftBad target).formed := by
  unfold State.loftBad
  (repeat' split) <;> simp [wf]

@[simp] theorem State.startMig_formed (s : State) (h p) : (s.startMig h p).formed ↔ s.formed := by
  unfold State.startMig
  (repeat' split) <;> simp

@[simp] theorem State.epochEnd_formed {s : State} (h) (wf : s.formed) : (s.epochEnd h).formed := by
  unfold State.epochEnd
  simp [wf]

theorem State.migStep_formed {s : State} (p m) {f} (hf : ∀ a b, (f a b).formed) (wf : s.formed) : (s.migStep p m f).formed := by
  unfold State.migStep
  (repeat' split) <;> simp [wf, hf]

@[simp] theorem State.setMig_formed (s : State) (page m) : (s.setMig page m).formed ↔ s.formed := Iff.rfl

@[simp] theorem State.cutover_formed {s : State} (page) (wf : s.formed) : (s.cutover page).formed :=
  State.migStep_formed _ _ (fun _ _ => State.sweepPages_formed wf) wf

-- Operations of Machine/Power

@[simp] theorem State.modAon_formed (s : State) (f) : (s.modAon f).formed ↔ s.formed := Iff.rfl

@[simp] theorem State.modPower_formed (s : State) (f) : (s.modPower f).formed ↔ s.formed := Iff.rfl

@[simp] theorem State.modThermal_formed (s : State) (f) : (s.modThermal f).formed ↔ s.formed := Iff.rfl

@[simp] theorem State.modBoot_formed (s : State) (f) : (s.modBoot f).formed ↔ s.formed := Iff.rfl

@[simp] theorem State.postPower_formed {s : State} (cause rail) (wf : s.formed) : (s.postPower cause rail).formed := by
  unfold State.postPower
  simp [wf]

@[simp] theorem State.postThermal_formed {s : State} (cause sensor t) (wf : s.formed) : (s.postThermal cause sensor t).formed := by
  unfold State.postThermal
  simp [wf]

@[simp] theorem State.limitReached_formed {s : State} (wf : s.formed) : s.limitReached.formed := by
  unfold State.limitReached
  extract_lets p
  split
  · exact wf
  · exact State.forAll_formed _ (fun _ _ h => State.complete_formed _ _ _ _ _ _ h) wf

@[simp] theorem State.throttle_formed (s : State) : s.throttle.formed ↔ s.formed := by
  unfold State.throttle
  dsimp -iota only
  (repeat' split) <;> simp

@[simp] theorem State.throttleEvent_formed {s : State} (before) (wf : s.formed) : (s.throttleEvent before).formed := by
  unfold State.throttleEvent
  simp [wf]

@[simp] theorem State.evaluate_formed {s : State} (moduleW uncoreW temps) (wf : s.formed) : (s.evaluate moduleW uncoreW temps).formed := by
  unfold State.evaluate
  extract_lets a b p back c d
  have throttled : b.formed := (State.throttle_formed a).2 wf
  have changed : c.formed := by
    simp only [c, State.ite_formed]
    split <;> exact throttled
  have lowered : d.formed := by
    simp only [d, State.ite_formed]
    split <;> simp [changed]
  exact State.limitReached_formed (State.throttleEvent_formed _ lowered)

@[simp] theorem State.settled_formed {s : State} (wf : s.formed) : s.settled.formed := by
  unfold State.settled
  split <;> simp [wf]

@[simp] theorem State.setRail_formed (s : State) (n x) : (s.setRail n x).formed ↔ s.formed := Iff.rfl

@[simp] theorem State.nextRails_formed {s : State} (l) (wf : s.formed) : (s.nextRails l).1.formed := by
  induction l with
  | nil => exact wf
  | cons g rest ih =>
    simp only [State.nextRails]
    split
    · exact ih
    · exact State.forAll_formed _ (fun _ _ h => by split <;> simp [h]) wf

@[simp] theorem State.railsDown_formed (s : State) : s.railsDown.formed ↔ s.formed := by
  unfold State.railsDown
  split <;> simp

@[simp] theorem State.loseAll_formed {s : State} (wf : s.formed) : s.loseAll.formed := ⟨rfl, wf.2⟩

@[simp] theorem State.railsOff_formed {s : State} (wf : s.formed) : s.railsOff.formed := by
  unfold State.railsOff
  simp [wf]

@[simp] theorem State.moduleFault_formed {s : State} (cause rail) (wf : s.formed) : (s.moduleFault cause rail).formed := by
  unfold State.moduleFault
  simp [wf]

@[simp] theorem State.postTrip_formed {s : State} (wf : s.formed) : s.postTrip.formed := by
  unfold State.postTrip
  split <;> simp [wf]

@[simp] theorem State.trip_formed {s : State} (sensor t) (wf : s.formed) : (s.trip sensor t).formed := by
  unfold State.trip
  simp [wf]

@[simp] theorem State.conflict_formed {s : State} (h claim seen) (wf : s.formed) : (s.conflict h claim seen).formed := by
  unfold State.conflict
  simp [wf]

@[simp] theorem State.checkClaim_formed {s : State} (h c seen) (wf : s.formed) : (s.checkClaim h c seen).formed := by
  unfold State.checkClaim
  simp [wf]

@[simp] theorem State.ungate_formed (s : State) (bay) : (s.ungate bay).formed ↔ s.formed := by
  unfold State.ungate
  simp

@[simp] theorem State.gate_formed (s : State) (bay) : (s.gate bay).formed ↔ s.formed := by
  unfold State.gate
  dsimp -iota only
  split <;> simp

@[simp] theorem State.idleTick_formed (s : State) (bay) : (s.idleTick bay).formed ↔ s.formed := by
  unfold State.idleTick
  simp

@[simp] theorem State.idle_formed (s : State) : s.idle.formed ↔ s.formed := by
  unfold State.idle
  simp

-- Operations of Machine/Boot

@[simp] theorem State.commitImage_formed (s : State) : s.commitImage.formed ↔ s.formed := by
  unfold State.commitImage
  simp

@[simp] theorem State.setStage_formed (s : State) (n) : (s.setStage n).formed ↔ s.formed := Iff.rfl

@[simp] theorem State.recover_formed (s : State) (fail) : (s.recover fail).formed ↔ s.formed := Iff.rfl

@[simp] theorem State.makeReady_formed (s : State) : s.makeReady.formed ↔ s.formed := by
  unfold State.makeReady
  simp

@[simp] theorem State.finishBoot_formed (s : State) : s.finishBoot.formed ↔ s.formed := by
  unfold State.finishBoot
  simp

@[simp] theorem State.resumeBoot_formed (s : State) : s.resumeBoot.formed ↔ s.formed := by
  unfold State.resumeBoot
  simp

@[simp] theorem State.bootCores_formed (s : State) : s.bootCores.formed ↔ s.formed := by
  unfold State.bootCores
  simp

@[simp] theorem State.bootLinks_formed (s : State) : s.bootLinks.formed ↔ s.formed := by
  unfold State.bootLinks
  simp

@[simp] theorem State.bootYard_formed (s : State) : s.bootYard.formed ↔ s.formed := by
  unfold State.bootYard
  simp

@[simp] theorem State.belowGuarantee_formed (s : State) : s.belowGuarantee.formed ↔ s.formed := by
  unfold State.belowGuarantee
  simp

@[simp] theorem State.railsGood_formed (s : State) : s.railsGood.formed ↔ s.formed := Iff.rfl

@[simp] theorem State.startRails_formed {s : State} (wf : s.formed) : s.startRails.formed := by
  unfold State.startRails
  simp [wf]

@[simp] theorem State.powerOn_formed {s : State} (mode addr) (wf : s.formed) : (s.powerOn mode addr).formed := by
  unfold State.powerOn
  simp [wf]

@[simp] theorem State.powerOff_formed {s : State} (wf : s.formed) : s.powerOff.formed := by
  unfold State.powerOff
  simp [wf]

@[simp] theorem State.railGood_formed {s : State} (n) (wf : s.formed) : (s.railGood n).formed := by
  unfold State.railGood
  simp [wf]

@[simp] theorem State.railLate_formed {s : State} (n answers) (wf : s.formed) : (s.railLate n answers).formed := by
  unfold State.railLate
  simp [wf]

@[simp] theorem State.railDown_formed (s : State) (n) : (s.railDown n).formed ↔ s.formed := by
  unfold State.railDown
  dsimp -iota only
  (repeat' split) <;> simp

@[simp] theorem State.sillBoot_formed (s : State) (failing) : (s.sillBoot failing).formed ↔ s.formed := by
  unfold State.sillBoot
  dsimp -iota only
  (repeat' split) <;> simp

@[simp] theorem State.halfTested_formed (s : State) (h passed) : (s.halfTested h passed).formed ↔ s.formed := by
  unfold State.halfTested
  simp

@[simp] theorem State.firstClaim_formed {s : State} (h c seen) (wf : s.formed) : (s.firstClaim h c seen).formed := by
  unfold State.firstClaim
  simp [wf]

@[simp] theorem State.grant_formed {s : State} (c0 c1 seen0 seen1) (wf : s.formed) : (s.grant c0 c1 seen0 seen1).formed := by
  unfold State.grant
  simp [wf]

@[simp] theorem State.planBuild_formed (s : State) : s.planBuild.formed ↔ s.formed := by
  unfold State.planBuild
  simp

@[simp] theorem State.siteFails_formed (s : State) (m) : (s.siteFails m).formed ↔ s.formed := by
  unfold State.siteFails
  simp

@[simp] theorem State.siteInit_formed (s : State) (m listed) : (s.siteInit m listed).formed ↔ s.formed := by
  unfold State.siteInit
  simp

@[simp] theorem State.siteRound_formed {s : State} (m failed) (wf : s.formed) : (s.siteRound m failed).formed := by
  unfold State.siteRound
  extract_lets x
  split
  · exact wf
  · split
    · exact wf
    · extract_lets f
      split
      · split <;> simp [wf]
      · exact (State.bootYard_formed _).2 (State.forAll_formed _ (fun _ _ h => State.postPf0_formed _ _ _ _ h) wf)

@[simp] theorem State.wave_formed (s : State) : s.wave.formed ↔ s.formed := by
  unfold State.wave
  simp

@[simp] theorem State.broadcast_formed (s : State) (h missing) : (s.broadcast h missing).formed ↔ s.formed := by
  unfold State.broadcast
  simp

@[simp] theorem State.repair_formed (s : State) (h missing) : (s.repair h missing).formed ↔ s.formed := by
  unfold State.repair
  simp

@[simp] theorem State.coreTested_formed (s : State) (core passed) : (s.coreTested core passed).formed ↔ s.formed := by
  unfold State.coreTested
  simp

@[simp] theorem State.planSigned_formed (s : State) : s.planSigned.formed ↔ s.formed := by
  unfold State.planSigned
  split <;> simp

@[simp] theorem State.planFlashed_formed {s : State} (wf : s.formed) : s.planFlashed.formed := by
  unfold State.planFlashed
  split <;> simp [wf]

-- Operations of Machine/Manage

@[simp] theorem State.modJoiner_formed (s : State) (h f) : (s.modJoiner h f).formed ↔ s.formed := Iff.rfl

@[simp] theorem State.heartbeat_formed {s : State} (h c seen) (wf : s.formed) : (s.heartbeat h c seen).formed := by
  unfold State.heartbeat
  simp [wf]

@[simp] theorem State.abortHeld_formed {s : State} (h) (wf : s.formed) : (s.abortHeld h).formed := by
  unfold State.abortHeld
  split
  · exact wf
  · exact State.forAll_formed _ (fun _ _ hx => State.forAll_formed _ (fun _ _ hy => State.done_formed _ _ _ _ hy) hx) wf

@[simp] theorem State.leaveStopped_formed {s : State} (h) (wf : s.formed) : (s.leaveStopped h).formed := by
  unfold State.leaveStopped
  simp [wf]

@[simp] theorem State.heartbeatLate_formed {s : State} (h) (wf : s.formed) : (s.heartbeatLate h).formed := by
  unfold State.heartbeatLate
  simp [wf]

@[simp] theorem State.restarted_formed {s : State} (h) (wf : s.formed) : (s.restarted h).formed := by
  unfold State.restarted
  dsimp -iota only
  (repeat' split) <;> simp [wf]

@[simp] theorem State.healthFail_formed (s : State) : s.healthFail.formed ↔ s.formed := by
  unfold State.healthFail
  simp

@[simp] theorem State.poll_formed {s : State} (r) (wf : s.formed) : (s.poll r).formed := by
  unfold State.poll
  dsimp -iota only
  (repeat' split) <;> simp [wf]

@[simp] theorem State.protect_formed {s : State} (cause rail) (wf : s.formed) : (s.protect_ cause rail).formed := by
  unfold State.protect_
  simp [wf]

@[simp] theorem State.tripShutdown_formed {s : State} (wf : s.formed) : s.tripShutdown.formed := by
  unfold State.tripShutdown
  split <;> simp [wf]

@[simp] theorem State.sbSet_formed (s : State) (v) : (s.sbSet v).formed ↔ s.formed := Iff.rfl

@[simp] theorem State.boardMax_formed {s : State} (v) (wf : s.formed) : (s.boardMax v).formed := by
  unfold State.boardMax
  dsimp -iota only
  (repeat' split) <;> simp [wf]

@[simp] theorem State.sbClear_formed (s : State) (v) : (s.sbClear v).formed ↔ s.formed := by
  unfold State.sbClear
  simp

@[simp] theorem State.modLinks_formed (s : State) (f) : (s.modLinks f).formed ↔ s.formed := Iff.rfl

@[simp] theorem State.flit_formed (s : State) (to_ bs) : (s.flit to_ bs).formed ↔ s.formed := by
  unfold State.flit
  simp

@[simp] theorem State.bridgeDone_formed (s : State) : s.bridgeDone.formed ↔ s.formed := by
  unfold State.bridgeDone
  split <;> simp

@[simp] theorem State.bridgeLate_formed {s : State} (wf : s.formed) : s.bridgeLate.formed := by
  unfold State.bridgeLate
  split <;> simp [wf]

@[simp] theorem State.meterEnd_formed {s : State} (h) (wf : s.formed) : (s.meterEnd h).formed := by
  unfold State.meterEnd
  split
  · exact wf
  · refine State.forAll_formed _ (fun n x hx => ?_) wf
    dsimp only
    split <;> simp [hx]

-- Operations of Machine/Links

@[simp] theorem State.modPort_formed (s : State) (n f) : (s.modPort n f).formed ↔ s.formed := Iff.rfl

@[simp] theorem State.discard_formed (s : State) (n) : (s.discard n).formed ↔ s.formed := Iff.rfl

@[simp] theorem State.writePortEntry_formed (s : State) (n) : (s.writePortEntry n).formed ↔ s.formed := Iff.rfl

@[simp] theorem State.linkDegraded_formed {s : State} (n outcome lost) (wf : s.formed) : (s.linkDegraded n outcome lost).formed := by
  unfold State.linkDegraded
  simp [wf]

@[simp] theorem State.degradedIf_formed {s : State} (n) (wf : s.formed) : (s.degradedIf n).formed := by
  unfold State.degradedIf
  simp [wf]

@[simp] theorem State.laneReset_formed (s : State) (n signal) : (s.laneReset n signal).formed ↔ s.formed := by
  unfold State.laneReset
  simp

@[simp] theorem State.masksExchanged_formed {s : State} (n partner) (wf : s.formed) : (s.masksExchanged n partner).formed := by
  unfold State.masksExchanged
  simp [wf]

@[simp] theorem State.enqueue_formed (s : State) (n p) : (s.enqueue n p).formed ↔ s.formed := Iff.rfl

@[simp] theorem State.sayIdentity_formed (s : State) (n) : (s.sayIdentity n).formed ↔ s.formed := by
  unfold State.sayIdentity
  simp

@[simp] theorem State.locked_formed (s : State) (n credits) : (s.locked n credits).formed ↔ s.formed := by
  unfold State.locked
  simp

@[simp] theorem State.identity_formed {s : State} (n coord partnerPort serial) (wf : s.formed) : (s.identity n coord partnerPort serial).formed := by
  unfold State.identity
  simp [wf]

@[simp] theorem State.freeCredits_formed (s : State) (p) : (s.freeCredits p).formed ↔ s.formed := by
  unfold State.freeCredits
  split <;> simp

@[simp] theorem State.sendFirm_formed (s : State) (vc dctx dest ptag kind args) : (s.sendFirm vc dctx dest ptag kind args).formed ↔ s.formed := by
  unfold State.sendFirm
  split <;> simp

@[simp] theorem State.deliverHere_formed (s : State) (n p) : (s.deliverHere n p).formed ↔ s.formed := by
  unfold State.deliverHere
  simp

@[simp] theorem State.forward_formed (s : State) (p from_) : (s.forward p from_).1.formed ↔ s.formed := by
  unfold State.forward
  (repeat' split) <;> simp

@[simp] theorem State.send_formed (s : State) (vc kind dctx dest target ptag payload) : (s.send vc kind dctx dest target ptag payload).1.formed ↔ s.formed := by
  unfold State.send
  split <;> simp

@[simp] theorem State.packetStart_formed (s : State) (n) : (s.packetStart n).formed ↔ s.formed := by
  unfold State.packetStart
  (repeat' split) <;> simp

@[simp] theorem State.framePeriod_formed (s : State) (n) : (s.framePeriod n).formed ↔ s.formed := by
  unfold State.framePeriod
  extract_lets p
  split
  · exact Iff.rfl
  · exact State.setPort_formed { s with fresh := s.fresh + 1 } _ _

@[simp] theorem State.retrain_formed (s : State) (n) : (s.retrain n).formed ↔ s.formed := by
  unfold State.retrain
  simp

@[simp] theorem State.replay_formed (s : State) (n) : (s.replay n).formed ↔ s.formed := by
  unfold State.replay
  simp

@[simp] theorem State.replayLate_formed (s : State) (n) : (s.replayLate n).formed ↔ s.formed := by
  unfold State.replayLate
  simp

@[simp] theorem State.ackFrames_formed (s : State) (n ack) : (s.ackFrames n ack).formed ↔ s.formed := by
  unfold State.ackFrames
  split <;> simp

@[simp] theorem State.addCredits_formed (s : State) (n v) : (s.addCredits n v).formed ↔ s.formed := Iff.rfl

@[simp] theorem State.arrive_formed {s : State} (n h payload) (wf : s.formed) : (s.arrive n h payload).formed := by
  unfold State.arrive
  simp [wf]

@[simp] theorem State.takePackets_formed {s : State} (n hs pl) (wf : s.formed) : (s.takePackets n hs pl).formed := by
  unfold State.takePackets
  extract_lets p t
  have first : t.formed := by
    simp only [t]
    (repeat' split) <;> simp [wf]
  refine State.forAll_formed _ (fun _ _ h => ?_) first
  dsimp only
  split <;> simp [h]

@[simp] theorem State.rollLane_formed (s : State) (n) : (s.rollLane n).formed ↔ s.formed := by
  unfold State.rollLane
  simp

@[simp] theorem State.countFec_formed (s : State) (n fec) : (s.countFec n fec).formed ↔ s.formed := by
  unfold State.countFec
  simp

@[simp] theorem State.badFrame_formed (s : State) (n) : (s.badFrame n).formed ↔ s.formed := Iff.rfl

@[simp] theorem State.frameState_formed (s : State) (n bytes) : (s.frameState n bytes).formed ↔ s.formed := by
  unfold State.frameState
  simp

@[simp] theorem State.sequenced_formed {s : State} (n bytes) (wf : s.formed) : (s.sequenced n bytes).formed := by
  unfold State.sequenced
  simp [wf]

@[simp] theorem State.frameIn_formed {s : State} (n bytes fec) (wf : s.formed) : (s.frameIn n bytes fec).formed := by
  unfold State.frameIn
  simp [wf]

@[simp] theorem State.laneWindow_formed (s : State) (n) : (s.laneWindow n).formed ↔ s.formed := by
  unfold State.laneWindow
  simp

@[simp] theorem State.portDown_formed {s : State} (n good) (wf : s.formed) : (s.portDown n good).formed := by
  unfold State.portDown
  simp [wf]

@[simp] theorem State.retrained_formed {s : State} (n passed partner credits) (wf : s.formed) : (s.retrained n passed partner credits).formed := by
  unfold State.retrained
  simp [wf]

@[simp] theorem State.routeBuilt_formed (s : State) (breaks) : (s.routeBuilt breaks).formed ↔ s.formed := by
  unfold State.routeBuilt
  simp

-- Operations of Machine/Registers

@[simp] theorem State.answer_formed (s : State) (v) : (s.answer v).formed ↔ s.formed := Iff.rfl

@[simp] theorem State.readHost_formed (s : State) (n key pairs plain blk off len) : (s.readHost n key pairs plain blk off len).formed ↔ s.formed := by
  unfold State.readHost
  simp

@[simp] theorem State.regReadAt_formed (s : State) (p off len) : (s.regReadAt p off len).formed ↔ s.formed := by
  unfold State.regReadAt
  split <;> simp

@[simp] theorem State.dbCmd_formed (s : State) (n v) : (s.dbCmd n v).formed ↔ s.formed := by
  unfold State.dbCmd
  simp

@[simp] theorem State.dbCpl_formed {s : State} (n v) (wf : s.formed) : (s.dbCpl n v).formed := by
  unfold State.dbCpl
  simp [wf]

@[simp] theorem State.irqDelayed_formed (s : State) (n) : (s.irqDelayed n).formed ↔ s.formed := by
  unfold State.irqDelayed
  dsimp -iota only
  split <;> simp

@[simp] theorem State.evqResume_formed {s : State} (n) (wf : s.formed) : (s.evqResume n).formed := by
  unfold State.evqResume
  extract_lets t
  have flushed : t.formed := State.flushEvents_formed _ (State.eventsLost_formed _ wf)
  exact State.formed_ite (State.postTrip_formed flushed) flushed

@[simp] theorem State.dbEvq_formed {s : State} (n v) (wf : s.formed) : (s.dbEvq n v).formed := by
  unfold State.dbEvq
  simp [wf]

@[simp] theorem State.fnCtl_formed {s : State} (n v) (wf : s.formed) : (s.fnCtl n v).formed := by
  unfold State.fnCtl
  simp [wf]

@[simp] theorem State.errClear_formed {s : State} (n v) (wf : s.formed) : (s.errClear n v).formed := by
  unfold State.errClear
  simp [wf]

@[simp] theorem State.discarded_formed (s : State) (p) : (s.discarded p).formed ↔ s.formed := by
  unfold State.discarded
  split <;> simp

@[simp] theorem State.holdHi_formed (s : State) (p key v) : (s.holdHi p key v).formed ↔ s.formed := by
  unfold State.holdHi
  split <;> simp

@[simp] theorem State.dropHi_formed (s : State) (p key) : (s.dropHi p key).formed ↔ s.formed := by
  unfold State.dropHi
  split <;> simp

@[simp] theorem State.startRoute_formed (s : State) : s.startRoute.formed ↔ s.formed := by
  unfold State.startRoute
  simp

@[simp] theorem State.setCoord_formed (s : State) (axis v) : (s.setCoord axis v).formed ↔ s.formed := by
  unfold State.setCoord
  simp

@[simp] theorem State.coordWrite_formed (s : State) (p r v) : (s.coordWrite p r v).formed ↔ s.formed := by
  unfold State.coordWrite
  simp

@[simp] theorem State.recompute0_formed (s : State) (v) : (s.recompute0 v).formed ↔ s.formed := by
  unfold State.recompute0
  simp

@[simp] theorem State.creditWrite_formed (s : State) (vc v) : (s.creditWrite vc v).formed ↔ s.formed := by
  unfold State.creditWrite
  simp

@[simp] theorem State.write0_formed (s : State) (blk o w) : (s.write0 blk o w).formed ↔ s.formed := by
  unfold State.write0
  (repeat' split) <;> simp

@[simp] theorem State.baseWrite_formed (s : State) (n o lo) : (s.baseWrite n o lo).formed ↔ s.formed := by
  unfold State.baseWrite
  simp

@[simp] theorem State.msixWrite_formed (s : State) (n i w) : (s.msixWrite n i w).formed ↔ s.formed := Iff.rfl

@[simp] theorem State.write2_formed {s : State} (n o w) (wf : s.formed) : (s.write2 n o w).formed := by
  unfold State.write2
  dsimp -iota only
  (repeat' split) <;> simp [wf]

@[simp] theorem State.writeSb_formed {s : State} (i w) (wf : s.formed) : (s.writeSb i w).formed := by
  unfold State.writeSb
  (repeat' split) <;> simp [wf]

@[simp] theorem State.regWriteAt_formed {s : State} (p off bs) (wf : s.formed) : (s.regWriteAt p off bs).formed := by
  unfold State.regWriteAt
  split <;> simp [wf]

-- Operations of Machine/Commands

@[simp] theorem State.logRead_formed (s : State) (n why) : (s.logRead n why).formed ↔ s.formed := by
  unfold State.logRead
  split <;> simp

@[simp] theorem State.fetchCmd_formed {s : State} (n entry) (wf : s.formed) : (s.fetchCmd n entry).formed := by
  unfold State.fetchCmd
  dsimp -iota only
  (repeat' split) <;> simp [wf]

@[simp] theorem State.await_formed (s : State) (n c) : (s.await n c).formed ↔ s.formed := Iff.rfl

theorem State.begin_formed {s : State} (n a b c) {f} (hf : ∀ x t, t.formed → (f x t).formed) (wf : s.formed) : (s.begin n a b c f).formed := by
  unfold State.begin
  (repeat' split) <;> simp [wf, hf]

@[simp] theorem State.cmdFault_formed {s : State} (n c addr cause write) (wf : s.formed) : (s.cmdFault n c addr cause write).formed := by
  unfold State.cmdFault
  simp [wf]

theorem State.cmdRead_formed {s : State} (n c a m) {f} (hf : ∀ x t, t.formed → (f x t).formed) (wf : s.formed) : (s.cmdRead n c a m f).formed := by
  unfold State.cmdRead
  split <;> simp [wf, hf]

@[simp] theorem State.invalid_formed {s : State} (n c detail) (wf : s.formed) : (s.invalid n c detail).formed := by
  unfold State.invalid
  simp [wf]

@[simp] theorem State.freeTag_formed (s : State) : (s.freeTag).2.formed ↔ s.formed := Iff.rfl

-- Operations of Machine/Pegs

@[simp] theorem State.setPeg_formed (s : State) (ctx k p) : (s.setPeg ctx k p).formed ↔ s.formed := Iff.rfl

@[simp] theorem State.putPeg_formed {s : State} (ctx k p) (wf : s.formed) : (s.putPeg ctx k p).formed := by
  unfold State.putPeg
  extract_lets t
  have set : t.formed := wf
  split
  · exact set
  · split
    next u hu => exact State.tryWrite_formed hu set
    next => exact set

@[simp] theorem State.sendBlocks_formed {s : State} (ctx dest ptag addr bs) (wf : s.formed) : (s.sendBlocks ctx dest ptag addr bs).1.formed :=
  List.foldlRecOn (motive := fun r : State × Bool => r.1.formed) _ _ wf fun _ h _ _ => by simp [h]

@[simp] theorem State.sendTail_formed {r : State × Bool} (ctx k dest ptag stop b) (wf : r.1.formed) : (State.sendTail r ctx k dest ptag stop b).1.formed := by
  unfold State.sendTail
  dsimp -iota only
  (repeat' split) <;> simp [wf]

@[simp] theorem State.sendWrites_formed {s : State} (ctx k dest ptag stop addr bs) (wf : s.formed) :
    (s.sendWrites ctx k dest ptag stop addr bs).1.formed :=
  List.foldlRecOn (motive := fun r : State × Bool => r.1.formed) _ _ (State.sendBlocks_formed _ _ _ _ _ wf) fun _ h _ _ => by simp [h]

@[simp] theorem State.sendRsig_formed (s : State) (ctx dest ptag e) : (s.sendRsig ctx dest ptag e).formed ↔ s.formed := by
  unfold State.sendRsig
  simp

@[simp] theorem State.sendOwed_formed (s : State) (ctx k dest ptag e) : (s.sendOwed ctx k dest ptag e).formed ↔ s.formed := by
  unfold State.sendOwed
  split <;> simp

@[simp] theorem State.sendControl_formed (s : State) (ctx dest ptag kind args) : (s.sendControl ctx dest ptag kind args).1.formed ↔ s.formed := by
  unfold State.sendControl
  simp

@[simp] theorem State.collEvent_formed {s : State} (ctx k p code) (wf : s.formed) : (s.collEvent ctx k p code).formed := by
  unfold State.collEvent
  simp [wf]

@[simp] theorem State.spoilScratch_formed {s : State} (ctx p) (wf : s.formed) : (s.spoilScratch ctx p).formed := by
  unfold State.spoilScratch
  extract_lets e
  split
  · exact wf
  · refine State.forAll_formed _ (fun i t h => ?_) ((State.newId_formed s).2 wf)
    dsimp only
    split
    next u hu => exact State.tryWrite_formed hu h
    next => exact h

@[simp] theorem State.dropPeg_formed (s : State) (ctx k) : (s.dropPeg ctx k).formed ↔ s.formed := Iff.rfl

@[simp] theorem State.pegFail_formed {s : State} (ctx k p code) (wf : s.formed) : (s.pegFail ctx k p code).formed := by
  unfold State.pegFail
  extract_lets q t
  have failed : t.formed := State.collEvent_formed _ _ _ _ (State.putPeg_formed _ _ _ (by simp [wf]))
  exact (State.modLinks_formed _ _).2 failed

@[simp] theorem State.pegPageFault_formed {s : State} (ctx k cause addr record) (wf : s.formed) : (s.pegPageFault ctx k cause addr record).formed := by
  unfold State.pegPageFault
  split
  · exact wf
  next p _ =>
    have spoilt : ((s.dropPeg ctx k).spoilScratch ctx p).formed := by simp [wf]
    refine State.faultEvent_formed _ _ _ _ _ _ _ _ ?_
    split
    · exact State.putPeg_formed _ _ _ spoilt
    · exact spoilt

@[simp] theorem State.pegMeets_formed {s : State} (ctx k f write) (wf : s.formed) : (s.pegMeets ctx k f write).formed := by
  unfold State.pegMeets
  simp [wf]

theorem State.pegRead_formed {s : State} {ctx k base w r x} (e : s.pegRead ctx k base w r = .ok x) (wf : s.formed) : x.2.formed := by
  unfold State.pegRead at e
  extract_lets at e
  split at e
  · obtain rfl := Except.ok.inj e
    simp [wf]
  · cases e

theorem State.portWrite_formed {s t : State} {ctx k addr bs remote poison h} (e : s.portWrite ctx k addr bs remote poison h = .ok t) (wf : s.formed) :
    t.formed := by
  unfold State.portWrite at e
  split at e
  · cases e
  · split at e
    next u hu =>
      obtain rfl := Except.ok.inj e
      simp [State.commitAll_formed hu wf]
    next => cases e

theorem State.pegWrite_formed {s t : State} {ctx k addr bs} (e : s.pegWrite ctx k addr bs = .ok t) (wf : s.formed) : t.formed :=
  State.portWrite_formed e wf

@[simp] theorem State.pegSent_formed {r : State × Bool} (ctx k) (wf : r.1.formed) : (State.pegSent r ctx k).formed := by
  unfold State.pegSent
  (repeat' split) <;> simp [wf]

theorem State.formResult_formed {s t : State} {ctx k : Nat} {p : Peg} {g : List Byte} {r : Nat × Nat} {vs : List Num}
    (e : s.formResult ctx k p g r vs = .ok t) (wf : s.formed) : t.formed := by
  unfold State.formResult at e
  obtain ⟨u, hu, e⟩ := ok_of_bind e
  obtain rfl := Except.ok.inj e
  have written := State.pegWrite_formed hu wf
  split <;> simp [written]

@[simp] theorem State.sendPartial_formed {s : State} (ctx k p g r vs) (wf : s.formed) : (s.sendPartial ctx k p g r vs).formed := by
  unfold State.sendPartial
  simp [wf]

@[simp] theorem State.reduceOwn_formed {s : State} (ctx k p g seg) (wf : s.formed) : (s.reduceOwn ctx k p g seg).formed := by
  unfold State.reduceOwn
  extract_lets e n me r did
  split
  · exact wf
  · split
    next => simp [wf]
    next bs t ht =>
      have read : t.formed := State.pegRead_formed ht wf
      extract_lets
      split
      · split
        next u hu => exact State.formResult_formed hu read
        next => simp [read]
      · simp [read]

@[simp] theorem State.reduceArrival_formed {s : State} (ctx k p g a) (wf : s.formed) : (s.reduceArrival ctx k p g a).formed := by
  unfold State.reduceArrival
  extract_lets e n me r
  split
  · exact wf
  · split
    next => simp [wf]
    next bs t ht =>
      have read : t.formed := State.pegRead_formed ht wf
      extract_lets
      split
      · split
        next u hu => exact State.formResult_formed hu read
        next => simp [read]
      · simp [read]

@[simp] theorem State.finalDone_formed {s : State} (ctx k p g a) (wf : s.formed) : (s.finalDone ctx k p g a).formed := by
  unfold State.finalDone
  simp [wf]

@[simp] theorem State.takeArrival_formed {s : State} (ctx k a) (wf : s.formed) : (s.takeArrival ctx k a).formed := by
  unfold State.takeArrival
  split <;> simp [wf]

@[simp] theorem State.moveOwn_formed {s : State} (ctx k p g seg) (wf : s.formed) : (s.moveOwn ctx k p g seg).formed := by
  unfold State.moveOwn
  extract_lets e n me r
  split
  · exact wf
  · split
    next => simp [wf]
    next bs t ht =>
      have read : t.formed := State.pegRead_formed ht wf
      extract_lets q
      split
      · exact State.pegSent_formed _ _ ((State.sendOwed_formed _ _ _ _ _ _).2 (State.sendWrites_formed _ _ _ _ _ _ _ ((State.setPeg_formed _ _ _ _).2 read)))
      · split
        · split
          next => simp [read]
          next u hu =>
            have written := State.pegWrite_formed hu read
            dsimp only
            split <;> simp [written]
        · split
          next => simp [read]
          next u hu =>
            have written := foldlM_ok_keeps (P := State.formed) (fun _ _ _ x => State.pegWrite_formed x) _ _ _ hu read
            exact State.pegSent_formed _ _ (List.foldlRecOn (motive := fun r : State × Bool => r.1.formed) _ _ written fun _ h _ _ => by simp [h])

@[simp] theorem State.circulate_formed {s : State} (ctx k fuel) (wf : s.formed) : (s.circulate ctx k fuel).formed := by
  induction fuel generalizing s with
  | zero => exact wf
  | succ fuel ih =>
    unfold State.circulate
    split
    · exact wf
    · dsimp only
      split
      · exact ih (by simp [wf])
      · split
        · exact wf
        · split
          next => simp [wf]
          next bs t ht =>
            have read : t.formed := State.pegRead_formed ht wf
            exact ih (by simp [read])

@[simp] theorem State.pegWork_formed {s : State} (ctx k) (wf : s.formed) : (s.pegWork ctx k).formed := by
  unfold State.pegWork
  split
  · exact wf
  · extract_lets e t
    have taken : t.formed := State.forAll_formed _ (fun _ _ h => by simp [h]) wf
    split
    · exact State.circulate_formed _ _ _ taken
    · split
      · exact taken
      · refine State.forAll_formed _ (fun _ _ h => ?_) taken
        dsimp only
        (repeat' split) <;> simp [h]

@[simp] theorem State.pegGo_formed {s : State} (ctx k p) (wf : s.formed) : (s.pegGo ctx k p).formed := by
  unfold State.pegGo
  simp [wf]

@[simp] theorem State.compareOpens_formed {s : State} (ctx k p) (wf : s.formed) : (s.compareOpens ctx k p).formed := by
  unfold State.compareOpens
  dsimp -iota only
  (repeat' split) <;> simp [wf]

@[simp] theorem State.signIn_formed {s : State} (ctx k p) (wf : s.formed) : (s.signIn ctx k p).formed := by
  unfold State.signIn
  simp [wf]

@[simp] theorem State.pegPump_formed {s : State} (ctx k) (wf : s.formed) : (s.pegPump ctx k).formed := by
  unfold State.pegPump
  split <;> simp [wf]

@[simp] theorem State.pegCheck_formed {s : State} (ctx k) (wf : s.formed) : (s.pegCheck ctx k).formed := by
  unfold State.pegCheck
  split <;> simp [wf]

@[simp] theorem State.raisePeg_formed {s : State} (ctx k n) (wf : s.formed) : (s.raisePeg ctx k n).formed := by
  unfold State.raisePeg
  split <;> simp [wf]

@[simp] theorem State.raiseTile_formed {s : State} (ctx k seg) (wf : s.formed) : (s.raiseTile ctx k seg).formed := by
  unfold State.raiseTile
  split <;> simp [wf]

@[simp] theorem State.tilesOver_formed {s : State} (ctx k) (wf : s.formed) : (s.tilesOver ctx k).formed := by
  unfold State.tilesOver
  split <;> simp [wf]

@[simp] theorem State.signal_formed {s : State} (ctx target n) (wf : s.formed) : (s.signal ctx target n).formed := by
  unfold State.signal
  simp [wf]

@[simp] theorem State.pegFinish_formed {s : State} (ctx k) (wf : s.formed) : (s.pegFinish ctx k).formed := by
  unfold State.pegFinish
  split
  · exact wf
  · split
    · exact wf
    · extract_lets e t u v w
      have signalled : u.formed := by
        simp only [u]
        split <;> simp [t, wf]
      have chained : v.formed := by
        simp only [v]
        split <;> simp [signalled]
      have posted : w.formed := by
        simp only [w]
        split <;> simp [chained]
      simp [posted]

@[simp] theorem State.pegComplete_formed {s : State} (ctx k) (wf : s.formed) : (s.pegComplete ctx k).formed := by
  unfold State.pegComplete
  split <;> simp [wf]

@[simp] theorem State.pegResume_formed {s : State} (ctx k record) (wf : s.formed) : (s.pegResume ctx k record).formed := by
  unfold State.pegResume
  split
  · exact wf
  · refine State.pegCheck_formed _ _ (State.pegPump_formed _ _ (State.pegFinish_formed _ _ ?_))
    split <;> simp [wf]

@[simp] theorem State.pegNear_formed (s : State) (ctx p) : (s.pegNear ctx p).formed ↔ s.formed := by
  unfold State.pegNear
  simp

@[simp] theorem State.openIn_formed {s : State} (ctx k inst rank sig) (wf : s.formed) : (s.openIn ctx k inst rank sig).formed := by
  unfold State.openIn
  split <;> simp [wf]

@[simp] theorem State.grantIn_formed {s : State} (ctx k inst) (wf : s.formed) : (s.grantIn ctx k inst).formed := by
  unfold State.grantIn
  split <;> simp [wf]

@[simp] theorem State.pegLanded_formed {s : State} (ctx ptag addr bs) (wf : s.formed) : (s.pegLanded ctx ptag addr bs).formed := by
  unfold State.pegLanded
  dsimp -iota only
  split <;> simp [wf]

@[simp] theorem State.pegLate_formed {s : State} (ctx k) (wf : s.formed) : (s.pegLate ctx k).formed := by
  unfold State.pegLate
  split <;> simp [wf]

@[simp] theorem State.committed_formed (s : State) (n p) : (s.committed n p).formed ↔ s.formed := by
  unfold State.committed
  simp

@[simp] theorem State.discardRemote_formed {s : State} (n p addr) (wf : s.formed) : (s.discardRemote n p addr).formed := by
  unfold State.discardRemote
  simp [wf]

@[simp] theorem State.remoteWrite_formed {s : State} (n vc) (wf : s.formed) : (s.remoteWrite n vc).formed := by
  unfold State.remoteWrite
  split
  · exact wf
  · extract_lets a h
    split
    · simp [wf]
    · split
      · exact wf
      · split
        next u hu =>
          have written := State.portWrite_formed hu wf
          simp [written]
        next => split <;> simp [wf]

@[simp] theorem State.remoteSignal_formed {s : State} (n vc) (wf : s.formed) : (s.remoteSignal n vc).formed := by
  unfold State.remoteSignal
  split <;> simp [wf]

@[simp] theorem State.dataIn_formed {s : State} (ctx k inst port kind first bs) (wf : s.formed) : (s.dataIn ctx k inst port kind first bs).formed := by
  unfold State.dataIn
  split <;> simp [wf]

@[simp] theorem State.takeReports_formed {s : State} (wf : s.formed) : s.takeReports.formed := by
  unfold State.takeReports
  refine State.forAll_formed _ (fun _ _ _ => ?_) (by simp [wf])
  (repeat' split) <;> simp [*]

@[simp] theorem State.groupDefine_formed {s : State} (n c) (wf : s.formed) : (s.groupDefine n c).formed := by
  unfold State.groupDefine
  simp [wf]

@[simp] theorem State.pegLoad_formed {s : State} (n c) (wf : s.formed) : (s.pegLoad n c).formed := by
  unfold State.pegLoad
  extract_lets first cnt area addr
  split
  · simp [wf]
  · split
    · simp [wf]
    · refine State.formed_ite (by simp [wf]) ?_
      · refine State.cmdRead_formed _ _ _ _ (fun bs t ht => ?_) wf
        dsimp only
        split
        · simp [ht]
        · split
          · simp [ht]
          · exact State.done_formed _ _ _ _ (State.forAll_formed _ (fun _ _ h => State.putPeg_formed _ _ _ h) ht)

@[simp] theorem State.pegRearm_formed {s : State} (n c) (wf : s.formed) : (s.pegRearm n c).formed := by
  unfold State.pegRearm
  dsimp -iota only
  split <;> simp [wf]

@[simp] theorem State.pegUnload_formed {s : State} (n c) (wf : s.formed) : (s.pegUnload n c).formed := by
  unfold State.pegUnload
  simp [wf]

-- Operations of Machine/Scribe

@[simp] theorem State.setList_formed (s : State) (y) : (s.setList y).formed ↔ s.formed := Iff.rfl

@[simp] theorem State.setTask_formed (s : State) (y) : (s.setTask y).formed ↔ s.formed := by
  unfold State.setTask
  split <;> simp

@[simp] theorem State.modTask_formed (s : State) (bay ctx idx f) : (s.modTask bay ctx idx f).formed ↔ s.formed := by
  unfold State.modTask
  split <;> simp

@[simp] theorem State.holdTask_formed (s : State) (k addr cause write) : (s.holdTask k addr cause write).formed ↔ s.formed := Iff.rfl

@[simp] theorem State.cancelPasses_formed {s : State} (bay ctx) (wf : s.formed) : (s.cancelPasses bay ctx).formed := by
  unfold State.cancelPasses
  refine State.forAll_formed _ (fun _ _ _ => ?_) (by simp [wf])
  (repeat' split) <;> simp [*]

@[simp] theorem State.endLaunch_formed {s : State} (l status detail idx) (wf : s.formed) : (s.endLaunch l status detail idx).formed := by
  unfold State.endLaunch
  split <;> simp [wf]

@[simp] theorem State.checkHalt_formed {s : State} (bay ctx) (wf : s.formed) : (s.checkHalt bay ctx).formed := by
  unfold State.checkHalt
  (repeat' split) <;> simp [wf]

@[simp] theorem State.haltList_formed (s : State) (bay ctx status detail idx) : (s.haltList bay ctx status detail idx).formed ↔ s.formed := by
  unfold State.haltList
  split <;> simp

@[simp] theorem State.sweepSwaps_formed {s : State} (wf : s.formed) : s.sweepSwaps.formed :=
  State.forAll_formed _ (fun _ _ h => State.forAll_formed _ (fun _ _ h => by split <;> simp [h]) h) wf

@[simp] theorem State.freeTile_formed {s : State} (k t) (wf : s.formed) : (s.freeTile k t).formed :=
  State.forAll_formed _ (fun _ _ h => by simp [h]) (by simp [wf])

@[simp] theorem State.returnTile_formed {s : State} (k t) (wf : s.formed) : (s.returnTile k t).formed :=
  State.forAll_formed _ (fun _ _ h => by simp [h]) wf

@[simp] theorem State.failTask_formed {s : State} (bay ctx idx status detail) (wf : s.formed) : (s.failTask bay ctx idx status detail).formed := by
  unfold State.failTask
  split
  · exact wf
  · split
    · simp [wf]
    · extract_lets t u
      have returned : u.formed := State.forAll_formed _ (fun _ _ h => by simp [h]) (show t.formed by simp [t, wf])
      simp [returned]

@[simp] theorem State.failTaskFault_formed {s : State} (bay ctx idx cause addr) (wf : s.formed) : (s.failTaskFault bay ctx idx cause addr).formed := by
  unfold State.failTaskFault
  split <;> simp [wf]

@[simp] theorem State.taskFault_formed {s : State} (k addr cause write) (wf : s.formed) : (s.taskFault k addr cause write).formed := by
  unfold State.taskFault
  simp [wf]

@[simp] theorem State.readAhead_formed (s : State) (l idx) : (s.readAhead l idx).1.formed ↔ s.formed := by
  unfold State.readAhead
  (repeat' split) <;> simp

@[simp] theorem State.fetchDescriptor_formed (s : State) (bay ctx) : (s.fetchDescriptor bay ctx).formed ↔ s.formed := by
  unfold State.fetchDescriptor
  split <;> simp

@[simp] theorem State.enterTask_formed (s : State) (l k n) : (s.enterTask l k n).formed ↔ s.formed := by
  unfold State.enterTask
  split <;> simp

@[simp] theorem State.startTask_formed {s : State} (l idx a b) (wf : s.formed) : (s.startTask l idx a b).formed := by
  unfold State.startTask
  simp [wf]

@[simp] theorem State.lostTask_formed {s : State} (l cause) (wf : s.formed) : (s.lostTask l cause).formed := by
  unfold State.lostTask
  simp [wf]

@[simp] theorem State.lostPair_formed {s : State} (l a cause) (wf : s.formed) : (s.lostPair l a cause).formed := by
  unfold State.lostPair
  simp [wf]

@[simp] theorem State.takeTask_formed {s : State} (bay ctx) (wf : s.formed) : (s.takeTask bay ctx).formed := by
  unfold State.takeTask
  (repeat' split) <;> simp [wf]

@[simp] theorem State.takeWait_formed (s : State) (bay ctx) : (s.takeWait bay ctx).formed ↔ s.formed := by
  unfold State.takeWait
  split <;> simp

@[simp] theorem State.waitLate_formed {s : State} (bay ctx) (wf : s.formed) : (s.waitLate bay ctx).formed := by
  unfold State.waitLate
  (repeat' split) <;> simp [wf]

@[simp] theorem State.addFetch_formed {s : State} (k t o rows) (wf : s.formed) : (s.addFetch k t o rows).formed := by
  unfold State.addFetch
  simp [wf]

@[simp] theorem State.fetchOperand_formed {s : State} (k t o first) (wf : s.formed) : (s.fetchOperand k t o first).formed := by
  unfold State.fetchOperand
  simp [wf]

@[simp] theorem State.fetchTiles_formed {s : State} (bay ctx idx) (wf : s.formed) : (s.fetchTiles bay ctx idx).formed := by
  unfold State.fetchTiles
  split
  · exact wf
  · exact State.forAll_formed _ (fun _ _ h => State.forAll_formed _ (fun _ _ h => by simp [h]) h) wf

@[simp] theorem State.fetchWalk_formed {s : State} (k t) (wf : s.formed) : (s.fetchWalk k t).formed := by
  unfold State.fetchWalk
  split
  · exact wf
  · split
    · split
      · exact wf
      · split <;> simp [wf]
    · exact State.forAll_formed _ (fun _ _ h => by simp [h]) wf

@[simp] theorem State.openTask_formed {s : State} (k) (wf : s.formed) : (s.openTask k).formed := by
  unfold State.openTask
  simp [wf]

@[simp] theorem State.readTask_formed {s : State} (bay ctx) (wf : s.formed) : (s.readTask bay ctx).formed := by
  unfold State.readTask
  (repeat' split) <;> simp [wf]

theorem State.writeUnit_formed {s t : State} {ctx a root length seq busy h} (e : s.writeUnit ctx a root length seq busy h = .ok t) (wf : s.formed) :
    t.formed := by
  unfold State.writeUnit at e
  split at e
  next u hu =>
    obtain rfl := Except.ok.inj e
    exact State.tryWrite_formed hu wf
  next => cases e

theorem State.lockAnchor_formed {k : Task} {a t : State × List (Nat × Nat × Nat × Nat)} {x : Nat × Nat} (e : State.lockAnchor k a x = .ok t)
    (wf : a.1.formed) : t.1.formed := by
  unfold State.lockAnchor at e
  obtain ⟨y, -, e⟩ := ok_of_bind e
  split at e
  · cases e
  · obtain ⟨u, hu, e⟩ := ok_of_bind e
    obtain rfl := Except.ok.inj e
    exact State.writeUnit_formed hu wf

theorem State.lockAll_formed {k : Task} {l : List (Nat × Nat)} {a t : State × List (Nat × Nat × Nat × Nat)} (e : l.foldlM (State.lockAnchor k) a = .ok t)
    (wf : a.1.formed) : t.1.formed :=
  foldlM_ok_keeps (P := fun a : State × List (Nat × Nat × Nat × Nat) => a.1.formed) (fun _ _ _ e => State.lockAnchor_formed e) l _ _ e wf

@[simp] theorem State.raceEvent_formed {s : State} (k anchor entry was now) (wf : s.formed) : (s.raceEvent k anchor entry was now).formed := by
  unfold State.raceEvent
  simp [wf]

@[simp] theorem State.lockTask_formed {s : State} (bay ctx) (wf : s.formed) : (s.lockTask bay ctx).formed := by
  unfold State.lockTask
  split
  · exact wf
  next k _ =>
    split
    · exact wf
    · split
      next => simp [wf]
      next => split <;> simp [wf]
      next r hr =>
        obtain ⟨_, _, hr⟩ := ok_of_bind hr
        obtain ⟨u, hu, hr⟩ := ok_of_bind hr
        obtain ⟨_, _, hr⟩ := ok_of_bind hr
        obtain rfl := Except.ok.inj hr
        have locked : u.1.formed := State.lockAll_formed hu wf
        simp [locked]

@[simp] theorem State.loadTasks_formed {s : State} (n c) (wf : s.formed) : (s.loadTasks n c).formed := by
  unfold State.loadTasks
  simp [wf]

@[simp] theorem State.launch_formed {s : State} (n c) (wf : s.formed) : (s.launch n c).formed := by
  unfold State.launch
  dsimp -iota only
  (repeat' split) <;> simp [wf]

@[simp] theorem State.haltLaunch_formed {s : State} (n c) (wf : s.formed) : (s.haltLaunch n c).formed := by
  unfold State.haltLaunch
  dsimp -iota only
  (repeat' split) <;> simp [wf]

-- Operations of Machine/Issue

@[simp] theorem State.modScribe_formed (s : State) (f) : (s.modScribe f).formed ↔ s.formed := Iff.rfl

@[simp] theorem State.delRun_formed (s : State) (core) : (s.delRun core).formed ↔ s.formed := Iff.rfl

@[simp] theorem State.setCheck_formed (s : State) (y) : (s.setCheck y).formed ↔ s.formed := Iff.rfl

@[simp] theorem State.delCheck_formed (s : State) (id) : (s.delCheck id).formed ↔ s.formed := by
  unfold State.delCheck
  exact State.forAll_formed_iff _ _ _ fun _ _ => by simp

theorem State.passOne_formed {s t : State} {k : Task} {sl : Nat} (e : s.passOne k sl = some t) (wf : s.formed) : t.formed := by
  refine foldlM_some_keeps (fun t q u x h => ?_) _ _ _ e wf
  split at x
  · obtain rfl := Option.some.inj x
    simp [h]
  · cases x

@[simp] theorem State.passPos_formed {s : State} (bay ctx idx sl n) (wf : s.formed) : (s.passPos bay ctx idx sl n).formed := by
  induction n generalizing s with
  | zero => exact wf
  | succ n ih =>
    unfold State.passPos
    split
    · exact wf
    · split
      · exact wf
      · split
        · simp [wf]
        · split
          next => exact wf
          next t ht =>
            have passed := State.passOne_formed ht wf
            exact ih (by simp [passed])

@[simp] theorem State.passList_formed {s : State} (bay ctx) (wf : s.formed) : (s.passList bay ctx).formed := by
  unfold State.passList
  split
  · exact wf
  · exact State.forAll_formed _ (fun _ _ h => by simp [h]) wf

@[simp] theorem State.endClaim_formed (s : State) (bay) : (s.endClaim bay).formed ↔ s.formed := by
  unfold State.endClaim
  split <;> simp

@[simp] theorem State.returnRun_formed {s : State} (r) (wf : s.formed) : (s.returnRun r).formed := by
  unfold State.returnRun
  dsimp -iota only
  (repeat' split) <;> simp [wf]

@[simp] theorem State.abandon_formed {s : State} (r) (wf : s.formed) : (s.abandon r).formed := by
  unfold State.abandon
  simp [wf]

@[simp] theorem State.forceClaim_formed {s : State} (bay) (wf : s.formed) : (s.forceClaim bay).formed := by
  unfold State.forceClaim
  dsimp -iota only
  (repeat' split) <;> simp [wf]

@[simp] theorem State.addRun_formed (s : State) (core k t check role) : (s.addRun core k t check role).formed ↔ s.formed := Iff.rfl

theorem State.dupBay_formed {s : State} {own not_ x} (e : s.dupBay own not_ = some x) (wf : s.formed) : x.2.formed := by
  unfold State.dupBay at e
  obtain ⟨b, -, rfl⟩ := Option.map_eq_some_iff.1 e
  simp [wf]

@[simp] theorem State.startTile_formed {s : State} (k t core) (wf : s.formed) : (s.startTile k t core).formed := by
  have fresh := (State.newId_formed s).2 wf
  unfold State.startTile
  dsimp only
  split
  · split
    next => simp [fresh]
    next d hd =>
      have second : d.2.formed := State.dupBay_formed hd fresh
      simp [second]
  · simp [fresh]

@[simp] theorem State.takeHandles_formed {s : State} (k hs) (wf : s.formed) : (s.takeHandles k hs).formed := by
  refine State.forAll_formed _ (fun _ t h => ?_) wf
  dsimp only
  split
  · exact h
  · split <;> exact h

@[simp] theorem State.issueTile_formed {s : State} (k t hs tick core) (wf : s.formed) : (s.issueTile k t hs tick core).formed := by
  unfold State.issueTile
  split
  · simp [wf]
  · split
    next => simp [wf]
    next w _ =>
      extract_lets now u x v y
      have taken : u.formed := by
        simp only [u]
        split <;> simp [wf]
      have met : y.formed := by
        simp only [y]
        split <;> simp [v, taken]
      exact State.fetchTiles_formed _ _ _ (State.fetchWalk_formed _ _ (State.startTile_formed _ _ _ met))

@[simp] theorem State.runCand_formed {s : State} (c core) (wf : s.formed) : (s.runCand c core).formed := by
  unfold State.runCand
  split
  · split <;> simp [wf]
  · simp [wf]

@[simp] theorem State.failStarved_formed {s : State} (bay) (wf : s.formed) : (s.failStarved bay).formed := by
  unfold State.failStarved
  refine State.forAll_formed _ (fun _ _ _ => ?_) (by simp [wf])
  (repeat' split) <;> simp [*]

@[simp] theorem State.issueLc_formed {s : State} (bay ctx c) (wf : s.formed) : (s.issueLc bay ctx c).formed := by
  unfold State.issueLc
  dsimp -iota only
  (repeat' split) <;> simp [wf]

@[simp] theorem State.tileIssue_formed {s : State} (bay) (wf : s.formed) : (s.tileIssue bay).formed := by
  unfold State.tileIssue
  split
  · exact wf
  · extract_lets t b
    have passed : t.formed := State.failStarved_formed _ (State.forAll_formed _ (fun _ _ h => by simp [h]) wf)
    refine (State.endClaim_formed _ _).2 ?_
    split
    · simp [passed]
    · split
      · split <;> simp [passed]
      · exact passed

@[simp] theorem State.noticeClaim_formed (s : State) (bay) : (s.noticeClaim bay).formed ↔ s.formed := by
  unfold State.noticeClaim
  split <;> simp

@[simp] theorem State.handleLate_formed {s : State} (bay ctx idx) (wf : s.formed) : (s.handleLate bay ctx idx).formed := by
  unfold State.handleLate
  (repeat' split) <;> simp [wf]

theorem State.writeOut_formed {s t : State} {ctx o h} (e : s.writeOut ctx o h = .ok t) (wf : s.formed) : t.formed :=
  foldlM_ok_keeps (fun _ _ _ x => State.tryWrite_formed x) _ _ _ e wf

theorem State.release_formed {s u : State} {k : Task} {t : Tile} {o : TileOut} (e : s.release k t o = .ok u) (wf : s.formed) : u.formed := by
  unfold State.release at e
  extract_lets full at e
  cases hf : full with
  | some f =>
    rw [hf] at e
    cases e
  | none =>
    rw [hf] at e
    obtain ⟨v, hv, e⟩ := ok_of_bind e
    obtain rfl := Except.ok.inj e
    have written := State.writeOut_formed hv wf
    dsimp only
    split <;> simp [written]

@[simp] theorem State.dropTile_formed {s : State} (r) (wf : s.formed) : (s.dropTile r).formed := by
  unfold State.dropTile
  dsimp -iota only
  (repeat' split) <;> simp [wf]

@[simp] theorem State.tileFault_formed {s : State} (r addr cause write) (wf : s.formed) : (s.tileFault r addr cause write).formed := by
  unfold State.tileFault
  simp [wf]

@[simp] theorem State.setRun_formed (s : State) (y) : (s.setRun y).formed ↔ s.formed := Iff.rfl

@[simp] theorem State.yieldCore_formed (s : State) (r) : (s.yieldCore r).formed ↔ s.formed := by
  unfold State.yieldCore
  simp

@[simp] theorem State.endRun_formed {s : State} (k r o) (wf : s.formed) : (s.endRun k r o).formed := by
  unfold State.endRun
  split
  · extract_lets t
    have left : t.formed := by simp [t, wf]
    split <;> simp [left]
  · split
    next => simp [wf]
    next t ht =>
      have released := State.release_formed ht wf
      simp [released]

@[simp] theorem State.stopRun_formed {s : State} (r k) (wf : s.formed) : (s.stopRun r k).formed := by
  unfold State.stopRun
  split <;> simp [wf]

@[simp] theorem State.tileDone_formed {s : State} (core wrong) (wf : s.formed) : (s.tileDone core wrong).formed := by
  unfold State.tileDone
  split
  · exact wf
  next r _ =>
    split
    · simp [wf]
    next k _ =>
      split
      · exact wf
      · split
        · simp [wf]
        · extract_lets w y t tile u fs v
          have set : t.formed := wf
          split
          · simp [set]
          · have fetched : u.formed := by simp [u, set]
            split
            · simp [fetched]
            · split
              · exact fetched
              · split
                · simp [fetched]
                · have counted : v.formed := by simp [v, fetched]
                  split <;> simp [counted]

@[simp] theorem State.recheck_formed {s : State} (core) (wf : s.formed) : (s.recheck core).formed := by
  unfold State.recheck
  split
  · exact wf
  · split
    · split
      · exact wf
      · split
        · simp [wf]
        · simp [wf]
        · exact State.failTask_formed _ _ _ _ _ (State.dropTile_formed _ (by simp [wf]))
    · exact wf

@[simp] theorem State.parityFail_formed {s : State} (core) (wf : s.formed) : (s.parityFail core).formed := by
  unfold State.parityFail
  split <;> simp [wf]

@[simp] theorem State.sdcEvent_formed {s : State} (k c resolved unchecked) (wf : s.formed) : (s.sdcEvent k c resolved unchecked).formed := by
  unfold State.sdcEvent
  simp [wf]

@[simp] theorem State.agreed_formed (s : State) (c agree) : (s.agreed c agree).formed ↔ s.formed := Iff.rfl

@[simp] theorem State.dropCheck_formed {s : State} (k c) (wf : s.formed) : (s.dropCheck k c).formed := by
  unfold State.dropCheck
  simp [wf]

@[simp] theorem State.releaseCheck_formed {s : State} (k c o) (wf : s.formed) : (s.releaseCheck k c o).formed := by
  unfold State.releaseCheck
  split
  next => split <;> simp [wf]
  next t ht =>
    have released := State.release_formed ht wf
    simp [released]

@[simp] theorem State.spotCompare_formed {s : State} (id) (wf : s.formed) : (s.spotCompare id).formed := by
  unfold State.spotCompare
  split
  · exact wf
  · split
    · split
      · exact wf
      · split
        · refine State.releaseCheck_formed _ _ _ ?_
          split <;> simp [wf]
        · split
          next => exact wf
          next b hb => exact State.dupBay_formed hb wf
    · exact wf

@[simp] theorem State.outvoted_formed {s : State} (k c agree bad) (wf : s.formed) : (s.outvoted k c agree bad).formed := by
  unfold State.outvoted
  simp [wf]

@[simp] theorem State.majority_formed {s : State} (k c o agree bad) (wf : s.formed) : (s.majority k c o agree bad).formed := by
  unfold State.majority
  simp [wf]

@[simp] theorem State.thirdCompare_formed {s : State} (id) (wf : s.formed) : (s.thirdCompare id).formed := by
  unfold State.thirdCompare
  split
  · exact wf
  · split
    · split
      · exact wf
      · split
        · simp [wf]
        · split
          · simp [wf]
          · exact State.failTask_formed _ _ _ _ _ (State.sdcEvent_formed _ _ _ _ (by simp [wf]))
    · exact wf

@[simp] theorem State.loftHit_formed {s : State} (target) (wf : s.formed) : (s.loftHit target).formed := by
  unfold State.loftHit
  (repeat' split) <;> simp [wf]

/-- A store of the merge that does not end it keeps the form. -/
theorem State.put_formed {t u : State} {k : Task} {a : Nat} {bs : List Byte} (put : (match t.tryWrite k.ctx a bs false false k.half .module with
    | .ok u => pure u
    | .error f => throw (.fault f.1 f.2) : Start State) = .ok u) (wf : t.formed) : u.formed := by
  split at put
  next written =>
    obtain rfl := Except.ok.inj put
    exact State.tryWrite_formed written wf
  next => cases put

theorem State.writeStats_formed {s u : State} {k : Task} (written : s.writeStats k = .ok u) (wf : s.formed) : u.formed := by
  obtain ⟨recs, _, written⟩ := ok_of_bind written
  obtain ⟨t, scratch, written⟩ := ok_of_bind written
  obtain ⟨v, final, written⟩ := ok_of_bind written
  obtain rfl := Except.ok.inj written
  have spoilt : t.formed := foldlM_ok_keeps (fun _ _ _ h => State.put_formed h) _ _ _ scratch wf
  have stored : v.formed := foldlM_ok_keeps (fun _ _ _ h => State.put_formed h) _ _ _ final spoilt
  simp [stored]

@[simp] theorem State.mergeStats_formed {s : State} (bay ctx idx) (wf : s.formed) : (s.mergeStats bay ctx idx).formed := by
  unfold State.mergeStats
  extract_lets t
  have passed : t.formed := State.passList_formed _ _ wf
  split
  · exact passed
  · split
    · exact passed
    · split
      · simp [passed]
      · split
        next => simp [passed]
        next => simp [passed]
        next u hu => exact State.writeStats_formed hu passed

theorem State.unlock_formed {s t : State} {k good} (e : s.unlock k good = .ok t) (wf : s.formed) : t.formed := by
  refine foldlM_ok_keeps (fun t a u x ht => ?_) _ _ _ e wf
  obtain ⟨v, -, x⟩ := ok_of_bind x
  exact State.writeUnit_formed x ht

@[simp] theorem State.leaveTask_formed {s : State} (bay ctx idx wrote) (wf : s.formed) : (s.leaveTask bay ctx idx wrote).formed := by
  unfold State.leaveTask
  split <;> simp [wf]

@[simp] theorem State.taskEvent_formed {s : State} (k status) (wf : s.formed) : (s.taskEvent k status).formed := by
  unfold State.taskEvent
  simp [wf]

@[simp] theorem State.endUnwritten_formed {s : State} (k addr cause) (wf : s.formed) : (s.endUnwritten k addr cause).formed := by
  unfold State.endUnwritten
  extract_lets t
  have halted : t.formed := (State.haltList_formed _ _ _ _ _ _).2 wf
  exact State.leaveTask_formed _ _ _ _ (State.taskEvent_formed _ _ (State.faultEvent_formed _ _ _ _ _ _ _ _ halted))

@[simp] theorem State.afterRecord_formed {s : State} (k status) (wf : s.formed) : (s.afterRecord k status).formed := by
  unfold State.afterRecord
  extract_lets a b t
  have raised : a.formed := by
    simp only [a, State.ite_formed]
    split <;> simp [wf]
  have signalled : b.formed := by
    simp only [b, State.ite_formed]
    split <;> simp [raised]
  have acted : t.formed := by
    simp only [t, State.ite_formed]
    (repeat' split) <;> simp [wf, signalled]
  simp [acted]

@[simp] theorem State.writeRecord_formed {s : State} (k status) (wf : s.formed) : (s.writeRecord k status).formed := by
  unfold State.writeRecord
  split
  · exact wf
  · split
    next t ht =>
      have written := State.tryWrite_formed ht wf
      simp [written]
    next => split <;> simp [wf]

@[simp] theorem State.endTask_formed {s : State} (k st) (wf : s.formed) : (s.endTask k st).formed := by
  unfold State.endTask
  split
  next t ht =>
    have unlocked := State.unlock_formed ht wf
    simp [unlocked]
  next => (repeat' split) <;> simp [wf]
  next => simp [wf]

@[simp] theorem State.completeTask_formed {s : State} (bay ctx idx) (wf : s.formed) : (s.completeTask bay ctx idx).formed := by
  unfold State.completeTask
  dsimp -iota only
  (repeat' split) <;> simp [wf]

-- Operations of Machine/Plane

@[simp] theorem State.setPlane_formed (s : State) (ctx id p) : (s.setPlane ctx id p).formed ↔ s.formed := Iff.rfl

@[simp] theorem State.putPlane_formed {s : State} (ctx id p) (wf : s.formed) : (s.putPlane ctx id p).formed := by
  unfold State.putPlane
  extract_lets t
  have set : t.formed := wf
  split
  next u hu => exact State.tryWrite_formed hu set
  next => exact set

@[simp] theorem State.freePlane_formed (s : State) (ctx id) : (s.freePlane ctx id).formed ↔ s.formed := Iff.rfl

@[simp] theorem State.releasePlane_formed {s : State} (ctx id p) (wf : s.formed) : (s.releasePlane ctx id p).formed := by
  unfold State.releasePlane
  split <;> simp [wf]

@[simp] theorem State.planeEnded_formed {s : State} (ctx id) (wf : s.formed) : (s.planeEnded ctx id).formed := by
  unfold State.planeEnded
  split <;> simp [wf]

@[simp] theorem State.endPlane_formed {s : State} (ctx id p write) (wf : s.formed) : (s.endPlane ctx id p write).formed := by
  unfold State.endPlane
  simp [wf]

@[simp] theorem State.failPlane_formed {s : State} (ctx id p code write) (wf : s.formed) : (s.failPlane ctx id p code write).formed := by
  unfold State.failPlane
  simp [wf]

@[simp] theorem State.failPlaneFault_formed {s : State} (ctx id cause addr write) (wf : s.formed) : (s.failPlaneFault ctx id cause addr write).formed := by
  unfold State.failPlaneFault
  split <;> simp [wf]

@[simp] theorem State.planeMeets_formed {s : State} (ctx id h f) (wf : s.formed) : (s.planeMeets ctx id h f).formed := by
  unfold State.planeMeets
  simp [wf]

@[simp] theorem State.passRequests_formed {s : State} (ctx id h es) (wf : s.formed) : (s.passRequests ctx id h es).formed := by
  unfold State.passRequests
  refine State.forAll_formed _ (fun _ _ ht => State.forAll_formed _ (fun _ _ ht => State.forAll_formed _ (fun _ t ht => ?_) ht) ht) wf
  dsimp only
  (repeat' split) <;> simp [ht]

@[simp] theorem State.planeBegin_formed {s : State} (ctx id p) (wf : s.formed) : (s.planeBegin ctx id p).formed := by
  unfold State.planeBegin
  split <;> simp [wf]

@[simp] theorem State.planeWritten_formed {s : State} (ctx id) (wf : s.formed) : (s.planeWritten ctx id).formed := by
  unfold State.planeWritten
  split <;> simp [wf]

@[simp] theorem State.startPlane_formed {s : State} (ctx id) (wf : s.formed) : (s.startPlane ctx id).formed := by
  unfold State.startPlane
  split <;> simp [wf]

@[simp] theorem State.asPass_formed (s : State) (ctx ids) : (s.asPass ctx ids).formed ↔ s.formed := Iff.rfl

@[simp] theorem State.mappedAs_formed (t : State) (s) : (t.mappedAs s).formed ↔ t.formed := Iff.rfl

theorem State.passWrite_formed {s : State} (ctx id p l) {k} (hk : ∀ t, t.formed → (k t).formed) (wf : s.formed) : (s.passWrite ctx id p l k).formed := by
  unfold State.passWrite
  split
  next => simp [wf]
  next t ht =>
    have stored : t.formed := State.commitAll_formed ht (by simp [wf])
    exact hk _ (by simp [stored])

@[simp] theorem State.finishPlane_formed {s : State} (ctx id p outcome unchanged) (wf : s.formed) : (s.finishPlane ctx id p outcome unchanged).formed := by
  unfold State.finishPlane
  simp [wf]

@[simp] theorem State.normPass_formed {s : State} (ctx id p l) (wf : s.formed) : (s.normPass ctx id p l).formed := by
  unfold State.normPass
  split
  · simp [wf]
  · exact State.passWrite_formed _ _ _ _ (fun _ h => by simp [h]) ((State.newId_formed s).2 wf)

@[simp] theorem State.countPlane_formed (s : State) (skipped elems) : (s.countPlane skipped elems).formed ↔ s.formed := Iff.rfl

@[simp] theorem State.updatePass_formed {s : State} (ctx id p l) (wf : s.formed) : (s.updatePass ctx id p l).formed := by
  unfold State.updatePass
  exact State.passWrite_formed _ _ _ _ (fun _ h => by simp [h]) wf

@[simp] theorem State.endPass_formed {s : State} (ctx id) (wf : s.formed) : (s.endPass ctx id).formed := by
  unfold State.endPass
  split <;> simp [wf]

@[simp] theorem State.planeArm_formed {s : State} (n c) (wf : s.formed) : (s.planeArm n c).formed := by
  unfold State.planeArm
  extract_lets a
  split
  · simp [wf]
  · refine State.cmdRead_formed _ _ _ _ (fun h t ht => ?_) wf
    split
    · simp [ht]
    · refine State.cmdRead_formed _ _ _ _ (fun es u hu => ?_) ht
      split
      · simp [hu]
      · split
        · simp [hu]
        · exact State.complete_formed _ _ _ _ _ _ (State.putPlane_formed _ _ _ ((State.newId_formed u).2 hu))

@[simp] theorem State.planeRelease_formed {s : State} (n c) (wf : s.formed) : (s.planeRelease n c).formed := by
  unfold State.planeRelease
  dsimp -iota only
  (repeat' split) <;> simp [wf]

-- Operations of Machine/Host

@[simp] theorem State.bar4Answer_formed (s : State) (r) : (s.bar4Answer r).formed ↔ s.formed := Iff.rfl

@[simp] theorem State.bar4Refuse_formed (s : State) (q) : (s.bar4Refuse q).formed ↔ s.formed := by
  unfold State.bar4Refuse
  simp

@[simp] theorem State.bar4Lost_formed {s : State} (q cause addr h) (wf : s.formed) : (s.bar4Lost q cause addr h).formed := by
  unfold State.bar4Lost
  simp [wf]

@[simp] theorem State.bar4Fault_formed {s : State} (q f write) (wf : s.formed) : (s.bar4Fault q f write).1.formed := by
  unfold State.bar4Fault
  split <;> simp [wf]

@[simp] theorem State.bar4Serve_formed {s : State} (q) (wf : s.formed) : (s.bar4Serve q).1.formed := by
  unfold State.bar4Serve
  extract_lets c a
  split
  · simp [wf]
  · split
    · exact wf
    · split
      · split
        · exact wf
        · split
          next t ht => exact State.tryWrite_formed ht wf
          next => simp [wf]
      · split
        · exact wf
        · split
          · simp [wf]
          · split
            · simp [wf]
            · split <;> simp [wf]

@[simp] theorem State.bar4Pump_formed {s : State} (k) (wf : s.formed) : (s.bar4Pump k).formed := by
  induction k generalizing s with
  | zero => exact wf
  | succ n ih =>
    unfold State.bar4Pump
    split
    · exact wf
    next q rest _ =>
      have served := State.bar4Serve_formed q wf
      dsimp only
      split
      · exact ih served
      · exact served

@[simp] theorem State.bar4Run_formed {s : State} (wf : s.formed) : s.bar4Run.formed := by
  unfold State.bar4Run
  simp [wf]

@[simp] theorem State.bar4Take_formed {s : State} (offset len bytes poisoned) (wf : s.formed) : (s.bar4Take offset len bytes poisoned).formed := by
  unfold State.bar4Take
  simp [wf]

@[simp] theorem State.idleAll_formed {s : State} (wf : s.formed) : s.idleAll.formed := by
  unfold State.idleAll
  simp [wf]

@[simp] theorem State.xferEvent_formed {s : State} (c cause addr) (wf : s.formed) : (s.xferEvent c cause addr).formed := by
  unfold State.xferEvent
  simp [wf]

@[simp] theorem State.hostStore_formed {s : State} (a bs) (wf : s.formed) : (s.hostStore a bs).formed := by
  unfold State.hostStore
  simp [wf]

@[simp] theorem State.xferOut_formed {s : State} (n c) (wf : s.formed) : (s.xferOut n c).formed := by
  unfold State.xferOut
  extract_lets a
  split
  · simp [wf]
  · split
    · simp [wf]
    next o _ =>
      have stored : ((s.countRange c.ctx a o .h0).hostStore c.xferHost (s.readVa c.ctx a o)).formed := by simp [wf]
      simp [stored]

@[simp] theorem State.xferStart_formed {s : State} (n c) (wf : s.formed) : (s.xferStart n c).formed := by
  unfold State.xferStart
  dsimp -iota only
  (repeat' split) <;> simp [wf]

@[simp] theorem State.hostData_formed {s : State} (n slot d) (wf : s.formed) : (s.hostData n slot d).formed := by
  unfold State.hostData
  split
  · exact wf
  · split
    · exact wf
    · split
      · simp [wf]
      · extract_lets part a
        split
        · exact wf
        · split
          next => simp [wf]
          next t ht =>
            have written := State.tryWrite_formed ht wf
            split <;> simp [written]

-- Operations of Machine/Faults

@[simp] theorem State.writeStash_formed {s : State} (ctx) (wf : s.formed) : (s.writeStash ctx).formed := by
  unfold State.writeStash
  split
  · exact wf
  · split
    next t ht => exact State.tryWrite_formed ht wf
    next => exact wf

@[simp] theorem State.resumeStream_formed {s : State} (x record id) (wf : s.formed) : (s.resumeStream x record id).formed := by
  unfold State.resumeStream
  dsimp -iota only
  split <;> simp [wf]

@[simp] theorem State.resume_formed {s : State} (f) (wf : s.formed) : (s.resume f).formed := by
  unfold State.resume
  (repeat' split) <;> simp [wf]

@[simp] theorem State.resolveFault_formed {s : State} (id) (wf : s.formed) : (s.resolveFault id).formed := by
  unfold State.resolveFault
  split <;> simp [wf]

@[simp] theorem State.streamUnwritten_formed {s : State} (x cause addr) (wf : s.formed) : (s.streamUnwritten x cause addr).formed := by
  unfold State.streamUnwritten
  simp [wf]

@[simp] theorem State.taskUnresolved_formed {s : State} (k status cause addr) (wf : s.formed) : (s.taskUnresolved k status cause addr).formed := by
  unfold State.taskUnresolved
  split <;> simp [wf]

@[simp] theorem State.tileUnresolved_formed {s : State} (bay ctx idx status cause addr) (wf : s.formed) : (s.tileUnresolved bay ctx idx status cause addr).formed := by
  unfold State.tileUnresolved
  simp [wf]

@[simp] theorem State.cmdUnresolved_formed {s : State} (n c cause addr) (wf : s.formed) : (s.cmdUnresolved n c cause addr).formed := by
  unfold State.cmdUnresolved
  simp [wf]

@[simp] theorem State.giveUp_formed {s : State} (f status cause) (wf : s.formed) : (s.giveUp f status cause).formed := by
  unfold State.giveUp
  (repeat' split) <;> simp [wf]

@[simp] theorem State.faultLate_formed {s : State} (id) (wf : s.formed) : (s.faultLate id).formed := by
  unfold State.faultLate
  split <;> simp [wf]

-- Operations of Machine/Stash

@[simp] theorem State.addPage_formed (s : State) (ctx va attr charge half site frame part) : (s.addPage ctx va attr charge half site frame part).formed ↔ s.formed := Iff.rfl

@[simp] theorem State.unmapWhere_formed {s : State} (f) (wf : s.formed) : (s.unmapWhere f).formed := by
  unfold State.unmapWhere
  simp [wf]

theorem State.clearLayers_formed {s t : State} {ctx desc es h} (e : s.clearLayers ctx desc es h = .ok t) (wf : s.formed) : t.formed := by
  refine foldlM_ok_keeps (fun t a u x ht => ?_) _ _ _ e wf
  obtain ⟨v, hv, x⟩ := ok_of_bind x
  exact State.tryWrite_formed x (State.tryWrite_formed hv ht)

@[simp] theorem State.stashArm_formed {s : State} (n c) (wf : s.formed) : (s.stashArm n c).formed := by
  unfold State.stashArm
  extract_lets a
  split
  · simp [wf]
  · split
    · simp [wf]
    · refine State.cmdRead_formed _ _ _ _ (fun h t ht => ?_) wf
      split
      · simp [ht]
      · refine State.cmdRead_formed _ _ _ _ (fun bs u hu => ?_) ht
        dsimp only
        split
        · simp [hu]
        · split
          · simp [hu]
          · split
            next => simp [hu]
            next v hv =>
              have cleared := State.clearLayers_formed hv hu
              exact State.done_formed _ _ _ _ (State.writeStash_formed _ ((State.modCtx_formed _ _ _).2 cleared))

@[simp] theorem State.stashReset_formed {s : State} (n c) (wf : s.formed) : (s.stashReset n c).formed := by
  unfold State.stashReset
  split
  · simp [wf]
  · split
    · simp [wf]
    · refine State.cmdRead_formed _ _ _ _ (fun bs u hu => ?_) wf
      split
      next => simp [hu]
      next v hv =>
        have cleared := State.clearLayers_formed hv hu
        exact State.done_formed _ _ _ _ (State.writeStash_formed _ ((State.modCtx_formed _ _ _).2 (State.unmapWhere_formed _ cleared)))

@[simp] theorem State.stashRelease_formed {s : State} (n c) (wf : s.formed) : (s.stashRelease n c).formed := by
  unfold State.stashRelease
  split <;> simp [wf]

@[simp] theorem State.slotGivesUp_formed {s : State} (ctx st layer status) (wf : s.formed) : (s.slotGivesUp ctx st layer status).formed :=
  State.forAll_formed _ (fun _ _ h => by simp [h]) wf

@[simp] theorem State.claimStarts_formed (s : State) (ctx st layer) : (s.claimStarts ctx st layer).formed ↔ s.formed := Iff.rfl

@[simp] theorem State.claimFull_formed {s : State} (ctx st layer frames) (wf : s.formed) : (s.claimFull ctx st layer frames).formed := by
  unfold State.claimFull
  extract_lets y t u
  have full : t.formed := State.writeStash_formed _ ((State.modCtx_formed _ _ _).2 wf)
  exact State.slotGivesUp_formed _ _ _ _ (State.postCtx_formed _ _ _ _ full)

@[simp] theorem State.claimSized_formed {s : State} (ctx st layer e frames) (wf : s.formed) : (s.claimSized ctx st layer e frames).formed := by
  unfold State.claimSized
  simp [wf]

@[simp] theorem State.stashClaim_formed {s : State} (ctx) (wf : s.formed) : (s.stashClaim ctx).formed := by
  unfold State.stashClaim
  (repeat' split) <;> simp [wf]

@[simp] theorem State.mapSlot_formed {s : State} (ctx st e n charge) (wf : s.formed) : (s.mapSlot ctx st e n charge).formed := by
  refine State.forAll_formed _ (fun j t h => ?_) wf
  dsimp only
  split
  · exact h
  · split <;> simp [h]

@[simp] theorem State.writeOr_formed {s : State} (ctx a bs) (wf : s.formed) : (s.writeOr ctx a bs).formed := by
  unfold State.writeOr
  split
  next t ht => exact State.tryWrite_formed ht wf
  next => exact wf

@[simp] theorem State.writeLayer_formed {s : State} (ctx at_ state frames) (wf : s.formed) : (s.writeLayer ctx at_ state frames).formed := by
  unfold State.writeLayer
  split <;> simp [wf]

@[simp] theorem State.claimResumes_formed {s : State} (wf : s.formed) : s.claimResumes.formed :=
  State.forAll_formed _ (fun _ _ h => by simp [h]) wf

@[simp] theorem State.claimMapped_formed {s : State} (ctx) (wf : s.formed) : (s.claimMapped ctx).formed := by
  unfold State.claimMapped
  split
  · exact wf
  · split
    · exact wf
    · extract_lets e t u
      have mapped : u.formed := State.writeLayer_formed _ _ _ _ (State.mapSlot_formed _ _ _ _ _ (show t.formed from wf))
      simp [mapped]

@[simp] theorem State.copyShapes_formed {s : State} (ctx e) (wf : s.formed) : (s.copyShapes ctx e).formed := by
  unfold State.copyShapes
  split
  · exact wf
  · split
    next t ht => exact State.tryWrite_formed ht wf
    next => exact wf

@[simp] theorem State.dropDone_formed {s : State} (ctx) (wf : s.formed) : (s.dropDone ctx).formed := by
  unfold State.dropDone
  split
  · exact wf
  next st j _ =>
    split
    · exact wf
    · extract_lets e old y t u v
      have mapped : t.formed := State.mapSlot_formed _ _ _ _ _ ((State.modCtx_formed _ _ _).2 (State.unmapWhere_formed _ wf))
      have copied : u.formed := by
        simp only [u]
        split <;> simp [mapped]
      have written : v.formed := by simp [v, copied]
      clear_value v
      exact State.claimResumes_formed (State.writeStash_formed _ written)

@[simp] theorem State.slotRelease_formed {s : State} (ctx st layer) (wf : s.formed) : (s.slotRelease ctx st layer).formed := by
  unfold State.slotRelease
  extract_lets e lo
  exact State.writeStash_formed _ (State.writeLayer_formed _ _ _ _ (State.unmapWhere_formed _ wf))

-- Operations of Machine/Contexts

@[simp] theorem State.admitCtx_formed (s : State) (c) : (s.admitCtx c).formed ↔ s.formed := Iff.rfl

@[simp] theorem State.ctxAdmit_formed {s : State} (n c) (wf : s.formed) : (s.ctxAdmit n c).formed := by
  unfold State.ctxAdmit
  (repeat' split) <;> simp [wf]

theorem State.placePages_formed {s t : State} {ctx attr site l} (e : s.placePages ctx attr site l = some t) (wf : s.formed) : t.formed := by
  induction l generalizing s with
  | nil => exact Option.some.inj e ▸ wf
  | cons v r ih =>
    simp only [State.placePages] at e
    split at e
    · cases e
    · split at e
      · exact ih e (by simp [wf])
      · split at e
        · cases e
        · exact ih e (by simp [wf])

theorem State.mapYard_formed {s t : State} {ctx attr vas} (e : s.mapYard ctx attr vas = .ok t) (wf : s.formed) : t.formed := by
  unfold State.mapYard at e
  extract_lets at e
  split at e
  · cases e
  · split at e
    next u hu =>
      obtain rfl := Except.ok.inj e
      exact State.placePages_formed hu wf
    next => cases e

theorem State.mapLoft_formed {s t : State} {ctx attr vas} (e : s.mapLoft ctx attr vas = .ok t) (wf : s.formed) : t.formed := by
  induction vas generalizing s with
  | nil => exact Except.ok.inj e ▸ wf
  | cons v r ih =>
    simp only [State.mapLoft] at e
    split at e
    · cases e
    · exact ih e (by simp [wf])

@[simp] theorem State.mapBench_formed {s : State} (ctx attr va) (wf : s.formed) : (s.mapBench ctx attr va).formed := by
  unfold State.mapBench
  extract_lets same t
  have cleared : t.formed := ⟨memWf_foldl (fun _ _ => memZero_wf _ _ _) _ _ wf.1, wf.2⟩
  simp [cleared]

@[simp] theorem State.mapCmd_formed {s : State} (n c) (wf : s.formed) : (s.mapCmd n c).formed := by
  unfold State.mapCmd
  extract_lets a len attr
  split
  · simp [wf]
  · split
    next t ht =>
      have mapped : t.formed := by
        split at ht
        · obtain rfl := Except.ok.inj ht
          exact State.foldl_formed _ (fun _ _ h => by simp [h]) wf
        · split at ht
          · exact State.mapLoft_formed ht wf
          · exact State.mapYard_formed ht wf
      simp [mapped]
    next => simp [wf]

@[simp] theorem State.freeLoft_formed (s : State) (gone) : (s.freeLoft gone).formed ↔ s.formed := Iff.rfl

@[simp] theorem State.unmapRange_formed {s : State} (ctx a n) (wf : s.formed) : (s.unmapRange ctx a n).formed := by
  unfold State.unmapRange
  simp [wf]

@[simp] theorem State.unmapCmd_formed {s : State} (n c) (wf : s.formed) : (s.unmapCmd n c).formed := by
  unfold State.unmapCmd
  dsimp -iota only
  (repeat' split) <;> simp [wf]

@[simp] theorem State.dropRuns_formed (s : State) (ctx) : (s.dropRuns ctx).formed ↔ s.formed := by
  unfold State.dropRuns
  exact State.forAll_formed_iff _ _ _ fun _ _ => by simp

@[simp] theorem State.dropClaims_formed (s : State) (ctx) : (s.dropClaims ctx).formed ↔ s.formed := Iff.rfl

@[simp] theorem State.endStream_formed {s : State} (bay slot) (wf : s.formed) : (s.endStream bay slot).formed := by
  unfold State.endStream
  split <;> simp [wf]

@[simp] theorem State.startSwitch_formed {s : State} (ctx rel byReset) (wf : s.formed) : (s.startSwitch ctx rel byReset).formed := by
  unfold State.startSwitch
  exact State.forAll_formed _ (fun _ _ h => by simp [h]) (by simp [wf])

@[simp] theorem State.ctxRelease_formed {s : State} (n c) (wf : s.formed) : (s.ctxRelease n c).formed := by
  unfold State.ctxRelease
  simp [wf]

@[simp] theorem State.abortCmds_formed {s : State} (ctx rel) (wf : s.formed) : (s.abortCmds ctx rel).formed :=
  State.forAll_formed _ (fun _ _ ht => State.forAll_formed _ (fun _ _ hu => State.done_formed _ _ _ _ hu) ht) wf

@[simp] theorem State.clearCtx_formed {s : State} (ctx) (wf : s.formed) : (s.clearCtx ctx).formed := by
  unfold State.clearCtx
  extract_lets x yard a b
  have aborted : b.formed := State.abortCmds_formed _ _ ((State.setCtx_formed _ _ _).2 (State.sweepPages_formed wf))
  split
  · exact wf
  · split <;> simp [aborted]

-- Operations of Machine/Arms

@[simp] theorem State.armStream_formed {s : State} (n c desc bay slot h run) (wf : s.formed) : (s.armStream n c desc bay slot h run).formed := by
  unfold State.armStream
  dsimp only
  refine State.complete_formed _ _ _ _ _ _ (State.putStream_formed _ ?_)
  split <;> exact wf

@[simp] theorem State.streamArm_formed {s : State} (n c) (wf : s.formed) : (s.streamArm n c).formed := by
  unfold State.streamArm
  extract_lets bay a
  split
  · simp [wf]
  · refine State.cmdRead_formed _ _ _ _ (fun h t ht => ?_) wf
    (repeat' split) <;> simp [ht]

theorem State.namedStream_formed {s : State} (n c) {f} (hf : ∀ x, (f x).formed) (wf : s.formed) : (s.namedStream n c f).formed := by
  unfold State.namedStream
  dsimp -iota only
  (repeat' split) <;> simp [wf, hf]

theorem State.armedStream_formed {s : State} (n c) {f} (hf : ∀ x, (f x).formed) (wf : s.formed) : (s.armedStream n c f).formed := by
  unfold State.armedStream
  refine State.namedStream_formed _ _ (fun _ => ?_) wf
  split <;> simp [wf, hf]

@[simp] theorem State.streamRearm_formed {s : State} (n c) (wf : s.formed) : (s.streamRearm n c).formed := by
  unfold State.streamRearm
  extract_lets bases q
  split
  · simp [wf]
  · refine State.namedStream_formed _ _ (fun x => ?_) wf
    (repeat' split) <;> simp [q, wf]

@[simp] theorem State.streamCancel_formed {s : State} (n c) (wf : s.formed) : (s.streamCancel n c).formed := by
  refine State.armedStream_formed _ _ (fun x => ?_) wf
  dsimp only
  (repeat' split) <;> simp [wf]

@[simp] theorem State.streamRestart_formed {s : State} (n c) (wf : s.formed) : (s.streamRestart n c).formed := by
  refine State.armedStream_formed _ _ (fun x => ?_) wf
  dsimp only
  split <;> simp [wf]

@[simp] theorem State.streamRelease_formed {s : State} (n c) (wf : s.formed) : (s.streamRelease n c).formed := by
  refine State.armedStream_formed _ _ (fun x => ?_) wf
  dsimp only
  split <;> simp [wf]

theorem State.seqCmd_formed {s : State} (n c) {f} (hf : ∀ x, (f x).formed) (wf : s.formed) : (s.seqCmd n c f).formed := by
  unfold State.seqCmd
  dsimp -iota only
  (repeat' split) <;> simp [wf, hf]

@[simp] theorem State.seqControl_formed {s : State} (n c) (wf : s.formed) : (s.seqControl n c).formed := by
  refine State.seqCmd_formed _ _ (fun a => State.cmdRead_formed _ _ _ _ (fun r t ht => ?_) wf) wf
  split <;> simp [ht]

@[simp] theorem State.seqWrite_formed {s : State} (n c) (wf : s.formed) : (s.seqWrite n c).formed := by
  refine State.seqCmd_formed _ _ (fun a => ?_) wf
  split
  · simp [wf]
  · refine State.cmdRead_formed _ _ _ _ (fun bs t ht => ?_) wf
    dsimp only
    split <;> simp [ht]

@[simp] theorem State.seqRead_formed {s : State} (n c) (wf : s.formed) : (s.seqRead n c).formed := by
  refine State.seqCmd_formed _ _ (fun a => ?_) wf
  split
  · simp [wf]
  · dsimp only
    split
    next => simp [wf]
    next t ht =>
      have written := State.tryWrite_formed ht wf
      simp [written]

@[simp] theorem State.buildStart_formed (s : State) (ctx) : (s.buildStart ctx).formed ↔ s.formed := by
  unfold State.buildStart
  dsimp -iota only
  split <;> simp

theorem State.buildAll_formed {s : State} {ctx r number x} (e : s.buildAll ctx r number = .ok x) (wf : s.formed) : x.1.formed := by
  obtain ⟨_, _, e⟩ := ok_of_bind e
  obtain ⟨u, hu, e⟩ := ok_of_bind e
  obtain ⟨v, hv, e⟩ := ok_of_bind e
  obtain rfl := Except.ok.inj e
  simp [State.tryWrite_formed hv (State.tryWrite_formed hu wf)]

@[simp] theorem State.buildDone_formed {s : State} (ctx) (wf : s.formed) : (s.buildDone ctx).formed := by
  unfold State.buildDone
  extract_lets x
  split
  · exact wf
  · split
    · exact wf
    · split
      next => exact wf
      next t es paused ht =>
        have built : t.formed := State.buildAll_formed ht wf
        extract_lets q u v w
        have ready : v.formed := by
          simp only [v]
          split <;> exact built
        have raised : w.formed := by
          simp only [w]
          split <;> simp [ready]
        split <;> simp [raised]

theorem State.swapWrites_formed {s t : State} {c a x} (e : s.swapWrites c a x = .ok t) (wf : s.formed) : t.formed := by
  obtain ⟨u, hu, e⟩ := ok_of_bind e
  exact State.tryWrite_formed e (State.tryWrite_formed hu wf)

@[simp] theorem State.ledgerSwap_formed {s : State} (n c) (wf : s.formed) : (s.ledgerSwap n c).formed := by
  unfold State.ledgerSwap
  extract_lets a root
  split
  · simp [wf]
  · refine State.cmdRead_formed _ _ _ _ (fun b t ht => ?_) wf
    dsimp only
    split
    · simp [ht]
    · split
      · simp [ht]
      · split
        next => simp [ht]
        next u hu =>
          have swapped := State.swapWrites_formed hu ht
          simp [swapped]

-- Operations of Machine/SillOps

@[simp] theorem State.resetFn_formed (s : State) (n) : (s.resetFn n).formed ↔ s.formed := Iff.rfl

@[simp] theorem State.ideClear_formed (s : State) (m) : (s.ideClear m).formed ↔ s.formed := Iff.rfl

@[simp] theorem State.dropRequests_formed (s : State) (n) : (s.dropRequests n).formed ↔ s.formed := Iff.rfl

@[simp] theorem State.flrVf_formed {s : State} (n) (wf : s.formed) : (s.flrVf n).formed := by
  unfold State.flrVf
  dsimp -iota only
  (repeat' split) <;> simp [wf]

@[simp] theorem State.forgetPf0_formed (s : State) : s.forgetPf0.formed ↔ s.formed := Iff.rfl

@[simp] theorem State.flrPf0_formed (s : State) : s.flrPf0.formed ↔ s.formed := Iff.rfl

@[simp] theorem State.flrVfs_formed {s : State} (wf : s.formed) : s.flrVfs.formed :=
  State.forAll_formed _ (fun _ _ h => by simp [h]) wf

@[simp] theorem State.vfOff_formed {s : State} (wf : s.formed) : s.vfOff.formed := by
  unfold State.vfOff
  simp [wf]

@[simp] theorem State.conventional_formed {s : State} (k) (wf : s.formed) : (s.conventional k).formed := by
  unfold State.conventional
  (repeat' split) <;> simp [wf]

@[simp] theorem State.linkTrained_formed (s : State) (width speed) : (s.linkTrained width speed).formed ↔ s.formed := Iff.rfl

@[simp] theorem State.access_formed {s : State} (n a) (wf : s.formed) : (s.access n a).formed := by
  unfold State.access
  split <;> simp [wf]

@[simp] theorem State.configure_formed {s : State} (n a) (wf : s.formed) : (s.configure n a).formed := by
  unfold State.configure
  simp [wf]

@[simp] theorem State.giveHost_formed {s : State} (n c a bs result) (wf : s.formed) : (s.giveHost n c a bs result).formed := by
  unfold State.giveHost
  simp [wf]

@[simp] theorem State.floorplanGet_formed {s : State} (n c) (wf : s.formed) : (s.floorplanGet n c).formed := by
  unfold State.floorplanGet
  simp [wf]

@[simp] theorem State.topoGet_formed {s : State} (n c) (wf : s.formed) : (s.topoGet n c).formed := by
  unfold State.topoGet
  simp [wf]

@[simp] theorem State.powerLimit_formed {s : State} (n c) (wf : s.formed) : (s.powerLimit n c).formed := by
  unfold State.powerLimit
  simp [wf]

@[simp] theorem State.attest_formed (s : State) (n c) : (s.attest n c).formed ↔ s.formed := by
  unfold State.attest
  simp

@[simp] theorem State.countSignature_formed (s : State) : s.countSignature.formed ↔ s.formed := Iff.rfl

@[simp] theorem State.attestDone_formed {s : State} (n slot) (wf : s.formed) : (s.attestDone n slot).formed := by
  unfold State.attestDone
  split <;> simp [wf]

@[simp] theorem State.spdmDone_formed (s : State) (n r) : (s.spdmDone n r).formed ↔ s.formed := by
  unfold State.spdmDone
  split <;> simp

@[simp] theorem State.sillOp_formed {s : State} (last) (wf : s.formed) : (s.sillOp last).formed := by
  unfold State.sillOp
  (repeat' split) <;> simp [wf]

@[simp] theorem State.fwUpdate_formed {s : State} (n c) (wf : s.formed) : (s.fwUpdate n c).formed := by
  unfold State.fwUpdate
  simp [wf]

@[simp] theorem State.updateEnds_formed (s : State) : s.updateEnds.formed ↔ s.formed := Iff.rfl

@[simp] theorem State.imageChecked_formed {s : State} (image) (wf : s.formed) : (s.imageChecked image).formed := by
  unfold State.imageChecked
  dsimp -iota only
  (repeat' split) <;> simp [wf]

@[simp] theorem State.imageWritten_formed {s : State} (readback) (wf : s.formed) : (s.imageWritten readback).formed := by
  unfold State.imageWritten
  split <;> simp [wf]

-- Operations of Machine/Step

@[simp] theorem State.withFetchWord_formed (s : State) (nbits w) : (s.withFetchWord nbits w).formed ↔ s.formed := Iff.rfl

-- Commands and a step

/-- What a member does whose GO or ABORT has come keeps the form, if what it then does keeps it. -/
theorem State.awaitsGo_formed {s : State} {ctx k : Nat} {inst : BitVec 16} {f : Peg → State} (hf : ∀ p, (f p).formed) (wf : s.formed) :
    (match s.peg? ctx k with
      | none => s
      | some p => if p.awaitsGo inst (s.now .h0) then f p else s).formed := by
  split
  · exact wf
  · exact State.formed_ite (hf _) wf

/-- Every command keeps the form of both memories: the operations it calls do. -/
theorem exec_formed {c : Instr} {s t : State} (h : exec c s = .next t) (wf : s.formed) : t.formed := by
  cases c
  case blockTranslate x => cases x <;> (cases h; simp [wf])
  case pegGoReceived ctx k inst =>
    cases h
    exact State.awaitsGo_formed (fun p => by simp [wf]) wf
  case pegAbortReceived ctx k inst code bad =>
    cases h
    exact State.awaitsGo_formed (fun p => by simp [wf]) wf
  all_goals
    cases h
    simp +contextual [State.begin_formed, State.migStep_formed, wf]

/-- Settles O4: every command keeps the form of both memories, and so does a tick. -/
theorem stepKeepsMemoryForm : Obligations.StepKeepsMemoryForm := by
  refine fun s t wf h => step_keeps (P := fun s t => s.formed → t.formed) (fun s wf => ?tick) (fun c rest s t h wf => ?run) h wf
  case tick => exact State.idleAll_formed wf
  case run => exact exec_formed h wf
end Sys2Proof.Machine
